-- ==== Sys2Proof/Word.lean ====
section
/-! DEFINITION. Word.lean: the word types of the module and their plainest arithmetic. -/

namespace Sys2Proof

/-- One byte, the smallest addressable unit of every memory of the module. -/
abbrev Byte := BitVec 8

/-- A 32-bit word: one element of a vector register or accumulator, or one control instruction. -/
abbrev W32 := BitVec 32

/-- A 64-bit word: a scalar register, or the contents of a register of the control address space. -/
abbrev W64 := BitVec 64

/-- A counter of n bits that stops at its largest value. -/
def satAdd {n : Nat} (c : BitVec n) (k : Nat) : BitVec n :=
  if c.toNat + k < 2 ^ n then BitVec.ofNat n (c.toNat + k) else BitVec.ofNat n (2 ^ n - 1)

end Sys2Proof
end

