-- ==== Sys2Proof/Syntax.lean ====
section
/-! DEFINITION. Syntax.lean: the operands of the commands, and the one inductive of commands. -/

namespace Sys2Proof

/-- A site (w, y, x): wafer 0–3, site row 0–95, site column 0–99 (R9, R20). -/
structure SiteId where
  w : Fin 4
  y : Fin 96
  x : Fin 100
  deriving DecidableEq, Repr

/-- The UNIT index of a site (R417): (w << 14) + (y << 7) + x. -/
def SiteId.key (s : SiteId) : Nat := s.w.val * 16384 + s.y.val * 128 + s.x.val

/-- A control core: that of an array site (R25), or that of update engine e of port complex p (R252). -/
inductive CoreId where
  | array (site : SiteId)
  | ue (pc : Fin 8) (e : Fin 16)
  deriving DecidableEq, Repr

/-- The key under which a control core's unit is held: a site's UNIT index, or 65,536 + 16 p + e. -/
def CoreId.key : CoreId → Nat
  | .array s => s.key
  | .ue p e => 65536 + 16 * p.val + e.val

/-- A grant of a scratchpad port of a control core's unit (R107): for each requester of the port with a ready request, the cycles that it
has waited. -/
structure SpadGrant where
  core : CoreId
  waits : List Nat
  deriving DecidableEq, Repr

/-- A router input or output port, in the order of R162: local, N, E, S, W, edge, service. -/
inductive RPort where
  | loc | n | e | s | w | edge | service
  deriving DecidableEq, Repr

/-- The traffic classes of R149. -/
inductive TClass where
  | sluice | control | reduce | bulk
  deriving DecidableEq, Repr

/-- A mesh packet (R147): the fields of its header, and its payload bytes. -/
structure Packet where
  cls : TClass
  lane : Fin 2 := 0
  dport : BitVec 2 := 0
  drow : Nat
  dcol : Nat
  srow : Nat
  scol : Nat
  sport : BitVec 2 := 0
  dset : Bool := false
  poison : Bool := false
  nf : Bool := false
  squash : Bool := false
  ptype : BitVec 6
  tag : BitVec 12 := 0
  nomerge : Bool := false
  addr : BitVec 48 := 0
  bytesM1 : BitVec 10 := 0
  status : BitVec 4 := 0
  ext : W32 := 0
  /-- AOP of an ATOMIC_REQ (R181); R147 gives it no place in the header. -/
  aop : BitVec 4 := 0
  payload : List Byte := []
  deriving DecidableEq, Repr

/-- A packet of the module fabric (R283). -/
structure FabPkt where
  ty : BitVec 8
  dpc : BitVec 3
  spc : BitVec 3
  path : Bool := false
  poison : Bool := false
  dst : W32
  src : W32
  via : W32 := 0xffffffff
  tag : BitVec 16 := 0
  ttl : BitVec 8 := 2
  status : BitVec 8 := 0
  /-- Bytes 20–31 of the header. -/
  specific : BitVec 96 := 0
  body : List Byte := []
  deriving DecidableEq, Repr

/-- A unit that issues requests or takes control messages: a site, an update engine, a stack controller, a port complex,
a host port or a store controller (R164, R165). -/
inductive Node where
  | site (s : SiteId)
  | ue (pc : Fin 8) (e : Fin 16)
  | stack (st : Fin 192)
  | pc (p : Fin 8)
  | host (h : Fin 4)
  | store (b : Fin 16)
  deriving DecidableEq, Repr

/-- A path by which management software reaches the RMC (R453), or a DOE mailbox of a host port (R358). -/
inductive MgmtPath where
  | eth
  | mctpPcie (port : Fin 4)
  | mctpI3c
  /-- The management connector's target answering as an I2C target (R474). -/
  | mctpI2c
  | doe (port : Fin 4) (mailbox : Fin 2)
  deriving DecidableEq, Repr

/-- A unit that the fault path can fence (R417, R419, R420). -/
inductive UnitId where
  | site (s : SiteId)
  | stack (st : Fin 192)
  | pc (p : Fin 8)
  | host (h : Fin 4)
  | bay (b : Fin 16)
  deriving DecidableEq, Repr

/-- Kind and index of a unit in an event record (R417). -/
def UnitId.kind : UnitId → Nat
  | .site _ => 0
  | .stack _ => 1
  | .pc _ => 2
  | .host _ => 3
  | .bay _ => 4

def UnitId.index : UnitId → Nat
  | .site s => s.key
  | .stack i => i.val
  | .pc i => i.val
  | .host i => i.val
  | .bay i => i.val

/-- What the RMC reads of a unit in a poll (R394, R416, R419): its power view, 0 off, 1 on, 2 retained, and that it is over its temperature
limit. -/
structure PollView where
  power : Fin 3
  hot : Bool
  deriving DecidableEq, Repr

/-- What the samples of a scrubbed block needed (R325, R328): retry level 3 or more, soft decoding, or more than can be corrected. -/
structure ScrubFinding where
  level3 : Bool
  soft : Bool
  uncorrectable : Bool
  deriving DecidableEq, Repr

/-- The width that a host link trains to (R340), and that CBL_PRES# of HOST_k_B reads low: its cable is present (R473). -/
structure LinkWidth where
  lanes : BitVec 5
  cableB : Bool
  deriving DecidableEq, Repr

/-- A PLDM Type 2 request (R454, R456): a numeric sensor by counter, for one unit or summed over the module; the state sensor of
a domain, or of the life-cycle state; the next event; or the PDR repository. -/
inductive PldmRequest where
  | sensor (counter : Nat) (unit : Option Nat)
  | state (unit : Option UnitId)
  | event
  | repository
  /-- The event of a SEQ from the RMC's flash log, which the management port carries (R453). -/
  | log (seq : W64)
  deriving DecidableEq, Repr

/-- An access of the host through BAR0 (R345): a read of so many bytes, or a write of bytes. -/
inductive BarAccess where
  | read (len : Nat)
  | write (data : List Byte)
  deriving DecidableEq, Repr

/-- The capabilities that R342 names, present or absent. -/
inductive Capability where
  | pciExpress | device3 | secondaryPcie | physicalLayer16 | physicalLayer32 | physicalLayer64 | laneMargining | dataLinkFeature
  | powerManagement | msix | msi | advancedErrorReporting | deviceSerialNumber | resizableBar | functionLevelReset | dataObjectExchange
  | completerTags10 | completerTags14 | requesterTags10 | requesterTags14
  | linkIde | srIov | ats | pri | pasid | acs | tph | ptm | ltr | tdisp | selectiveIde | aspm
  deriving DecidableEq, Repr

/-- What a configuration read asks for (R341, R342): the function's identity, or what configuration writes set. -/
inductive ConfigField where
  | vendorId | deviceId | classCode | revisionId | serialNumber
  | bar (n : Fin 3)
  | bar4Size | power | msix | deviceControl | aerStatus | aerMask | aerSeverity | aerCorStatus | aerCorMask
  /-- That the function has a capability: 1 present, 0 absent. -/
  | capability (c : Capability)
  deriving DecidableEq, Repr

/-- A configuration request (R341, R342, R343): a write of the address of BAR0, BAR2 or BAR4, of log2 of the size of BAR4, of D3hot, of
MSI-X Enable and Function Mask, of Max_Payload_Size and Max_Read_Request_Size as the base specification codes them, of the uncorrectable
errors' status (1 clears), mask or severity, of the correctable errors' status or mask, of Initiate Function Level Reset; or a read. -/
inductive ConfigWrite where
  | bar (n : Fin 3) (addr : W64)
  | bar4Size (log2 : Nat)
  | power (d3hot : Bool)
  | msix (enable functionMask : Bool)
  | deviceControl (payload readRequest : BitVec 3)
  | aerStatus (clear : W32)
  | aerMask (mask : W32)
  | aerSeverity (severity : W32)
  | aerCorStatus (clear : W32)
  | aerCorMask (mask : W32)
  | levelReset
  | read (f : ConfigField)
  deriving DecidableEq, Repr

/-- The commands: one constructor per row of the opcode table. -/
inductive Instr where

  /-- ADD (R480). Control instruction (opcode 0x00, func 0) that writes S[rs1] + S[rs2] modulo 2^64 to rd. -/
  | add (core : CoreId) (slot : Fin 4)
  /-- SUB (R480). Control instruction (func 1) that writes S[rs1] − S[rs2] to rd. -/
  | sub (core : CoreId) (slot : Fin 4)
  /-- AND (R480). Control instruction (func 2) that writes the bitwise AND of S[rs1] and S[rs2] to rd. -/
  | and (core : CoreId) (slot : Fin 4)
  /-- OR (R480). Control instruction (func 3) that writes the bitwise OR of S[rs1] and S[rs2] to rd. -/
  | or (core : CoreId) (slot : Fin 4)
  /-- XOR (R480). Control instruction (func 4) that writes the bitwise XOR of S[rs1] and S[rs2] to rd. -/
  | xor (core : CoreId) (slot : Fin 4)
  /-- SHL (R480). Control instruction (func 5) that shifts S[rs1] left by S[rs2][5:0]. -/
  | shl (core : CoreId) (slot : Fin 4)
  /-- SHR (R480). Control instruction (func 6) that shifts S[rs1] logically right by S[rs2][5:0]. -/
  | shr (core : CoreId) (slot : Fin 4)
  /-- SAR (R480). Control instruction (func 7) that shifts S[rs1] arithmetically right by S[rs2][5:0]. -/
  | sar (core : CoreId) (slot : Fin 4)
  /-- SLT (R480). Control instruction (func 8) that writes 1 to rd if S[rs1] < S[rs2] as signed numbers, else 0. -/
  | slt (core : CoreId) (slot : Fin 4)
  /-- SLTU (R480). Control instruction (func 9) that writes 1 to rd if S[rs1] < S[rs2] as unsigned numbers, else 0. -/
  | sltu (core : CoreId) (slot : Fin 4)
  /-- MUL (R480). Control instruction (func 10) that writes the low 64 bits of S[rs1] × S[rs2] to rd. -/
  | mul (core : CoreId) (slot : Fin 4)
  /-- MULH (R480). Control instruction (func 11) that writes the high 64 bits of the signed 128-bit product to rd. -/
  | mulh (core : CoreId) (slot : Fin 4)
  /-- ADDI (R29). Control instruction that adds the sign-extended imm16 to S[rs1] and writes rd. -/
  | addi (core : CoreId) (slot : Fin 4)
  /-- ANDI (R29). Control instruction that ANDs S[rs1] with the zero-extended imm16 and writes rd. -/
  | andi (core : CoreId) (slot : Fin 4)
  /-- ORI (R29). Control instruction that ORs S[rs1] with the zero-extended imm16 and writes rd. -/
  | ori (core : CoreId) (slot : Fin 4)
  /-- XORI (R29). Control instruction that XORs S[rs1] with the zero-extended imm16 and writes rd. -/
  | xori (core : CoreId) (slot : Fin 4)
  /-- SLTI (R29). Control instruction that writes 1 to rd if S[rs1] is below the sign-extended imm16 as signed numbers. -/
  | slti (core : CoreId) (slot : Fin 4)
  /-- SHI (R29). Control instruction that shifts S[rs1] by imm16[5:0], left or logically right as imm16[6] selects. -/
  | shi (core : CoreId) (slot : Fin 4)
  /-- LUI (R29). Control instruction that sets rd[31:16] to imm16 and clears the other bits of rd. -/
  | lui (core : CoreId) (slot : Fin 4)
  /-- LUIH (R29). Control instruction that sets rd[63:48] to imm16 and keeps the other bits of rd. -/
  | luih (core : CoreId) (slot : Fin 4)
  /-- LOAD (R29). Control instruction that loads 8, 16, 32 or 64 bits, zero-extended, from the home window at S[rs1] + imm16, after the alignment and window checks. -/
  | load (core : CoreId) (slot : Fin 4)
  /-- STORE (R29). Control instruction that stores 8, 16, 32 or 64 bits of S[rd] to the home window at S[rs1] + imm16, after the alignment and window checks. -/
  | store (core : CoreId) (slot : Fin 4)
  /-- BEQ (R29). Control branch that is taken when S[rs1] equals S[rs2]. -/
  | beq (core : CoreId) (slot : Fin 4)
  /-- BNE (R29). Control branch that is taken when S[rs1] differs from S[rs2]. -/
  | bne (core : CoreId) (slot : Fin 4)
  /-- BLT (R29). Control branch that is taken when S[rs1] < S[rs2] as signed numbers. -/
  | blt (core : CoreId) (slot : Fin 4)
  /-- BGE (R29). Control branch that is taken when S[rs1] ≥ S[rs2] as signed numbers. -/
  | bge (core : CoreId) (slot : Fin 4)
  /-- BLTU (R29). Control branch that is taken when S[rs1] < S[rs2] as unsigned numbers. -/
  | bltu (core : CoreId) (slot : Fin 4)
  /-- BGEU (R29). Control branch that is taken when S[rs1] ≥ S[rs2] as unsigned numbers. -/
  | bgeu (core : CoreId) (slot : Fin 4)
  /-- JAL (R29). Control instruction that writes the return address to S31 and jumps by off26 words. -/
  | jal (core : CoreId) (slot : Fin 4)
  /-- JR (R29). Control instruction that jumps to S[rs1] and raises MISALIGNED for a misaligned target. -/
  | jr (core : CoreId) (slot : Fin 4)
  /-- QPUSH (R30). Control instruction that validates one entry from registers and pushes it to the matrix, vector or DMA queue, or blocks when the queue is full. -/
  | qpush (core : CoreId) (slot : Fin 4)
  /-- QLOAD (R32). Control instruction that reads, validates and pushes 1 to 64 entries from the home window to a queue, in address order. -/
  | qload (core : CoreId) (slot : Fin 4)
  /-- WAIT (R35). Control instruction that blocks the slot until CC.QDONE_q reaches S[rs1]. -/
  | wait (core : CoreId) (slot : Fin 4)
  /-- SQPOP (R38). Control instruction that pops the slot's oldest summary entry to rd, blocks while one is in flight, or raises SQ_UNDERRUN. -/
  | sqpop (core : CoreId) (slot : Fin 4)
  /-- SQCNT (R29). Control instruction that writes the number of the slot's queued summary entries to rd. -/
  | sqcnt (core : CoreId) (slot : Fin 4)
  /-- CSRR (R29). Control instruction that reads a CSR of the array's own block into rd. -/
  | csrr (core : CoreId) (slot : Fin 4)
  /-- CSRW (R29). Control instruction that writes S[rs1] to a CSR of the array's own block. -/
  | csrw (core : CoreId) (slot : Fin 4)
  /-- YIELD (R29). Control instruction by which the slot gives up its issue cycle. -/
  | yield (core : CoreId) (slot : Fin 4)
  /-- HALT (R29). Control instruction that puts its slot in HALTED. -/
  | halt (core : CoreId) (slot : Fin 4)
  /-- QUEUE_SPACE_RESUME (R32). A QPUSH or QLOAD blocked on a full queue resumes once every one of its entries fits. -/
  | queueSpaceResume (core : CoreId) (slot : Fin 4)
  /-- WAIT_RELEASE (R35). A slot blocked on WAIT becomes READY once the counter reaches its target. -/
  | waitRelease (core : CoreId) (slot : Fin 4)
  /-- SQPOP_RESUME (R38). A slot blocked on SQPOP receives its summary entry when that entry arrives. -/
  | sqpopResume (core : CoreId) (slot : Fin 4)
  /-- TASK_START (R51). A write of CC.TASK_CTL_n.START moves a slot from IDLE, HALTED or FAULTED to READY at its PC. -/
  | taskStart (core : CoreId) (slot : Fin 4)
  /-- TASK_STOP (R51). A write of CC.TASK_CTL_n.STOP lets the slot's summary-emitting instructions complete, then halts the slot. -/
  | taskStop (core : CoreId) (slot : Fin 4)
  /-- HALT_ALL (R51). A write of ARRAY.CTL.HALT_ALL stops every slot of the array as STOP does. -/
  | haltAll (core : CoreId)
  /-- SLOT_STOP_DONE (R51). Once a stopping slot's emitting instructions have completed, the slot discards its summaries, abandons any block and enters HALTED. -/
  | slotStopDone (core : CoreId) (slot : Fin 4)
  /-- QUEUE_ENTRY_COMPLETE (R35). A queue entry completes, and CC.QDONE_q advances over the leading completed entries in push order. -/
  | queueEntryComplete (core : CoreId) (queue : Fin 4)
  /-- ENGINE_HANG (R47). The engine watchdog expires 2^WDOG cycles after a command started, and the site is reported as a hardware fault. -/
  | engineHang (core : CoreId) (queue : Fin 4)
  /-- DMA_READ (R40). DMA engine runs a READ descriptor, issuing 512-byte-bounded HBM read requests with reserved response slots. -/
  | dmaRead (core : CoreId) (engine : Fin 2)
  /-- DMA_WRITE (R40). DMA engine runs a WRITE descriptor from the scratchpad to HBM, or as posted REDUCE packets into a reduce aperture. -/
  | dmaWrite (core : CoreId) (engine : Fin 2)
  /-- DMA_PUT (R41). DMA engine runs a PUT descriptor, sending scratchpad data to another array's window. -/
  | dmaPut (core : CoreId) (engine : Fin 2)
  /-- DMA_GATHER (R43). DMA engine runs a GATHER descriptor, fetching indexed rows with NOMERGE = 1 and zero-filling indices at or above INDEX_LIMIT. -/
  | dmaGather (core : CoreId) (engine : Fin 2)
  /-- DMA_ATOMIC (R40). DMA engine sends an ATOMIC_REQ on one shared-cache line and writes the returned prior value to the scratchpad. -/
  | dmaAtomic (core : CoreId) (engine : Fin 2)
  /-- DMA_COMPLETION (R45). A DMA descriptor completes with a status; a non-OK status is recorded and, with ERR_FAULT = 1, raises DMA_ERROR. -/
  | dmaCompletion (core : CoreId) (engine : Fin 2)
  /-- READ_RSP_ARRIVE (R160). A READ_RSP or DSET copy reaches a local port, which completes the matching outstanding read and writes its bytes. -/
  | readRspArrive (node : Node) (p : Packet)
  /-- PUT_ARRIVE (R41). An inbound PUT packet is checked against the target window and written whole, or dropped with a failure status. -/
  | putArrive (site : SiteId) (p : Packet)
  /-- ACK_ARRIVE (R164). A WRITE_ACK, PUT_ACK, ATOMIC_RSP or CTRL_ACK reaches the space that its issuer reserved. -/
  | ackArrive (node : Node) (p : Packet)
  /-- COMPLETION_ARRIVE (R152). A router-generated COMPLETION with TARGET_OFF replaces the answer to a request. -/
  | completionArrive (node : Node) (p : Packet)
  /-- CTRL_MSG_ARRIVE (R165). A CTRL_MSG is accepted into a control inbox, or answered BUSY when the inbox is full. -/
  | ctrlMsgArrive (node : Node) (p : Packet)
  /-- MMA (R61). Matrix command that multiplies A by B over 1 to 65,536 K-steps into an accumulator tile under ACCOP. -/
  | mma (site : SiteId)
  /-- DRAIN (R61). Matrix command that drains an accumulator tile through a fused-output descriptor to the scratchpad. -/
  | drain (site : SiteId)
  /-- ZERO (R61). Matrix command that clears a range of accumulator tiles and types them FP32 or INT32. -/
  | zero (site : SiteId)
  /-- LDTAB (R69). Matrix command that loads an activation table from a 2,112-byte table image. -/
  | ldtab (site : SiteId)
  /-- ACC_DRAIN_START (R78). The drain of an accumulate-and-drain starts once the tile's last write is done and the fused output stage is free. -/
  | accDrainStart (site : SiteId)
  /-- VNOP (R85). Vector instruction that does nothing. -/
  | vnop (core : CoreId)
  /-- VSETVL (R85). Vector instruction that sets the pushing slot's VL. -/
  | vsetvl (core : CoreId)
  /-- VADD (R85). Vector element-wise add. -/
  | vadd (core : CoreId)
  /-- VSUB (R85). Vector element-wise subtract. -/
  | vsub (core : CoreId)
  /-- VMUL (R85). Vector element-wise multiply. -/
  | vmul (core : CoreId)
  /-- VFMA (R85). Vector fused multiply-add into V[VD], rounded once. -/
  | vfma (core : CoreId)
  /-- VMIN (R85). Vector element-wise minimum. -/
  | vmin (core : CoreId)
  /-- VMAX (R85). Vector element-wise maximum. -/
  | vmax (core : CoreId)
  /-- VABS (R85). Vector absolute value. -/
  | vabs (core : CoreId)
  /-- VNEG (R85). Vector negation. -/
  | vneg (core : CoreId)
  /-- VAND (R85). Vector bitwise AND. -/
  | vand (core : CoreId)
  /-- VOR (R85). Vector bitwise OR. -/
  | vor (core : CoreId)
  /-- VXOR (R85). Vector bitwise XOR. -/
  | vxor (core : CoreId)
  /-- VSHL (R85). Vector INT32 shift left. -/
  | vshl (core : CoreId)
  /-- VSHR (R85). Vector INT32 logical shift right. -/
  | vshr (core : CoreId)
  /-- VSAR (R85). Vector INT32 arithmetic shift right. -/
  | vsar (core : CoreId)
  /-- VCVT (R85). Vector conversion between FP32 and INT32. -/
  | vcvt (core : CoreId)
  /-- VSEL (R85). Vector select by predicate. -/
  | vsel (core : CoreId)
  /-- VMOV (R85). Vector move of B into V[VD]. -/
  | vmov (core : CoreId)
  /-- VEXP2 (R85). Vector FP32 base-2 exponential. -/
  | vexp2 (core : CoreId)
  /-- VLOG2 (R85). Vector FP32 base-2 logarithm. -/
  | vlog2 (core : CoreId)
  /-- VRCP (R85). Vector FP32 reciprocal. -/
  | vrcp (core : CoreId)
  /-- VRSQRT (R85). Vector FP32 reciprocal square root. -/
  | vrsqrt (core : CoreId)
  /-- VCMPEQ (R85). Vector compare-equal into a predicate. -/
  | vcmpeq (core : CoreId)
  /-- VCMPNE (R85). Vector compare-not-equal into a predicate. -/
  | vcmpne (core : CoreId)
  /-- VCMPLT (R85). Vector compare-less-than into a predicate. -/
  | vcmplt (core : CoreId)
  /-- VCMPLE (R85). Vector compare-less-or-equal into a predicate. -/
  | vcmple (core : CoreId)
  /-- VCMPGT (R85). Vector compare-greater-than into a predicate. -/
  | vcmpgt (core : CoreId)
  /-- VCMPGE (R85). Vector compare-greater-or-equal into a predicate. -/
  | vcmpge (core : CoreId)
  /-- VCMPUN (R85). Vector compare-unordered into a predicate. -/
  | vcmpun (core : CoreId)
  /-- PAND (R85). Predicate AND. -/
  | pand (core : CoreId)
  /-- POR (R85). Predicate OR. -/
  | por (core : CoreId)
  /-- PXOR (R85). Predicate XOR. -/
  | pxor (core : CoreId)
  /-- PNOT (R85). Predicate NOT. -/
  | pnot (core : CoreId)
  /-- PSETL (R85). Sets one predicate bit below VL. -/
  | psetl (core : CoreId)
  /-- PCLRL (R85). Clears one predicate bit below VL. -/
  | pclrl (core : CoreId)
  /-- PFILL (R85). Fills predicate bits 0 to VL − 1 with IMM[0]. -/
  | pfill (core : CoreId)
  /-- PTEST (R85). Emits a summary of a predicate without writing any register. -/
  | ptest (core : CoreId)
  /-- VPERM (R96). Vector permute by an index vector or a broadcast immediate, zeroing out-of-range lanes. -/
  | vperm (core : CoreId)
  /-- VBCL (R96). Vector broadcast of one lane. -/
  | vbcl (core : CoreId)
  /-- VROT (R85). Vector rotate of lanes modulo VL. -/
  | vrot (core : CoreId)
  /-- VRED (R94). Vector reduction (sum, max or min) into lane 0, in the fixed order. -/
  | vred (core : CoreId)
  /-- VTEST (R85). Emits a summary of a vector register without writing any register. -/
  | vtest (core : CoreId)
  /-- VLD (R90). Loads one rank or file of a scratchpad tile into a vector register, converting as FMT gives. -/
  | vld (core : CoreId)
  /-- VST (R90). Stores a vector register to one rank or file of a scratchpad tile, converting as FMT gives. -/
  | vst (core : CoreId)
  /-- VST4 (R91). Writes one rank of an MXFP4 tile, with its block scales, from two vector registers. -/
  | vst4 (core : CoreId)
  /-- PLD (R92). Loads a predicate from one row of a mask bit-plane. -/
  | pld (core : CoreId)
  /-- PST (R92). Stores a predicate to one row of a mask bit-plane. -/
  | pst (core : CoreId)
  /-- TLD (R85). Loads a whole scratchpad tile into a tile register or accumulator, converted to FP32 or INT32. -/
  | tld (core : CoreId)
  /-- TST (R85). Stores a tile register to a scratchpad tile, converted to the given format. -/
  | tst (core : CoreId)
  /-- TGET (R85). Copies one rank or file of a tile into a vector register. -/
  | tget (core : CoreId)
  /-- TPUT (R85). Copies a vector register into one rank or file of a tile. -/
  | tput (core : CoreId)
  /-- TRED (R94). Reduces a tile along ranks or files into a vector register. -/
  | tred (core : CoreId)
  /-- TOPV (R85). Element-wise operation of a tile with a broadcast vector. -/
  | topv (core : CoreId)
  /-- TOPT (R85). Element-wise operation of two tiles. -/
  | topt (core : CoreId)
  /-- TZERO (R85). Clears a tile register or accumulator tile. -/
  | tzero (core : CoreId)
  /-- TCOPY (R85). Copies a scratchpad tile bit for bit, optionally transposed. -/
  | tcopy (core : CoreId)
  /-- TMASKZ (R85). Copies a scratchpad tile and zeroes the elements that a mask bit-plane clears. -/
  | tmaskz (core : CoreId)
  /-- SPAD_AGE_GRANT (R107). A scratchpad requester that has waited AGE cycles is granted the port ahead of priority. -/
  | spadAgeGrant (grant : SpadGrant)
  /-- SCRATCHPAD_CLEAR_DONE (R114). The scratchpad clear of a reconfiguration or power-up completes, after which slots may start. -/
  | scratchpadClearDone (site : SiteId)
  /-- NOISE_RESEED (R131). A write of ISL.NOISE_CTL.RESEED reseeds both noise streams and resumes automatic reseeding. -/
  | noiseReseed (site : SiteId)
  /-- NOISE_SEED (R131). An 8-byte write of ISL.NOISE_SEED loads both streams and suspends automatic reseeding. -/
  | noiseSeed (site : SiteId) (seed : W64)
  /-- NOISE_AUTO_RESEED (R130). Every 2^20 island cycles the noise generators are reseeded from the entropy sampler. -/
  | noiseAutoReseed (site : SiteId)
  /-- NOISE_HEALTH_FAIL (R130). The entropy sampler fails its repetition test, and HEALTH_FAIL is set. -/
  | noiseHealthFail (site : SiteId)
  /-- ROUTER_FORWARD (R150). A router takes a packet at an input and forwards it by detour entry or default routing, or handles it as blocked. -/
  | routerForward (site : SiteId) (inPort : RPort) (cls : TClass) (lane : Fin 2)
  /-- COMBINE_HOLD_EXPIRE (R156). A ready REDUCE packet stops waiting for a partner after COMBINE_HOLD cycles. -/
  | combineHoldExpire (site : SiteId) (inPort : RPort) (lane : Fin 2)
  /-- OUTPUT_GRANT (R162). A free router output chooses a class and packet by deficit round-robin with the age guard. -/
  | outputGrant (site : SiteId) (out : RPort)
  /-- ROUTER_AGE_GRANT (R162). A head packet that has been ready for AGE cycles is granted first within its class. -/
  | routerAgeGrant (site : SiteId) (out : RPort) (inPort : RPort) (cls : TClass) (lane : Fin 2)
  /-- DSET_FORK (R160). A router forks a DSET packet in its X and Y phases over its rectangle. -/
  | dsetFork (site : SiteId) (inPort : RPort) (lane : Fin 2)
  /-- CREDIT_RETURN (R149). Credit returns arriving in a sideband or credit-only flit restore the sender's credits. -/
  | creditReturn (site : SiteId) (port : RPort) (cls : TClass) (lane : Fin 2)
  /-- SEAM_LINK_RETRY (R144). A seam-link flit that fails its check is resent from the replay buffer. -/
  | seamLinkRetry (site : SiteId) (port : RPort)
  /-- LIVENESS_SEND (R52). Every 8 µs a router sends a liveness flit to each mesh neighbour. -/
  | livenessSend (site : SiteId)
  /-- LIVENESS_ARRIVE (R413). A liveness flit from a neighbour is consumed and restarts that neighbour's check. -/
  | livenessArrive (site : SiteId) (port : RPort)
  /-- LIVENESS_LOST (R52). No liveness flit from a powered, unparked neighbour for 64 µs raises LIVENESS_LOST for that site. -/
  | livenessLost (site : SiteId) (port : RPort)
  /-- ROUTE_AUDIT_DONE (R154). The route audit of the tables as they would stand completes, passing or reporting ROUTE_AUDIT_FAIL. -/
  | routeAuditDone
  /-- HBM_READ_REQ (R158). A stack controller takes a READ_REQ, opening or joining a merge entry or reading alone. -/
  | hbmReadReq (stack : Fin 192) (p : Packet)
  /-- MERGE_CLOSE (R158). A merge entry closes at the expiry of its window, and is served by one read forked as rectangles. -/
  | mergeClose (stack : Fin 192) (block : Nat)
  /-- HBM_WRITE (R175). A stack controller takes a 64-byte WRITE, closing any merge entry of the block, and acknowledges it by R175. -/
  | hbmWrite (stack : Fin 192) (p : Packet)
  /-- HBM_DEVICE_ACCESS_DONE (R174). A device read or write completes, and the controller sends its READ_RSP or WRITE_ACK. -/
  | hbmDeviceAccessDone (stack : Fin 192)
  /-- ADD_I32 (R181). Shared-cache atomic that adds 16 INT32 elements with wrap and returns the prior line. -/
  | addI32 (stack : Fin 192) (p : Packet)
  /-- ADD_F32 (R181). Shared-cache atomic that adds 16 FP32 elements and returns the prior line. -/
  | addF32 (stack : Fin 192) (p : Packet)
  /-- ADD_BF16 (R181). Shared-cache atomic that adds 32 BF16 elements and returns the prior line. -/
  | addBf16 (stack : Fin 192) (p : Packet)
  /-- MIN_I32 (R181). Shared-cache atomic signed minimum over 16 INT32 elements. -/
  | minI32 (stack : Fin 192) (p : Packet)
  /-- MAX_I32 (R181). Shared-cache atomic signed maximum over 16 INT32 elements. -/
  | maxI32 (stack : Fin 192) (p : Packet)
  /-- MIN_F32 (R181). Shared-cache atomic FP32 minimum, as VMIN. -/
  | minF32 (stack : Fin 192) (p : Packet)
  /-- MAX_F32 (R181). Shared-cache atomic FP32 maximum, as VMAX. -/
  | maxF32 (stack : Fin 192) (p : Packet)
  /-- SWAP (R181). Shared-cache atomic that replaces the line with the operand and returns the prior line. -/
  | swap (stack : Fin 192) (p : Packet)
  /-- CAS (R181). Shared-cache atomic compare-and-swap on line bytes 0–31. -/
  | cas (stack : Fin 192) (p : Packet)
  /-- HBM_REFRESH (R183). A per-bank refresh falls due at the rate of the current band. -/
  | hbmRefresh (stack : Fin 192) (bank : Fin 8)
  /-- HBM_TEMP_SAMPLE (R183). Every 64 µs the controller samples the stack temperature and sets the refresh band. -/
  | hbmTempSample (stack : Fin 192) (celsius : BitVec 8)
  /-- HBM_PWR_ON (R189). An HBM.PWR_CTL write with TARGET ON brings a bank or stack out of RETAIN, or through OPENING from OFF. -/
  | hbmPwrOn (stack : Fin 192) (whole : Bool) (bank : Fin 8)
  /-- HBM_PWR_RETAIN (R187). An HBM.PWR_CTL write with TARGET RETAIN drains a bank or stack and puts it in self-refresh. -/
  | hbmPwrRetain (stack : Fin 192) (whole : Bool) (bank : Fin 8)
  /-- HBM_PWR_OFF (R187). An HBM.PWR_CTL write with TARGET OFF drains a bank or stack and switches it off. -/
  | hbmPwrOff (stack : Fin 192) (whole : Bool) (bank : Fin 8)
  /-- HBM_BANK_DRAINED (R187). A DRAINING bank's outstanding-write count reaches zero, and the bank enters RETAIN or OFF. -/
  | hbmBankDrained (stack : Fin 192) (bank : Fin 8)
  /-- HBM_DRAIN_FORCED (R187). At 10 µs the drain is forced: remaining writes are dropped and dirty lines discarded. -/
  | hbmDrainForced (stack : Fin 192) (bank : Fin 8)
  /-- HBM_BANK_OPENED (R189). A bank finishes leaving self-refresh, or finishes zeroing in OPENING, and enters ON. -/
  | hbmBankOpened (stack : Fin 192) (bank : Fin 8)
  /-- RMC_STACK_ON_REQUEST (R190). The RMC takes a whole-stack ON request for a dark stack, refusing it after a thermal off-line unless the stack is cool. -/
  | rmcStackOnRequest (stack : Fin 192)
  /-- RMC_STACK_TEMP_SAMPLE (R190). Every 10 ms the RMC samples the temperature of a dark stack over the sideband. -/
  | rmcStackTempSample (stack : Fin 192) (celsius : BitVec 8)
  /-- STACK_INIT_DONE (R190). A powered-up stack controller completes MBIST and initialisation and serves its block again. -/
  | stackInitDone (stack : Fin 192)
  /-- WS_KICK (R194). A CSRW to WS.KICK validates up to 64 weight stream descriptors and queues the kick, or refuses it. -/
  | wsKick (site : SiteId) (slot : Fin 4) (value : W64)
  /-- WS_DESC_START (R195). The weight streamer begins its next queued descriptor by reading block 0. -/
  | wsDescStart (site : SiteId)
  /-- WS_RETRY_DELAY (R195). The refetch delay after a failed header check expires, and block 0 is read again. -/
  | wsRetryDelay (site : SiteId)
  /-- WS_DESC_COMPLETE (R196). A stream descriptor completes, advancing WS.DONE and recording a non-OK status. -/
  | wsDescComplete (site : SiteId)
  /-- TEMPO_END (R205). A slot's write of CC.TEMPO.END marks its part of the tempo as ended. -/
  | tempoEnd (site : SiteId) (slots : BitVec 4)
  /-- TEMPO_ADVANCE (R205). When every tempo slot has ended and its entries have completed, the array advances CURRENT, holds, or halts at its target. -/
  | tempoAdvance (site : SiteId)
  /-- TEMPO_WRITE (R226). A write of CC.TEMPO.CURRENT, allowed only with no slot running, sets the tempo and clears ARRIVED and FORCED. -/
  | tempoWrite (site : SiteId) (value : W32)
  /-- TEMPO_STOP_ARM (R207). An array takes the arm message of a pan stop, sets ARMED and returns its CURRENT. -/
  | tempoStopArm (site : SiteId)
  /-- PAN_STOP_TARGET (R207). Once every array has answered, the module sets N to the greatest CURRENT and sends it to the arrays. -/
  | panStopTarget (pan : Fin 1024)
  /-- TEMPO_TARGET_ARRIVE (R207). An array takes the stop target and sets TARGET and VALID. -/
  | tempoTargetArrive (site : SiteId)
  /-- PAN_STOPPED (R378). Every array of the pan reports AT_BOUNDARY, or has been forced, and the pan enters STOPPED. -/
  | panStopped (pan : Fin 1024)
  /-- PAN_FORCED_STOP (R208). A stop not complete 10 ms after its request is forced: arrays not AT_BOUNDARY halt and set FORCED. -/
  | panForcedStop (pan : Fin 1024)
  /-- PAN_RUN (R209). A write of PAN_n.CTL.RUN starts a STOPPED pan, restarting halted slots and autostart slots. -/
  | panRun (pan : Fin 1024)
  /-- PAN_STOP (R207). A write of PAN_n.CTL.STOP starts a stop at the pan's next tempo boundary. -/
  | panStop (pan : Fin 1024)
  /-- PAN_FORCE (R381). A write of PAN_n.CTL.FORCE stops the pan at once as a forced stop. -/
  | panForce (pan : Fin 1024)
  /-- ACU_WRITE (R217). An ACU takes a WRITE to its aperture, checks it, stages the line and, at the 64th line, encodes and queues the block. -/
  | acuWrite (acu : Fin 12) (p : Packet)
  /-- ACU_READ (R221). An ACU serves a READ_REQ from staging or the decode buffer, or starts fetching the record. -/
  | acuRead (acu : Fin 12) (p : Packet)
  /-- ACU_RECORD_SENT (R218). An encoded record finishes writing to host memory or the fallback region and leaves staging. -/
  | acuRecordSent (acu : Fin 12) (fallback : Bool)
  /-- ACU_RECORD_FETCHED (R222). A fetched record is checked and decoded into the decode buffer, serving the reads that waited. -/
  | acuRecordFetched (acu : Fin 12) (block : Nat) (data : List Byte)
  /-- RED_OPEN (R234). PC.RED_CMD OPEN checks a job entry, reserves its slot and check entries and reads its maps. -/
  | redOpen (pc : Fin 8) (job : Fin 4096)
  /-- RED_START (R234). PC.RED_CMD START opens pass 0 of round 0 and sets the job RUNNING. -/
  | redStart (pc : Fin 8) (job : Fin 4096)
  /-- RED_CLOSE (R234). PC.RED_CMD CLOSE frees a job's slot and check entries and clears VALID. -/
  | redClose (pc : Fin 8) (job : Fin 4096)
  /-- RED_ABORT (R234). PC.RED_CMD ABORT drops the job's slot contents and stops its grants and packets. -/
  | redAbort (pc : Fin 8) (job : Fin 4096)
  /-- GRANT_ARRIVE (R236). An array accepts a REDUCE_GRANT and advances the GRANTED count of the matching register. -/
  | grantArrive (site : SiteId)
  /-- GRANT_RETRY (R236). A grant answered BUSY is sent again 1 µs later. -/
  | grantRetry (pc : Fin 8) (job : Fin 4096) (row : Fin 192) (col : Fin 192)
  /-- PC_REDUCE_ARRIVE (R238). A port complex takes a mesh REDUCE packet, checks it and adds it into the job's slot lines. -/
  | pcReduceArrive (pc : Fin 8) (p : Packet)
  /-- UP_ARRIVE (R238). A port complex takes a child's UP packet and adds or places it. -/
  | upArrive (pc : Fin 8) (p : FabPkt)
  /-- DOWN_ARRIVE (R232). A port complex takes a DOWN packet, writes the chunk to staging and forwards it to its children. -/
  | downArrive (pc : Fin 8) (p : FabPkt)
  /-- SHADOW_UP_ARRIVE (R246). A shadow partner places a SHADOW_UP packet in its check entry. -/
  | shadowUpArrive (pc : Fin 8) (p : FabPkt)
  /-- SHADOW_DOWN_ARRIVE (R247). A shadow partner forwards a SHADOW_DOWN chunk for comparison. -/
  | shadowDownArrive (pc : Fin 8) (p : FabPkt)
  /-- SHADOW_COPY_ARRIVE (R246). A sampled chunk's in-module copy reaches check entry 0 of the shadow partner. -/
  | shadowCopyArrive (pc : Fin 8) (job : Fin 4096)
  /-- PASS_COMPLETE (R239). When a pass's chunks are written and acknowledged, the pass record is written and the next pass opens or the job enters HELD. -/
  | passComplete (pc : Fin 8) (job : Fin 4096)
  /-- SHORTFALL_TIMEOUT (R248). A pass incomplete within the bound completes its chunks as they stand with ABORT and reports REDUCE_SHORTFALL. -/
  | shortfallTimeout (pc : Fin 8) (job : Fin 4096)
  /-- DOWN_TIMEOUT (R248). A member that gets no DOWN packets within the bound after its last UP writes an ABORT pass record. -/
  | downTimeout (pc : Fin 8) (job : Fin 4096)
  /-- UE_TASKS_QUEUED (R257). A job entering HELD has its pass records merged, its schedules evaluated and a task queued per VALID entry. -/
  | ueTasksQueued (pc : Fin 8) (job : Fin 4096)
  /-- UE_TASK_START (R260). The head task starts on enough idle engines, with its registers preset. -/
  | ueTaskStart (pc : Fin 8)
  /-- UE_BARRIER (R262). A write of UE.BARRIER increases the shard's arrival count. -/
  | ueBarrier (pc : Fin 8) (e : Fin 16)
  /-- UE_RELEASE (R262). A write of UE.RELEASE records the shard's code and, once every shard has written, releases the entry. -/
  | ueRelease (pc : Fin 8) (e : Fin 16) (code : BitVec 3)
  /-- UE_RELEASE_LINE (R270). An array's write to an entry's release line releases an array-placed update. -/
  | ueReleaseLine (pc : Fin 8) (p : Packet)
  /-- UE_ABANDON (R263). UE.CMD ABANDON releases a FAULTED entry with code 0 and frees its engines. -/
  | ueAbandon (pc : Fin 8) (entry : BitVec 12)
  /-- LAYER_ENTRY_WRITE (R256). A write to a layer entry is checked, and a write setting VALID is refused on any broken rule. -/
  | layerEntryWrite (pc : Fin 8) (entry : BitVec 12) (word : Fin 16) (value : W64)
  /-- ACU_SET_WRITE (R228). A write of ACU.SET_n is checked, and a write setting VALID is refused on any broken rule. -/
  | acuSetWrite (acu : Fin 12) (set : Fin 256) (word : Fin 4) (value : W64)
  /-- FLIT_RECEIVE (R277). A fabric port takes a 256-byte flit, checking CRC and SEQ and taking its ACK, NAK and credits. -/
  | flitReceive (port : Fin 96) (flit : List Byte)
  /-- NAK_REPEAT (R277). A receiver still missing its expected flit 2 µs after a NAK sends another NAK. -/
  | nakRepeat (port : Fin 96)
  /-- REPLAY_TIMEOUT (R277). A flit unacknowledged for 20 µs triggers a resend from the oldest, and 16 rounds take the port down. -/
  | replayTimeout (port : Fin 96)
  /-- PCS_LOCK_LOST (R281). A port that loses PCS lock for 1 ms goes down and raises LINK_DOWN. -/
  | pcsLockLost (port : Fin 96)
  /-- LINKCTL_EXCHANGE (R281). A trained port takes its peer's LINKCTL flit, records the peer and is up. -/
  | linkctlExchange (port : Fin 96) (peer : W32) (peerPort : BitVec 7)
  /-- PORT_ENABLE_WRITE (R281). A write of FAB.PORT_k.ENABLE takes a port down (0) or lets it train (1). -/
  | portEnableWrite (port : Fin 96) (enable : Bool)
  /-- PORT_RETRAIN (R407). A write of FAB.PORT_k.RETRAIN takes the port down and retrains it. -/
  | portRetrain (port : Fin 96)
  /-- FABRIC_PACKET_ROUTE (R288). A module routes a fabric packet: deliver, forward by the table, or discard. -/
  | fabricPacketRoute (port : Fin 96)
  /-- ANSWER_TIMEOUT (R293). An endpoint that has waited FAB.CFG.ANSWER for an answer completes the request with TARGET_OFF. -/
  | answerTimeout (pc : Fin 8) (tag : BitVec 16)
  /-- WWRITE (R295). A port complex checks a WWRITE against its window and epoch and writes it whole, or refuses it. -/
  | wwrite (pc : Fin 8) (p : FabPkt)
  /-- WACK_ARRIVE (R297). A returning WACK answers the array's send-aperture WRITE, with its status mapped. -/
  | wackArrive (pc : Fin 8) (p : FabPkt)
  /-- SEND_CHANNEL_WRITE (R296). An array's WRITE to the send aperture is turned into a WWRITE to the channel's window. -/
  | sendChannelWrite (pc : Fin 8) (p : Packet)
  /-- WIN_OPEN (R294). DISP.WIN_CMD OPEN moves a CLOSED window to OPEN. -/
  | winOpen (pc : Fin 8) (window : Fin 1024)
  /-- WIN_CLOSE (R294). DISP.WIN_CMD CLOSE moves an OPEN window to CLOSING. -/
  | winClose (pc : Fin 8) (window : Fin 1024)
  /-- WIN_CLOSED (R294). A CLOSING window becomes CLOSED when its COMMITTED count reaches zero. -/
  | winClosed (pc : Fin 8) (window : Fin 1024)
  /-- ROUTE_TOKEN (R303). An origin dispatch engine takes a TOKEN route line, assigns inbox slots up to CAP and sends the vector. -/
  | routeToken (pc : Fin 8) (p : Packet)
  /-- ROUTE_END (R303). An END route line counts toward END_EXPECT and, at that count, sends END to every home. -/
  | routeEnd (pc : Fin 8) (p : Packet)
  /-- ROUTE_RETURN (R305). A RETURN route line sends an expert's results back to their origins as RESULT segments. -/
  | routeReturn (pc : Fin 8) (p : Packet)
  /-- TOKEN_ARRIVE (R304). A home's dispatch engine places TOKEN segments in inboxes and, once every source has ended, writes its counts and READY_STEP. -/
  | tokenArrive (pc : Fin 8) (p : FabPkt)
  /-- RESULT_ARRIVE (R305). An origin combines returned RESULT segments into combine lines and writes COMBINED_STEP when all have returned. -/
  | resultArrive (pc : Fin 8) (p : FabPkt)
  /-- TACK_ARRIVE (R304). A TACK or RACK answers the origin's TOKEN or RESULT packet. -/
  | tackArrive (pc : Fin 8) (p : FabPkt)
  /-- CTRL_PACKET_ARRIVE (R284). A fabric CTRL packet is taken and answered with a CACK. -/
  | ctrlPacketArrive (pc : Fin 8) (p : FabPkt)
  /-- HEARTBEAT_SEND (R308). Every HB period each dispatch engine sends a HEARTBEAT on each up port. -/
  | heartbeatSend (pc : Fin 8)
  /-- HEARTBEAT_ARRIVE (R308). A HEARTBEAT from a directly linked module is consumed. -/
  | heartbeatArrive (pc : Fin 8) (p : FabPkt)
  /-- MODULE_LOST (R308). No HEARTBEAT from a linked module for eight periods raises MODULE_LOST. -/
  | moduleLost (address : W32)
  /-- FWD_COMMIT (R289). MODULE.FWD_CTL.COMMIT audits the pending forwarding table and makes it active, or reports ROUTE_AUDIT_FAIL. -/
  | fwdCommit
  /-- MODULE_FENCE_WRITE (R310). A write of MODULE.FENCE_n makes the module discard every packet to or from the fenced address. -/
  | moduleFenceWrite (n : Fin 16) (value : W64)
  /-- STORE_READ (R322). A READ request line is validated and its pages are read, checked and written to HBM, poisoned where they fail. -/
  | storeRead (bay : Fin 16) (p : Packet)
  /-- STORE_WRITE (R322). A WRITE request line is validated and its pages are read from HBM into the protected write buffer. -/
  | storeWrite (bay : Fin 16) (p : Packet)
  /-- STORE_PAGE_DONE (R322). A page transfer finishes, and the line is answered once every page it names is done. -/
  | storePageDone (bay : Fin 16) (line : Nat) (levels : List (Nat × Nat)) (soft : Bool) (uncorrectable : Bool)
  /-- FORMAT (R337). STORE.CMD FORMAT crypto-erases a cartridge, writes its namespaces and retry table and scrubs every block. -/
  | format (bay : Fin 16)
  /-- MOUNT (R337). STORE.CMD MOUNT unwraps the media key and loads metadata, retry tables and slots. -/
  | mount (bay : Fin 16)
  /-- UNMOUNT (R338). STORE.CMD UNMOUNT finishes queued lines, flushes the buffer, saves the unmount record and switches the bay off. -/
  | unmount (bay : Fin 16)
  /-- HARVEST_OPEN (R331). STORE.CMD HARVEST_OPEN takes an own or mirror slot for a new generation. -/
  | harvestOpen (bay : Fin 16)
  /-- HARVEST_COMMIT (R332). STORE.CMD HARVEST_COMMIT starts committing a generation with its commit record. -/
  | harvestCommit (bay : Fin 16)
  /-- HARVEST_DROP (R333). STORE.CMD HARVEST_DROP drops a generation and reclaims its pages. -/
  | harvestDrop (bay : Fin 16)
  /-- SANITIZE (R336). STORE.CMD SANITIZE refuses queued lines, crypto-erases the cartridge and starts erasing every block. -/
  | sanitize (bay : Fin 16)
  /-- TRIM (R339). STORE.CMD TRIM removes the pages of a namespace range. -/
  | trim (bay : Fin 16)
  /-- STORE_CMD_DONE (R337). A long store command (FORMAT, MOUNT, UNMOUNT, sanitize erase) finishes and updates the bay state. -/
  | storeCmdDone (bay : Fin 16)
  /-- HARVEST_COMMIT_DONE (R332). Once every line of a generation is answered, the record is filled in and written, and the slot becomes COMMITTED. -/
  | harvestCommitDone (bay : Fin 16)
  /-- CARTRIDGE_INSERT (R337). A cartridge insertion powers the bay, reads its identity and mounts it when AUTOMOUNT allows. -/
  | cartridgeInsert (bay : Fin 16) (serial : W32)
  /-- CARTRIDGE_REMOVE (R338). A cartridge removal takes the bay to EMPTY and loses any writes not yet flushed. -/
  | cartridgeRemove (bay : Fin 16)
  /-- CARTRIDGE_TEMP_SAMPLE (R329). Every second the cartridge temperature is sampled and the write rate limited or the bay unmounted. -/
  | cartridgeTempSample (bay : Fin 16) (celsius : BitVec 8)
  /-- SCRUB_AGE_TICK (R328). Every 60 s each block's effective age advances by the temperature stress factor. -/
  | scrubAgeTick (bay : Fin 16)
  /-- SCRUB_BLOCK (R328). The scrubber takes the block that is due and relocates or samples it. -/
  | scrubBlock (bay : Fin 16) (percent : BitVec 8) (hard : ScrubFinding)
  /-- WEAR_LEVEL (R327). Every 10 minutes static levelling relocates cold data when the erase-count spread is too wide. -/
  | wearLevel (bay : Fin 16)
  /-- RETRY_TABLE_SAVE (R325). Every hour the read-retry tables are saved to the cartridge metadata. -/
  | retryTableSave (bay : Fin 16)
  /-- SQ_TAIL_DOORBELL (R350). A write of a queue pair's SQ_TAIL doorbell advances the submission queue tail. -/
  | sqTailDoorbell (port : Fin 4) (queue : Fin 256) (value : BitVec 16)
  /-- CQ_HEAD_DOORBELL (R356). A write of a queue pair's CQ_HEAD doorbell advances the head and recounts unacknowledged entries. -/
  | cqHeadDoorbell (port : Fin 4) (queue : Fin 256) (value : BitVec 16)
  /-- COMMAND_FETCH (R353). The command engine fetches submission entries round-robin from enabled queues. -/
  | commandFetch (port : Fin 4)
  /-- NOP (R352). Host command that does nothing and completes OK. -/
  | nop (port : Fin 4) (queue : Fin 256)
  /-- COPY_IN (R352). Host command that copies host memory into HBM. -/
  | copyIn (port : Fin 4) (queue : Fin 256)
  /-- COPY_OUT (R352). Host command that copies HBM into host memory. -/
  | copyOut (port : Fin 4) (queue : Fin 256)
  /-- CSR_WRITE (R352). Host command that writes a control-space register. -/
  | csrWrite (port : Fin 4) (queue : Fin 256)
  /-- CSR_READ (R352). Host command that reads a control-space register into RESULT. -/
  | csrRead (port : Fin 4) (queue : Fin 256)
  /-- IMAGE_LOAD (R371). Host command that starts a whole or partial image load, queued behind any load in progress. -/
  | imageLoad (port : Fin 4) (queue : Fin 256)
  /-- CMD_WAIT (R352). Host command that polls an HBM u32 until it reaches a target or times out. -/
  | cmdWait (port : Fin 4) (queue : Fin 256)
  /-- CMD_WAIT_POLL (R352). Every 1 µs a WAIT command reads its u32 and completes on reaching the target or at its timeout. -/
  | cmdWaitPoll (port : Fin 4) (queue : Fin 256)
  /-- COMMAND_COMPLETE (R354). A host command completes and writes its completion entry at the CQ tail. -/
  | commandComplete (port : Fin 4) (queue : Fin 256)
  /-- MSIX_COALESCE_TIMEOUT (R356). The oldest unacknowledged completion entry reaching COAL_US sends the queue's MSI-X vector. -/
  | msixCoalesceTimeout (port : Fin 4) (queue : Fin 256)
  /-- BAR4_READ (R347). A host read through BAR4 is served by HBM READ_REQs of whole blocks. -/
  | bar4Read (port : Fin 4) (addr : W64) (len : Nat)
  /-- BAR4_WRITE (R347). A host write through BAR4 is gathered into whole lines or written by read-modify-write. -/
  | bar4Write (port : Fin 4) (addr : W64) (data : List Byte)
  /-- BAR0_ACCESS (R345). A host access through BAR0 reaches a register or aperture, or is refused with Unsupported Request. -/
  | bar0Access (port : Fin 4) (addr : W64) (a : BarAccess)
  /-- HOST_COMPLETION_TIMEOUT (R349). A request to host memory unanswered after CTO completes as failed. -/
  | hostCompletionTimeout (port : Fin 4) (tag : Nat)
  /-- HOST_PORT_RESET (R359). PERST#, a hot reset, a link going down or FLR resets a host port and its ACU. -/
  | hostPortReset (port : Fin 4)
  /-- IDE_INTEGRITY_FAIL (R358). An IDE integrity failure moves the stream to Insecure and posts HOST_LINK_SECURITY. -/
  | ideIntegrityFail (port : Fin 4)
  /-- IMAGE_STAGED (R371). Once the image object is in staging, the module hashes it, checks the signature, structure and preconditions and starts the route audit. -/
  | imageStaged
  /-- IMAGE_APPLY (R374). After a passing audit the image's registers, routes, site maps and programs are written and pans reconfigured. -/
  | imageApply
  /-- IMAGE_LOAD_COMPLETE (R374). Once every reconfigured array has finished its clear, the load completes and the active image records update. -/
  | imageLoadComplete
  /-- INPUT_LOST (R384). Input below 47 V on every feed for 200 µs switches off the compute domains, flushes the bays and logs INPUT_LOST. -/
  | inputLost (volts : Vector (BitVec 16) 8)
  /-- OVERVOLTAGE_SHUTDOWN (R382). Input above 66 V on any feed for 1 ms shuts the module down. -/
  | overvoltageShutdown
  /-- FEED_FAULT (R383). A feed out of range, or with fewer than four working stages, limits module power to 105 kW. -/
  | feedFault (feed : Fin 8) (volts : BitVec 16) (amps : BitVec 16)
  /-- POWER_ON_RESET (R388). Input entering its range boots the RMC and powers the domains in sequence. -/
  | powerOnReset (feeds : BitVec 8) (stages : BitVec 40) (verified : Bool)
  /-- POWER_UP_READY (R388). Once every site and stack has initialised, READY is set and the module waits for a whole image. -/
  | powerUpReady
  /-- CAP_UPDATE (R396). Every 100 µs the thermal and power caps and the effective frequencies are updated. -/
  | capUpdate (powerHw : BitVec 16) (voltCv : BitVec 16)
  /-- SITE_TEMP_SAMPLE (R395). Every 100 µs a site's junction temperature is sampled and throttle, park or wafer trip applied. -/
  | siteTempSample (site : SiteId) (celsius : BitVec 8)
  /-- STAGE_TEMP_SAMPLE (R395). Every 10 ms power-stage and OSFP temperatures are sampled, switching off hot stages or disabling ports. -/
  | stageTempSample (stages : BitVec 40) (cages : BitVec 48)
  /-- COOLANT_SAMPLE (R469). Every 100 ms coolant flow and temperatures are sampled, and the power cap set to 30 kW outside limits. -/
  | coolantSample (flow : BitVec 8) (inlet : BitVec 8) (outlet : BitVec 8)
  /-- COOLANT_SHUTDOWN (R395). A coolant condition that persists for 5 s switches off every domain. -/
  | coolantShutdown
  /-- ISL_FREQ_WRITE (R391). A write of ISL.CFG.FREQ_MHZ changes the island's target frequency and voltage without stopping. -/
  | islFreqWrite (site : SiteId) (mhz : BitVec 12) (voff : BitVec 6)
  /-- OSC_LOCK_CHANGE (R393). An oscillator gaining or losing lock to the reference updates LOCKED, posting CLOCK_UNLOCKED on loss. -/
  | oscLockChange (site : SiteId) (locked : Bool)
  /-- PARK (R397). MODULE.PARK_CMD PARK, or the thermal controller, starts parking a power block by stopping its pans. -/
  | park (wafer : Fin 4) (block : BitVec 8)
  /-- PARK_BLOCK_IDLE (R397). Once the block's pans have stopped and its engines are idle, the park plan's detour bits are set. -/
  | parkBlockIdle (overdue : Bool)
  /-- PARK_ROUTERS_EMPTY (R397). Once the block's routers are empty, liveness is switched off, ports blocked, couplings gated and the sites retained or gated. -/
  | parkRoutersEmpty
  /-- PARK_DRAIN_TIMEOUT (R397). Routers still holding packets 1 ms after the detours were set discard them and raise DRAIN_FAULT. -/
  | parkDrainTimeout
  /-- UNPARK (R400). MODULE.PARK_CMD UNPARK powers a parked block, restores couplings and reconfigures its sites from staging. -/
  | unpark (wafer : Fin 4) (block : BitVec 8)
  /-- MODULE_RESET (R404). MODULE.RESET_CMD type 1 unmounts the bays, switches off the domains and powers up again. -/
  | moduleReset (confirm : BitVec 16) (byRmc : Bool)
  /-- PAN_RESET (R405). MODULE.RESET_CMD type 2 force-stops a pan and reconfigures its arrays from staging. -/
  | panReset (pan : Fin 1024)
  /-- ARRAY_RESET (R406). MODULE.RESET_CMD type 3 idles one site, discards its queues and waits for its outstanding requests. -/
  | arrayReset (site : SiteId)
  /-- ARRAY_RESET_QUIESCED (R406). Once no request of a resetting site is outstanding, the site is reconfigured from staging. -/
  | arrayResetQuiesced (site : SiteId)
  /-- ARRAY_RESET_TIMEOUT (R406). Requests still outstanding 1 ms into an array reset raise ENGINE_HANG and fence the site. -/
  | arrayResetTimeout (site : SiteId)
  /-- BAY_RESET (R408). MODULE.RESET_CMD type 4 answers queued lines, flushes the buffer and restarts the store controller. -/
  | bayReset (bay : Fin 16)
  /-- FABRIC_PORT_RESET (R407). MODULE.RESET_CMD type 5 discards a port's replay state and retrains it. -/
  | fabricPortReset (port : Fin 96)
  /-- RST_REQ_ASSERT (R474). RST_REQ# held low for 100 ms requests a module reset. -/
  | rstReqAssert
  /-- CONTROLLER_HEARTBEAT (R416). A controller's 1 ms heartbeat CTRL_MSG reaches the RMC. -/
  | controllerHeartbeat (unit : UnitId)
  /-- CONTROLLER_HANG (R416). No heartbeat from a controller for 8 ms fences the controller's domain. -/
  | controllerHang (unit : UnitId)
  /-- DOMAIN_POWER_POLL (R419). Every 1 ms the RMC polls domain power controllers, fencing on any disagreement between the paths. -/
  | domainPowerPoll (unit : UnitId) (on : PollView)
  /-- FENCE_SITE (R420). MODULE.FENCE_CMD FENCE_SITE switches a site off, blocks its ports and records the fence. -/
  | fenceSite (site : SiteId)
  /-- RETEST (R420). MODULE.FENCE_CMD RETEST powers a fenced unit and runs its self-test and liveness checks. -/
  | retest (unit : UnitId)
  /-- RETEST_RESULT (R420). A re-test completes, returning the unit to service or leaving it fenced and possibly retired. -/
  | retestResult (unit : UnitId) (pass : Bool)
  /-- FENCE_WAFER (R428). MODULE.FENCE_CMD FENCE_WAFER stops the wafer's pans, unmounts its bays and switches the wafer off. -/
  | fenceWafer (wafer : Fin 4)
  /-- PROMOTE (R424). MODULE.FENCE_CMD PROMOTE continues a promotion past its step 2. -/
  | promote (site : SiteId)
  /-- PROMOTION (R424). A promotion chooses a spare, rewrites the site maps and reconfigures the pan from staging. -/
  | promotion
  /-- FW_SWITCH (R431). MODULE.FW_CMD SWITCH makes a unit's verified inactive firmware copy active. -/
  | fwSwitch (unit : Fin 217)
  /-- FW_REVERT (R431). MODULE.FW_CMD REVERT switches a unit back to its other firmware copy. -/
  | fwRevert (unit : Fin 217)
  /-- FW_HEALTHY (R440). A new copy's first healthy report accepts it, committing its SVN and revocations. -/
  | fwHealthy (unit : Fin 217)
  /-- FW_HEALTH_TIMEOUT (R431). No healthy report within 60 s rolls the unit back to its other copy. -/
  | fwHealthTimeout (unit : Fin 217)
  /-- OSFP_INSERT (R432). An OSFP insertion reads CMIS, powers a supported module and trains its two ports. -/
  | osfpInsert (cage : Fin 48) (cmis : BitVec 8) (supported : Bool) (fits : Bool)
  /-- OSFP_REMOVE (R432). An OSFP removal takes the cage's two ports down. -/
  | osfpRemove (cage : Fin 48)
  /-- PSTAGE_OFFLINE (R433). MODULE.PSTAGE_CMD OFFLINE moves a stage's load to its feed's other stages. -/
  | pstageOffline (stage : Fin 40)
  /-- PSTAGE_ONLINE (R433). MODULE.PSTAGE_CMD ONLINE returns a power stage to service. -/
  | pstageOnline (stage : Fin 40)
  /-- PSTAGE_INSERT (R433). An inserted power stage soft-starts and shares load. -/
  | pstageInsert (stage : Fin 40)
  /-- PSTAGE_FAIL (R433). A stage that fails or is removed without the command triggers the feed power limit. -/
  | pstageFail (stage : Fin 40) (volts : BitVec 16) (amps : BitVec 16)
  /-- NONCE_DRAW (R447). A read of MODULE.SEC_NONCE_0 draws a new nonce and invalidates the previous one. -/
  | nonceDraw
  /-- NONCE_EXPIRE (R447). A nonce expires 60 s after it was drawn. -/
  | nonceExpire
  /-- PROVISION_OWNER (R446). Life-cycle request that installs the owner key and secret and moves FACTORY to OWNED. -/
  | provisionOwner
  /-- ROTATE_OWNER (R446). Life-cycle request that replaces the owner key, keeping the owner secret. -/
  | rotateOwner
  /-- CLOSE (R446). Life-cycle request that moves OWNED to FIELD. -/
  | close
  /-- RETURN (R449). Life-cycle request that erases the owner's data and moves to RETURNED. -/
  | returnReq
  /-- DEBUG_UNLOCK (R451). Life-cycle request that opens vendor debug in RETURNED within its scope. -/
  | debugUnlock
  /-- REFURBISH (R449). Life-cycle request that erases and moves RETURNED to FACTORY. -/
  | refurbish
  /-- RETIRE (R449). Life-cycle request that erases and moves the module to RETIRED. -/
  | retire
  /-- GET_VERSION (R442). SPDM request for the supported version. -/
  | getVersion (path : MgmtPath)
  /-- GET_CAPABILITIES (R442). SPDM request for capabilities. -/
  | getCapabilities (path : MgmtPath) (version : BitVec 8)
  /-- NEGOTIATE_ALGORITHMS (R442). SPDM request that negotiates RSA-4096 PSS and SHA-512. -/
  | negotiateAlgorithms (path : MgmtPath) (offered : Bool)
  /-- GET_DIGESTS (R442). SPDM request for the certificate chain digests. -/
  | getDigests (path : MgmtPath)
  /-- GET_CERTIFICATE (R442). SPDM request for a certificate chain of slot 0 or 1. -/
  | getCertificate (path : MgmtPath) (slot : Fin 8)
  /-- CHALLENGE (R442). SPDM challenge answered with a device signature. -/
  | challenge (path : MgmtPath) (slot : Fin 8)
  /-- GET_CSR (R442). SPDM request for a slot 1 certificate signing request, in OWNED only. -/
  | getCsr (path : MgmtPath)
  /-- SET_CERTIFICATE (R442). SPDM request that installs the slot 1 certificate chain, in OWNED only. -/
  | setCertificate (path : MgmtPath) (slot : Fin 8) (chain : List Byte)
  /-- GET_MEASUREMENTS (R443). SPDM request for signed SHA-512 measurements. -/
  | getMeasurements (path : MgmtPath) (index : BitVec 8)
  /-- KEY_EXCHANGE (R442). SPDM request that starts a secure session with FFDHE4096. -/
  | keyExchange (path : MgmtPath)
  /-- FINISH (R442). SPDM request that completes secure session setup. -/
  | finish (path : MgmtPath) (session : Nat)
  /-- END_SESSION (R442). SPDM request that ends a secure session. -/
  | endSession (path : MgmtPath) (session : Nat)
  /-- SPDM_HEARTBEAT (R442). SPDM heartbeat within a secure session. -/
  | spdmHeartbeat (path : MgmtPath) (session : Nat)
  /-- KEY_UPDATE (R442). SPDM request that updates the session keys. -/
  | keyUpdate (path : MgmtPath) (session : Nat)
  /-- IDE_KM (R358). IDE_KM message in a secure session that keys the Link IDE stream. -/
  | ideKm (port : Fin 4) (session : Nat) (op : BitVec 2)
  /-- PLDM_PLATFORM (R454). PLDM type 2 request for sensors, state or events. -/
  | pldmPlatform (path : MgmtPath) (request : PldmRequest)
  /-- PLDM_FW_UPDATE (R454). PLDM type 5 request that writes a unit's inactive firmware copy. -/
  | pldmFwUpdate (path : MgmtPath) (unit : Fin 217) (object : List Byte)
  /-- TELEMETRY_SAMPLE (R455). Every second the RMC samples every counter into its 64-bit telemetry totals. -/
  | telemetrySample
  /-- TRC_MARK (R459). A write of TRC.MARK produces a MARK trace record. -/
  | trcMark (site : SiteId) (slot : Option (Fin 4)) (value : W32)
  /-- TRC_ENABLE_WRITE (R465). A write of TRC.CTL.ENABLE starts or stops trace, refused if the ring is invalid. -/
  | trcEnableWrite (site : SiteId) (enable : Bool) (mode : Bool) (src : BitVec 5)
  /-- TRACE_LINE_WRITE (R460). A site writes two FIFO records as a 64-byte line to its trace ring, wrapping or stopping at the end. -/
  | traceLineWrite (site : SiteId)
  /-- SYNC_MARKER (R461). Every PERIOD_US the RMC issues a sync marker, and each tracing site records SYNC. -/
  | syncMarker
  /-- DBG_DATA_READ (R462). A read of TRC.DBG_DATA returns two accumulator elements, or zero when denied. -/
  | dbgDataRead (site : SiteId)
  /-- DBG_DATA_WRITE (R462). A write of TRC.DBG_DATA writes two accumulator elements, or is ignored when denied. -/
  | dbgDataWrite (site : SiteId) (value : W64)
  /-- JTAG_SCAN_SELECT (R464). Selecting or deselecting a fenced unit's scan chain powers its domain on or off for scan. -/
  | jtagScanSelect (unit : UnitId) (select : Bool)
  /-- RC_READ (R3). A read of an RC field returns its value and clears it, keeping any event of the same cycle. -/
  | rcRead (addr : W64) (four : Bool)
  /-- REG_WRITE (R2). A write to a register with no row of its own acts by the access codes of its fields and its own write rules. -/
  | regWrite (addr : W64) (four : Bool) (value : W64)
  /-- HOST_LINK_UP (R340). A host port's PCI Express link finishes training at its width and rate and the port becomes ready for configuration requests. -/
  | hostLinkUp (port : Fin 4) (width : LinkWidth) (speed : BitVec 3) (flit : Bool)
  /-- FEED_RESTORED (R383). Every feed is back in its operating range with at least four working stages, so the 105 kW limit on module input power is lifted. -/
  | feedRestored
  /-- RECLAIM_DONE (R331). A generation slot in RECLAIMING finishes reclaiming its pages and becomes FREE. -/
  | reclaimDone (bay : Fin 16) (slot : Fin 16)
  /-- CONFIGURATION_WRITE (R342). A PCI Express configuration write from the host sets BAR addresses, a Resizable BAR size for BAR4 or the D0/D3hot power state. -/
  | configurationWrite (port : Fin 4) (w : ConfigWrite)
  /-- DOE_DISCOVERY (R358). A DOE discovery object on mailbox 0 or 1 is answered with the data object types that the mailbox carries. -/
  | doeDiscovery (port : Fin 4) (mailbox : Fin 2)
  /-- PLDM_MESSAGING_CONTROL (R454). A PLDM Type 0 messaging control and discovery request is answered, in normal operation and in recovery mode. -/
  | pldmMessagingControl (path : MgmtPath)
  /-- DYNAMIC_ADDRESS_ASSIGN (R474). The integrator's I3C controller assigns a dynamic address, after which the RMC stops answering as an I2C target at 400 kHz. -/
  | dynamicAddressAssign (address : BitVec 7)
  /-- HOST_READ_COMPLETION (R349). A completion for a host port's non-posted read of host memory arrives into its reserved space, carrying the data of a copy or of a queue entry. -/
  | hostReadCompletion (port : Fin 4) (tag : Nat) (data : List Byte)
  deriving DecidableEq, Repr

end Sys2Proof
end

