-- ==== Sys2Proof/Machine/Bits.lean ====
section
/-! DEFINITION. Machine/Bits.lean: bit fields, sign extension and byte order. -/

namespace Sys2Proof.Machine

/-- Bits [lo + len - 1 : lo] of a number. -/
def bitsOf (w lo len : Nat) : Nat := w / 2 ^ lo % 2 ^ len

/-- Field [lo + len - 1 : lo] of a word, as a bit vector of its width. -/
def fld {n : Nat} (w : BitVec n) (lo len : Nat) : BitVec len := w.extractLsb' lo len

/-- Bit i of a word. -/
def bit {n : Nat} (w : BitVec n) (i : Nat) : Bool := w.getLsbD i

/-- A Bool as a number. -/
def b2n (b : Bool) : Nat := if b then 1 else 0

/-- The word with bit i set to b. -/
def putBit {n : Nat} (w : BitVec n) (i : Nat) (b : Bool) : BitVec n :=
  if b then w ||| BitVec.twoPow n i else w &&& ~~~(BitVec.twoPow n i)

/-- Little-endian value of a list of bytes. -/
def leNat : List Byte → Nat
  | [] => 0
  | b :: bs => b.toNat + 256 * leNat bs

/-- The n low bytes of a number, lowest first (little-endian). -/
def leBytes : Nat → Nat → List Byte
  | 0, _ => []
  | n + 1, v => BitVec.ofNat 8 v :: leBytes n (v / 256)

/-- The greatest m below 2^bits, above the bits of m already found, with m^n ≤ x. -/
def intRoot (n x : Nat) : Nat → Nat → Nat
  | 0, m => m
  | bits + 1, m => intRoot n x bits (if (m + 2 ^ bits) ^ n ≤ x then m + 2 ^ bits else m)

/-- The number of set bits of a word. -/
def popcount {n : Nat} (w : BitVec n) : Nat := (List.range n).countP (fun i => w.getLsbD i)

/-- The lowest set bit of a word. -/
def lowestBit {n : Nat} (w : BitVec n) : Option Nat := (List.range n).find? (fun i => w.getLsbD i)

/-- v, or the largest value of n bits if it is greater. -/
def clampTo (n v : Nat) : Nat := if v < 2 ^ n then v else 2 ^ n - 1

/-- A number rounded up to a multiple of m. -/
def roundUp (v m : Nat) : Nat := (v + m - 1) / m * m

/-- The quotient rounded up. -/
def ceilDiv (v m : Nat) : Nat := (v + m - 1) / m

end Sys2Proof.Machine
end

