-- ==== Sys2Proof/Machine/Float.lean ====
section
/-! DEFINITION. Machine/Float.lean: the number formats, exact arithmetic on them and every rounding (R117–R129). -/

namespace Sys2Proof.Machine

/-! ## Values -/

/-- A floating-point value held exactly: NaN, an infinity, or (-1)^neg × m × 2^e. -/
inductive Fp where
  | nan
  | inf (neg : Bool)
  | fin (neg : Bool) (m : Nat) (e : Int)
  deriving DecidableEq, Repr

/-- +0. -/
def Fp.zero : Fp := .fin false 0 0

def Fp.isNan : Fp → Bool
  | .nan => true
  | _ => false

def Fp.isInf : Fp → Bool
  | .inf _ => true
  | _ => false

def Fp.isFinite : Fp → Bool
  | .fin _ _ _ => true
  | _ => false

def Fp.isZero : Fp → Bool
  | .fin _ 0 _ => true
  | _ => false

/-- The sign of a value; false for NaN. -/
def Fp.neg? : Fp → Bool
  | .nan => false
  | .inf n => n
  | .fin n _ _ => n

def Fp.negate : Fp → Fp
  | .nan => .nan
  | .inf n => .inf (!n)
  | .fin n m e => .fin (!n) m e

def Fp.abs : Fp → Fp
  | .nan => .nan
  | .inf _ => .inf false
  | .fin _ m e => .fin false m e

/-- m × 2^e in units of 2^b, for b ≤ e. -/
def atExp (m : Nat) (e b : Int) : Nat := m * 2 ^ (e - b).toNat

/-- (-1)^neg × m as an integer. -/
def signed (neg : Bool) (m : Nat) : Int := if neg then -(m : Int) else (m : Int)

/-- The value i × 2^e, with +0 for zero. -/
def Fp.ofInt (i : Int) (e : Int := 0) : Fp := .fin (decide (i < 0)) i.natAbs e

/-- The exact sum (R120, R121): an exact zero sum is +0, except that of two zeros both negative. -/
def Fp.add : Fp → Fp → Fp
  | .nan, _ => .nan
  | _, .nan => .nan
  | .inf a, .inf b => if a = b then .inf a else .nan
  | .inf a, _ => .inf a
  | _, .inf b => .inf b
  | .fin n1 m1 e1, .fin n2 m2 e2 =>
    let b := min e1 e2
    let i := signed n1 (atExp m1 e1 b) + signed n2 (atExp m2 e2 b)
    if i = 0 then .fin (n1 && n2 && (m1 == 0)) 0 0 else .ofInt i b

/-- The exact product. -/
def Fp.mul : Fp → Fp → Fp
  | .nan, _ => .nan
  | _, .nan => .nan
  | .inf a, .inf b => .inf (a != b)
  | .inf a, .fin n m _ => if m = 0 then .nan else .inf (a != n)
  | .fin n m _, .inf b => if m = 0 then .nan else .inf (n != b)
  | .fin n1 m1 e1, .fin n2 m2 e2 => .fin (n1 != n2) (m1 * m2) (e1 + e2)

/-- The value times 2^k. -/
def Fp.scale : Fp → Int → Fp
  | .fin n m e, k => .fin n m (e + k)
  | v, _ => v

/-- a < b as numbers; false when either is NaN. -/
def Fp.lt : Fp → Fp → Bool
  | .nan, _ => false
  | _, .nan => false
  | .inf a, .inf b => a && !b
  | .inf a, .fin _ _ _ => a
  | .fin _ _ _, .inf b => !b
  | .fin n1 m1 e1, .fin n2 m2 e2 =>
    let b := min e1 e2
    decide (signed n1 (atExp m1 e1 b) < signed n2 (atExp m2 e2 b))

/-- a = b as numbers, so −0 = +0; false when either is NaN. -/
def Fp.eqv (a b : Fp) : Bool := !a.isNan && !b.isNan && !a.lt b && !b.lt a

/-- The smaller of two, −0 below +0, NaN if either is NaN (VMIN, R85). -/
def Fp.min (a b : Fp) : Fp :=
  if a.isNan || b.isNan then .nan
  else if a.lt b then a else if b.lt a then b else if a.neg? then a else b

/-- The greater of two, −0 below +0, NaN if either is NaN (VMAX, R85). -/
def Fp.max (a b : Fp) : Fp :=
  if a.isNan || b.isNan then .nan
  else if a.lt b then b else if b.lt a then a else if a.neg? then b else a

/-! ## Formats (R117) -/

/-- How a format encodes its topmost exponent: IEEE 754 infinities and NaNs, only the all-ones NaN, or numbers only. -/
inductive TopCode where
  | ieee | nanOnly | numbers
  deriving DecidableEq, Repr

/-- A floating-point format: exponent bits, fraction bits, bias and the meaning of its topmost exponent. -/
structure Format where
  eb : Nat
  fb : Nat
  bias : Nat
  top : TopCode
  deriving DecidableEq, Repr

def fmtFp32 : Format := ⟨8, 23, 127, .ieee⟩
def fmtBf16 : Format := ⟨8, 7, 127, .ieee⟩
def fmtFp16 : Format := ⟨5, 10, 15, .ieee⟩
def fmtE4m3 : Format := ⟨4, 3, 7, .nanOnly⟩
def fmtE5m2 : Format := ⟨5, 2, 15, .ieee⟩
def fmtE3m2 : Format := ⟨3, 2, 3, .numbers⟩
def fmtE2m3 : Format := ⟨2, 3, 1, .numbers⟩
def fmtE2m1 : Format := ⟨2, 1, 1, .numbers⟩

/-- The element format of a floating-point format code. -/
def formatOf : Nat → Format
  | 0x0 => fmtFp32
  | 0x1 => fmtBf16
  | 0x2 => fmtFp16
  | 0x3 => fmtE4m3
  | 0x4 => fmtE5m2
  | 0x5 => fmtE4m3
  | 0x6 => fmtE5m2
  | 0x7 => fmtE3m2
  | 0x8 => fmtE2m3
  | _ => fmtE2m1

/-- The largest exponent field that holds numbers. -/
def Format.topField (f : Format) : Nat := match f.top with | .ieee => 2 ^ f.eb - 2 | _ => 2 ^ f.eb - 1

/-- emax: the unbiased exponent of the largest normal value. -/
def Format.emax (f : Format) : Int := (f.topField : Int) - f.bias

/-- The exponent of the last fraction bit of the subnormals. -/
def Format.umin (f : Format) : Int := 1 - (f.bias : Int) - f.fb

/-- The significand of the largest finite value, in units of its last fraction bit. -/
def Format.topSig (f : Format) : Nat := match f.top with | .nanOnly => 2 ^ (f.fb + 1) - 2 | _ => 2 ^ (f.fb + 1) - 1

/-- The exponent of the last fraction bit of the largest finite value. -/
def Format.topUnit (f : Format) : Int := f.emax - f.fb

/-- The exact value of a bit pattern. -/
def Format.decode (f : Format) (bits : Nat) : Fp :=
  let frac := bits % 2 ^ f.fb
  let e := bits / 2 ^ f.fb % 2 ^ f.eb
  let neg := bits / 2 ^ (f.fb + f.eb) % 2 == 1
  match f.top with
  | .ieee =>
    if e = 2 ^ f.eb - 1 then (if frac = 0 then .inf neg else .nan)
    else if e = 0 then .fin neg frac f.umin
    else .fin neg (2 ^ f.fb + frac) ((e : Int) - f.bias - f.fb)
  | .nanOnly =>
    if e = 2 ^ f.eb - 1 ∧ frac = 2 ^ f.fb - 1 then .nan
    else if e = 0 then .fin neg frac f.umin
    else .fin neg (2 ^ f.fb + frac) ((e : Int) - f.bias - f.fb)
  | .numbers =>
    if e = 0 then .fin neg frac f.umin
    else .fin neg (2 ^ f.fb + frac) ((e : Int) - f.bias - f.fb)

/-- The canonical NaN (R120). -/
def Format.nanBits (f : Format) : Nat :=
  match f.top with
  | .ieee => (2 ^ f.eb - 1) * 2 ^ f.fb + (if f.fb = 2 then 3 else 2 ^ (f.fb - 1))
  | _ => 2 ^ (f.eb + f.fb) - 1

/-- The sign bit of a pattern. -/
def Format.signBit (f : Format) (neg : Bool) : Nat := if neg then 2 ^ (f.eb + f.fb) else 0

/-- The infinity of a sign, for a format that has one. -/
def Format.infBits (f : Format) (neg : Bool) : Nat := f.signBit neg + (2 ^ f.eb - 1) * 2 ^ f.fb

/-- The largest finite value of a sign. -/
def Format.maxBits (f : Format) (neg : Bool) : Nat :=
  f.signBit neg + f.topField * 2 ^ f.fb + (f.topSig - 2 ^ f.fb)

/-! ## Rounding (R127, R129) -/

/-- The rounding of a conversion: to nearest even, or stochastic with 16 noise bits. -/
inductive Rounding where
  | nearest
  | stochastic (r : BitVec 16)
  deriving DecidableEq, Repr

/-- m / 2^k rounded to an integer. -/
def roundShift (rnd : Rounding) (m k : Nat) : Nat :=
  let t := m / 2 ^ k
  let rem := m % 2 ^ k
  match rnd with
  | .nearest => if 2 * rem > 2 ^ k ∨ (2 * rem = 2 ^ k ∧ t % 2 = 1) then t + 1 else t
  | .stochastic r => if r.toNat < rem * 65536 / 2 ^ k then t + 1 else t

/-- The exponent of the last fraction bit that a magnitude m × 2^e takes in a format. -/
def Format.unitOf (f : Format) (m : Nat) (e : Int) : Int :=
  if m = 0 then f.umin else max ((Nat.log2 m : Int) + e - f.fb) f.umin

/-- A magnitude rounded to a format with unbounded exponents: units and the exponent of the unit. -/
def Format.roundMag (f : Format) (rnd : Rounding) (m : Nat) (e : Int) : Nat × Int :=
  let u := f.unitOf m e
  let q := if u ≤ e then atExp m e u else roundShift rnd m (u - e).toNat
  if q = 2 ^ (f.fb + 1) then (2 ^ f.fb, u + 1) else (q, u)

/-- The rounded magnitude exceeds the largest finite value (R127). -/
def Format.overflows (f : Format) (q : Nat) (u : Int) : Bool :=
  decide (f.topUnit < u) || (u == f.topUnit && decide (f.topSig < q))

/-- The bit pattern of a rounded magnitude within the format's range. -/
def Format.pack (f : Format) (neg : Bool) (q : Nat) (u : Int) : Nat :=
  if q < 2 ^ f.fb then f.signBit neg + q
  else f.signBit neg + (u + f.fb + f.bias).toNat * 2 ^ f.fb + (q - 2 ^ f.fb)

/-- The value rounded to nearest even in a format, overflowing to ±Inf as IEEE 754 prescribes (R89): its bits. -/
def Format.round (f : Format) (v : Fp) : Nat :=
  match v with
  | .nan => f.nanBits
  | .inf n => f.infBits n
  | .fin n m e =>
    let (q, u) := f.roundMag .nearest m e
    if f.overflows q u then f.infBits n else f.pack n q u

/-- FP32 value of a word. -/
def ofF32 (w : W32) : Fp := fmtFp32.decode w.toNat

/-- A value rounded to FP32. -/
def toF32 (v : Fp) : W32 := BitVec.ofNat 32 (fmtFp32.round v)

/-- The sticky flags that conversions set. -/
structure CvtFlags where
  sat : Bool := false
  inf : Bool := false
  nan : Bool := false
  deriving DecidableEq, Repr

/-- The flags of either of two conversions. -/
def CvtFlags.or (a b : CvtFlags) : CvtFlags := ⟨a.sat || b.sat, a.inf || b.inf, a.nan || b.nan⟩

/-- The conversion of R128 to BF16, FP16, E4M3 or E5M2: the bits and the flags. -/
def Format.narrow (f : Format) (rnd : Rounding) (ovf : Bool) (v : Fp) : Nat × CvtFlags :=
  let past (n : Bool) (fl : CvtFlags) : Nat × CvtFlags :=
    if ovf then
      (match f.top with
       | .ieee => (f.infBits n, fl)
       | _ => (f.nanBits, { fl with nan := true }))
    else (f.maxBits n, { fl with sat := true })
  match v with
  | .nan => (f.nanBits, { nan := true })
  | .inf n => past n { inf := true }
  | .fin n m e =>
    let (q, u) := f.roundMag rnd m e
    if f.overflows q u then past n {} else (f.pack n q u, {})

/-- The integer nearest to a value under a rounding, of any size; 0 for NaN and the infinities. -/
def Fp.toInt (rnd : Rounding) : Fp → Int
  | .fin n m e => signed n (if 0 ≤ e then m * 2 ^ e.toNat else roundShift rnd m (-e).toNat)
  | _ => 0

/-- The conversion of R128 to INT8: the byte and the flags. -/
def narrowInt8 (rnd : Rounding) (v : Fp) : Nat × CvtFlags :=
  match v with
  | .nan => (0, { nan := true })
  | .inf n => (if n then 0x80 else 0x7f, { sat := true, inf := true })
  | .fin _ _ _ =>
    let i := v.toInt rnd
    if 127 < i then (0x7f, { sat := true }) else if i < -128 then (0x80, { sat := true })
    else ((BitVec.ofInt 8 i).toNat, {})

/-- FP32 to INT32: nearest even, saturating, NaN giving 0 (R85), and whether it saturated. -/
def toInt32 (v : Fp) : W32 × Bool :=
  match v with
  | .nan => (0, false)
  | .inf n => (if n then 0x80000000 else 0x7fffffff, true)
  | .fin _ _ _ =>
    let i := v.toInt .nearest
    if 2147483647 < i then (0x7fffffff, true) else if i < -2147483648 then (0x80000000, true)
    else (BitVec.ofInt 32 i, false)

/-- INT32 to FP32, rounded to nearest even. -/
def ofInt32 (w : W32) : W32 := toF32 (.ofInt w.toInt)

/-! ## Microscaling blocks (R118, R124–R126) -/

/-- The value of an MX element under its scale byte (R126). -/
def mxDecode (code : Nat) (elem scale : Nat) : Fp :=
  if scale = 0xff then .nan else ((formatOf code).decode elem).scale ((scale : Int) - 127)

/-- floor(log2 |v|) of a finite value that is not zero. -/
def Fp.logFloor : Fp → Int
  | .fin _ m e => (Nat.log2 m : Int) + e
  | _ => 0

/-- The largest magnitude of a list of finite values, as a value. -/
def maxMag (vs : List Fp) : Fp := vs.foldl (fun a v => if a.lt v.abs then v.abs else a) .zero

/-- The scale exponent of a block (R124), EMAX being the element format's emax. -/
def mxExponent (f : Format) (vs : List Fp) : Int :=
  let a := maxMag vs
  if a.isZero then -127 else max (-127) (min 127 (a.logFloor - f.emax))

/-- One element of a block with scale exponent x, clamped to the largest finite element (R124). -/
def mxElem (f : Format) (x : Int) (rnd : Rounding) (v : Fp) : Nat :=
  match v.scale (-x) with
  | .fin n m e =>
    let (q, u) := f.roundMag rnd m e
    if f.overflows q u then f.maxBits n else f.pack n q u
  | _ => 0

/-- A block of 32 values converted to an MX format: the scale byte, the element bytes and the flags (R124, R125). -/
def mxBlock (code : Nat) (vs : List Fp) (rnds : List Rounding) : Nat × List Nat × CvtFlags :=
  let f := formatOf code
  if vs.all Fp.isFinite then
    let x := mxExponent f vs
    ((x + 127).toNat, (vs.zip rnds).map (fun p => mxElem f x p.2 p.1), {})
  else (0xff, vs.map (fun _ => 0), { nan := vs.any Fp.isNan, inf := vs.any Fp.isInf })

/-! ## FP32 arithmetic on words -/

def f32Add (a b : W32) : W32 := toF32 ((ofF32 a).add (ofF32 b))
def f32Mul (a b : W32) : W32 := toF32 ((ofF32 a).mul (ofF32 b))
def f32Fma (a b c : W32) : W32 := toF32 (((ofF32 a).mul (ofF32 b)).add (ofF32 c))

/-- Maximum of a list with NaN elements excluded; NaN if there is nothing else (R94). -/
def maxExcl (vs : List Fp) : Fp :=
  match vs.filter (fun v => !v.isNan) with
  | [] => .nan
  | v :: t => t.foldl Fp.max v

/-- Minimum of a list with NaN elements excluded; NaN if there is nothing else (R94). -/
def minExcl (vs : List Fp) : Fp :=
  match vs.filter (fun v => !v.isNan) with
  | [] => .nan
  | v :: t => t.foldl Fp.min v

end Sys2Proof.Machine
end

