-- ==== Sys2Proof/Config.lean ====
section
/-! DEFINITION. Config.lean: what one module fixes, and the free values, which the spec leaves open. -/

namespace Sys2Proof.Config

/-- MODULE.ID.REV (R1): 1 for rev. A, 2 for rev. B. DESIGN CHOICE 4: the revision modelled is rev. B. -/
def rev : BitVec 8 := 2

/-- The Vendor ID assigned to Varruine (R341), whose number the spec does not give. -/
opaque vendorId : BitVec 16

/-- DETAIL of an event, as bytes: R418 says what each code's DETAIL holds, and not how its bytes spell it (log entry 141). -/
opaque detailBytes : Nat → List Nat → List (BitVec 8)

/-- Free values (log entry 2): the n-th value that the spec leaves open. Nothing is known of it. -/
opaque freeWord : Nat → W64

/-- The choice among the values that a bound of ulp allows, for function f of operand x: the same operand gives the same bits
(R138; log entry 6). -/
opaque approxWord (f : Nat) (x : W32) : W64

/-- The 16 bits that a noise generator in a state supplies, and its next state: a 128-bit linear-feedback generator
whose feedback the spec does not give (R130; log entry 7). -/
opaque noiseOut : BitVec 128 → BitVec 16
opaque noiseNext : BitVec 128 → BitVec 128

/-- The ACU's own lossless coding of a block, PACK, which is private to the module (R219; log entry 34). -/
opaque packBytes : List Byte → List Byte

/-- What a PACK payload that this ACU did not write decodes to. -/
opaque unpackBytes : List Byte → List Byte

/-- Blocks of a cartridge, their planes in a channel and their rated program/erase cycles, which the spec gives as ranges only or not
at all (R314, R327; log entry 38). -/
opaque cartBlocks : Nat
opaque cartPlanes : Nat
opaque ratedCycles : Nat

/-- By serial number: the blocks that a cartridge's spare pool begins with, and the blocks reported bad at manufacture (R326; log entry
38). -/
opaque spareBlocks : BitVec 32 → Nat
opaque factoryBad : BitVec 32 → Nat → Bool

/-- The blocks that the n-th full scrub of a FORMAT finds bad (R337; log entry 38). -/
opaque formatDefects : Nat → List Nat

/-- ARRAY.ID of an update engine, which the spec does not give (log entry 40). -/
opaque ueId : Nat → W64

/-! ### Sections of an image whose bytes the spec does not lay out (R364, R387; log entry 41)

The spec says what each of these sections holds, and not how its bytes spell it. A section that obeys its field rules reads
as its contents; one that does not reads as none. -/

/-- One router of ROUTES: its position, its plan bits, and the detour entries that are written. -/
structure ImgRoute where
  row : Nat
  col : Nat
  plans : BitVec 16
  entries : List (Nat × W64)
  deriving DecidableEq, Repr

/-- POWER: the domains kept off, by kind and index of R417; the states of HBM banks, as stack, bank and TARGET; and the park
plan of each power block, 240 w + j, as router positions with plan bits. -/
structure ImgPower where
  off : List (Nat × Nat)
  banks : List (Nat × Nat × Nat)
  parks : List (Nat × List (Nat × Nat × BitVec 16))
  deriving DecidableEq, Repr

/-- PROGRAM: blobs by slot and home-window offset. -/
structure ImgBlob where
  slot : Nat
  offset : Nat
  data : List Byte
  deriving DecidableEq, Repr

/-- FOD: register words by offset in the CSR block, and the images of activation tables. -/
structure ImgFod where
  regs : List (Nat × W64)
  tables : List (Nat × List W32)
  deriving DecidableEq, Repr

/-- UPDATE, for one port complex: UE.CTL and UE.SCHED_BASE, and for each engine its register words and its programs. -/
structure ImgUpdate where
  pc : Nat
  ctl : W64
  schedBase : W64
  engines : List (Nat × List (Nat × W64) × List ImgBlob)
  deriving DecidableEq, Repr

opaque imgRoutes : List Byte → Option (List ImgRoute)
/-- ISLAND: ISL.CFG by UNIT index. -/
opaque imgIsland : List Byte → Option (List (Nat × W64))
opaque imgPower : List Byte → Option ImgPower
/-- WINDOWS: register words by offset in the CSR block. -/
opaque imgWindows : List Byte → Option (List (Nat × W64))
opaque imgProgram : List Byte → Option (List ImgBlob)
opaque imgFod : List Byte → Option ImgFod
opaque imgUpdate : List Byte → Option (List ImgUpdate)

/-- Moduli of the vendor firmware and service keys by slot, whose digests the boot ROM holds (R437; log entry 42). -/
opaque vendorFwModulus : Nat → Nat
opaque vendorSvcModulus : Nat → Nat

/-- Certificate slot 0: the chain from the vendor root to the device identity certificate (R442; log entry 49). -/
opaque certChain : List Byte

/-- The n-th certificate signing request made (R442; log entry 49). -/
opaque csr : Nat → List Byte

/-- Measurements whose inputs the spec names without their bytes (R443; log entry 49): the boot ROM's; that of a unit's firmware
copy, A or B, as manufactured; index 0x03 from the life-cycle state, the owner key's digest, MODULE.SVN and DEBUG_OPEN; and that
of the whole image before a first load. -/
opaque romDigest : List Byte
opaque fwDigest : Nat → Bool → List Byte
opaque lcDigest : BitVec 3 → List Byte → W64 → BitVec 3 → List Byte
opaque noImageDigest : List Byte

/-- The bytes of a secret from which store keys are derived, by its number (R438; log entry 173). -/
opaque secretBytes : Nat → List Byte

/-- MODULE.SERIAL (R436). -/
opaque serial : W64

end Sys2Proof.Config
end

