-- ==== Sys2Proof/Machine/State.lean ====
section
/-! DEFINITION. Machine/State.lean: every piece of state the spec gives the module, as plain data, and the
state after power-on reset. -/

namespace Sys2Proof.Machine

/-! ## Containers -/

/-- A memory: (address, byte) pairs, addresses strictly rising, and no listed byte equal to 0, which is what an
unlisted address reads as (R114 for a scratchpad, R189 for a bank of HBM that was opened; DESIGN CHOICE 3 elsewhere). -/
abbrev Mem := List Host.Cell

/-- A sparse array of 32-bit elements, in the form of `Mem`. -/
abbrev WMem := List (Nat × W32)

/-- A table of units or records by number: numbers strictly rising; an unlisted number holds its reset value. -/
abbrev Tbl (α : Type) := List (Nat × α)

/-! ## One array site, or one update engine's core -/

/-- The five states of a task slot, in the order of ARRAY.STAT.SLOT_STATE (R26, R46). -/
inductive SlotState where
  | idle | ready | blocked | halted | faulted
  deriving DecidableEq, Repr

/-- What a BLOCKED slot waits for (R26): queue space for its QPUSH or QLOAD, a completion count, or a summary. -/
inductive BlockedOn where
  | nothing
  | queue (word : W32)
  | count (q : BitVec 2) (target : W64)
  | summary (rd : BitVec 5)
  deriving DecidableEq, Repr

/-- A task slot (R25, R26, R46): its registers, its CSRs, and the stop it is in the middle of (R51). -/
structure Slot where
  st : SlotState := .idle
  regs : Vector W64 32 := Vector.replicate 32 0
  /-- The program counter, a byte offset in the home window; CC.TASK_PC shows bits [22:2]. -/
  pc : W64 := 0
  autostart : Bool := false
  homeWin : BitVec 3 := 0
  winMask : BitVec 8 := 1
  faultCode : BitVec 8 := 0
  faultCommand : Bool := false
  faultPc : BitVec 23 := 0
  block : BlockedOn := .nothing
  /-- A STOP waits for the slot's summary-emitting instructions (R51). -/
  stopping : Bool := false
  /-- That stop belongs to a stop of the pan (R209). -/
  stopByPan : Bool := false
  /-- HALTED by a stop of the pan, so that the next RUN restarts it (R209). -/
  panHalted : Bool := false
  /-- VL as the slot's pushes see it (R83). -/
  vl : BitVec 7 := 64
  /-- VL as VX.VL_n shows it, set when a VSETVL completes (R83, R98). -/
  vlDone : BitVec 7 := 64
  /-- Summary entries queued, oldest first (R36, R37). -/
  summaries : List W64 := []
  /-- CC.SQ_QUOTA.SLOT_n (R38). -/
  quota : BitVec 6 := 8
  /-- The instruction line that the control core holds for the slot (R27): its physical address, and up to 64 bytes. -/
  line : Option (Nat × List Byte) := none
  deriving DecidableEq, Repr

/-- How far a queue entry has come (R33, R35): waiting, with its engine, its effect done, counted as complete. -/
inductive Phase where
  | queued | running | drainWait | ran | complete
  deriving DecidableEq, Repr

/-- One entry of a command queue (R32, R33), with what was fixed at its push. -/
structure QEntry where
  id : Nat
  slot : Fin 4
  /-- PC of the pushing QPUSH or QLOAD (R48). -/
  pc : W64 := 0
  bits : BitVec 256
  /-- VL of the pushing slot at the push (R83). -/
  vl : BitVec 7 := 64
  /-- The fused-output descriptor at the push (R67). -/
  fod0 : W64 := 0
  fod1 : W64 := 0
  fod2 : W64 := 0
  /-- The accumulator tile's type at the push: INT32 (R63, R68). -/
  int : Bool := false
  /-- The scale and bias operands of a drain, and whether they have been read, which is when the command reaches the head of its
  queue (R68, DESIGN CHOICE 158). -/
  opsRead : Bool := false
  scaleOps : List W32 := []
  biasOps : List W32 := []
  /-- The MXFP4 operand tiles of an MMA, with their scale blocks, read at an even K-step and held for the odd one (R57). -/
  tileA : List Byte := []
  tileB : List Byte := []
  phase : Phase := .queued
  emits : Bool := false
  /-- The summary the instruction produced, queued for the slot when it completes (R97). -/
  summary : Option W64 := none
  /-- Its summary is discarded when it arrives (R49). -/
  dropSummary : Bool := false
  /-- DMA: the row and the byte within it of the next request (R44). MMA: the K-step that comes next (R64, R75). -/
  row : Nat := 0
  off : Nat := 0
  /-- DMA: requests sent and not yet answered. -/
  waiting : Nat := 0
  /-- DMA: the first non-OK status (R45). -/
  dmaStatus : BitVec 3 := 0
  deriving DecidableEq, Repr

/-- Who holds the reserved space for an answer (R164). -/
inductive ReqOwner where
  | dma (e : Fin 2) (entry : Nat)
  /-- Read of the streamer's descriptor number gen: a block, or none for the reread of the header (R195). -/
  | streamer (gen : Nat) (block : Option Nat)
  | trace (records : Nat)
  | ctrl
  /-- Sent before a reset or reconfiguration of its site: the answer is absorbed and discarded (R406). -/
  | discard
  deriving DecidableEq, Repr

/-- A request of an array that is waiting for its answer (R44, R164). -/
structure Req where
  tag : BitVec 12
  owner : ReqOwner
  ptype : BitVec 6
  addr : Nat
  len : Nat
  /-- Physical scratchpad address that takes the answer's bytes. -/
  dst : Nat
  nomerge : Bool := false
  deriving DecidableEq, Repr

/-- A DMA engine's registers (R46). -/
structure DmaEng where
  errFault : Bool := true
  status : BitVec 3 := 0
  reject : BitVec 3 := 0
  tag : BitVec 8 := 0
  indexSkips : W32 := 0
  deriving DecidableEq, Repr

/-- A pair ARRAY.HBM_BASE_n / HBM_BOUND_n (R46); host ports and update engines hold the same pair. -/
structure HbmRange where
  enable : Bool := false
  writeEn : Bool := false
  base : BitVec 28 := 0
  bound : BitVec 28 := 0
  deriving DecidableEq, Repr

/-- A scratchpad window (R110, R116). -/
structure Window where
  enable : Bool := false
  resident : Bool := false
  remoteEn : Bool := false
  base : BitVec 11 := 0
  bound : BitVec 12 := 0
  deriving DecidableEq, Repr

/-- The scratchpad and its SPW block (R100–R116). -/
structure Spad where
  mem : Mem := []
  /-- Bank words that hold an uncorrectable error (R108, R109): word numbers, strictly rising. -/
  badWords : List Nat := []
  /-- Bank words that hold a single-bit error (R109), in the same form. -/
  softWords : List Nat := []
  win : Vector Window 8 := (Vector.replicate 8 {}).set 0 { enable := true, bound := 0x800 }
  age : BitVec 8 := 32
  writeRefused : Bool := false
  clearing : Bool := false
  retained : Bool := false
  corrected : BitVec 16 := 0
  ue : Bool := false
  ueAddr : BitVec 23 := 0
  conflict : W32 := 0
  agePromote : W32 := 0
  deriving DecidableEq, Repr

/-- One fused-output descriptor, three words (R67, R79). -/
structure Fod where
  w0 : W64 := 0xfff00000
  w1 : W64 := 0
  w2 : W64 := 0
  deriving DecidableEq, Repr

/-- One entry of MX.AMAX (R79). -/
structure Amax where
  value : W32 := 0
  nan : Bool := false
  deriving DecidableEq, Repr

/-- The matrix engine (R53–R79). -/
structure Mx where
  accMode : Bool := false
  ieeeOvfAllow : Bool := false
  intSat : Bool := false
  nan : Bool := false
  inf : Bool := false
  sat : Bool := false
  intWrap : Bool := false
  curAcc : BitVec 6 := 0
  /-- MX.ACC_TYPE as pushes leave it: bit t set for an INT32 tile (R63). -/
  accType : W64 := 0
  amax : Vector Amax 8 := Vector.replicate 8 {}
  fod : Vector Fod 32 := Vector.replicate 32 {}
  /-- Accumulator memory: element (r, c) of tile t at 4,096 t + 64 r + c (R60). -/
  acc : WMem := []
  /-- The two activation tables, 528 words each, at 1,024 i (R69). -/
  tables : WMem := []
  deriving DecidableEq, Repr

/-- The vector engine (R80–R98). -/
structure Vx where
  /-- Lane l of V[v] at 64 v + l. -/
  v : WMem := []
  /-- Element (r, c) of T[t] at 4,096 t + 64 r + c. -/
  t : WMem := []
  p : Vector W64 8 := Vector.replicate 8 0
  ieeeOvfAllow : Bool := false
  vstat : BitVec 8 := 0
  permCount : W32 := 0
  deriving DecidableEq, Repr

/-- The two noise generators (R130, R131). R130 gives each array's island a noise source and names none for an update engine: DESIGN
CHOICE 157, an engine has generators of its own, which nothing seeds. -/
structure Noise where
  s0 : BitVec 128 := 0
  s1 : BitVec 128 := 0
  autoOff : Bool := false
  healthFail : Bool := false
  deriving DecidableEq, Repr

/-- The tempo registers (R226), and the entries that the slots had pushed before their END writes (R205). -/
structure Tempo where
  current : W32 := 0
  arrived : BitVec 4 := 0
  forced : Bool := false
  slots : BitVec 4 := 0
  period : W32 := 0
  target : W32 := 0
  armed : Bool := false
  valid : Bool := false
  atBoundary : Bool := false
  /-- Identities of the queue entries that the ended slots pushed before their END writes. -/
  waitIds : List Nat := []
  deriving DecidableEq, Repr

/-- A packet in a router's input buffer: the outputs it has still to leave by, once routed (R150, R160).
An output copy carries the packet as it will leave. -/
structure BufPkt where
  pkt : Packet
  routed : Bool := false
  copies : List (RPort × Packet) := []
  /-- It has been ready at the head for AGE cycles (R162): its place in the order in which heads came to that age, from
  1; 0 for a packet that has not. -/
  aged : Nat := 0
  /-- It has a place in the combine stage of its output (R156). -/
  staged : Bool := false
  /-- It waits for a partner for COMBINE_HOLD cycles (R156). -/
  hold : Bool := false
  /-- The router made it in place of another packet (R152, R161), so that it holds no credit of the input's sender. -/
  made : Bool := false
  deriving DecidableEq, Repr

/-- Arbitration state of one output (R162). -/
structure OutState where
  deficit : Vector Nat 4 := Vector.replicate 4 0
  /-- Round pointer: a class index in the order sluice, control, reduce, bulk. -/
  pointer : Fin 4 := 0
  /-- The pointer has arrived at its class and the class's weight is not added yet. -/
  arrived : Bool := true
  /-- Last input queue granted, per class: 2 × place of the input in the order of R162 + lane. -/
  last : Vector Nat 4 := Vector.replicate 4 13
  deriving DecidableEq, Repr

/-- A detour entry RT.DETOUR_n (R168), as its register word. -/
abbrev Detour := BitVec 53

/-- A router (R139–R168). -/
structure Router where
  state : BitVec 2 := 2
  combineEn : Bool := true
  combineHold : BitVec 8 := 0
  wSluice : BitVec 4 := 8
  wControl : BitVec 4 := 2
  wReduce : BitVec 4 := 8
  wBulk : BitVec 4 := 6
  age : BitVec 16 := 4096
  /-- LIVENESS_LOST for N, E, S, W (bits 0–3). -/
  liveLost : BitVec 4 := 0
  /-- The liveness check is on for N, E, S, W (R52, R397). -/
  liveOn : BitVec 4 := 0xf
  /-- LIVENESS flits from N, E, S, W that have arrived and are not consumed yet (R52). -/
  liveIn : BitVec 4 := 0
  /-- Ports closed by the park, fence and power procedures (bits 0–3), beside what R152 derives. -/
  closed : BitVec 4 := 0
  /-- Written mask of RT.PLAN_ACTIVE.PLANS (R168), bits 15:1. -/
  planWritten : BitVec 16 := 0
  /-- Park and patch counts per plan bit (R398, R423). -/
  planCount : Vector Nat 16 := Vector.replicate 16 0
  combined : W32 := 0
  unrolls : W32 := 0
  agePromote : W32 := 0
  dropSluice : BitVec 16 := 0
  dropReduce : BitVec 16 := 0
  dropConverted : BitVec 16 := 0
  corrected : BitVec 16 := 0
  ue : Bool := false
  detour : Tbl Detour := []
  /-- RT.SMAP bytes by index (96 w + y) × 4 + s. -/
  smap : Mem := []
  /-- Input buffers, by 8 × port + 2 × class + lane. -/
  inbuf : Tbl (List BufPkt) := []
  outs : Tbl OutState := []
  /-- Credits taken from the downstream buffer, by 8 × output + 2 × class + lane (R149). -/
  used : Tbl Nat := []
  /-- Flits freed in this router's input buffers whose credits have not gone back yet, by the same index. -/
  owed : Tbl Nat := []
  /-- Packets that the endpoint of the local, edge or service port sends when it has credit for them, oldest first, by the same
  index (R149). -/
  waits : Tbl (List Packet) := []
  /-- Of site column 25s + 23 at a horizontal seam: the last packet over the seam link left from the spare column (R144). -/
  spareLast : Bool := false
  deriving DecidableEq, Repr

/-- One weight stream descriptor of a kick (R191–R194). -/
structure WsDesc where
  w0 : W64
  w1 : W64
  w2 : W64
  w3 : W64
  deriving DecidableEq, Repr

/-- The phase of the streamer's running descriptor (R195). -/
inductive WsPhase where
  | block0 | retryWait | body | reread | finished (status : BitVec 3)
  deriving DecidableEq, Repr

/-- The weight streamer (R191–R198). -/
structure Ws where
  staleStop : Bool := true
  retryDelay : BitVec 16 := 4096
  status : BitVec 3 := 0
  reject : BitVec 3 := 0
  tag : BitVec 8 := 0
  refetches : BitVec 16 := 0
  done : W32 := 0
  /-- Kicks queued, each its remaining descriptors; the first may be running. -/
  kicks : List (List WsDesc) := []
  phase : Option WsPhase := none
  /-- The header has been refetched once. -/
  retried : Bool := false
  /-- Next block of the running descriptor to read, and its blocks still outstanding. -/
  next : Nat := 0
  waiting : Nat := 0
  /-- Number of the running descriptor, so that a late answer to an earlier one is told apart. -/
  gen : Nat := 0
  deriving DecidableEq, Repr

/-- The clock island and power domain (R389–R401). -/
structure Isl where
  freq : BitVec 12 := 1000
  voff : BitVec 6 := 0
  freqNow : BitVec 12 := 1000
  millivolt : BitVec 12 := 650
  /-- ISL.STAT.STATE: 0 off, 1 on, … (R401). -/
  state : BitVec 3 := 1
  coupled : BitVec 4 := 0xf
  locked : Bool := false
  capped : Bool := false
  celsius : BitVec 8 := 0
  maxC : BitVec 8 := 0
  throttle : Bool := false
  /-- The thermal cap of R396, in units of 1/20 MHz. -/
  tcap : Nat := 20000
  /-- Samples in succession above 100 °C (R395). -/
  hot : Nat := 0
  deriving DecidableEq, Repr

/-- A trace record (R458). -/
structure TraceRec where
  ty : BitVec 8
  slot : BitVec 8
  seq : BitVec 16
  cycle : W64
  payload : BitVec 128
  deriving DecidableEq, Repr

/-- The trace and debug block (R458–R465). -/
structure Trc where
  enable : Bool := false
  mode : Bool := false
  src : BitVec 5 := 0
  base : BitVec 48 := 0
  bound : BitVec 48 := 0
  next : BitVec 48 := 0
  wrapped : Bool := false
  dropped : W32 := 0
  full : Bool := false
  /-- TRC.CYCLE when it was last looked at; it grows by a free amount before each look (R457). -/
  cycle : W64 := 0
  tile : BitVec 6 := 0
  row : BitVec 6 := 0
  pair : BitVec 5 := 0
  denied : Bool := false
  fifo : List TraceRec := []
  seq : BitVec 16 := 0
  /-- Records dropped since the last LOST record. -/
  lost : W32 := 0
  deriving DecidableEq, Repr

/-- A REDUCE_GRANT register CC.RGRANT_n (R251). -/
structure RGrant where
  job : BitVec 12 := 0
  pc : BitVec 3 := 0
  en : Bool := false
  granted : W32 := 0
  deriving DecidableEq, Repr

/-- What is special to an update engine (R252, R272). -/
structure UeRegs where
  entry : BitVec 12 := 0
  shard : BitVec 4 := 0
  active : Bool := false
  /-- The engine has written UE.RELEASE for its task, with this code. -/
  released : Option (BitVec 8) := none
  barrier : BitVec 16 := 0
  xchg : Vector W64 8 := Vector.replicate 8 0
  deriving DecidableEq, Repr

/-- One array site, or the core of one update engine, with every part it holds. -/
structure Site where
  /-- ARRAY.MAP (R46). -/
  lcol : BitVec 7 := 0
  lrow : BitVec 7 := 0
  mapValid : Bool := false
  faultStop : Bool := true
  wdog : BitVec 8 := 26
  fenced : Bool := false
  parked : Bool := false
  pending : BitVec 16 := 0
  firstCode : BitVec 8 := 0
  firstSlot : BitVec 2 := 0
  hbm : Vector HbmRange 8 := Vector.replicate 8 {}
  slots : Vector Slot 4 := Vector.replicate 4 {}
  /-- The slot that issued last (R26). DESIGN CHOICE 146: 3 at reset, so that slot 0 has the first turn. -/
  lastIssued : Fin 4 := 3
  queues : Vector (List QEntry) 4 := Vector.replicate 4 []
  qdone : Vector W32 4 := Vector.replicate 4 0
  nextId : Nat := 0
  dma : Vector DmaEng 2 := Vector.replicate 2 {}
  reqs : List Req := []
  nextTag : BitVec 12 := 0
  /-- An uncorrectable word has been carried out of the unit, which the fault path hears of once the packet has left (R109,
  DESIGN CHOICE 159). -/
  sramLate : Bool := false
  spad : Spad := {}
  mx : Mx := {}
  vx : Vx := {}
  noise : Noise := {}
  tempo : Tempo := {}
  rt : Router := {}
  ws : Ws := {}
  isl : Isl := {}
  trc : Trc := {}
  rgrant : Vector RGrant 8 := Vector.replicate 8 {}
  rgrantMiss : BitVec 16 := 0
  ue : UeRegs := {}
  /-- Packets delivered to the local port whose arrival commands have not run yet. -/
  arrived : List Packet := []
  /-- CTRL_MSGs accepted and not yet acted on (R165). -/
  ctrlInbox : List Packet := []
  deriving DecidableEq, Repr

/-- The reset value of the site or update engine with key k (R5, R20, R46). -/
def Site.reset (k : Nat) : Site :=
  if k < 65536 then
    let x := k % 128
    if x % 25 = 24 then
      { lrow := BitVec.ofNat 7 (k / 128 % 128), rt := { state := 1 } }
    else
      { lcol := BitVec.ofNat 7 (24 * (x / 25) + x % 25), lrow := BitVec.ofNat 7 (k / 128 % 128), mapValid := true }
  else
    -- An update engine: slot 0 holds the whole summary queue, and no window reaches past 2 MiB (R252).
    { slots := Vector.ofFn (fun n => { quota := if n = 0 then 32 else 0 })
      spad := { win := (Vector.replicate 8 {}).set 0 { enable := true, bound := 0x200 } } }

/-! ## HBM stacks -/

/-- The power state of a bank, in the order of HBM.PWR_STAT (R186, R199). -/
inductive BankState where
  | on | retain | off | draining | opening
  deriving DecidableEq, Repr

/-- One member of a merge entry (R158): the sender's position and port, its TAG, and the bytes of the block that it asked for. -/
structure Member where
  row : Nat
  col : Nat
  port : BitVec 2
  tag : BitVec 12
  off : Nat
  len : Nat
  deriving DecidableEq, Repr

/-- A merge entry for one 512-byte block, or the reads that wait for the next entry of their block (R158). -/
structure MergeEntry where
  block : Nat
  members : List Member
  deriving DecidableEq, Repr

/-- An access of a stack controller that waits for its device access (R174). -/
inductive StackJob where
  | read (req : Packet)
  | merged (block : Nat) (members : List Member)
  | write (req : Packet)
  /-- A dirty cache line of a draining bank to be written back (R187). -/
  | writeback (line : Nat)
  deriving DecidableEq, Repr

/-- A line of the shared cache (R180): 64 bytes of the stack. -/
structure CacheLine where
  line : Nat
  bytes : List Byte
  dirty : Bool := false
  poison : Bool := false
  deriving DecidableEq, Repr

/-- A pair HBM.CACHE_BASE_n / CACHE_BOUND_n (R180, R199). -/
structure CacheRange where
  enable : Bool := false
  base : BitVec 17 := 0
  bound : BitVec 18 := 0
  deriving DecidableEq, Repr

/-- One HBM stack and its controller (R170–R199). -/
structure Stack where
  mem : Mem := []
  /-- Poisoned 64-byte lines of the device (R177): line numbers, strictly rising. -/
  poisonLines : List Nat := []
  window : BitVec 11 := 256
  joined : W32 := 0
  entries : List MergeEntry := []
  /-- Reads that wait for the next entry of their block (R158). -/
  waiting : List Packet := []
  jobs : List StackJob := []
  /-- Cache lines, least recently used first. -/
  cache : List CacheLine := []
  celsius : BitVec 8 := 0
  band : BitVec 3 := 4
  samples : BitVec 5 := 0
  throttle : Bool := false
  floor : BitVec 3 := 0
  hyst : BitVec 4 := 2
  banks : Vector BankState 8 := Vector.replicate 8 .on
  stackState : BitVec 2 := 0
  refused : Bool := false
  lost : BitVec 16 := 0
  /-- The target of each DRAINING bank, and the latest request held for each bank until its transition ends (R187, R189). -/
  drainTo : Vector BankState 8 := Vector.replicate 8 .on
  held : Vector (Option BankState) 8 := Vector.replicate 8 none
  /-- Consecutive samples at least HYST below the bound of the band, and above 105 °C (R183, R185). -/
  lowCount : Nat := 0
  hotCount : Nat := 0
  /-- The domain has been switched on and the stack initialises (R190). -/
  initing : Bool := false
  cacheRange : Vector CacheRange 8 := Vector.replicate 8 {}
  atomicNan : Bool := false
  atomicInf : Bool := false
  atomicCount : W32 := 0
  corrected : BitVec 16 := 0
  ue : Bool := false
  ueAddr : BitVec 31 := 0
  unpop : BitVec 8 := 0
  /-- Taken off line for heat (R185), which holds the next ON to the temperature of R190. -/
  thermalOff : Bool := false
  fenced : Bool := false
  arrived : List Packet := []
  ctrlInbox : List Packet := []
  deriving DecidableEq, Repr

/-! ## Module-wide records -/

/-- An event record (R417). DETAIL holds the values that R418 lists for the code, in its order: the spec gives
no byte layout for them. -/
structure Event where
  code : BitVec 16
  severity : BitVec 8
  path : BitVec 8
  kind : BitVec 4
  index : BitVec 28
  seq : W64
  time : W64
  detail : List Nat := []
  deriving DecidableEq, Repr

/-- The RMC's answers to SPDM requests, with the contents that R442 and R443 give; their encoding is that of the DMTF's own
specification. Signatures and certificates of the device's own key are free values. -/
inductive SpdmAnswer where
  | version (versions : List Nat)
  | capabilities
  /-- TPM_ALG_RSAPSS_4096, TPM_ALG_SHA_512, FFDHE4096 and AES-256-GCM. -/
  | algorithms
  | digests (slots : List (Nat × List Byte))
  | certificate (slot : Nat) (bytes : List Byte)
  | challengeAuth (slot : Nat) (signature : List Byte)
  | csr (bytes : List Byte)
  | setCertificate
  | measurements (list : List (Nat × List Byte)) (signature : List Byte)
  | keyExchange (session : Nat) (signature : List Byte)
  | finish (session : Nat)
  | endSession (session : Nat)
  | heartbeat (session : Nat)
  | keyUpdate (session : Nat)
  | ideKm (port : Fin 4) (op : BitVec 2)
  | unexpectedRequest
  | versionMismatch
  | invalidRequest
  | sessionRequired
  deriving DecidableEq, Repr

/-- The RMC's answers to PLDM requests (R454). -/
inductive PldmAnswer where
  /-- Type 0: the PLDM types that the RMC implements. -/
  | types (list : List Nat)
  | sensor (counter : Nat) (unit : Option Nat) (value : W64) (saturated : Bool)
  /-- A domain's state: 0 off, 1 on, 2 retained, 3 gated, 4 fenced, 5 fenced and powered for scan or a re-test (R420, R464); or, for no
  unit, the life-cycle state. -/
  | state (unit : Option UnitId) (value : Nat)
  | event (ev : Option Event)
  /-- A record of the flash event log. -/
  | log (ev : Option Event)
  /-- The PDR repository, by the IMAGE_ID of the whole image at whose load it was rebuilt. -/
  | repository (image : W64)
  | firmware (unit : Nat) (verified : Bool)
  | unsupported
  deriving DecidableEq, Repr

/-- What the module sends to the world outside: newest first in `State.out`. -/
inductive Output where
  | hostWrite (port : Fin 4) (addr : W64) (bytes : List Byte)
  | hostRead (port : Fin 4) (tag : Nat) (addr : W64) (len : Nat)
  /-- The answer to a host's read: the bytes, or Unsupported Request. -/
  | hostAnswer (port : Fin 4) (bytes : Option (List Byte))
  /-- An MSI-X interrupt: its vector. -/
  | msix (port : Fin 4) (vector : BitVec 11)
  /-- The 64 bytes of an event's record (R357, R417). -/
  | eventRecord (port : Fin 4) (addr : W64) (bytes : List Byte)
  /-- The answer to a configuration read: a value, or Request Retry Status (R388). -/
  | configAnswer (port : Fin 4) (value : Option W64)
  /-- A flit sent by a fabric port. -/
  | flit (port : Fin 96) (bytes : List Byte)
  /-- What a read of a register answers its reader outside the arrays. -/
  | regRead (addr : Nat) (value : W64)
  /-- The RMC's answer to an SPDM or IDE_KM request (R442). -/
  | spdm (path : MgmtPath) (answer : SpdmAnswer)
  /-- The data object types of a DOE mailbox (R358): 0 DOE discovery, 1 SPDM, 2 secured SPDM, 3 IDE_KM. -/
  | doe (port : Fin 4) (types : List Nat)
  /-- The RMC's answer to a PLDM request (R454). -/
  | pldm (path : MgmtPath) (answer : PldmAnswer)
  deriving DecidableEq, Repr

/-! ### Port complexes: reduction (R229–R251) -/

/-- The trailer of a reduction packet (R241), or of what one chunk holds. -/
structure RedTrailer where
  nf : BitVec 4 := 0
  abort : Bool := false
  checkFail : Bool := false
  /-- FIRST_MEMBER and FIRST_ELEMENT, when FIRST_VALID is 1. -/
  first : Option (Nat × Nat) := none
  contrib : Nat := 0
  squashed : Nat := 0
  deriving DecidableEq, Repr

/-- One chunk of the pass in progress (R238, R239). Its bytes stand in the combining buffer. -/
structure Chunk where
  counts : Vector Nat 8 := Vector.replicate 8 0
  /-- Levels of the children whose UP packet has been added, or placed. -/
  kids : List Nat := []
  trailer : RedTrailer := {}
  /-- Its in-module part was completed, and of a sampled chunk the copies were made (R246). -/
  collected : Bool := false
  /-- Completed as it stands by the shortfall timer (R248). -/
  forced : Bool := false
  /-- Sent to the parent; at the root, the result formed. -/
  sentUp : Bool := false
  /-- The result written to staging and sent downward. -/
  done : Bool := false
  /-- Of a sampled chunk: the primary and the shadow result, and that they were compared (R247). -/
  primary : Option (List Byte × RedTrailer) := none
  shadow : Option (List Byte × RedTrailer) := none
  compared : Bool := false
  /-- Trailers of the check entries, by level; 0 the in-module part (R246). -/
  entries : List (Nat × RedTrailer) := []
  deriving DecidableEq, Repr

/-- An array of a job's grant list (R236): its mesh position, grants still to send, and the one in flight. -/
structure Grant where
  row : Nat
  col : Nat
  owed : Nat := 0
  /-- TAG of the grant sent and not yet acknowledged. -/
  sent : Option (BitVec 12) := none
  /-- The array's inbox answered BUSY: the grant is sent again 1 µs later. -/
  busy : Bool := false
  deriving DecidableEq, Repr

/-- The states of a reduction job (R233). -/
inductive JobState where
  | closed | opened | running | held | aborted
  deriving DecidableEq, Repr

/-- A job table entry (R233), with the pass in progress. -/
structure Job where
  /-- Words 0 to 5 as written, their read-only fields apart. -/
  w : Vector W64 6 := #v[0x190, 0, 0, 0, 0, 0]
  st : JobState := .closed
  pass : W32 := 0
  round : BitVec 16 := 0
  nonfinite : Bool := false
  checkFail : Bool := false
  first : Option (Nat × Nat) := none
  squashed : BitVec 16 := 0
  /-- Module addresses of the parent and the children, by member (R234). -/
  peers : List (Nat × W32) := []
  grants : List Grant := []
  chunks : List Chunk := []
  /-- The merged trailer of the pass's result chunks. -/
  passTrailer : RedTrailer := {}
  /-- Pass records written in this round. -/
  recorded : Bool := false
  /-- UE_TASKS_QUEUED has been run for this HELD or ABORTED round, and the entries not released yet (R257). -/
  tasked : Bool := false
  awaiting : List Nat := []
  /-- Rounds completed since OPEN, and by level the consecutive rounds in which the child was late (R309). -/
  rounds : Nat := 0
  late : Tbl Nat := []
  deriving DecidableEq, Repr

/-- A job of the shadow partner (R245): its tree parameters, and the sampled chunk it is on. -/
structure ShadowJob where
  w : Vector W64 6 := Vector.replicate 6 0
  peers : List (Nat × W32) := []
  round : BitVec 16 := 0
  pass : W32 := 0
  chunk : Nat := 0
  entries : List (Nat × RedTrailer) := []
  deriving DecidableEq, Repr

/-- A sampled chunk on its way between a port complex and its shadow partner (R246, R247). -/
structure RedCopy where
  job : Nat
  /-- From the primary to the shadow partner; false for a result on its way back. -/
  outward : Bool
  round : BitVec 16
  pass : W32
  chunk : Nat
  data : List Byte
  trailer : RedTrailer
  deriving DecidableEq, Repr

/-- The reduction part of a port complex (R250). -/
structure Red where
  enable : Bool := false
  shortfallUs : BitVec 16 := 2000
  result : BitVec 3 := 0
  cmdJob : BitVec 12 := 0
  nonfinite : Bool := false
  checkMismatch : Bool := false
  shortfall : Bool := false
  firstJob : BitVec 12 := 0
  discMesh : BitVec 16 := 0
  discExcess : BitVec 16 := 0
  discFabric : BitVec 16 := 0
  checks : W32 := 0
  passes : W32 := 0
  jobs : Tbl Job := []
  /-- The combining buffer: byte 512 u + i of unit u. -/
  buf : Mem := []
  shadows : Tbl ShadowJob := []
  copies : List RedCopy := []
  deriving DecidableEq, Repr

/-! ### Port complexes: update engines (R252–R272) -/

/-- A task of the update engines (R257, R260), with the registers' values that its creation fixed. -/
structure Task where
  entry : Nat
  nf : Bool
  abort : Bool
  checkFail : Bool
  frozen : Bool
  lr : W32
  wd : W32
  user : W32
  staging : W64
  touched : W64
  deriving DecidableEq, Repr

/-- A layer entry (R255): its words 0 to 11 as written, and its state. -/
structure LayerEntry where
  w : Vector W64 12 := Vector.replicate 12 0
  /-- 0 IDLE, 1 QUEUED, 2 RUNNING, 3 FAULTED. -/
  st : BitVec 3 := 0
  lastCode : BitVec 3 := 0
  /-- The task that runs or has faulted is of a round that CLOSE or ABORT ended: its release has no effect on the job (R264). -/
  orphan : Bool := false
  deriving DecidableEq, Repr

/-- The update-engine registers of a port complex (R271). -/
structure UeCtl where
  enable : Bool := false
  engines : BitVec 16 := 0xffff
  entryRefused : Bool := false
  releaseIgnored : Bool := false
  schedEmpty : Bool := false
  noEntry : Bool := false
  schedBase : BitVec 48 := 0
  faultValid : Bool := false
  faultReason : BitVec 2 := 0
  faultEntry : BitVec 12 := 0
  faultShard : BitVec 4 := 0
  faultCode : BitVec 8 := 0
  tasks : W32 := 0
  skips : BitVec 16 := 0
  noTouch : BitVec 16 := 0
  freeze : Vector W64 16 := Vector.replicate 16 0
  layers : Tbl LayerEntry := []
  /-- Tasks queued, oldest first. -/
  queue : List Task := []
  deriving DecidableEq, Repr

/-! ### Activation codec units (R215–R228) -/

/-- A block being assembled or complete in staging (R217). -/
structure AcuBlock where
  set : Nat
  index : Nat
  block : Nat
  row : Nat
  col : Nat
  data : Mem := []
  /-- Lines written since the assembly began. -/
  lines : W64 := 0
  /-- Its record, once the block is complete, and whether it goes to the fallback region. -/
  record : List Byte := []
  complete : Bool := false
  fallback : Bool := false
  /-- The record's address (R219), fixed when the block is complete. -/
  dest : Nat := 0
  deriving DecidableEq, Repr

/-- The run of one set and array (R218). -/
structure AcuRun where
  /-- The location map's bit: the fallback region. -/
  fallback : Bool := false
  /-- Block 0 has been complete since the run began. -/
  block0Done : Bool := false
  /-- The host port was reset after the run began (R222 reason 4). -/
  lost : Bool := false
  deriving DecidableEq, Repr

/-- A block in the decode buffer (R221), with the 512-byte pieces of it that have been read. -/
structure AcuDecoded where
  set : Nat
  index : Nat
  block : Nat
  data : List Byte
  pieces : BitVec 8 := 0
  deriving DecidableEq, Repr

/-- An activation codec unit (R227). Tables by set, index and block use the number (set × 65,536 + index) × 256 + block;
runs use set × 65,536 + index. -/
structure Acu where
  enable : Bool := false
  fbEn : Bool := true
  fbForce : Bool := false
  fbHi : BitVec 6 := 16
  corrupt : Bool := false
  setRefused : Bool := false
  firstSet : BitVec 8 := 0
  firstRow : BitVec 8 := 0
  firstCol : BitVec 8 := 0
  firstBlock : BitVec 8 := 0
  reason : BitVec 3 := 0
  fbRuns : BitVec 16 := 0
  corrupts : BitVec 16 := 0
  refetch : W32 := 0
  sets : Tbl (Vector W64 4) := []
  staging : List AcuBlock := []
  runs : Tbl AcuRun := []
  /-- Decoded blocks, least recently used first. -/
  decoded : List AcuDecoded := []
  /-- Blocks whose record has been fetched before. -/
  fetched : List Nat := []
  /-- The payload last packed for a block, and what it stands for (R219, PACK). -/
  packed : Tbl (List Byte × List Byte) := []
  /-- Reads that wait for a record, oldest first. -/
  waiting : List Packet := []
  deriving DecidableEq, Repr

/-! ### Port complexes: dispatch engine and windows (R273–R313) -/

/-- A window's state (R294). -/
inductive WinState where
  | closed | opened | closing
  deriving DecidableEq, Repr

structure Win where
  st : WinState := .closed
  epoch : W32 := 0
  base : BitVec 48 := 0
  size : BitVec 40 := 0
  refused : BitVec 16 := 0
  committed : BitVec 16 := 0
  deriving DecidableEq, Repr

/-- A send channel (R313): words 0 to 3, and the counters of word 4. -/
structure Chan where
  w : Vector W64 4 := Vector.replicate 4 0
  closed : BitVec 16 := 0
  range : BitVec 16 := 0
  deriving DecidableEq, Repr

/-- A request of a dispatch engine that waits for its answer (R285, R293). -/
structure FabReq where
  tag : BitVec 16
  ty : BitVec 8
  /-- Of a WWRITE: the channel, and the array's mesh WRITE that its WACK answers (R297). -/
  chan : Nat := 0
  mesh : Option Packet := none
  deriving DecidableEq, Repr

/-- Segments packed for one destination of a layer and not sent yet (R299): their bytes and their number. -/
structure SegPack where
  dst : W32
  bytes : List Byte := []
  count : Nat := 0
  deriving DecidableEq, Repr

/-- A dispatch layer at the origin (R303). -/
structure OriginLayer where
  cur : W32 := 0
  counts : Tbl Nat := []
  ends : Nat := 0
  sent : W32 := 0
  dropped : W32 := 0
  returned : W32 := 0
  packs : List SegPack := []
  /-- Lines of each slot's choice combined so far, by slot × 4 + choice. -/
  combining : Tbl Nat := []
  deriving DecidableEq, Repr

/-- A dispatch layer at the home (R304). -/
structure HomeLayer where
  cur : W32 := 0
  ended : Nat := 0
  /-- Tokens placed, by expert × 65,536 + source. -/
  counts : Tbl Nat := []
  deriving DecidableEq, Repr

/-- The buffer space that a packet in the module still holds (R278, R282): none, for a packet made in its own port complex; that of its
class × 2 + lane at the port that received it, in the link session it came in; or that of the crossbar at the port complex it has
crossed to. -/
inductive FabHold where
  | free
  | port (n cl session : Nat)
  | xbar (cl : Nat)
  deriving DecidableEq, Repr

/-- A packet that waits at an output: of a port, or of the transit crossbar, which it leaves for a port or, with none, for the port
complex it has come to. -/
structure TxPkt where
  pkt : FabPkt
  cls : Nat
  lane : Nat
  hold : FabHold := .free
  to_ : Option Nat := none
  deriving DecidableEq, Repr

/-- An output of a port or of the transit crossbar (R279): what waits for it, its arbitration, and by class × 2 + lane the flit cycles
that the head has been ready. -/
structure FabOut where
  queue : List TxPkt := []
  arb : OutState := {}
  waited : Vector Nat 8 := Vector.replicate 8 0
  deriving DecidableEq, Repr

/-- A module-fabric packet delivered to a port complex and not acted on, with the buffer space it keeps (R240, R278). -/
structure FabIn where
  pkt : FabPkt
  hold : FabHold := .free
  deriving DecidableEq, Repr

/-- The dispatch engine of a port complex (R312). -/
structure Disp where
  weights : BitVec 16 := 0x6828
  age : BitVec 16 := 4096
  hb : BitVec 8 := 10
  stragPct : BitVec 8 := 10
  stragRounds : BitVec 4 := 8
  answer : BitVec 12 := 100
  /-- FAB.STRAG (R309). -/
  strag : W64 := 0
  enable : Bool := false
  layerBase : BitVec 48 := 0
  stale : BitVec 16 := 0
  dropped : BitVec 16 := 0
  bad : BitVec 16 := 0
  discard : BitVec 16 := 0
  winRefused : Bool := false
  wins : Tbl Win := []
  chans : Tbl Chan := []
  origin : Tbl OriginLayer := []
  home : Tbl HomeLayer := []
  /-- Packets of route lines that are partly handled, with the lines handled (R298). -/
  routing : List (Packet × Nat) := []
  reqs : List FabReq := []
  nextTag : BitVec 16 := 0
  inbox : List FabIn := []
  /-- The control inbox of the module fabric, 16 entries (R165, R285). -/
  ctrl : List FabPkt := []
  /-- The transit crossbar's output to this engine, and the flits of its buffer here that are taken, by class × 2 + lane (R282). -/
  xout : FabOut := {}
  xused : Vector Nat 8 := Vector.replicate 8 0
  deriving DecidableEq, Repr

/-- One port complex (R229–R313). -/
structure Pc where
  arrived : List Packet := []
  ctrlInbox : List Packet := []
  /-- TAGs of its CTRL_MSGs that wait for a CTRL_ACK, at most 8 (R164). -/
  ctrlOut : List (BitVec 12) := []
  red : Red := {}
  ue : UeCtl := {}
  acu : Acu := {}
  disp : Disp := {}
  fenced : Bool := false
  /-- Its domain is switched off (R386). -/
  off : Bool := false
  deriving DecidableEq, Repr

/-! ### Fabric ports (R273–R281, R312) -/

/-- FAB.PORT_k.STATE. -/
inductive PortState where
  | down | training | up | disabled
  deriving DecidableEq, Repr

/-- The optical module of a cage (R432): none, one that is powered, or one that stays unpowered because it advertises no supported PHY or
exceeds the cage's power class. -/
inductive Optics where
  | absent | powered | refused
  deriving DecidableEq, Repr

/-- A flit as the replay buffer keeps it: everything but ACK, NAK and the credit fields (R276, R277). -/
structure TxFlit where
  seq : BitVec 16
  cls : Nat
  lane : Nat
  sop : Bool
  eop : Bool
  fill : BitVec 8
  payload : List Byte
  deriving DecidableEq, Repr

/-- A packet received whole, which keeps its flits' buffer space until it is taken (R278). -/
structure RxPkt where
  pkt : FabPkt
  cls : Nat
  lane : Nat
  flits : Nat
  session : Nat := 0
  deriving DecidableEq, Repr

structure Port where
  enable : Bool := true
  /-- The optical module in its cage (R432, R471). DESIGN CHOICE 172: at reset no module has been read. -/
  optics : Optics := .absent
  st : PortState := .down
  peerPort : BitVec 7 := 0
  peer : W32 := 0
  replays : BitVec 16 := 0
  /-- The SEQ expected next, and that a NAK has been sent for it. -/
  rxSeq : BitVec 16 := 0
  nakSent : Bool := false
  txSeq : BitVec 16 := 0
  /-- Flits sent and not acknowledged, oldest first, and resend rounds without progress. -/
  replay : List TxFlit := []
  rounds : Nat := 0
  /-- Packets that wait for credit, replay space or arbitration (R277–R279). -/
  out : FabOut := {}
  /-- LINKCTL exchanges so far: each restores every credit, and space held since before it is no longer counted (R407). -/
  session : Nat := 0
  /-- By class × 2 + lane: flits sent, the peer's running total, our own running total (R276). -/
  sent : Vector (BitVec 12) 8 := Vector.replicate 8 0
  peerFreed : Vector (BitVec 12) 8 := Vector.replicate 8 0
  freed : Vector (BitVec 12) 8 := Vector.replicate 8 0
  crNext : Fin 8 := 0
  /-- The packet partly received, by class × 2 + lane. -/
  partly : Vector (List Byte) 8 := Vector.replicate 8 []
  rx : List RxPkt := []
  deriving DecidableEq, Repr

/-- The module's fabric globals (R311). -/
structure FabGlobals where
  addr : BitVec 14 := 0
  status : BitVec 2 := 0
  bad : BitVec 9 := 0
  fence : Vector (BitVec 33) 16 := Vector.replicate 16 0
  /-- MODULE.FWD_MOD_j and FWD_GRP_g, pending copy and active table. -/
  modPending : Tbl (BitVec 15) := []
  grpPending : Tbl (BitVec 28) := []
  modActive : Tbl (BitVec 15) := []
  grpActive : Tbl (BitVec 28) := []
  deriving DecidableEq, Repr

/-! ### The context store (R314–R339) -/

/-- A stored page: its header's fields, its payload, the block of NAND that holds it, and whether it reads as POISON until
it is rewritten or trimmed (R319, R326, R338). -/
structure StorePage where
  ns : Nat
  fmt : Byte
  tokens : BitVec 16
  sequence : W32
  block : W32
  layer : BitVec 16
  gen : W32
  page : Nat
  data : Mem := []
  blk : Nat := 0
  bad : Bool := false
  /-- It was lost from the protected buffer with its cartridge's removal: it has no valid header (R338). -/
  lost : Bool := false
  deriving DecidableEq, Repr

/-- A block of NAND (R326–R328). Ages are in units of 2^-32 of a sixtieth of an hour. -/
structure NandBlock where
  erases : Nat := 0
  age : Nat := 0
  since : Nat := 0
  /-- Reads in succession that needed soft decoding. -/
  soft : Nat := 0
  retired : Bool := false
  deriving DecidableEq, Repr

/-- A generation slot (R331–R335). -/
structure GenSlot where
  gen : W32 := 0
  /-- 0 FREE, 1 OPEN, 2 COMMITTED, 3 RECLAIMING, 4 FAILED. -/
  st : BitVec 3 := 0
  /-- The commit record of a COMMITTED slot, and the SOURCE of a mirror slot. -/
  record : List Byte := []
  source : W32 := 0
  deriving DecidableEq, Repr

/-- A store key (R438): the number of the secret from which it is derived, and the serial number of the module. Its bytes are
StoreKey.bytes; keys of other secrets and of other modules are other keys (DEDUCED 173). -/
structure StoreKey where
  secret : Nat
  serial : W64
  deriving DecidableEq, Repr

/-- What a cartridge holds, in a bay or out of one. -/
structure Cart where
  serial : W32
  /-- It holds metadata. -/
  metadata : Bool := false
  /-- SANITIZE_ACTIVE in its metadata, and blocks erased in units of 1/65,536 (R336). -/
  sanitizing : Bool := false
  progress : BitVec 16 := 0
  /-- The media key as the number of the free value drawn for it, and the store key under which it is wrapped (R316, R438). -/
  mediaKey : Nat := 0
  wrappedBy : Option StoreKey := none
  /-- Pages of the namespaces. -/
  ns : Vector W32 3 := Vector.replicate 3 0
  /-- Pages by (namespace × 16 + slot) × 2^32 + page; slot 0 but for NS 1. -/
  pages : Tbl StorePage := []
  blocks : Tbl NandBlock := []
  /-- Erases of every block that `blocks` does not list. -/
  base : Nat := 0
  slots : Vector GenSlot 16 := Vector.replicate 16 {}
  /-- Read-retry tables: the level that a die's reads start with, saved and in use (R325). -/
  retrySaved : Tbl Nat := []
  retryLive : Tbl Nat := []
  /-- RMC time of the unmount record (R338). -/
  unmountTime : Option W64 := none
  deriving DecidableEq, Repr

/-- A request line that has been accepted (R320, R322), with the pages done and its status so far. -/
structure StoreLine where
  /-- Its place in the order of arrival. -/
  order : Nat
  /-- The WRITE packet that carried it. -/
  pkt : Packet
  write : Bool
  ns : Nat
  count : Nat
  gen : W32
  /-- NS 1: the slot that GEN named when the line was accepted; else 0. -/
  slot : Nat := 0
  page : Nat
  hbm : Nat
  hdr : Nat
  sequence : W32
  block : W32
  layer : BitVec 16
  tokens : BitVec 16
  fmt : Byte
  step : Nat
  done : Nat := 0
  status : BitVec 4 := 0
  deriving DecidableEq, Repr

/-- A WRITE packet of request lines: its lines read so far, and the status of each that has finished (R322). -/
structure StorePkt where
  pkt : Packet
  lines : Nat := 0
  results : List (Nat × BitVec 4) := []
  deriving DecidableEq, Repr

/-- One cartridge bay with its store controller (R314–R339). -/
structure Bay where
  cart : Option Cart := none
  automount : Bool := true
  /-- 0 EMPTY, 1 OFF, 2 MOUNTING, 3 ONLINE, 4 READ_ONLY, 5 UNMOUNTING, 6 SANITIZING, 7 FAILED. -/
  st : BitVec 3 := 0
  celsius : BitVec 8 := 0
  /-- Samples in succession above 80 °C, and that the bay was switched off for heat (R329). -/
  hot : Nat := 0
  heatOff : Bool := false
  /-- The erase of a SANITIZING cartridge runs: the bay has power (R336). -/
  erasing : Bool := false
  /-- The bay is switched off, as after an unmount or with no cartridge: its cartridge has no power, and its controller takes commands (R329,
  R337, R338, R386). -/
  dark : Bool := true
  /-- The numbers of the pages in the protected write buffer and not yet in NAND, oldest first, at most 128 (R314, R322). -/
  buffer : List Nat := []
  /-- The command that runs: an OP of STORE.CMD, or 0. -/
  cmd : BitVec 4 := 0
  /-- Its arguments as it started, and the order of lines before it. -/
  cmdArgs : Vector W64 3 := Vector.replicate 3 0
  cmdOrder : Nat := 0
  args : Vector W64 3 := Vector.replicate 3 0
  result : BitVec 3 := 0
  dst : Vector HbmRange 8 := Vector.replicate 8 {}
  stat : BitVec 5 := 0
  statFirst : BitVec 3 := 0
  retries : BitVec 16 := 0
  relocated : BitVec 16 := 0
  poisoned : BitVec 16 := 0
  lostPages : BitVec 16 := 0
  checkH : BitVec 16 := 168
  refreshPct : BitVec 8 := 60
  refreshAgeH : BitVec 16 := 730
  wlSpread : BitVec 16 := 500
  nextOrder : Nat := 0
  pkts : List StorePkt := []
  lines : List StoreLine := []
  fenced : Bool := false
  /-- Its controller has lost power too: with the module, its wafer or by a fence (R384, R420, R428). -/
  off : Bool := false
  arrived : List Packet := []
  ctrlInbox : List Packet := []
  deriving DecidableEq, Repr

/-- How far a host command has come (R352–R355): waiting for its turn, running, or finished with STATUS and RESULT. -/
inductive CmdPhase where
  | waiting | running | finished (status : BitVec 8) (result : W64)
  deriving DecidableEq, Repr

/-- A submission entry that has been fetched (R351). -/
structure HostCmd where
  opcode : BitVec 8
  flags : BitVec 8
  cid : BitVec 16
  arg0 : W64
  arg1 : W64
  arg2 : W64
  arg3 : W64
  /-- SQ head after the entry was fetched (R354). -/
  sqHead : BitVec 16
  /-- Its place in the port's order of fetching, for FENCE. -/
  order : Nat
  phase : CmdPhase := .waiting
  /-- A copy: bytes whose requests have been issued, and host reads outstanding. -/
  issued : Nat := 0
  outstanding : Nat := 0
  /-- A copy's failing request of lowest offset, with its status. -/
  fail : Option (Nat × BitVec 8) := none
  /-- Polls of a WAIT. -/
  polls : Nat := 0
  deriving DecidableEq, Repr

/-- A queue pair (R350, R360): words 0 to 2 as written, its pointers, and the commands fetched and not completed. -/
structure HostQueue where
  w0 : W64 := 0
  w1 : W64 := 0
  w2 : W64 := 0x100000084
  sqHead : BitVec 16 := 0
  sqTail : BitVec 16 := 0
  cqHead : BitVec 16 := 0
  cqTail : BitVec 16 := 0
  phase : Bool := true
  dbErr : Bool := false
  cmds : List HostCmd := []
  deriving DecidableEq, Repr

/-- Who waits for a read of host memory (R349). -/
inductive HostReqOwner where
  | fetch (q : Nat) (count : Nat)
  /-- Bytes off to off + len of the running copy of a queue. -/
  | copy (q : Nat) (off len : Nat)
  | acu (block : Nat)
  /-- Bytes off to off + len of an image object, for the load whose number is given (R371). -/
  | image (load : Nat) (off len : Nat)
  /-- A fetch of a queue that was disabled since: the answer is dropped (R350). -/
  | discard
  deriving DecidableEq, Repr

/-- A read of host memory that is outstanding. -/
structure HostReq where
  tag : Nat
  owner : HostReqOwner
  deriving DecidableEq, Repr

/-- An MSI-X table entry (R342, R356). PRESUMED 8: masked at reset, as the base specification gives. -/
structure MsixEntry where
  addr : W64 := 0
  data : W32 := 0
  masked : Bool := true
  deriving DecidableEq, Repr

/-- A request of the host that the port holds until its turn (R348, R349): at the control address that BAR0 mapped it to when it came,
none for a page that was not mapped (R344); a doorbell of a queue pair, SQ_TAIL or CQ_HEAD; a read of BAR2; or at an HBM address through
BAR4. -/
inductive HostAccess where
  | register (addr : Option Nat) (a : BarAccess)
  | doorbell (queue : Nat) (head : Bool) (value : BitVec 16)
  | doorbellRead (len : Nat)
  /-- Of BAR4, by their offset: HP.BAR4 maps them when they take effect (R347, R348). -/
  | hbmRead (offset len : Nat)
  | hbmWrite (offset : Nat) (data : List Byte)
  deriving DecidableEq, Repr

/-- One host port (R340–R361). -/
structure HostPort where
  width : BitVec 5 := 0
  speed : BitVec 3 := 0
  flit : Bool := false
  up : Bool := false
  ideSecure : Bool := false
  /-- The keys of the IDE stream have been programmed (R358). -/
  ideKeyed : Bool := false
  cmdEn : Bool := false
  ideRequired : Bool := false
  cto : BitVec 8 := 50
  errAddr : BitVec 48 := 0
  errStatus : BitVec 4 := 0
  errWrite : Bool := false
  errValid : Bool := false
  ur : BitVec 16 := 0
  ctoCount : BitVec 16 := 0
  partialCount : BitVec 16 := 0
  evtEnable : Bool := false
  evtLog2 : BitVec 5 := 4
  evtVector : BitVec 11 := 0
  evtLost : W32 := 0
  evtBase : W64 := 0
  evtTail : BitVec 16 := 0
  evtHead : BitVec 16 := 0
  evtPhase : Bool := true
  /-- HP.PAGE_n as a word, for n = 1–15 (R344). -/
  pages : Vector W64 16 := Vector.replicate 16 0
  bar4WriteEn : Bool := false
  bar4Base : BitVec 18 := 0x8000
  hbm : Vector HbmRange 8 := Vector.replicate 8 {}
  queues : Tbl HostQueue := []
  /-- The queue fetched from last, and the number of the next entry fetched. -/
  lastQueue : Nat := 255
  nextOrder : Nat := 0
  reqs : List HostReq := []
  /-- Posted writes of the host to apertures that their targets have not acknowledged (R348). -/
  posted : Nat := 0
  /-- Requests of the host that wait, oldest first (R348, R349). -/
  held : List HostAccess := []
  /-- MSI-X Enable and Function Mask (R342, R356). PRESUMED 8: 0 at reset. -/
  msixEnable : Bool := false
  msixFunctionMask : Bool := false
  msix : Tbl MsixEntry := []
  /-- Vectors whose Pending Bit is set. -/
  pba : List Nat := []
  /-- The host's addresses of BAR0, BAR2 and BAR4, and log2 of the size of BAR4 (R343). -/
  bars : Vector W64 3 := Vector.replicate 3 0
  bar4Log2 : Nat := 30
  d3hot : Bool := false
  /-- Max_Payload_Size and Max_Read_Request_Size, 128 B << code (R342). PRESUMED 8: 128 B and 512 B at reset. -/
  maxPayload : BitVec 3 := 0
  maxRead : BitVec 3 := 2
  /-- Advanced Error Reporting: the uncorrectable errors' status, mask and severity (R342). PRESUMED 8: their resets. -/
  aerStatus : W32 := 0
  aerMask : W32 := 0x00400000
  aerSeverity : W32 := 0x00462030
  /-- The correctable errors' status and mask. PRESUMED 8: their resets. The spec names no correctable error of the port. -/
  aerCorStatus : W32 := 0
  aerCorMask : W32 := 0x00002000
  /-- CBL_PRES# of HOST_k_B reads low, as the port saw it when its link last trained (R473). -/
  cableB : Bool := false
  acu : Acu := {}
  fenced : Bool := false
  /-- Its domain is switched off (R386). -/
  off : Bool := false
  arrived : List Packet := []
  ctrlInbox : List Packet := []
  deriving DecidableEq, Repr

/-- The states of a pan (R378), in the order of PAN_n.STAT.STATE. -/
inductive PanState where
  | unconfigured | stopped | running | stopping | loading
  deriving DecidableEq, Repr

/-- A pan (R365, R378, R381), with the stop it is in the middle of (R207). -/
structure Pan where
  st : PanState := .unconfigured
  refused : Bool := false
  boundary : W32 := 0
  row0 : BitVec 8 := 0
  rowsM1 : BitVec 8 := 0
  col0 : BitVec 8 := 0
  colsM1 : BitVec 8 := 0
  detourFirst : BitVec 6 := 0
  detourCount : BitVec 7 := 0
  accMode : Bool := false
  autostart : Bool := false
  imageId : W64 := 0
  /-- The stop in progress is the forced stop of R208. -/
  forcedStop : Bool := false
  /-- Tempo N of the stop in progress, once the module has chosen it (R207). -/
  target : Option W32 := none
  deriving DecidableEq, Repr

/-- One entry of a patch list: a router and the plan bits it activates there (R422). -/
structure Patch where
  row : Nat
  col : Nat
  plans : BitVec 16
  deriving DecidableEq, Repr

/-- A site plan of the PROMOTION section: its candidate segments in preference order, and its patch list (R422). -/
structure SitePlan where
  cands : List (Fin 4) := []
  patches : List Patch := []
  deriving DecidableEq, Repr

/-- A promotion that is waiting or running: the failed sites it replaces, and whether it may go on past step 2
(R424, R426). -/
structure Promo where
  pan : Nat
  failed : List Nat
  /-- Step 3 has been reached by a command PROMOTE or by AUTO_PROMOTE. -/
  released : Bool
  deriving DecidableEq, Repr

/-! ### Images, power, reset and firmware (R362–R415, R430–R441) -/

/-- A copy of an image in the staging area (R369): where it stands, and what was recorded at its load. -/
structure ImgCopy where
  addr : Nat
  bytes : Nat
  id : W64
  /-- SHA-512 of its signed bytes. -/
  hash : List Byte := []
  deriving DecidableEq, Repr

/-- A load that has started or waits for its turn (R370, R371). -/
structure ImgLoad where
  number : Nat
  /-- The command that waits for it: host port and queue. -/
  port : Nat
  queue : Nat
  src : Nat
  bytes : Nat
  fromHbm : Bool
  isPartial : Bool
  pan : Nat
  /-- The step of R371 in progress; 0 while it waits for its turn. -/
  step : Nat := 0
  /-- Where its copy stands in staging, and how much of a host's object has arrived. -/
  stage : Nat := 0
  copied : Nat := 0
  hash : List Byte := []
  /-- The route audit has passed (R154). -/
  audited : Bool := false
  deriving DecidableEq, Repr

/-- The loader (R369–R380). -/
structure Images where
  active : W64 := 0
  status : BitVec 2 := 0
  step : BitVec 3 := 0
  code : BitVec 8 := 0
  pan : BitVec 10 := 0
  isPartial : Bool := false
  stageBase : BitVec 28 := 0
  stageBound : BitVec 28 := 0
  whole : Option ImgCopy := none
  partials : Tbl ImgCopy := []
  /-- Loads in the order in which their commands started; the first is in progress. -/
  loads : List ImgLoad := []
  nextLoad : Nat := 0
  /-- MODULE.ROUTE_AUDIT (R169). -/
  audit : BitVec 24 := 0
  /-- Measurement 0x05: the chain over partial loads (R443). -/
  chain : List Byte := List.replicate 64 0
  deriving DecidableEq, Repr

/-- A park in progress (R397): its power block, 240 w + j, and the last step that has been done. -/
structure ParkOp where
  block : Nat
  step : Nat
  deriving DecidableEq, Repr

/-- Power, thermal and park registers and records (R382–R402). -/
structure Power where
  ready : Bool := false
  voltCv : BitVec 16 := 0
  powerHw : BitVec 16 := 0
  /-- Feeds outside their operating range. -/
  feedOut : BitVec 8 := 0
  /-- MODULE.PSTAGE_STAT.WORKING (R435). -/
  working : BitVec 40 := 0
  /-- The stage of the last OFFLINE, while it carries no load: REMOVABLE (R433, R435). -/
  removable : Option Nat := none
  /-- The limits of R383 and R395 are in force. -/
  feedLimit : Bool := false
  coolantLimit : Bool := false
  /-- Samples in succession that would end the coolant limit (R469), and that the limit has been continuous since its start. -/
  coolantGood : Nat := 0
  capKw : BitVec 8 := 120
  /-- k of R396, as a fraction. -/
  kNum : Nat := 1
  kDen : Nat := 1
  refused : Bool := false
  lastWafer : BitVec 2 := 0
  lastBlock : BitVec 8 := 0
  drainFault : Bool := false
  park : Option ParkOp := none
  /-- Blocks that the thermal controller has still to park. -/
  parkQueue : List Nat := []
  /-- RMC time at which each parked block's park ended. -/
  parked : Tbl W64 := []
  parkPlans : Tbl (List Patch) := []
  trip : Bool := false
  /-- Every domain but the always-on one is switched off (R384, R395, R429). -/
  dark : Bool := false
  /-- Image loads are answered BUSY until a power-on reset (R429). -/
  lockout : Bool := false
  /-- The cause that the next power-on reset records: 0 first power, 1 input lost, 2 over-voltage (R415). -/
  offCause : BitVec 4 := 0
  /-- Coolant: flow in L/min, inlet and outlet in °C, as last sampled. -/
  coolant : Vector (BitVec 8) 3 := Vector.replicate 3 0
  deriving DecidableEq, Repr

/-- MODULE.RESET_STAT and RESET_CAUSE (R415). -/
structure ResetRegs where
  busy : Bool := false
  ty : BitVec 3 := 0
  refused : Bool := false
  target : BitVec 16 := 0
  cause : BitVec 4 := 0
  count : W32 := 0
  /-- A module reset waits for the bays that unmount (R404). -/
  waiting : Bool := false
  /-- Sites between steps 2 and 4 of an array reset (R406). -/
  arrays : List Nat := []
  deriving DecidableEq, Repr

/-- One firmware copy of a unit (R430, R439): its version, and what its header says. -/
structure FwCopy where
  version : BitVec 24 := 0
  svn : BitVec 8 := 0
  commit : Bool := false
  revoke : BitVec 8 := 0
  /-- Digest of its signed bytes, for R443, and the slot of the key that signed it. -/
  digest : List Byte := []
  slot : BitVec 2 := 0
  /-- Its header and its signature are right, and it has not been rolled back (R431, R439). -/
  usable : Bool := true
  deriving DecidableEq, Repr

/-- A unit with firmware in copies A and B (R430, R435). -/
structure FwUnit where
  activeB : Bool := false
  inactiveOk : Bool := false
  /-- 0 running, 1 switching, 2 awaiting health, 3 rolled back. -/
  st : BitVec 2 := 0
  a : FwCopy := {}
  b : FwCopy := {}
  deriving DecidableEq, Repr

/-- A telemetry total (R455): the last sample, the total, and SATURATED. -/
structure Total where
  last : Nat := 0
  total : W64 := 0
  saturated : Bool := false
  deriving DecidableEq, Repr

/-- A secure session (R442). -/
structure SpdmSession where
  id : Nat
  path : MgmtPath
  established : Bool := false
  /-- Key updates made. -/
  updates : Nat := 0
  deriving DecidableEq, Repr

/-- How far an SPDM connection has come on one path: version, capabilities and algorithms agreed. -/
structure SpdmConn where
  path : MgmtPath
  stage : Nat := 0
  deriving DecidableEq, Repr

/-- The management controller's own state beside the fault path (R441, R442, R453–R456, R474). -/
structure Rmc where
  /-- The RMC runs its verified firmware (R388, R412, R441). -/
  runs : Bool := false
  /-- Neither RMC copy verified: the boot ROM answers alone (R441). -/
  recovery : Bool := false
  conns : List SpdmConn := []
  sessions : List SpdmSession := []
  nextSession : Nat := 0
  totals : Tbl Total := []
  /-- Events that PLDM has not collected yet, oldest first: ALERT# is low while there are any (R474). -/
  uncollected : List Event := []
  /-- The dynamic address that the I3C controller assigned; until then the target answers I2C as well. -/
  i3cAddr : Option (BitVec 7) := none
  /-- Heartbeats in the current 8 ms, by unit number (R416). -/
  beats : List Nat := []
  /-- The fenced unit whose scan chain the TAP has selected (R464). -/
  scan : Option Nat := none
  /-- Units in a re-test (R420). -/
  retest : List Nat := []
  /-- IMAGE_ID of the whole image at whose load PLDM's PDR repository was rebuilt (R454). -/
  pdrImage : W64 := 0
  deriving DecidableEq, Repr

/-- The fault-path registers and records (R416–R435). -/
structure FaultRegs where
  /-- Promotions in detection order; the first one runs (R426). -/
  promos : List Promo := []
  sitePlans : Tbl SitePlan := []
  waferPlans : Tbl (List Patch) := []
  /-- RMC times at which each unit was fenced, newest first, by kind × 2^28 + index (R421). -/
  fenceTimes : Tbl (List W64) := []
  /-- Retired units by the same number (R421). -/
  retired : List Nat := []
  /-- Units whose switch-over waits (R448), oldest first. -/
  fwWaiting : List Nat := []
  /-- Units that the data path has reported dead (R419), by the same number. -/
  dead : List Nat := []
  autoPromote : Bool := true
  /-- The flash log, newest event first (R418). -/
  log : List Event := []
  seq : W64 := 0
  /-- The RMC clock when it was last looked at; it grows by a free amount before each look (R417). -/
  time : W64 := 0
  refused : Bool := false
  /-- MODULE.WAFER_STAT.FENCED. -/
  waferFenced : BitVec 4 := 0
  /-- A commanded wafer fence before its step 3 (R428): the wafer, and that its bays have been told to unmount. -/
  fencing : Option (Nat × Bool) := none
  /-- Bridges, port complexes and other units fenced that have no record of their own. -/
  fencedUnits : List Nat := []
  fw : Tbl FwUnit := []
  deriving DecidableEq, Repr

/-- The security registers and the RMC's secure storage (R436–R452). Secrets and nonces are free values; a secret is
held as its number among them, so that two secrets are told apart (R438). -/
structure Sec where
  /-- 0 FACTORY, 1 OWNED, 2 FIELD, 3 RETURNED, 4 RETIRED. -/
  lc : BitVec 3 := 0
  erasePending : Bool := false
  /-- The state that the erase of R449 ends in, and that its step 2 waits for the bays that unmount. -/
  eraseTo : BitVec 3 := 0
  erasing : Bool := false
  refurbished : BitVec 2 := 0
  debugOpen : BitVec 3 := 0
  /-- Modulus and exponent of the owner key: 516 bytes. -/
  ownerKey : Option (List Byte) := none
  ownerSecret : Option Nat := none
  /-- Drawn at each power-on (R438): number n + 1 stands for the free value n, and number 0 for what was drawn before State.reset. -/
  transientSecret : Nat := 0
  slot1 : List Byte := []
  nonce : Vector W64 8 := Vector.replicate 8 0
  nonceValid : Bool := false
  busy : Bool := false
  /-- The request in SEC_BUF waits for a load or a switch-over in progress (R448). -/
  waiting : Bool := false
  result : BitVec 3 := 0
  op : BitVec 3 := 0
  /-- Minimum SVN of the RMC, port complexes, store controllers and stack controllers (R440). -/
  svn : Vector (BitVec 8) 4 := Vector.replicate 4 0
  fwRevoked : BitVec 4 := 0
  svcRevoked : BitVec 4 := 0
  buf : Mem := []
  deriving DecidableEq, Repr

/-- MODULE.TRC_SYNC (R466). -/
structure TrcSync where
  period : BitVec 20 := 1000
  last : W32 := 0
  deriving DecidableEq, Repr

/-- The whole module. -/
structure State where
  /-- Commands waiting, first in, first out. -/
  pending : List Instr := []
  /-- How many free values have been drawn (log entry 2). -/
  freeNext : Nat := 0
  sites : Tbl Site := []
  hbms : Tbl Stack := []
  pcs : Tbl Pc := []
  bays : Tbl Bay := []
  /-- Cartridges that have been taken out of a bay. -/
  shelf : List Cart := []
  ports : Tbl Port := []
  fab : FabGlobals := {}
  /-- The copies of the site map that stack controllers, ACUs and dispatch engines hold, which image load and promotion
  write together (R141, R216). -/
  smap : Mem := []
  /-- Seam bridges that are off: 0 wafers 0–1, 1 wafers 2–3, 2 wafers 0–2, 3 wafers 1–3 (R144, R386). -/
  seamOff : BitVec 4 := 0
  hps : Tbl HostPort := []
  pans : Tbl Pan := []
  fault : FaultRegs := {}
  images : Images := {}
  power : Power := {}
  resets : ResetRegs := {}
  rmc : Rmc := {}
  sec : Sec := {}
  trcSync : TrcSync := {}
  out : List Output := []
  deriving DecidableEq, Repr

/-- The state after power-on reset (R5). -/
def State.reset : State := {}

/-- Why a command ends in a fault. -/
inductive Fault where
  /-- No command raises it: every operand names a unit that exists. Safe. -/
  | noSuchUnit
  deriving DecidableEq, Repr

/-- Why a command is refused. -/
inductive Refusal where
  /-- Raised by an arm of Dispatch whose command has no meaning yet. Safe. -/
  | notModelled (mnemonic : String)
  deriving DecidableEq, Repr

end Sys2Proof.Machine
end

