-- ==== Sys2Proof/Machine/Table.lean ====
section
/-! DEFINITION. Machine/Table.lean: reading and writing the sparse containers of State. -/

namespace Sys2Proof.Machine

/-! ## Sparse arrays: memories, accumulators, vector registers -/

/-- Element a of a sparse array; an unlisted element reads as z. -/
def Sparse.get {α : Type} (z : α) : List (Nat × α) → Nat → α
  | [], _ => z
  | (k, v) :: t, a => if k = a then v else Sparse.get z t a

/-- The non-z elements of a run that starts at a, in the form of a sparse array. -/
def Sparse.run {α : Type} [DecidableEq α] (z : α) : Nat → List α → List (Nat × α)
  | _, [] => []
  | a, v :: vs => if v = z then Sparse.run z (a + 1) vs else (a, v) :: Sparse.run z (a + 1) vs

/-- The sparse array with the elements from a on replaced by a run of values. -/
def Sparse.write {α : Type} [DecidableEq α] (z : α) (m : List (Nat × α)) (a : Nat) (vs : List α) : List (Nat × α) :=
  m.filter (fun c => decide (c.1 < a)) ++ (Sparse.run z a vs ++ m.filter (fun c => decide (a + vs.length ≤ c.1)))

/-- The n elements from a on. -/
def Sparse.read {α : Type} (z : α) (m : List (Nat × α)) (a n : Nat) : List α :=
  let part := m.filter (fun c => decide (a ≤ c.1) && decide (c.1 < a + n))
  (List.range n).map (fun i => Sparse.get z part (a + i))

/-- The sparse array with the elements a to a + n - 1 set to z. -/
def Sparse.clear {α : Type} (m : List (Nat × α)) (a n : Nat) : List (Nat × α) :=
  m.filter (fun c => decide (c.1 < a) || decide (a + n ≤ c.1))

/-- The canonical form: numbers strictly rising, and no listed element equal to z. -/
def Sparse.wf {α : Type} [DecidableEq α] (z : α) : List (Nat × α) → Bool
  | [] => true
  | [(_, v)] => decide (v ≠ z)
  | (k, v) :: (k', v') :: t => decide (v ≠ z) && decide (k < k') && Sparse.wf z ((k', v') :: t)

/-- The canonical form of a byte memory. -/
def Memory.wf (m : Mem) : Bool := Sparse.wf (0 : Byte) m

/-- One byte of a memory. -/
def Memory.get (m : Mem) (a : Nat) : Byte := Sparse.get 0 m a

/-- n bytes of a memory from a on. -/
def Memory.read (m : Mem) (a n : Nat) : List Byte := Sparse.read 0 m a n

/-- A memory with the bytes from a on replaced. -/
def Memory.write (m : Mem) (a : Nat) (bs : List Byte) : Mem := Sparse.write 0 m a bs

/-! ## Tables of units -/

/-- Entry k of a table; an unlisted entry is its reset value. -/
def Tbl.get {α : Type} (d : Nat → α) : Tbl α → Nat → α
  | [], k => d k
  | (k', v) :: t, k => if k' = k then v else Tbl.get d t k

/-- The table with entry k replaced. -/
def Tbl.set {α : Type} : Tbl α → Nat → α → Tbl α
  | [], k, v => [(k, v)]
  | (k', v') :: t, k, v =>
    if k < k' then (k, v) :: (k', v') :: t
    else if k = k' then (k, v) :: t
    else (k', v') :: Tbl.set t k v

/-- The numbers of a table are strictly rising. -/
def Tbl.wf {α : Type} : Tbl α → Bool
  | [] => true
  | [_] => true
  | (k, _) :: (k', v') :: t => decide (k < k') && Tbl.wf ((k', v') :: t)

/-! ## Fixed arrays and lists -/

/-- Element i of a fixed array, or d past its end. -/
def vget {α : Type} {n : Nat} (d : α) (v : Vector α n) (i : Nat) : α := v[i]?.getD d

/-- A fixed array with element i replaced, if it has one. -/
def vset {α : Type} {n : Nat} (v : Vector α n) (i : Nat) (x : α) : Vector α n := v.setIfInBounds i x

/-- The list with its i-th element replaced by f of it. -/
def updAt {α : Type} : List α → Nat → (α → α) → List α
  | [], _, _ => []
  | x :: xs, 0, f => f x :: xs
  | x :: xs, i + 1, f => x :: updAt xs i f

/-- The list with the first element that satisfies p replaced by f of it. -/
def updFirst {α : Type} (p : α → Bool) (f : α → α) : List α → List α
  | [] => []
  | x :: xs => if p x then f x :: xs else x :: updFirst p f xs

end Sys2Proof.Machine
end

