-- ==== Sys2Proof/Machine/Ops.lean ====
section
/-! DEFINITION. Machine/Ops.lean: the named operations that many commands share: units, free values, trace
records, events, stops of slots and pans, faults and fencing. -/

namespace Sys2Proof.Machine

/-- The answer of a command that has its effect: the next state. -/
abbrev Result := Host.Outcome State Fault Refusal

/-! ## Units -/

/-- The unit with key k: a site or an update engine's core. -/
def State.site (s : State) (k : Nat) : Site := Tbl.get Site.reset s.sites k

/-- The state with the unit of key k replaced. -/
def State.setSite (s : State) (k : Nat) (a : Site) : State := { s with sites := Tbl.set s.sites k a }

/-- The state with f applied to the unit of key k. -/
def State.updSite (s : State) (k : Nat) (f : Site → Site) : State := s.setSite k (f (s.site k))

def State.stack (s : State) (k : Nat) : Stack := Tbl.get (fun _ => {}) s.hbms k
def State.setStack (s : State) (k : Nat) (a : Stack) : State := { s with hbms := Tbl.set s.hbms k a }
def State.updStack (s : State) (k : Nat) (f : Stack → Stack) : State := s.setStack k (f (s.stack k))

def State.pc (s : State) (k : Nat) : Pc := Tbl.get (fun _ => {}) s.pcs k
def State.setPc (s : State) (k : Nat) (a : Pc) : State := { s with pcs := Tbl.set s.pcs k a }
def State.updPc (s : State) (k : Nat) (f : Pc → Pc) : State := s.setPc k (f (s.pc k))

def State.bay (s : State) (k : Nat) : Bay := Tbl.get (fun _ => {}) s.bays k
def State.setBay (s : State) (k : Nat) (a : Bay) : State := { s with bays := Tbl.set s.bays k a }
def State.updBay (s : State) (k : Nat) (f : Bay → Bay) : State := s.setBay k (f (s.bay k))

def State.hp (s : State) (k : Nat) : HostPort := Tbl.get (fun _ => {}) s.hps k
def State.setHp (s : State) (k : Nat) (a : HostPort) : State := { s with hps := Tbl.set s.hps k a }
def State.updHp (s : State) (k : Nat) (f : HostPort → HostPort) : State := s.setHp k (f (s.hp k))

def State.pan (s : State) (k : Nat) : Pan := Tbl.get (fun _ => {}) s.pans k
def State.setPan (s : State) (k : Nat) (a : Pan) : State := { s with pans := Tbl.set s.pans k a }
def State.updPan (s : State) (k : Nat) (f : Pan → Pan) : State := s.setPan k (f (s.pan k))

/-- Slot n of a unit replaced by f of it. -/
def Site.updSlot (a : Site) (n : Fin 4) (f : Slot → Slot) : Site :=
  { a with slots := a.slots.set n (f a.slots[n]) }

def State.slot (s : State) (k : Nat) (n : Fin 4) : Slot := (s.site k).slots[n]

def State.updSlot (s : State) (k : Nat) (n : Fin 4) (f : Slot → Slot) : State :=
  s.updSite k (fun a => a.updSlot n f)

/-- The state with one more thing sent to the world outside. -/
def State.emit (s : State) (o : Output) : State := { s with out := o :: s.out }

/-! ## Free values (log entry 2) -/

/-- The next free value, and the state with it drawn. -/
def State.draw (s : State) : W64 × State := (Config.freeWord s.freeNext, { s with freeNext := s.freeNext + 1 })

/-- The RMC clock, which has grown by a free amount since it was last looked at (R417). -/
def State.rmcNow (s : State) : W64 × State :=
  let (d, s) := s.draw
  let t := s.fault.time + d
  (t, { s with fault := { s.fault with time := t } })

/-- TRC.CYCLE of a unit, which has grown by a free amount since it was last looked at (R457). -/
def State.cycleNow (s : State) (k : Nat) : W64 × State :=
  let (d, s) := s.draw
  let c := (s.site k).trc.cycle + d
  (c, s.updSite k (fun a => { a with trc := { a.trc with cycle := c } }))

/-- n bytes that the spec leaves open. -/
def State.freeBytes (s : State) (n : Nat) : List Byte × State :=
  ((List.range n).map (fun i => BitVec.ofNat 8 ((Config.freeWord (s.freeNext + i / 8)).toNat / 256 ^ (i % 8))),
   { s with freeNext := s.freeNext + (n + 7) / 8 })

/-! ## Positions (R10, R20, R139, R141) -/

/-- Wafer, site row and site column of a site's key. -/
def siteW (k : Nat) : Nat := k / 16384
def siteY (k : Nat) : Nat := k / 128 % 128
def siteX (k : Nat) : Nat := k % 128

/-- The key of a site from its coordinates. -/
def siteKey (w y x : Nat) : Nat := w * 16384 + y * 128 + x

/-- The site position (Y, X) of a site (R139). -/
def posRow (k : Nat) : Nat := 96 * (siteW k / 2) + siteY k
def posCol (k : Nat) : Nat := 100 * (siteW k % 2) + siteX k

/-- The site at a site position. -/
def siteAt (row col : Nat) : Nat := siteKey (2 * (row / 96) + col / 100) (row % 96) (col % 100)

/-- The mesh position of the logical array that a site holds, by its ARRAY.MAP (R10). -/
def meshRow (k : Nat) (a : Site) : Nat := 96 * (siteW k / 2) + a.lrow.toNat
def meshCol (k : Nat) (a : Site) : Nat := 96 * (siteW k % 2) + a.lcol.toNat

/-- A spare site stands at offset 24 of its segment (R20). -/
def isSpare (k : Nat) : Bool := siteX k % 25 == 24

/-- The site that holds logical array (w, row, col) by the ARRAY.MAP registers: its default site, or a spare of its row. -/
def State.siteOfLogical (s : State) (w row col : Nat) : Option Nat :=
  let cands := siteKey w row (25 * (col / 24) + col % 24) :: (List.range 4).map (fun g => siteKey w row (25 * g + 24))
  cands.find? (fun k => (s.site k).mapValid && (s.site k).lcol.toNat == col)

/-- The same for a mesh position (R10). -/
def State.siteOfMesh (s : State) (r c : Nat) : Option Nat :=
  s.siteOfLogical (2 * (r / 96) + c / 96) (r % 96) (c % 96)

/-- The pan whose rectangle holds a mesh position (R365, R366). -/
def State.panAt (s : State) (r c : Nat) : Option Nat :=
  (s.pans.find? (fun e =>
    e.2.st != .unconfigured && decide (e.2.row0.toNat ≤ r) && decide (r ≤ e.2.row0.toNat + e.2.rowsM1.toNat)
      && decide (e.2.col0.toNat ≤ c) && decide (c ≤ e.2.col0.toNat + e.2.colsM1.toNat))).map (fun e => e.1)

/-- The configured pan of the logical array that a site holds. -/
def State.panOf (s : State) (k : Nat) : Option Nat :=
  let a := s.site k
  if k < 65536 && a.mapValid then s.panAt (meshRow k a) (meshCol k a) else none

/-- The sites that hold the arrays of pan n. -/
def State.panSites (s : State) (n : Nat) : List Nat :=
  let p := s.pan n
  (List.range (p.rowsM1.toNat + 1)).flatMap (fun i =>
    (List.range (p.colsM1.toNat + 1)).filterMap (fun j => s.siteOfMesh (p.row0.toNat + i) (p.col0.toNat + j)))

/-- f applied to the unit of every key of a list. -/
def State.updSites (s : State) (ks : List Nat) (f : Nat → Site → Site) : State :=
  ks.foldl (fun s k => s.updSite k (f k)) s

/-! ## Trace records (R457–R460) -/

/-- A record put in the trace FIFO, or dropped when the FIFO is full; a LOST record goes first when records were lost. -/
def Trc.push (t : Trc) (ty slot : BitVec 8) (payload : BitVec 128) : Trc :=
  let cap := 64
  let t := if t.lost != 0 && decide (t.fifo.length < cap) then
      { t with fifo := t.fifo ++ [{ ty := 7, slot := 0xff, seq := t.seq, cycle := t.cycle, payload := t.lost.setWidth 128 }],
               seq := t.seq + 1, lost := 0 }
    else t
  if t.fifo.length < cap then
    { t with fifo := t.fifo ++ [{ ty := ty, slot := slot, seq := t.seq, cycle := t.cycle, payload := payload }], seq := t.seq + 1 }
  else
    { t with dropped := satAdd t.dropped 1, lost := satAdd t.lost 1, seq := t.seq + 1 }

/-- A trace record of an event with SRC bit i (or always, for none), if the site produces it (R459). -/
def State.trace (s : State) (k : Nat) (src : Option Nat) (ty slot : BitVec 8) (payload : BitVec 128) : State :=
  let t := (s.site k).trc
  if t.enable && (match src with | none => true | some i => t.src.getLsbD i) then
    let (_, s) := s.cycleNow k
    s.updSite k (fun a => { a with trc := a.trc.push ty slot payload })
  else s

/-- A payload with value v at byte 20 of the record and u at byte 16. -/
def payload20 (u v : Nat) : BitVec 128 := BitVec.ofNat 128 (u + v * 2 ^ 32)

/-! ## Events (R357, R416–R418) -/

/-- Vector v of a port may be sent: MSI-X is enabled, and neither the function nor the vector is masked (R342, R356). -/
def HostPort.msixOpen (h : HostPort) (v : Nat) : Bool :=
  h.msixEnable && !h.msixFunctionMask && !(Tbl.get (fun _ => {}) h.msix v : MsixEntry).masked

/-- MSI-X vector v of host port p: sent, or pending until it may be (R356). -/
def State.sendMsix (s : State) (p : Fin 4) (v : BitVec 11) : State :=
  if (s.hp p.val).msixOpen v.toNat then s.emit (.msix p v)
  else s.updHp p.val (fun h => { h with pba := if h.pba.contains v.toNat then h.pba else v.toNat :: h.pba })

/-- The pending vectors of port k that may be sent, sent; their Pending Bits clear (R356). -/
def State.msixFlush (s : State) (k : Nat) : State :=
  let go := (s.hp k).pba.reverse.filter (s.hp k).msixOpen
  go.foldl (fun s v => s.emit (.msix (Fin.ofNat 4 k) (BitVec.ofNat 11 v)))
    (s.updHp k (fun h => { h with pba := h.pba.filter (fun v => !h.msixOpen v) }))

/-- An event as the 64-byte record of R417, with the phase of its ring in byte 63. -/
def Event.bytes (ev : Event) (phase : Bool) : List Byte :=
  leBytes 2 ev.code.toNat ++ [ev.severity, ev.path] ++ leBytes 4 (ev.kind.toNat * 2 ^ 28 + ev.index.toNat) ++ leBytes 8 ev.seq.toNat
    ++ leBytes 8 ev.time.toNat ++ ((Config.detailBytes ev.code.toNat ev.detail ++ List.replicate 32 0).take 32)
    ++ List.replicate 7 0 ++ [BitVec.ofNat 8 (b2n phase)]

/-- The event ring of a port is full (R357). -/
def HostPort.ringFull (h : HostPort) : Bool :=
  (h.evtTail.toNat + 1) % 2 ^ h.evtLog2.toNat == h.evtHead.toNat

/-- The event written to the ring of host port p, if it is enabled (R357). -/
def State.ringPost (s : State) (ev : Event) (p : Fin 4) : State :=
  let h := s.hp p.val
  if h.evtEnable then
    if h.ringFull then s.updHp p.val (fun h => { h with evtLost := satAdd h.evtLost 1 })
    else
      let s := s.emit (.eventRecord p (h.evtBase + BitVec.ofNat 64 (64 * h.evtTail.toNat)) (ev.bytes h.evtPhase))
      let s := s.sendMsix p h.evtVector
      let next := (h.evtTail.toNat + 1) % 2 ^ h.evtLog2.toNat
      s.updHp p.val (fun h => { h with evtTail := BitVec.ofNat 16 next, evtPhase := if next = 0 then !h.evtPhase else h.evtPhase })
  else s

/-- Host ports 0 to 3. -/
def allPorts : List (Fin 4) := [0, 1, 2, 3]

/-- An event recorded by the RMC: written to the flash log, offered through PLDM and
written to every enabled event ring (R418). -/
def State.post (s : State) (code sev path kind index : Nat) (detail : List Nat) : State :=
  let (t, s) := s.rmcNow
  let ev : Event := {
    code := BitVec.ofNat 16 code, severity := BitVec.ofNat 8 sev, path := BitVec.ofNat 8 path,
    kind := BitVec.ofNat 4 kind, index := BitVec.ofNat 28 index, seq := s.fault.seq, time := t, detail := detail }
  let s := { s with fault := { s.fault with log := ev :: s.fault.log, seq := s.fault.seq + 1 }
                    rmc := { s.rmc with uncollected := s.rmc.uncollected ++ [ev] } }
  allPorts.foldl (fun s p => s.ringPost ev p) s

/-- A failed access of the host through BAR0 or BAR4: HP.ERR records the first (R345). -/
def HostPort.recordErr (h : HostPort) (addr : Nat) (st : BitVec 4) (write : Bool) : HostPort :=
  if h.errValid then h
  else { h with errValid := true, errAddr := BitVec.ofNat 48 addr, errStatus := st, errWrite := write }

/-- The answer to a write of the host to an aperture (R345, R348). -/
def State.hostAcked (s : State) (k : Nat) (addr : Nat) (st : BitVec 4) : State :=
  s.updHp k (fun h =>
    let h := { h with posted := h.posted - 1 }
    if st = 0 then h else h.recordErr addr st true)

/-! ## Stopping slots (R51) -/

/-- Summary-emitting instructions of slot n pushed and not yet completed (R38). -/
def Site.inFlight (a : Site) (n : Fin 4) : Nat :=
  (a.queues.toList.flatten).countP (fun e => e.slot == n && e.emits && e.phase != .complete)

/-- The end of a stop: summaries discarded, a blocked instruction abandoned, HALTED (R51). -/
def Slot.finishStop (x : Slot) : Slot :=
  { x with st := .halted, summaries := [], block := .nothing, stopping := false, stopByPan := false, panHalted := x.stopByPan }

/-- The stop of slot n goes on to its end if no summary-emitting instruction of the slot is in flight. -/
def Site.settleStop (a : Site) (n : Fin 4) : Site :=
  if a.slots[n].stopping && a.inFlight n == 0 then a.updSlot n Slot.finishStop else a

/-- STOP of slot n, by the pan or not; no effect on a slot that is IDLE, HALTED or FAULTED (R51). -/
def Site.stopSlot (a : Site) (n : Fin 4) (byPan : Bool) : Site :=
  if a.slots[n].st == .ready || a.slots[n].st == .blocked then
    (a.updSlot n (fun x => { x with stopping := true, stopByPan := x.stopByPan || byPan })).settleStop n
  else a

/-- STOP of every slot, as ARRAY.CTL.HALT_ALL does. -/
def Site.haltAll (a : Site) (byPan : Bool) : Site :=
  (((a.stopSlot 0 byPan).stopSlot 1 byPan).stopSlot 2 byPan).stopSlot 3 byPan

/-- Every slot is IDLE, HALTED or FAULTED. -/
def Site.slotsQuiet (a : Site) : Bool :=
  a.slots.toList.all (fun x => x.st == .idle || x.st == .halted || x.st == .faulted)

/-- ARRAY.STAT.ENGINES_IDLE: all four queues empty and no command running (R46). -/
def Site.enginesIdle (a : Site) : Bool :=
  a.queues.toList.all (fun q => q.all (fun e => e.phase == .complete))

/-- The weight streamer holds no kick (R112). -/
def Site.streamerIdle (a : Site) : Bool := a.ws.kicks.isEmpty && a.ws.phase.isNone

/-- The condition of R112 for a write to a window or HBM-range register. -/
def Site.windowsWritable (a : Site) : Bool := a.slotsQuiet && a.enginesIdle && a.streamerIdle

/-! ## Stopping pans (R208, R378) -/

/-- The forced stop of an array: every slot halted as HALT_ALL does and FORCED set, unless it is AT_BOUNDARY (R208). -/
def Site.forceStop (a : Site) : Site :=
  if a.tempo.atBoundary then a
  else { a.haltAll true with tempo := { a.tempo with forced := true } }

/-- The forced stop of a pan, begun without arming (R208): the pan is STOPPING until PAN_STOPPED finds it stopped. -/
def State.panForceStop (s : State) (n : Nat) : State :=
  if (s.pan n).st == .running || (s.pan n).st == .stopping then
    let s := s.updSites (s.panSites n) (fun _ a => a.forceStop)
    s.updPan n (fun p => { p with st := .stopping, forcedStop := true })
  else s

/-! ## Task faults (R47–R50) -/

/-- What a fault stop does to a queue: queued entries are discarded, summaries still to come are dropped (R49). -/
def faultStopQueue (q : List QEntry) : List QEntry :=
  (q.filter (fun e => e.phase != .queued)).map (fun e =>
    if e.emits && e.phase != .complete then { e with dropSummary := true } else e)

/-- A slot under the fault stop of another slot (R49). DEDUCED 10: an IDLE, HALTED or FAULTED slot keeps its state. -/
def Slot.faultHalt (x : Slot) : Slot :=
  if x.st == .ready || x.st == .blocked then
    { x with st := .halted, block := .nothing, stopping := false, stopByPan := false, panHalted := true, summaries := [] }
  else { x with summaries := [] }

/-- The further effects of a task fault when ARRAY.CTL.FAULT_STOP is 1 (R49). -/
def Site.doFaultStop (a : Site) : Site :=
  { a with slots := a.slots.map Slot.faultHalt, queues := a.queues.map faultStopQueue }

/-- The fault recorded in ARRAY.FAULT (R46, R48). -/
def Site.recordFault (a : Site) (n : Fin 4) (code : Nat) : Site :=
  { a with
    firstCode := if a.pending = 0 then BitVec.ofNat 8 code else a.firstCode
    firstSlot := if a.pending = 0 then BitVec.ofNat 2 n.val else a.firstSlot
    pending := a.pending ||| BitVec.twoPow 16 code }

/-- The charged slot enters FAULTED with its record (R48). -/
def Slot.takeFault (x : Slot) (code : Nat) (command : Bool) (pc : W64) : Slot :=
  { x with st := .faulted, block := .nothing, stopping := false, stopByPan := false, panHalted := false,
           faultCode := BitVec.ofNat 8 code, faultCommand := command, faultPc := pc.setWidth 23 &&& 0x7ffffc }

/-- A task fault within the unit itself (R48, R49). -/
def Site.taskFault (a : Site) (n : Fin 4) (code : Nat) (command : Bool) (pc : W64) : Site :=
  let a := (a.updSlot n (fun x => x.takeFault code command pc)).recordFault n code
  if a.faultStop then a.doFaultStop else a

/-- UE.FAULT holds the first entry faulted since VALID was last clear (R271). -/
def UeCtl.recordFault (u : UeCtl) (reason entry shard code : Nat) : UeCtl :=
  if u.faultValid then u
  else { u with faultValid := true, faultReason := BitVec.ofNat 2 reason, faultEntry := BitVec.ofNat 12 entry
                faultShard := BitVec.ofNat 4 shard, faultCode := BitVec.ofNat 8 code }

/-- UE.FAULT as a word. -/
def UeCtl.faultWord (u : UeCtl) : W64 :=
  BitVec.ofNat 64 (b2n u.faultValid + u.faultReason.toNat * 2 + u.faultEntry.toNat * 2 ^ 3 + u.faultShard.toNat * 2 ^ 15 + u.faultCode.toNat * 2 ^ 19)

/-- A layer entry enters FAULTED, which UE.FAULT and UPDATE_FAULT report (R257, R263). -/
def State.entryFault (s : State) (q reason entry shard code : Nat) : State :=
  let s := s.updPc q (fun c => { c with ue := { c.ue.recordFault reason entry shard code with
    layers := Tbl.set c.ue.layers entry { (Tbl.get (fun _ => {}) c.ue.layers entry) with st := 3 } } })
  s.post 8 2 0 2 q [(s.pc q).ue.faultWord.toNat]

/-- A slot of an engine whose task faulted in another shard (R263). -/
def Slot.shardHalt (x : Slot) : Slot :=
  if x.st = .faulted then x else { x with st := .halted, block := .nothing, stopping := false, summaries := [] }

/-- A task fault in a shard of update engine k: every shard of the task halts and the entry is FAULTED (R263). -/
def State.shardFault (s : State) (k code : Nat) : State :=
  let q := (k - 65536) / 16
  let u := (s.site k).ue
  if u.active then
    let s := (List.range 16).foldl (fun (s : State) e =>
      let k' := 65536 + 16 * q + e
      if (s.site k').ue.active && (s.site k').ue.entry == u.entry then s.updSlot k' 0 Slot.shardHalt else s) s
    s.entryFault q 1 u.entry.toNat u.shard.toNat code
  else s

/-- A task fault of slot n of unit k: recorded, traced, and reported to the pan, which stops as R208 gives when
FAULT_STOP is 1 (R48, R49, R378). -/
def State.taskFault (s : State) (k : Nat) (n : Fin 4) (code : Nat) (command : Bool) (pc : W64) : State :=
  let s := s.updSite k (fun a => a.taskFault n code command pc)
  let s := s.trace k (some 2) 3 (BitVec.ofNat 8 n.val) (payload20 code (pc.toNat / 4 * 4 % 8388608))
  if 65536 ≤ k then s.shardFault k code
  else if (s.site k).faultStop then
    match s.panOf k with
    | some p => s.panForceStop p
    | none => s
  else s

/-! Fault codes of R47. -/

def fcIllegal : Nat := 1
def fcWindow : Nat := 2
def fcMisaligned : Nat := 3
def fcSqOverrun : Nat := 4
def fcSqUnderrun : Nat := 5
def fcDmaReject : Nat := 6
def fcMatrix : Nat := 7
def fcVector : Nat := 8
def fcDmaError : Nat := 9
def fcEngineHang : Nat := 10
def fcSram : Nat := 11
def fcLiveness : Nat := 12

end Sys2Proof.Machine
end

