-- ==== Sys2Proof/Machine/Operands.lean ====
section
/-! DEFINITION. Machine/Operands.lean: every operand form: windows, scratchpad bytes, tiles, ranks and files, and the
fields of control instructions, matrix commands, vector instructions and DMA descriptors. -/

namespace Sys2Proof.Machine

/-! ## Windows (R110) -/

/-- Physical address of offset 0 of window n. -/
def Site.winBase (a : Site) (n : BitVec 3) : Nat := a.spad.win[n.toNat].base.toNat * 4096

/-- Physical address just past window n. -/
def Site.winBound (a : Site) (n : BitVec 3) : Nat := a.spad.win[n.toNat].bound.toNat * 4096

/-- The len bytes at an offset lie inside window n, which is enabled. -/
def Site.inWindow (a : Site) (n : BitVec 3) (off len : Nat) : Bool :=
  a.spad.win[n.toNat].enable && decide (a.winBase n + off + len ≤ a.winBound n)

/-- The home window of a slot. -/
def Site.homeOf (a : Site) (n : Fin 4) : BitVec 3 := a.slots[n].homeWin

/-- Physical address of an offset in a slot's home window. DESIGN CHOICE 115: R33 and R60 do not say which window an entry uses
when CC.TASK_CTL_n.HOME_WIN is rewritten between its push and its run; here it is the slot's window when the entry runs. -/
def Site.homeAddr (a : Site) (n : Fin 4) (off : Nat) : Nat := a.winBase (a.homeOf n) + off

/-- len bytes of the scratchpad at a physical address. -/
def Site.bytes (a : Site) (addr len : Nat) : List Byte := Memory.read a.spad.mem addr len

/-! ## Uncorrectable words (R108, R109) -/

/-- A word that holds an uncorrectable error lies among the len bytes at addr. -/
def Spad.bad (m : Spad) (addr len : Nat) : Option Nat :=
  if len = 0 then none
  else m.badWords.find? (fun w => decide (addr / 4 ≤ w) && decide (w ≤ (addr + len - 1) / 4))

/-- A word that holds an error of either kind lies among the len bytes at addr. -/
def Spad.flawed (m : Spad) (addr len : Nat) : Bool :=
  decide (0 < len) && (m.badWords ++ m.softWords).any (fun w => decide (addr / 4 ≤ w) && decide (w ≤ (addr + len - 1) / 4))

/-- The single-bit errors among the words for which p holds corrected and written back, and counted (R108, R109). -/
def Spad.correct (m : Spad) (p : Nat → Bool) : Spad :=
  { m with softWords := m.softWords.filter (fun w => !p w), corrected := satAdd m.corrected (m.softWords.countP p) }

/-- Bank word w lies among the bytes of some of the ranges. -/
def inRanges (rs : List (Nat × Nat)) (w : Nat) : Bool :=
  rs.any (fun r => decide (0 < r.2) && decide (r.1 / 4 ≤ w) && decide (w ≤ (r.1 + r.2 - 1) / 4))

/-- SPW.ECC records an uncorrectable word (R109). -/
def Spad.recordUe (m : Spad) (word : Nat) : Spad :=
  { m with ue := true, ueAddr := if m.ue then m.ueAddr else BitVec.ofNat 23 (4 * word) }

/-- The bytes of a write access: runs at physical addresses. -/
abbrev WriteRuns := List (Nat × List Byte)

/-- A write access names byte a. -/
def WriteRuns.covers (ws : WriteRuns) (a : Nat) : Bool :=
  ws.any (fun r => decide (r.1 ≤ a) && decide (a < r.1 + r.2.length))

/-- A write access names all four bytes of a bank word. -/
def WriteRuns.coversWord (ws : WriteRuns) (w : Nat) : Bool := (List.range 4).all (fun i => ws.covers (4 * w + i))

/-- A write access names some byte of a bank word. -/
def WriteRuns.touchesWord (ws : WriteRuns) (w : Nat) : Bool := (List.range 4).any (fun i => ws.covers (4 * w + i))

/-- A write access of the scratchpad: a bad word that it covers whole becomes correct again, and a single-bit error that it
merges with is corrected first (R108). -/
def Spad.writeRuns (m : Spad) (ws : WriteRuns) : Spad :=
  { (m.correct (fun w => ws.touchesWord w && !ws.coversWord w)) with
    mem := ws.foldl (fun mem r => Memory.write mem r.1 r.2) m.mem
    badWords := m.badWords.filter (fun w => !ws.coversWord w)
    softWords := m.softWords.filter (fun w => !ws.touchesWord w) }

/-- A word holding an uncorrectable error that a write access merges with (R108). -/
def Spad.badMerge (m : Spad) (ws : WriteRuns) : Option Nat :=
  m.badWords.find? (fun w => ws.touchesWord w && !ws.coversWord w)

/-- Write accesses of the unit's scratchpad, one after another. -/
def Site.putRuns (a : Site) (accs : List WriteRuns) : Site := { a with spad := accs.foldl Spad.writeRuns a.spad }

/-- The first word holding an uncorrectable error that some of the write accesses, made one after another, merges with. -/
def Spad.badMerges (m : Spad) : List WriteRuns → Option Nat
  | [] => none
  | ws :: rest => match m.badMerge ws with
    | some w => some w
    | none => (m.writeRuns ws).badMerges rest

/-! ## Port cycles (R101–R104) -/

/-- The bank of the bank word that holds physical byte a (R101). -/
def bankOf (a : Nat) : Nat := (a / 4 + a / 256) % 64

/-- The largest number of a list of words (by number) that fall in one bank: the port cycles of the access (R104). -/
def portCycles (words : List Nat) : Nat :=
  words.foldl (fun m w => max m (words.countP (fun v => bankOf (4 * v) == bankOf (4 * w)))) 1

/-- The bank words of a contiguous run. -/
def runWords (addr len : Nat) : List Nat :=
  if len = 0 then [] else (List.range ((addr + len - 1) / 4 - addr / 4 + 1)).map (fun i => addr / 4 + i)

/-- SPW.CONFLICT counts the extra port cycles of an access (R104). -/
def Site.countConflict (a : Site) (words : List Nat) : Site :=
  { a with spad := { a.spad with conflict := satAdd a.spad.conflict (portCycles words - 1) } }

/-- Extra port cycles of a contiguous run, which is moved 256 bytes at a time from its first byte (R103, R104; log entry 113). -/
def runConflict (addr len : Nat) : Nat :=
  ((List.range (ceilDiv len 256)).map (fun i => portCycles (runWords (addr + 256 * i) (min 256 (len - 256 * i))) - 1)).sum

/-- SPW.CONFLICT counts the extra port cycles of contiguous runs (R104). -/
def Site.countRuns (a : Site) (rs : List (Nat × Nat)) : Site :=
  { a with spad := { a.spad with conflict := satAdd a.spad.conflict (rs.map (fun r => runConflict r.1 r.2)).sum } }

/-- The bank words of rank or file i of a tile (R102). -/
def lineWords (base w i : Nat) (file : Bool) : List Nat :=
  if file then ((List.range 64).map (fun r => (base + 64 * w * r + w * i) / 4)).eraseDups
  else runWords (base + 64 * w * i) (64 * w)

/-! ## Tiles (R55, R56, R102) -/

/-- Bytes of an element of a format code in a stored tile. -/
def elemWidth (fmt : Nat) : Nat := if fmt = 0 ∨ fmt = 0xb then 4 else if fmt = 1 ∨ fmt = 2 then 2 else 1

/-- Bytes of the scale block of a format code (R56). -/
def scaleBytes (fmt : Nat) : Nat := if 5 ≤ fmt ∧ fmt ≤ 8 then 128 else if fmt = 9 then 256 else 0

/-- Bytes of a tile with its scale block. -/
def tileSpan (fmt : Nat) : Nat := 4096 * elemWidth fmt + scaleBytes fmt

/-- An MX format code. -/
def isMx (fmt : Nat) : Bool := decide (5 ≤ fmt) && decide (fmt ≤ 9)

/-- A tile read from the scratchpad. -/
structure Tile where
  fmt : Nat
  data : Array Byte

/-- The tile of a format at a physical address, with its scale block. -/
def Site.tile (a : Site) (fmt addr : Nat) : Tile := ⟨fmt, (a.bytes addr (tileSpan fmt)).toArray⟩

/-- The stored bits of element (r, c); sub selects the nibble of an MXFP4 byte. -/
def Tile.raw (t : Tile) (r c sub : Nat) : Nat :=
  let w := elemWidth t.fmt
  let o := 64 * w * r + w * c
  let v := leNat ((List.range w).map (fun i => t.data.getD (o + i) 0))
  if t.fmt = 9 then v / 16 ^ sub % 16 else v

/-- The scale byte for vector v and inner index k (R56). -/
def Tile.scale (t : Tile) (v k sub : Nat) : Nat :=
  (t.data.getD (4096 + (if t.fmt = 9 then 4 * v + 2 * sub + k / 32 else 2 * v + k / 32)) 0).toNat

/-- The value of element (r, c) whose scale is that of vector v and inner index k. -/
def Tile.value (t : Tile) (r c v k sub : Nat) : Fp :=
  if isMx t.fmt then mxDecode t.fmt (t.raw r c sub) (t.scale v k sub)
  else (formatOf t.fmt).decode (t.raw r c sub)

/-- Element (r, c) of a stored tile as TLD and VLD give it: FP32, or INT32 for 0xA and 0xB (R85, R90). -/
def Tile.lane (t : Tile) (r c sub : Nat) : W32 :=
  if t.fmt = 0xb ∨ t.fmt = 0 then BitVec.ofNat 32 (t.raw r c sub)
  else if t.fmt = 0xa then (BitVec.ofNat 8 (t.raw r c sub)).signExtend 32
  else toF32 (t.value r c r c sub)

/-! ## Control instructions (R28) -/

def ctlOpcode (w : W32) : Nat := (fld w 26 6).toNat
def ctlRd (w : W32) : BitVec 5 := fld w 21 5
def ctlRs1 (w : W32) : BitVec 5 := fld w 16 5
def ctlRs2 (w : W32) : BitVec 5 := fld w 11 5
def ctlFunc (w : W32) : Nat := (fld w 0 11).toNat
def ctlImm (w : W32) : BitVec 16 := fld w 0 16

/-- The first operand of a branch stands in the rd field, the second in the rs1 field (R28). -/
def ctlBr1 (w : W32) : BitVec 5 := fld w 21 5
def ctlBr2 (w : W32) : BitVec 5 := fld w 16 5

/-- The signed word offset of a JAL. -/
def ctlOff26 (w : W32) : BitVec 26 := fld w 0 26

/-- Queue, register and count − 1 of the Q format. -/
def ctlQueue (w : W32) : BitVec 2 := fld w 24 2
def ctlCountM1 (w : W32) : Nat := (fld w 0 6).toNat

/-- Register r of a slot; S0 reads as zero (R25). -/
def Slot.reg (x : Slot) (r : BitVec 5) : W64 := if r = 0 then 0 else x.regs[r.toNat]

/-- Register r of a slot written; a write of S0 is discarded (R25). -/
def Slot.setReg (x : Slot) (r : BitVec 5) (v : W64) : Slot := if r = 0 then x else { x with regs := x.regs.set r.toNat v }

/-! ## Matrix commands (R60) -/

def mxField (b : BitVec 256) (lo len : Nat) : Nat := bitsOf b.toNat lo len
def mxOp (b : BitVec 256) : Nat := mxField b 0 6
def mxAfmt (b : BitVec 256) : Nat := mxField b 6 4
def mxBfmt (b : BitVec 256) : Nat := mxField b 10 4
def mxAori (b : BitVec 256) : Bool := mxField b 14 1 == 1
def mxBori (b : BitVec 256) : Bool := mxField b 15 1 == 1
def mxAcc (b : BitVec 256) : Nat := mxField b 16 6
def mxAccop (b : BitVec 256) : Nat := mxField b 22 2
def mxKsteps (b : BitVec 256) : Nat := mxField b 24 16 + 1
def mxAaddr (b : BitVec 256) : Nat := mxField b 40 17
def mxBaddr (b : BitVec 256) : Nat := mxField b 57 17
def mxAstride (b : BitVec 256) : Nat := mxField b 74 12
def mxBstride (b : BitVec 256) : Nat := mxField b 86 12
def mxDaddr (b : BitVec 256) : Nat := mxField b 98 17
def mxFod (b : BitVec 256) : Nat := mxField b 115 5

/-- The command drains through a descriptor. -/
def mxDrains (b : BitVec 256) : Bool := mxOp b == 2 || (mxOp b == 1 && mxAccop b == 2)

/-! ## Fused-output descriptors (R79) -/

def fodOutfmt (w : W64) : Nat := bitsOf w.toNat 0 4
def fodScaleMode (w : W64) : Nat := bitsOf w.toNat 4 2
def fodBiasEn (w : W64) : Bool := bit w 6
def fodBiasBf16 (w : W64) : Bool := bit w 7
def fodAct (w : W64) : Nat := bitsOf w.toNat 8 3
def fodRound (w : W64) : Bool := bit w 11
def fodOvf (w : W64) : Bool := bit w 12
def fodMask (w : W64) : Nat := bitsOf w.toNat 13 2
def fodFile (w : W64) : Bool := bit w 15
def fodAmaxEn (w : W64) : Bool := bit w 16
def fodAmaxSel (w : W64) : Nat := bitsOf w.toNat 17 3
def fodRowsM1 (w : W64) : Nat := bitsOf w.toNat 20 6
def fodColsM1 (w : W64) : Nat := bitsOf w.toNat 26 6
def fodScaleAddr (w : W64) : Nat := bitsOf w.toNat 32 17
def fodBiasAddr (w1 : W64) : Nat := bitsOf w1.toNat 0 17
def fodMaskAddr (w1 : W64) : Nat := bitsOf w1.toNat 17 17
def fodParam (w2 : W64) : W32 := w2.setWidth 32
def fodKeep (w2 : W64) : Nat := bitsOf w2.toNat 32 16

/-! ## Vector instructions (R84) -/

def vField (b : BitVec 256) (lo len : Nat) : Nat := bitsOf b.toNat lo len
def vOp (b : BitVec 256) : Nat := vField b 0 7
def vE (b : BitVec 256) : Bool := vField b 7 1 == 1
def vrVd (b : BitVec 256) : Nat := vField b 8 5
def vrVa (b : BitVec 256) : Nat := vField b 13 5
def vrVb (b : BitVec 256) : Nat := vField b 18 5
def vrPx (b : BitVec 256) : Nat := vField b 23 3
def vrType (b : BitVec 256) : Nat := vField b 26 4
def vrBi (b : BitVec 256) : Bool := vField b 30 1 == 1
def vImm (b : BitVec 256) : W32 := BitVec.ofNat 32 (vField b 32 32)
def vKind (b : BitVec 256) : Nat := vField b 60 4
def vTag (b : BitVec 256) : Nat := vField b 54 6
def vmReg (b : BitVec 256) : Nat := vField b 8 5
def vmFile (b : BitVec 256) : Bool := vField b 13 1 == 1
def vmFmt (b : BitVec 256) : Nat := vField b 14 4
def vmPack (b : BitVec 256) : Bool := vField b 18 1 == 1
def vmRnd (b : BitVec 256) : Bool := vField b 19 1 == 1
def vmOvf (b : BitVec 256) : Bool := vField b 20 1 == 1
def vmIndex (b : BitVec 256) : Nat := vField b 21 6
def vmPx (b : BitVec 256) : Nat := vField b 27 3
def vmAddr (b : BitVec 256) : Nat := 64 * vField b 32 17
def vtTd (b : BitVec 256) : Nat := vField b 8 7
def vtTa (b : BitVec 256) : Nat := vField b 15 7
def vtTb (b : BitVec 256) : Nat := vField b 22 7
def vtFile (b : BitVec 256) : Bool := vField b 29 1 == 1
def vtAddr (b : BitVec 256) : Nat := 64 * vField b 32 17
def vtFmt (b : BitVec 256) : Nat := vField b 49 4
def vtBit21 (b : BitVec 256) : Bool := vField b 53 1 == 1
def vtBit22 (b : BitVec 256) : Bool := vField b 54 1 == 1
def vsSrc (b : BitVec 256) : Nat := 64 * vField b 8 17
def vsMask (b : BitVec 256) : Nat := 64 * vField b 25 17
def vsDst (b : BitVec 256) : Nat := 64 * vField b 42 17
def vsFmt (b : BitVec 256) : Nat := vField b 59 4
def vsFile (b : BitVec 256) : Bool := vField b 63 1 == 1

/-- OP values of the VM, VT and VS formats (R84). -/
def isVm (op : Nat) : Bool := decide (0x48 ≤ op) && decide (op ≤ 0x4c)
def isVt (op : Nat) : Bool := decide (0x50 ≤ op) && decide (op ≤ 0x57)
def isVs (op : Nat) : Bool := op == 0x60 || op == 0x61

/-- A VT or VS instruction has issued and is not complete, and holds issue (R98, R99). -/
def Site.tileBusy (a : Site) : Bool := a.queues[(1 : Fin 4)].any (fun e => e.phase == .ran && (isVt (vOp e.bits) || isVs (vOp e.bits)))

/-! ## DMA descriptors (R39) -/

def dField (b : BitVec 256) (word lo len : Nat) : Nat := bitsOf b.toNat (64 * word + lo) len
def dRemote (b : BitVec 256) : Nat := dField b 0 0 48
def dOp (b : BitVec 256) : Nat := dField b 0 48 4
def dWin (b : BitVec 256) : BitVec 3 := BitVec.ofNat 3 (dField b 0 52 3)
def dTag (b : BitVec 256) : Nat := dField b 0 56 8
def dLocal (b : BitVec 256) : Nat := dField b 1 0 23
def dRowBytes (b : BitVec 256) : Nat := dField b 1 32 20
def dRows (b : BitVec 256) : Nat := dField b 2 0 16 + 1
def dRemoteStride (b : BitVec 256) : Nat := dField b 2 16 32
def dLocalStride (b : BitVec 256) : Nat := dField b 3 0 23
def dAop (b : BitVec 256) : Nat := dField b 3 32 4
def dIndexLimit (b : BitVec 256) : Nat := dField b 3 36 28

end Sys2Proof.Machine
end

