-- ==== Sys2Proof/Machine/Fence.lean ====
section
/-! DEFINITION. Machine/Fence.lean: the fault path: fencing, patch lists, and hardware faults (R416–R426). -/

namespace Sys2Proof.Machine

/-! ## Neighbours (R139, R144) -/

/-- The opposite mesh direction. -/
def portOpp : RPort → RPort
  | .n => .s
  | .s => .n
  | .e => .w
  | .w => .e
  | p => p

/-- The neighbour of a site in a mesh direction, across seams; none at an outer edge. -/
def neighbour (k : Nat) (p : RPort) : Option Nat :=
  let r := posRow k
  let c := posCol k
  match p with
  | .n => if 0 < r then some (siteAt (r - 1) c) else none
  | .s => if r < 191 then some (siteAt (r + 1) c) else none
  | .e => if c < 199 then some (siteAt r (c + 1)) else none
  | .w => if 0 < c then some (siteAt r (c - 1)) else none
  | _ => none

/-- Bit of a mesh port in RT.PORT (R168). -/
def portIdx : RPort → Nat
  | .n => 0
  | .e => 1
  | .s => 2
  | .w => 3
  | .loc => 4
  | .edge => 5
  | .service => 6

/-- The four mesh ports. -/
def meshPorts : List RPort := [.n, .e, .s, .w]

/-- f applied to each neighbour of a site, with the port by which it faces the site. -/
def State.updNeighbours (s : State) (k : Nat) (f : RPort → Site → Site) : State :=
  meshPorts.foldl (fun s p => match neighbour k p with
    | some j => s.updSite j (f (portOpp p))
    | none => s) s

/-! ## Plan counts (R423) -/

/-- One list entry applied to a router: the counts of its plan bits grow or shrink by one. -/
def Router.countPlans (r : Router) (plans : BitVec 16) (up : Bool) : Router :=
  { r with planCount := Vector.ofFn (fun i : Fin 16 =>
      if i.val ≠ 0 ∧ bit plans i.val then (if up then r.planCount[i] + 1 else r.planCount[i] - 1) else r.planCount[i]) }

/-- A patch list applied, or undone. -/
def State.applyPatches (s : State) (ps : List Patch) (up : Bool) : State :=
  ps.foldl (fun s p => s.updSite (siteAt p.row p.col) (fun a => { a with rt := a.rt.countPlans p.plans up })) s

/-! ## Unit kinds of an event record (R417) -/

def ukSite : Nat := 0
def ukStack : Nat := 1
def ukPc : Nat := 2
def ukHost : Nat := 3
def ukBay : Nat := 4
def ukSeam : Nat := 5
def ukStage : Nat := 6
def ukFeed : Nat := 7
def ukCage : Nat := 8
def ukPan : Nat := 9
def ukWafer : Nat := 10
def ukRemote : Nat := 11
def ukRmc : Nat := 12

/-! ## Fencing (R420, R421) -/

/-- A unit's number in the fence records: kind × 2^28 + index (R417). -/
def unitNo (kind index : Nat) : Nat := kind * 268435456 + index

/-- Thirty days of RMC time in µs (R421). -/
def thirtyDays : Nat := 2592000000000

/-- A fencing recorded; a unit fenced three times within 30 days is retired (R421). -/
def State.recordFence (s : State) (no : Nat) : State :=
  let t := s.fault.time
  let ts := t :: Tbl.get (fun _ => []) s.fault.fenceTimes no
  let recent := ts.filter (fun u => decide (t.toNat ≤ u.toNat + thirtyDays))
  let f := { s.fault with fenceTimes := Tbl.set s.fault.fenceTimes no ts }
  { s with fault := if 3 ≤ recent.length ∧ !f.retired.contains no then { f with retired := no :: f.retired } else f }

/-- A site with its domain switched off: everything it held is lost but its identity, its router tables and counts,
and the trace registers' own reset values (R420). -/
def Site.powerOff (a : Site) (k : Nat) (rtState : BitVec 2) (islState : BitVec 3) : Site :=
  { Site.reset k with
    lcol := a.lcol, lrow := a.lrow, mapValid := a.mapValid, fenced := a.fenced, parked := a.parked
    rt := { state := rtState, detour := a.rt.detour, smap := a.rt.smap, planWritten := a.rt.planWritten,
            planCount := a.rt.planCount, closed := a.rt.closed, liveOn := a.rt.liveOn }
    isl := { a.isl with state := islState, coupled := 0, freqNow := 0, locked := false } }

/-- The neighbours of a site that goes off: their couplings toward it are gated, their credits toward it are as new. -/
def State.isolate (s : State) (k : Nat) : State :=
  s.updNeighbours k (fun p a =>
    { a with isl := { a.isl with coupled := putBit a.isl.coupled (portIdx p) false }
             rt := { a.rt with used := a.rt.used.filter (fun e => e.1 / 8 != (portIdx p)), owed := a.rt.owed.filter (fun e => e.1 / 8 != (portIdx p)) } })

/-! ## The clock mesh (R389, R393) -/

/-- The reference is injected at a site: rows 12 + 24a and columns 12 + 25b of its wafer, for a and b from 0 to 3 (R389). -/
def injects (k : Nat) : Bool := siteY k % 24 == 12 && siteX k % 25 == 12

/-- The sites whose oscillators are coupled to that of a site: the coupling of a link is enabled at both of its ends. -/
def State.coupledTo (s : State) (k : Nat) : List Nat :=
  meshPorts.filterMap (fun p => (neighbour k p).filter (fun j =>
    bit (s.site k).isl.coupled (portIdx p) && bit (s.site j).isl.coupled (portIdx (portOpp p))))

/-- Some site that the listed ones lead to through couplings holds an injection site; seen are those already listed, and at most n more
are looked at. -/
def State.reachesReference (s : State) : Nat → List Nat → List Nat → Bool
  | 0, _, _ => false
  | _ + 1, [], _ => false
  | n + 1, k :: ks, seen =>
    if injects k then true
    else
      let new := (s.coupledTo k).filter (fun j => !seen.contains j)
      s.reachesReference n (ks ++ new) (new ++ seen)

/-- A site's oscillator can lock: its coupled component holds an injection site (R393). -/
def State.clocked (s : State) (k : Nat) : Bool := s.reachesReference 38401 [k] [k]

/-- A site whose oscillator is no longer locked, with its event (R393). -/
def State.clockLoss (s : State) (k : Nat) : State :=
  (s.updSite k (fun a => { a with isl := { a.isl with locked := false } })).post 0x13 1 1 ukSite k [k]

/-- The locked oscillators that a gated coupling has cut off from every injection site run free (R393). -/
def State.clockCheck (s : State) : State :=
  (s.sites.filter (fun e => e.2.isl.locked && !s.clocked e.1)).foldl (fun (t : State) e => t.clockLoss e.1) s

/-- A site fenced (R420). -/
def State.fenceSite (s : State) (k : Nat) : State :=
  let s := s.updSite k (fun a => { (a.powerOff k 3 5) with fenced := true, parked := false })
  ((s.isolate k).clockCheck).recordFence (unitNo 0 k)

/-- The site's patch list, from the active whole image (R422, R424). -/
def State.sitePlan (s : State) (k : Nat) : SitePlan := Tbl.get (fun _ => {}) s.fault.sitePlans k

/-- A failed site of pan n joins that pan's promotion, or queues one (R426). -/
def State.queuePromo (s : State) (n k : Nat) : State :=
  let ps := s.fault.promos
  let ps' := if ps.any (fun p => p.pan == n) then updFirst (fun p => p.pan == n) (fun p => { p with failed := p.failed ++ [k] }) ps
    else ps ++ [{ pan := n, failed := [k], released := s.fault.autoPromote }]
  { s with fault := { s.fault with promos := ps' } }

/-- The chosen pans have no configuration any more: they are UNCONFIGURED, and no array of theirs runs a task (R200, R378). -/
def State.unconfigure (s : State) (which : Nat → Pan → Bool) : State :=
  let mine := s.pans.filter (fun e => which e.1 e.2)
  let s := mine.foldl (fun (s : State) e => s.updSites (s.panSites e.1) (fun _ a => a.haltAll false)) s
  { s with pans := s.pans.map (fun (e : Nat × Pan) => if which e.1 e.2 then (e.1, { e.2 with st := .unconfigured }) else e) }

/-- A failure in a pan that is LOADING breaks the load: every pan that it touches is UNCONFIGURED (R375, R426). The load itself
ends when IMAGE_LOAD_COMPLETE finds it broken. -/
def State.breakLoad (s : State) (n : Nat) : State :=
  if (s.pan n).st = .loading then s.unconfigure (fun _ p => p.st == .loading) else s

/-- Steps 1 and 2 of R424 for a site that has failed: its pan stopped as R208 gives, the site fenced, its patch list
applied, and its promotion queued when it held a logical array of a configured pan. -/
def State.failSite (s : State) (k : Nat) : State :=
  let pan := s.panOf k
  let s := match pan with
    | some n => (s.panForceStop n).breakLoad n
    | none => s
  let s := s.fenceSite k
  let s := s.applyPatches (s.sitePlan k).patches true
  match pan with
  | some n => s.queuePromo n k
  | none => s

/-! ## Hardware faults (R47, R416, R418) -/

/-- PATH_DISAGREE (R418, R419): one path shows a unit usable and the other does not. DETAIL holds both views: the data path's liveness
(1 alive), the management path's power (0 off, 1 on, 2 retained), and its temperature (1 over limit). -/
def State.postDisagree (s : State) (kind index : Nat) (alive : Bool) (power : Nat) (hot : Bool) : State :=
  s.post 0x16 2 2 kind index [b2n alive, power, b2n hot]

/-- A unit that a source of R416 on the data path has reported (R419). -/
def State.markDead (s : State) (no : Nat) : State :=
  { s with fault := { s.fault with dead := if s.fault.dead.contains no then s.fault.dead else no :: s.fault.dead } }

/-- The data path reports a site dead: where the management path has it on, the paths disagree (R419). -/
def State.siteDead (s : State) (k : Nat) : State :=
  (if (s.site k).rt.state = 1 ∨ (s.site k).rt.state = 2 then s.postDisagree ukSite k false 1 false else s).markDead (unitNo ukSite k)

/-- A hardware fault of a unit: recorded in ARRAY.FAULT and reported to the fault path. For a site, which it shows dead on the data path,
the paths disagree before the event is posted with its detail, and the site is fenced and its promotion started (R47, R416, R418, R419,
R424; DEDUCED 165). -/
def State.hwFault (s : State) (k : Nat) (n : Fin 4) (code event : Nat) (detail : List Nat) : State :=
  let s := s.updSite k (fun a => a.recordFault n code)
  if k < 65536 then ((s.siteDead k).post event 2 0 ukSite k detail).failSite k
  else s.post event 2 0 ukPc ((k - 65536) / 16) detail

/-- An uncorrectable scratchpad word met by a read or a merge (R108, R109). -/
def State.sramFault (s : State) (k word : Nat) : State :=
  let s := s.updSite k (fun a => { a with spad := a.spad.recordUe word })
  s.hwFault k 0 fcSram 2 [(s.site k).spad.ueAddr.toNat]

/-- An operation that reads scratchpad ranges: single-bit errors among them are corrected, it goes on, and an uncorrectable
word among them is then reported (R109). -/
def State.readChecked (s : State) (k : Nat) (ranges : List (Nat × Nat)) (f : State → State) : State :=
  if ranges.all (fun r => !(s.site k).spad.flawed r.1 r.2) then f s
  else
    let t := f (s.updSite k (fun a => { a with spad := a.spad.correct (inRanges ranges) }))
    match ranges.findSome? (fun r => (s.site k).spad.bad r.1 r.2) with
    | none => t
    | some w => t.sramFault k w

/-- The same where the bytes leave the unit with a poison mark (R109): SPW.ECC and ARRAY.FAULT show an uncorrectable word at once, and the
fault path hears of it when the bytes have left (DESIGN CHOICE 159). -/
def State.carryOut (s : State) (k : Nat) (range : Nat × Nat) (f : State → State) : State :=
  let t := f (s.updSite k (fun a => { a with spad := a.spad.correct (inRanges [range]) }.countRuns [range]))
  match (s.site k).spad.bad range.1 range.2 with
  | none => t
  | some w => t.updSite k (fun a => { (a.recordFault 0 fcSram) with spad := a.spad.recordUe w, sramLate := true })

/-- The same for contiguous runs that the ports of the scratchpad move, with their extra port cycles counted (R104). -/
def State.readRuns (s : State) (k : Nat) (ranges : List (Nat × Nat)) (f : State → State) : State :=
  s.readChecked k ranges (fun s => f (s.updSite k (fun a => a.countRuns ranges)))

/-- Write accesses of a unit's scratchpad, one after another; a merge with an uncorrectable word is reported at once (R108). -/
def State.writeChecked (s : State) (k : Nat) (accs : List WriteRuns) : State :=
  let bad := (s.site k).spad.badMerges accs
  let s := s.updSite k (fun a => a.putRuns accs)
  match bad with
  | none => s
  | some w => s.sramFault k w

/-- A contiguous run written at a physical address, with its extra port cycles counted (R104). -/
def State.writeRun (s : State) (k addr : Nat) (bs : List Byte) : State :=
  (s.updSite k (fun a => a.countRuns [(addr, bs.length)])).writeChecked k [[(addr, bs)]]

end Sys2Proof.Machine
end

