-- ==== Sys2Proof/Machine/Fabric.lean ====
section
/-! DEFINITION. Machine/Fabric.lean: the routers of the wafer fabric, and the way a packet takes from an endpoint's
sending to its arrival (R139–R165). -/

namespace Sys2Proof.Machine

/-! ## Packet fields (R147, R148) -/

def ptReadReq : BitVec 6 := 0x01
def ptReadRsp : BitVec 6 := 0x02
def ptWrite : BitVec 6 := 0x03
def ptWriteAck : BitVec 6 := 0x04
def ptPut : BitVec 6 := 0x05
def ptPutAck : BitVec 6 := 0x06
def ptAtomicReq : BitVec 6 := 0x07
def ptAtomicRsp : BitVec 6 := 0x08
def ptReduce : BitVec 6 := 0x09
def ptCtrlMsg : BitVec 6 := 0x0a
def ptCtrlAck : BitVec 6 := 0x0b
def ptLiveness : BitVec 6 := 0x0c
def ptCompletion : BitVec 6 := 0x0d

/-- STATUS codes (R147). -/
def stOk : BitVec 4 := 0
def stTargetOff : BitVec 4 := 1
def stOutOfWindow : BitVec 4 := 2
def stPoison : BitVec 4 := 3
def stWindowClosed : BitVec 4 := 4
def stBusy : BitVec 4 := 5

/-- The class that a packet type travels in; none for a reserved code (R148). -/
def classOf (t : BitVec 6) : Option TClass :=
  match t.toNat with
  | 0x01 | 0x03 | 0x05 | 0x07 => some .bulk
  | 0x02 | 0x04 | 0x06 | 0x08 | 0x0b | 0x0d => some .sluice
  | 0x09 => some .reduce
  | 0x0a | 0x0c => some .control
  | _ => none

end Sys2Proof.Machine

namespace Sys2Proof

open Machine

/-- Number of a class in CLASS and in the round order of R162. -/
def TClass.idx : TClass → Nat
  | .sluice => 0
  | .control => 1
  | .reduce => 2
  | .bulk => 3

/-- Flits of a packet: one for each 128 payload bytes, and one where there is none (R147). -/
def Packet.flits (p : Packet) : Nat := max 1 (ceilDiv p.payload.length 128)

end Sys2Proof

namespace Sys2Proof.Machine

/-- Capacity in flits of a buffer of a class (R149). -/
def bufCap (c : Nat) : Nat := match c with | 0 => 16 | 1 => 8 | 2 => 16 | _ => 24

/-- Number of an input or output buffer: port, class, lane. -/
def bufKey (p : RPort) (c lane : Nat) : Nat := 8 * portIdx p + 2 * c + lane

/-! ## Blocked ports (R152) -/

/-- The seam that a mesh port of a site crosses, if it crosses one. -/
def seamOf (k : Nat) (p : RPort) : Option Nat :=
  let w := siteW k
  match p with
  | .e => if siteX k = 99 ∧ w % 2 = 0 then some (w / 2) else none
  | .w => if siteX k = 0 ∧ w % 2 = 1 then some (w / 2) else none
  | .s => if siteY k = 95 ∧ w < 2 then some (2 + w % 2) else none
  | .n => if siteY k = 0 ∧ 2 ≤ w then some (2 + w % 2) else none
  | _ => none

/-- A router that is off, fenced or parked forwards nothing (R140). -/
def Site.forwards (a : Site) : Bool := (a.rt.state == 1 || a.rt.state == 2) && !a.fenced && !a.parked

/-- A mesh port of a router is blocked. At an outer edge of the module there is no neighbour to send to either. -/
def State.blocked (s : State) (k : Nat) (p : RPort) : Bool :=
  let a := s.site k
  match neighbour k p with
  | none => true
  | some j => !(s.site j).forwards || bit a.rt.liveLost (portIdx p) || bit a.rt.closed (portIdx p)
      || (match seamOf k p with | some m => bit s.seamOff m | none => false)

/-- The site holds a logical array, so that its local port accepts packets (R140, R152). -/
def Site.holdsArray (a : Site) : Bool := a.mapValid && a.rt.state == 2

/-! ## Edge and service ports (R145, R146, R170) -/

/-- Site row of a wafer's horizontal outer edge, and site column of its vertical outer edge. -/
def edgeRow (w : Nat) : Nat := if w < 2 then 0 else 95
def edgeCol (w : Nat) : Nat := if w % 2 = 0 then 0 else 99

/-- Router of edge position p of the horizontal (e = 0) or vertical edge of a wafer. -/
def edgeRouter (w e p : Nat) : Nat :=
  if e = 0 then siteKey w (edgeRow w) (25 * (p / 24) + p % 24) else siteKey w p (edgeCol w)

/-- Router that serves an address of stack s: the edge link that bits [10:9] select. -/
def stackRouter (st addr : Nat) : Nat := edgeRouter (st / 48) (st % 48 / 24) (4 * (st % 24) + addr / 512 % 4)

/-- The stacks whose edge links end at a router. -/
def stacksAt (k : Nat) : List Nat :=
  let w := siteW k
  (if siteY k = edgeRow w ∧ siteX k % 25 < 24 then [48 * w + (24 * (siteX k / 25) + siteX k % 25) / 4] else [])
    ++ (if siteX k = edgeCol w then [48 * w + 24 + siteY k / 4] else [])

/-- The router has an edge port. -/
def hasEdge (k : Nat) : Bool := !(stacksAt k).isEmpty

/-- A service endpoint. -/
inductive Service where
  | pc (p : Fin 8)
  | host (h : Fin 4)
  | store (b : Fin 16)
  deriving DecidableEq, Repr

/-- The routers of a service endpoint's links. -/
def Service.links : Service → List Nat
  | .pc p =>
    let w := p.val / 2
    (List.range 16).map (fun i =>
      if p.val % 2 = 0 then siteKey w (edgeRow w) (3 + 6 * i) else siteKey w (3 + 6 * i) (edgeCol w))
  | .host h => [siteKey h.val (edgeRow h.val) 24, siteKey h.val (edgeRow h.val) 74]
  | .store b => [siteKey (b.val / 4) (12 + 24 * (b.val % 4)) (edgeCol (b.val / 4))]

/-- The service endpoint at a router. -/
def serviceAt (k : Nat) : Option Service :=
  let w := siteW k
  let f4 : Fin 4 := Fin.ofNat 4 w
  if siteY k = edgeRow w ∧ (siteX k = 24 ∨ siteX k = 74) then some (.host f4)
  else if siteY k = edgeRow w ∧ siteX k % 6 = 3 ∧ siteX k ≤ 93 then some (.pc (Fin.ofNat 8 (2 * w)))
  else if siteX k = edgeCol w ∧ siteY k % 24 = 12 then some (.store (Fin.ofNat 16 (4 * w + siteY k / 24)))
  else if siteX k = edgeCol w ∧ siteY k % 6 = 3 then some (.pc (Fin.ofNat 8 (2 * w + 1)))
  else none

/-- The link that a sender at a site position picks of an endpoint's n links (R146). -/
def pickLink (links : List Nat) (i : Nat) : Nat := links.getD (i % links.length) 0

/-! ## The address map -/

/-- Where a control address is served. -/
inductive Target where
  | stack (st : Nat)
  | service (v : Service)
  /-- A stack number that no controller serves (R171). -/
  | noStack
  /-- No endpoint of the mesh serves the address. -/
  | nowhere
  deriving DecidableEq, Repr

/-- First address of HBM data. -/
def hbmBase : Nat := 0x200000000000

/-- An address of HBM data, populated or not. -/
def isHbm (addr : Nat) : Bool := decide (hbmBase ≤ addr) && decide (addr < 2 * hbmBase)

/-- The stack of an HBM data address, and the offset in its aperture (R171). -/
def stackOf (addr : Nat) : Nat := (addr - hbmBase) / 2 ^ 37
def stackOff (addr : Nat) : Nat := (addr - hbmBase) % 2 ^ 37

/-- Bytes of a stack that are populated (R171). -/
def stackBytes : Nat := 0x1dcd650000

/-- An HBM address that a stack populates. -/
def hbmPopulated (addr : Nat) : Bool := isHbm addr && decide (stackOf addr < 192) && decide (stackOff addr < stackBytes)

/-- The endpoint that serves a control address (R171, R199, R215, R229, R317, R360). -/
def targetOf (addr : Nat) : Target :=
  if isHbm addr then (if stackOf addr < 192 then .stack (stackOf addr) else .noStack)
  else if 0x000100000000 ≤ addr ∧ addr < 0x000200000000 then .service (.host (Fin.ofNat 4 (addr / 2 ^ 30)))
  else if 0x000200000000 ≤ addr ∧ addr < 0x000300000000 then .service (.pc (Fin.ofNat 8 (addr / 2 ^ 29)))
  else if 0x000300000000 ≤ addr ∧ addr < 0x0003c0000000 then .stack ((addr - 0x000300000000) / 2 ^ 24)
  else if 0x000400000000 ≤ addr ∧ addr < 0x000410000000 then .service (.store (Fin.ofNat 16 (addr / 2 ^ 24)))
  else .nowhere

end Sys2Proof.Machine

namespace Sys2Proof

open Machine

/-- A request addressed to the endpoint that serves its ADDR, from a sender at a site position. -/
def Packet.toTarget (p : Packet) : Option Packet :=
  match targetOf p.addr.toNat with
  | .stack st =>
    let r := stackRouter st p.addr.toNat
    some { p with dport := 1, drow := posRow r, dcol := posCol r }
  | .service v =>
    let r := pickLink v.links (if p.ptype = ptReduce then p.addr.toNat / 512 else p.srow + p.scol)
    some { p with dport := 2, drow := posRow r, dcol := posCol r }
  | _ => none

end Sys2Proof

namespace Sys2Proof.Machine

/-- The site that a site map places a logical array on (R141). -/
def mapSite (m : Nat → Byte) (w y c : Nat) : Nat :=
  let hit := (List.range 4).reverse.find? (fun g => let e := m ((96 * w + y) * 4 + g); bit e 7 && decide (e.toNat % 128 = c))
  match hit with
  | some g => siteKey w y (25 * g + 24)
  | none => siteKey w y (25 * (c / 24) + c % 24)

/-- A site map gives a site a logical array. -/
def mapHolds (m : Nat → Byte) (k : Nat) : Bool :=
  let w := siteW k
  let y := siteY k
  if isSpare k then bit (m ((96 * w + y) * 4 + siteX k / 25)) 7 else mapSite m w y (24 * (siteX k / 25) + siteX k % 25) == k

/-! ## Sending -/

/-- A packet put in an input buffer of a router: one that came in there, or one that the router made (R152, R161). -/
def Router.enqueue (r : Router) (port : RPort) (p : Packet) (made : Bool := false) : Router :=
  let key := bufKey port p.cls.idx p.lane.val
  { r with inbuf := Tbl.set r.inbuf key (Tbl.get (fun _ => []) r.inbuf key ++ [{ pkt := p, made := made }]) }

/-- The sender of an input buffer holds credit for the packet: the flits it sent before and the packet fit the buffer (R149). -/
def Router.room (r : Router) (port : RPort) (p : Packet) : Bool :=
  let q := Tbl.get (fun _ => []) r.inbuf (bufKey port p.cls.idx p.lane.val)
  decide (((q.filter (fun b => !b.made)).map (fun b => b.pkt.flits)).sum + p.flits ≤ bufCap p.cls.idx)

/-- Waiting packets of an endpoint sent while it has credit for them. -/
def Router.refill (port : RPort) (key : Nat) : List Packet → Router → Router
  | [], r => { r with waits := Tbl.set r.waits key [] }
  | p :: ps, r => if r.room port p then Router.refill port key ps (r.enqueue port p) else { r with waits := Tbl.set r.waits key (p :: ps) }

/-- A packet of an endpoint would stand in the input buffer at once: none waits before it, and there is room. -/
def Router.mayEnter (r : Router) (port : RPort) (p : Packet) : Bool :=
  (Tbl.get (fun _ => []) r.waits (bufKey port p.cls.idx p.lane.val)).isEmpty && r.room port p

/-- A packet that comes to an input of a router: from the neighbour, which had credit for it, or from an endpoint, which waits
until it has (R149). -/
def Router.offer (r : Router) (port : RPort) (p : Packet) : Router :=
  let key := bufKey port p.cls.idx p.lane.val
  if portIdx port < 4 then r.enqueue port p else r.refill port key (Tbl.get (fun _ => []) r.waits key ++ [p])

/-- A packet that a neighbour or an endpoint of router k sends into it by a port. -/
def State.inject (s : State) (k : Nat) (port : RPort) (p : Packet) : State :=
  s.updSite k (fun a => { a with rt := a.rt.offer port p })

/-- A packet that the unit with key k sends: an array by its local port, an update engine by its port complex's links. -/
def State.sendFrom (s : State) (k : Nat) (p : Packet) : State :=
  if k < 65536 then s.inject k .loc p
  else s.inject (pickLink (Service.links (.pc (Fin.ofNat 8 ((k - 65536) / 16)))) (p.drow + p.dcol)) .service p

/-- The source position and port that a unit writes in its packets. An update engine's are those of the link on which
it sends to the destination. -/
def srcOf (k drow dcol : Nat) : Nat × Nat × BitVec 2 :=
  if k < 65536 then (posRow k, posCol k, 0)
  else
    let r := pickLink (Service.links (.pc (Fin.ofNat 8 ((k - 65536) / 16)))) (drow + dcol)
    (posRow r, posCol r, 2)

/-- A packet of a service endpoint sent into the mesh (R146). -/
def State.sendService (s : State) (v : Service) (p : Packet) : State :=
  let r := pickLink v.links (p.drow + p.dcol)
  s.inject r .service { p with srow := posRow r, scol := posCol r, sport := 2 }

/-- A packet of a stack controller, on the edge link of router r. -/
def State.sendStack (s : State) (r : Nat) (p : Packet) : State :=
  s.inject r .edge { p with srow := posRow r, scol := posCol r, sport := 1 }

end Sys2Proof.Machine

namespace Sys2Proof

open Machine

/-- The answer to a request: a packet of the sluice class back to the source, with its TAG (R147). -/
def Packet.answer (p : Packet) (ptype : BitVec 6) (status : BitVec 4) (payload : List Byte) (poison : Bool) : Packet :=
  { cls := .sluice, dport := p.sport, drow := p.srow, dcol := p.scol, srow := p.drow, scol := p.dcol, sport := p.dport
    poison := poison, ptype := ptype, tag := p.tag, addr := p.addr
    bytesM1 := BitVec.ofNat 10 (payload.length - 1), status := status, payload := payload }

end Sys2Proof

namespace Sys2Proof.Machine

/-! ## Blocked packets (R148, R152) -/

end Sys2Proof.Machine

namespace Sys2Proof

open Machine

/-- The COMPLETION with STATUS TARGET_OFF that a router sends in place of a request, in sluice lane 1. -/
def Packet.turnedOff (p : Packet) (k : Nat) : Packet :=
  { (p.answer ptCompletion stTargetOff [] false) with lane := 1, srow := posRow k, scol := posCol k, sport := 0 }

end Sys2Proof

namespace Sys2Proof.Machine

/-- A packet discarded at router k because its output is blocked: it entered on inPort. -/
def State.discardBlocked (s : State) (k : Nat) (inPort : RPort) (p : Packet) : State :=
  match p.cls with
  | .sluice => s.updSite k (fun a => { a with rt := { a.rt with dropSluice := satAdd a.rt.dropSluice 1 } })
  | .reduce => s.updSite k (fun a => { a with rt := { a.rt with dropReduce := satAdd a.rt.dropReduce 1 } })
  | _ => s.updSite k (fun a =>
      { a with rt := { (a.rt.enqueue inPort (p.turnedOff k) true) with dropConverted := satAdd a.rt.dropConverted 1 } })

/-! ## Routing (R150, R151, R168) -/

/-- Effective plan bits (R168): bit 0, the written mask, and every counted bit. -/
def Router.plans (r : Router) : BitVec 16 :=
  (List.range 16).foldl (fun w i => putBit w i (i == 0 || bit r.planWritten i || decide (0 < vget 0 r.planCount i))) 0

/-- The input bit of IN_MASK: local, N, E, S, W, edge, service. -/
def inBit : RPort → Nat
  | .loc => 0
  | .n => 1
  | .e => 2
  | .s => 3
  | .w => 4
  | .edge => 5
  | .service => 6

/-- A mesh port by its OUT code. -/
def outPort (n : Nat) : RPort := match n with | 0 => .n | 1 => .e | 2 => .s | _ => .w

/-- A detour entry matches a packet that entered on a port (R151). -/
def detourMatches (d : Detour) (plans : BitVec 16) (inPort : RPort) (p : Packet) : Bool :=
  bit d 52 && bit plans (fld d 48 4).toNat
    && decide ((fld d 0 8).toNat ≤ p.drow) && decide (p.drow ≤ (fld d 8 8).toNat)
    && decide ((fld d 16 8).toNat ≤ p.dcol) && decide (p.dcol ≤ (fld d 24 8).toNat)
    && bit d (32 + inBit inPort) && bit d (39 + p.cls.idx)
    && (fld d 43 2 == 0 || (fld d 43 2 == 1 && p.lane == 0) || (fld d 43 2 == 2 && p.lane == 1))

/-- The first matching detour entry of a router. -/
def Router.detourOf (r : Router) (inPort : RPort) (p : Packet) : Option Detour :=
  (r.detour.find? (fun e => detourMatches e.2 r.plans inPort p)).map (fun e => e.2)

/-- Default routing: along X, then along Y, then to DPORT (R150). -/
def defaultRoute (k : Nat) (p : Packet) : RPort :=
  let y := posRow k
  let x := posCol k
  if x < p.dcol then .e else if p.dcol < x then .w
  else if y < p.drow then .s else if p.drow < y then .n
  else match p.dport.toNat with
    | 0 => .loc
    | 1 => .edge
    | _ => .service

/-- The output of a packet, and the packet as it leaves. -/
def Router.route (r : Router) (k : Nat) (inPort : RPort) (p : Packet) : RPort × Packet :=
  match r.detourOf inPort p with
  | some d => (outPort (fld d 45 2).toNat, if bit d 47 then { p with lane := 1 } else p)
  | none => (defaultRoute k p, p)

/-- The stack at a router to which a packet for the edge port goes: by its ADDR where two stacks share the router. -/
def edgeStack (k : Nat) (p : Packet) : Option Nat :=
  match (stacksAt k).find? (fun st => targetOf p.addr.toNat == .stack st) with
  | some st => some st
  | none => (stacksAt k).head?

/-- A stack's controller is dark: its domain is off, or it is fenced (R188, R420). -/
def Stack.dark (a : Stack) : Bool := a.fenced || decide (2 ≤ a.stackState.toNat)

/-- A service endpoint is off or fenced: its service ports are blocked (R386, R420). -/
def State.serviceDark (s : State) : Service → Bool
  | .pc p => (s.pc p.val).fenced || (s.pc p.val).off
  | .host h => (s.hp h.val).fenced || (s.hp h.val).off
  | .store b => (s.bay b.val).fenced || (s.bay b.val).off

/-- The output of a packet at a router is blocked, or has no sink (R152, R188, R420). -/
def State.outBlocked (s : State) (k : Nat) (o : RPort) (p : Packet) : Bool :=
  match o with
  | .loc => !(s.site k).holdsArray
  | .edge => match edgeStack k p with
    | some st => (s.stack st).dark
    | none => true
  | .service => match serviceAt k with
    | some v => s.serviceDark v
    | none => true
  | m => s.blocked k m

/-! ## Input buffers -/

def Router.queue (r : Router) (key : Nat) : List BufPkt := Tbl.get (fun _ => []) r.inbuf key
def Router.setQueue (r : Router) (key : Nat) (q : List BufPkt) : Router := { r with inbuf := Tbl.set r.inbuf key q }

/-- A packet leaves its input buffer: the flits are owed to the neighbour as credits, or the endpoint of the port has credit for
more (R149). -/
def Router.dequeue (r : Router) (port : RPort) (key : Nat) : Router :=
  match r.queue key with
  | [] => r
  | b :: t =>
    let r := r.setQueue key t
    if b.made then r
    else if portIdx port < 4 then { r with owed := Tbl.set r.owed key (Tbl.get (fun _ => 0) r.owed key + b.pkt.flits) }
    else r.refill port key (Tbl.get (fun _ => []) r.waits key)

def State.updRouter (s : State) (k : Nat) (f : Router → Router) : State := s.updSite k (fun a => { a with rt := f a.rt })

/-! ## Combining (R156, R157) -/

/-- Elements of a REDUCE payload, by RFMT: 32-bit words, or 16-bit for BF16. -/
def reduceElems (rfmt : Nat) (bs : List Byte) : List Nat :=
  let w := if rfmt = 1 then 2 else 4
  (List.range (bs.length / w)).map (fun i => leNat ((bs.drop (w * i)).take w))

def reduceFmt (p : Packet) : Nat := (fld p.ext 16 2).toNat
def reduceCount (p : Packet) : Nat := (fld p.ext 0 16).toNat
def reduceSquashed (p : Packet) : Nat := (fld p.ext 18 8).toNat

/-- The EXT field of a REDUCE packet. -/
def reduceExt (count rfmt squashed : Nat) : W32 := BitVec.ofNat 32 (count % 65536 + rfmt * 65536 + squashed * 262144)

/-- An element of a sum is non-finite. -/
def elemNonFinite (rfmt x : Nat) : Bool := rfmt != 2 && !((formatOf (if rfmt = 1 then 1 else 0)).decode x).isFinite

/-- The sum of two elements (R157). -/
def elemAdd (rfmt x y : Nat) : Nat :=
  if rfmt = 2 then (x + y) % 2 ^ 32
  else
    let f := formatOf (if rfmt = 1 then 1 else 0)
    f.round ((f.decode x).add (f.decode y))

/-- The elements added, the NF flag of this addition, and the elements replaced under squash. An operand is squashed at the first
adder that handles its contribution: rawX and rawY say that no adder has handled it yet (R157). -/
def addElems (rfmt : Nat) (squash rawX rawY : Bool) (xs ys : List Nat) : List Nat × Bool × Nat :=
  let one (q : Nat × Nat) : Nat × Bool × Nat :=
    let bx := elemNonFinite rfmt q.1
    let by_ := elemNonFinite rfmt q.2
    if squash then
      let r := elemAdd rfmt (if bx && rawX then 0 else q.1) (if by_ && rawY then 0 else q.2)
      (r, elemNonFinite rfmt r, b2n (bx && rawX) + b2n (by_ && rawY))
    else
      let r := elemAdd rfmt q.1 q.2
      (r, bx || by_ || elemNonFinite rfmt r, 0)
  let rs := (xs.zip ys).map one
  (rs.map (fun r => r.1), rs.any (fun r => r.2.1), (rs.map (fun r => r.2.2)).sum)

/-- Bytes of elements of a reduce format. -/
def elemBytes (rfmt : Nat) (xs : List Nat) : List Byte := xs.flatMap (leBytes (if rfmt = 1 then 2 else 4))

/-- Two REDUCE packets combine (R156). -/
def combinable (p q : Packet) : Bool :=
  p.ptype == ptReduce && q.ptype == ptReduce && p.drow == q.drow && p.dcol == q.dcol && p.dport == q.dport && p.tag == q.tag
    && p.addr == q.addr && reduceFmt p == reduceFmt q && p.flits == q.flits && p.bytesM1 == q.bytesM1 && p.squash == q.squash

/-- No adder has handled the packet: COUNT is that of one contribution (R155). -/
def reduceRaw (p : Packet) : Bool := decide (reduceCount p ≤ 1)

/-- An arriving REDUCE packet q added into a waiting one p (R156, R157). -/
def combine (p q : Packet) : Packet :=
  let f := reduceFmt p
  let r := addElems f p.squash (reduceRaw p) (reduceRaw q) (reduceElems f p.payload) (reduceElems f q.payload)
  { p with
    payload := elemBytes f r.1
    nf := p.nf || q.nf || r.2.1
    poison := p.poison || q.poison
    ext := reduceExt (reduceCount p + reduceCount q) f (min 255 (reduceSquashed p + reduceSquashed q + r.2.2)) }

/-- The order of inputs in R162. -/
def inputOrder : List RPort := [.loc, .n, .e, .s, .w, .edge, .service]

/-- The input queues of a class, in the order of R162, with the port and key of each. -/
def classQueues (c : Nat) : List (RPort × Nat) := inputOrder.flatMap (fun p => [(p, bufKey p c 0), (p, bufKey p c 1)])

/-- The head of a queue waits in the combine stage of output o. -/
def stagedFor (o : RPort) (q : List BufPkt) : Bool :=
  match q with
  | b :: _ => b.staged && b.copies.any (fun c => c.1 == o)
  | [] => false

/-- The queue whose head combines with an arriving packet at output o. -/
def Router.partner (r : Router) (o : RPort) (p : Packet) : Option Nat :=
  ((classQueues 2).find? (fun q => match r.queue q.2 with
    | b :: _ => stagedFor o (r.queue q.2) && b.copies.any (fun c => combinable c.2 p)
    | [] => false)).map (fun q => q.2)

/-- The head packet routed to output o as packet p: a REDUCE packet combines with a waiting one, or takes a place in
the combine stage if one of the four is free. -/
def Router.place (r : Router) (inPort : RPort) (key : Nat) (o : RPort) (p : Packet) : Router :=
  let routed (b : BufPkt) : BufPkt := { b with routed := true, copies := [(o, p)] }
  let setHead (r : Router) (f : BufPkt → BufPkt) : Router := r.setQueue key (updAt (r.queue key) 0 f)
  if p.ptype = ptReduce ∧ r.combineEn = true then
    match r.partner o p with
    | some k' =>
      let r := r.setQueue k' (updAt (r.queue k') 0 (fun b =>
        { b with hold := false, copies := b.copies.map (fun c => (c.1, combine c.2 p)) }))
      { (r.dequeue inPort key) with combined := satAdd r.combined 1 }
    | none =>
      let n := (classQueues 2).countP (fun q => stagedFor o (r.queue q.2))
      setHead r (fun b => { routed b with staged := decide (n < 4), hold := decide (n < 4) && r.combineHold != 0 })
  else setHead r routed

/-- ROUTER_FORWARD (R150–R152): the head packet of an input buffer that is not routed yet is given its output, or is
handled as blocked. A DSET packet is left to DSET_FORK unless it is to be discarded (R159). -/
def execRouterForward (site : SiteId) (inPort : RPort) (cls : TClass) (lane : Fin 2) (s : State) : Result :=
  let k := site.key
  let key := bufKey inPort cls.idx lane.val
  let dropSluice (s : State) : State := s.updRouter k (fun r => { (r.dequeue inPort key) with dropSluice := satAdd r.dropSluice 1 })
  .next (match (s.site k).rt.queue key with
    | [] => s
    | b :: _ =>
      if b.routed || !(s.site k).forwards then s
      else if classOf b.pkt.ptype ≠ some cls then dropSluice s
      else if b.pkt.dset then (if inPort = .loc ∨ inPort = .service then dropSluice s else s)
      else
        let (o, p) := (s.site k).rt.route k inPort b.pkt
        if s.outBlocked k o p then (s.updRouter k (fun r => r.dequeue inPort key)).discardBlocked k inPort b.pkt
        else s.updRouter k (fun r => r.place inPort key o p))

/-- COMBINE_HOLD_EXPIRE (R156): the head packet of a reduce buffer no longer waits for a partner. -/
def execCombineHoldExpire (site : SiteId) (inPort : RPort) (lane : Fin 2) (s : State) : Result :=
  let key := bufKey inPort 2 lane.val
  .next (s.updRouter site.key (fun r => r.setQueue key (updAt (r.queue key) 0 (fun b => { b with hold := false }))))

/-! ## Destination sets (R160, R161) -/

def rowLo (p : Packet) : Nat := (fld p.ext 0 8).toNat
def rowHi (p : Packet) : Nat := (fld p.ext 8 8).toNat
def colLo (p : Packet) : Nat := (fld p.ext 16 8).toNat
def colHi (p : Packet) : Nat := (fld p.ext 24 8).toNat

/-- The outputs of a DSET packet's copies at a router (R160), the local one where the site may hold an array. -/
def forkOutputs (k : Nat) (inPort : RPort) (p : Packet) : List RPort :=
  let y := posRow k
  let x := posCol k
  let xPhase := inPort != .n && inPort != .s
  let startY := if xPhase then decide (colLo p ≤ x) && decide (x ≤ colHi p) else true
  let goE := xPhase && inPort != .e && decide (x < colHi p)
  let goW := xPhase && inPort != .w && decide (colLo p < x)
  let here := startY && decide (rowLo p ≤ y) && decide (y ≤ rowHi p)
  let goS := startY && inPort != .s && decide (y < rowHi p)
  let goN := startY && inPort != .n && decide (rowLo p < y)
  (if here then [.loc] else []) ++ (if goN then [.n] else []) ++ (if goE then [.e] else [])
    ++ (if goS then [.s] else []) ++ (if goW then [.w] else [])

/-- The site positions of the rectangle that a copy leaving by a mesh output would reach. -/
def copyReach (k : Nat) (o : RPort) (p : Packet) : List (Nat × Nat) :=
  let y := posRow k
  let x := posCol k
  let span (lo hi : Nat) : List Nat := (List.range (hi + 1 - lo)).map (fun i => lo + i)
  let rows := span (rowLo p) (rowHi p)
  let cols := span (colLo p) (colHi p)
  match o with
  | .e => rows.flatMap (fun r => (cols.filter (fun c => decide (x < c))).map (fun c => (r, c)))
  | .w => rows.flatMap (fun r => (cols.filter (fun c => decide (c < x))).map (fun c => (r, c)))
  | .s => (rows.filter (fun r => decide (y < r))).map (fun r => (r, x))
  | _ => (rows.filter (fun r => decide (r < y))).map (fun r => (r, x))

/-- A DSET copy unrolled at router k: a unicast READ_RSP in sluice lane 1 to each site with a logical array (R161). -/
def State.unroll (s : State) (k : Nat) (inPort : RPort) (o : RPort) (p : Packet) : State :=
  let sites := (copyReach k o p).filter (fun q => (s.site (siteAt q.1 q.2)).holdsArray)
  s.updRouter k (fun r =>
    { (sites.foldl (fun r q => r.enqueue inPort { p with dset := false, lane := 1, drow := q.1, dcol := q.2, dport := 0, ext := 0 } true) r) with
      unrolls := satAdd r.unrolls 1 })

/-- DSET_FORK (R160, R161): the copies of the head packet of a sluice buffer are set out; a copy for a blocked mesh
output is unrolled, and a site without a logical array gets none. -/
def execDsetFork (site : SiteId) (inPort : RPort) (lane : Fin 2) (s : State) : Result :=
  let k := site.key
  let key := bufKey inPort 0 lane.val
  .next (match (s.site k).rt.queue key with
    | [] => s
    | b :: _ =>
      if b.routed || !b.pkt.dset || inPort == .loc || inPort == .service || !(s.site k).forwards then s
      else
        let outs := (forkOutputs k inPort b.pkt).filter (fun o => o != .loc || (s.site k).holdsArray)
        let open_ := outs.filter (fun o => o == .loc || !s.blocked k o)
        let shut := outs.filter (fun o => o != .loc && s.blocked k o)
        let s := s.updRouter k (fun r =>
          if open_.isEmpty then r.dequeue inPort key
          else r.setQueue key (updAt (r.queue key) 0 (fun b => { b with routed := true, copies := open_.map (fun o => (o, b.pkt)) })))
        shut.foldl (fun s o => s.unroll k inPort o b.pkt) s)

/-! ## Arbitration (R149, R162) -/

/-- The packet of a queue's head that is ready for output o: the output holds credit for it, or the sink takes it. -/
def Router.ready (r : Router) (o : RPort) (takes : Packet → Bool) (key : Nat) : Option Packet :=
  match r.queue key with
  | b :: _ =>
    if b.hold then none
    else match b.copies.find? (fun c => c.1 == o) with
      | some (_, p) =>
        let ck := bufKey o p.cls.idx p.lane.val
        if (if portIdx o < 4 then decide (Tbl.get (fun _ => 0) r.used ck + p.flits ≤ bufCap p.cls.idx) else takes p) then some p else none
      | none => none
  | [] => none

def Router.out (r : Router) (o : RPort) : OutState := Tbl.get (fun _ => {}) r.outs (portIdx o)
def Router.setOut (r : Router) (o : RPort) (x : OutState) : Router := { r with outs := Tbl.set r.outs (portIdx o) x }

/-- Weight of a class (R168). -/
def Router.weight (r : Router) (c : Nat) : Nat := match c with
  | 0 => r.wSluice.toNat
  | 1 => r.wControl.toNat
  | 2 => r.wReduce.toNat
  | _ => r.wBulk.toNat

/-- The queues of a class with a packet ready for output o, in round-robin order after the class's last grant. -/
def Router.candidates (r : Router) (o : RPort) (takes : Packet → Bool) (c : Nat) : List (RPort × Nat) :=
  let qs := classQueues c
  let last := vget 13 (r.out o).last c
  (qs.drop (last + 1) ++ qs.take (last + 1)).filter (fun q => (r.ready o takes q.2).isSome)

/-- The age order of a queue's head; 0 for one that is not old. -/
def Router.headAge (r : Router) (key : Nat) : Nat := match r.queue key with | b :: _ => b.aged | [] => 0

/-- The choice of pick(c): the aged candidate that came to its age first, or the first candidate; and whether the age
guard chose it. -/
def Router.pick (r : Router) (o : RPort) (takes : Packet → Bool) (c : Nat) : Option (RPort × Nat × Bool) :=
  let cand := r.candidates o takes c
  let old := cand.filter (fun q => r.headAge q.2 != 0)
  let oldest := old.foldl (fun (m : Nat) q => if m = 0 ∨ r.headAge q.2 < m then r.headAge q.2 else m) 0
  match old.find? (fun q => r.headAge q.2 == oldest) with
  | some q => some (q.1, q.2, true)
  | none => cand.head?.map (fun q => (q.1, q.2, false))

/-- The place that the next head to come to age AGE takes in the order. -/
def Router.nextAge (r : Router) : Nat :=
  1 + (List.range 4).foldl (fun m c => (classQueues c).foldl (fun m q => max m (r.headAge q.2)) m) 0

/-- The round pointer advanced. -/
def OutState.advance (x : OutState) : OutState := { x with pointer := x.pointer + 1, arrived := true }

/-- The class at the round pointer has no packet ready: its deficit is 0, and the pointer advances. -/
def OutState.pass (x : OutState) : OutState := OutState.advance { x with deficit := vset x.deficit x.pointer.val 0 }

/-- The procedure of R162 for output o, until a packet is chosen: the router, and the queue that sends. -/
def Router.arbitrate (o : RPort) (takes : Packet → Bool) : Nat → Router → Router × Option (RPort × Nat)
  | 0, r => (r, none)
  | n + 1, r =>
    let x := r.out o
    let c := x.pointer.val
    match r.pick o takes c with
    | none => Router.arbitrate o takes n (r.setOut o x.pass)
    | some (port, key, old) =>
      let x := if x.arrived then { x with deficit := vset x.deficit c (vget 0 x.deficit c + r.weight c), arrived := false } else x
      let f := match r.ready o takes key with | some p => p.flits | none => 0
      let r := if old then { r with agePromote := satAdd r.agePromote 1 } else r
      if f ≤ vget 0 x.deficit c then
        let place := ((classQueues c).findIdx? (fun q => q.2 == key)).getD 0
        (r.setOut o { x with deficit := vset x.deficit c (vget 0 x.deficit c - f), last := vset x.last c place }, some (port, key))
      else Router.arbitrate o takes n (r.setOut o x.advance)

/-- Lines of the write buffer that a request takes (R173). -/
def reqLines (p : Packet) : Nat := if p.ptype = ptReadReq then 0 else ceilDiv p.payload.length 64

/-- Read tracker entries and write buffer lines in use (R173). -/
def Stack.readsInUse (a : Stack) : Nat := a.jobs.countP (fun j => match j with | .read _ => true | .merged _ _ => true | _ => false)
def Stack.linesInUse (a : Stack) : Nat :=
  (a.jobs.map (fun j => match j with | .write p => p.payload.length / 64 | _ => 0)).sum

/-- The bulk sink of a stack takes a request when an entry is free for it (R165, R173). -/
def Stack.takes (a : Stack) (p : Packet) : Bool :=
  if p.ptype = ptReadReq then decide (a.readsInUse + a.arrived.countP (fun q => q.ptype == ptReadReq) < 8192)
  else decide (a.linesInUse + ((a.arrived.filter (fun q => q.cls == .bulk)).map reqLines).sum + reqLines p ≤ 4096)

/-- First address of an ACU's aperture. -/
def acuAperture (k : Nat) : Nat :=
  if k < 4 then 0x000100000000 + k * 2 ^ 30 + 0x10000000 else 0x000200000000 + (k - 4) * 2 ^ 29 + 0x10000000

/-- Offset of an address in an ACU's aperture. -/
def acuOffset (k addr : Nat) : Option Nat :=
  if acuAperture k ≤ addr ∧ addr < acuAperture k + 0x10000000 then some (addr - acuAperture k) else none

/-- Lines that staging holds. -/
def Acu.stagedLines (a : Acu) : Nat := (a.staging.map (fun b => popcount b.lines)).sum

/-- Offset of an address in the request aperture of bay n (R317). -/
def storeAperture (n addr : Nat) : Bool :=
  let b := 0x000400000000 + n * 2 ^ 24 + 0x800000
  decide (b ≤ addr) && decide (addr < b + 0x800000)

/-- Record of a packet of request lines. -/
def Bay.pktOf (b : Bay) (p : Packet) : StorePkt := (b.pkts.find? (fun x => x.pkt == p)).getD { pkt := p }

/-- An ACU takes a WRITE when its staging has room and a READ_REQ when a tracker entry is free, beside those that have arrived (R225). -/
def Acu.takes (a : Acu) (arrived : List Packet) (p : Packet) : Bool :=
  if p.ptype = ptReadReq then decide (a.waiting.length + arrived.countP (fun q => q.ptype == ptReadReq) < 4096)
  else decide (a.stagedLines + ((arrived.filter (fun q => q.cls == .bulk)).map reqLines).sum + reqLines p ≤ 524288)

/-- A store controller takes a packet of lines when a request entry is free for each, beside those that have arrived (R324). -/
def Bay.takes (b : Bay) (p : Packet) : Bool :=
  decide (b.lines.length + ((b.arrived.filter (fun q => q.cls == .bulk)).map (fun q => reqLines q - (b.pktOf q).lines)).sum + reqLines p ≤ 1024)

/-- The bulk sink of a service endpoint takes a packet (R165). -/
def State.serviceTakes (s : State) (e : Service) (p : Packet) : Bool :=
  match e with
  | .host h => !(acuOffset h.val p.addr.toNat).isSome || (s.hp h.val).acu.takes (s.hp h.val).arrived p
  | .pc q => !(acuOffset (4 + q.val) p.addr.toNat).isSome || (s.pc q.val).acu.takes (s.pc q.val).arrived p
  | .store b => (s.bay b.val).takes p

/-- The sink of an output takes a packet (R165). Sluice, control and reduce sinks always do; of the bulk sinks an array's write port
never refuses (R107), and a stack or a service endpoint takes what has room. -/
def State.sinkTakes (s : State) (k : Nat) (o : RPort) (p : Packet) : Bool :=
  match o, p.cls with
  | .edge, .bulk => match edgeStack k p with
    | some st => (s.stack st).takes p
    | none => true
  | .service, .bulk => match serviceAt k with
    | some e => s.serviceTakes e p
    | none => true
  | _, _ => true

/-- A packet delivered to a sink of router k. -/
def State.deliver (s : State) (k : Nat) (o : RPort) (p : Packet) : State :=
  match o with
  | .loc => s.updSite k (fun a => { a with arrived := a.arrived ++ [p] })
  | .edge => match edgeStack k p with
    | some st => s.updStack st (fun a => { a with arrived := a.arrived ++ [p] })
    | none => s
  | _ => match serviceAt k with
    | some (.pc q) => s.updPc q.val (fun a => { a with arrived := a.arrived ++ [p] })
    | some (.host h) => s.updHp h.val (fun a => { a with arrived := a.arrived ++ [p] })
    | some (.store b) => s.updBay b.val (fun a => { a with arrived := a.arrived ++ [p] })
    | none => s

/-- The head packet's copy for output o is gone; its input buffer is freed with the last copy. -/
def Router.dropCopy (r : Router) (o inPort : RPort) (key : Nat) : Router :=
  match r.queue key with
  | b :: t =>
    let rest := b.copies.filter (fun c => c.1 != o)
    if rest.isEmpty then r.dequeue inPort key else r.setQueue key ({ b with copies := rest } :: t)
  | [] => r

/-- A chosen packet sent by output o: credits are taken, the packet moves to the neighbour or the sink, and its input
buffer is freed when its last copy has gone. -/
def State.sendOut (s : State) (k : Nat) (o inPort : RPort) (key : Nat) : State :=
  match (s.site k).rt.ready o (s.sinkTakes k o) key with
  | none => s
  | some p =>
    let s := s.updRouter k (fun r => r.dropCopy o inPort key)
    if portIdx o < 4 then
      let ck := bufKey o p.cls.idx p.lane.val
      let s := s.updRouter k (fun r => { r with used := Tbl.set r.used ck (Tbl.get (fun _ => 0) r.used ck + p.flits) })
      match neighbour k o with
      | some j => s.inject j (portOpp o) p
      | none => s
    else s.deliver k o p

/-- A head packet with a copy for output o that has become blocked since it was routed: its input queue and the copy. -/
def State.shedding (s : State) (k : Nat) (o : RPort) : Option (RPort × Nat × Packet) :=
  ((List.range 4).flatMap classQueues).findSome? (fun q => match (s.site k).rt.queue q.2 with
    | b :: _ => ((b.copies.find? (fun c => c.1 == o && s.outBlocked k o c.2)).map (fun c => (q.1, q.2, c.2)))
    | [] => none)

/-- A copy for a blocked output handled: a DSET copy is unrolled, or not delivered to a site without a logical array, and any other
packet is discarded (R152, R160, R161). -/
def State.shed (s : State) (k : Nat) (o inPort : RPort) (key : Nat) (p : Packet) : State :=
  let s := s.updRouter k (fun r => r.dropCopy o inPort key)
  if p.dset then (if o = .loc then s else s.unroll k inPort o p) else s.discardBlocked k inPort p

/-- A packet of some class is ready for output o. -/
def State.anyReady (s : State) (k : Nat) (o : RPort) : Bool :=
  (s.site k).forwards && (List.range 4).any (fun c => !((s.site k).rt.candidates o (s.sinkTakes k o) c).isEmpty)

/-- The site whose column shares the link of a horizontal seam with site k's (R144). -/
def seamPartner (k : Nat) (o : RPort) : Option Nat :=
  match seamOf k o with
  | some m => if m < 2 then none else if siteX k % 25 = 24 then some (k - 1) else if siteX k % 25 = 23 then some (k + 1) else none
  | none => none

/-- The router that records which column of a shared seam link sent last. -/
def seamHome (k j : Nat) : Nat := if isSpare k then j else k

/-- A shared seam link is the other column's turn: it has traffic, and the last packet left from this one (R144). -/
def State.seamYields (s : State) (k : Nat) (o : RPort) : Bool :=
  match seamPartner k o with
  | some j => s.anyReady j o && (s.site (seamHome k j)).rt.spareLast == isSpare k
  | none => false

/-- A packet of site k has gone over its seam link. -/
def State.seamSent (s : State) (k : Nat) (o : RPort) : State :=
  match seamPartner k o with
  | some j => s.updRouter (seamHome k j) (fun r => { r with spareLast := isSpare k })
  | none => s

/-- One run of the procedure of R162 for a free output. A packet whose output has become blocked goes first, as R152 gives. With no
packet ready for it, the class at the round pointer is passed. -/
def State.grant (s : State) (k : Nat) (o : RPort) : State :=
  if (s.site k).forwards then
    match s.shedding k o with
    | some (port, key, p) => s.shed k o port key p
    | none =>
      if s.seamYields k o then s
      else if s.anyReady k o then
        let g := Router.arbitrate o (s.sinkTakes k o) 64 (s.site k).rt
        let s := s.updRouter k (fun _ => g.1)
        match g.2 with
        | some (port, key) => (s.seamSent k o).sendOut k o port key
        | none => s
      else s.updRouter k (fun r => r.setOut o (r.out o).pass)
  else s

/-- OUTPUT_GRANT (R162). -/
def execOutputGrant (site : SiteId) (out : RPort) (s : State) : Result := .next (s.grant site.key out)

/-- ROUTER_AGE_GRANT (R162): the head packet of an input buffer has been ready for AGE cycles, and the output grants it
first within its class. -/
def execRouterAgeGrant (site : SiteId) (out inPort : RPort) (cls : TClass) (lane : Fin 2) (s : State) : Result :=
  let k := site.key
  let key := bufKey inPort cls.idx lane.val
  .next (if ((s.site k).rt.ready out (s.sinkTakes k out) key).isSome then
      (s.updRouter k (fun r => r.setQueue key (updAt (r.queue key) 0 (fun b =>
        { b with aged := if b.aged = 0 then r.nextAge else b.aged })))).grant k out
    else s)

/-- CREDIT_RETURN (R149): the credits that the neighbour of a port owes for one buffer come back. -/
def execCreditReturn (site : SiteId) (port : RPort) (cls : TClass) (lane : Fin 2) (s : State) : Result :=
  let k := site.key
  .next (match neighbour k port with
    | none => s
    | some j =>
      let ok := bufKey (portOpp port) cls.idx lane.val
      let n := Tbl.get (fun _ => 0) (s.site j).rt.owed ok
      let s := s.updRouter j (fun r => { r with owed := Tbl.set r.owed ok 0 })
      let ck := bufKey port cls.idx lane.val
      s.updRouter k (fun r => { r with used := Tbl.set r.used ck (Tbl.get (fun _ => 0) r.used ck - n) }))

/-- SEAM_LINK_RETRY (R144): a flit that failed its check is sent again from the replay buffer. The packet arrives as it
was sent, never poisoned, so nothing that State holds changes. -/
def execSeamLinkRetry (_site : SiteId) (_port : RPort) (s : State) : Result := .next s

/-! ## Liveness flits (R52, R413) -/

/-- LIVENESS_SEND (R52): a forwarding router sends a LIVENESS flit to each mesh neighbour; a blocked neighbour gets none. -/
def execLivenessSend (site : SiteId) (s : State) : Result :=
  let k := site.key
  .next (if (s.site k).forwards then
      s.updNeighbours k (fun p a => if a.forwards then { a with rt := { a.rt with liveIn := putBit a.rt.liveIn (portIdx p) true } } else a)
    else s)

end Sys2Proof.Machine
end

