-- ==== Sys2Proof/Machine/Hbm.lean ====
section
/-! DEFINITION. Machine/Hbm.lean: the HBM stacks and their controllers: merging, device accesses, the shared cache and
its atomics, temperature and power banks (R158, R159, R170–R190). -/

namespace Sys2Proof.Machine

/-! ## Lines and banks (R171, R177, R180, R186) -/

/-- Power bank of a stack offset (R171). -/
def powerBank (off : Nat) : Fin 8 := Fin.ofNat 8 (off / 2 ^ 34)

/-- A bank serves reads, writes and atomics (R186). -/
def BankState.serves : BankState → Bool
  | .on => true
  | .draining => true
  | _ => false

def Stack.serves (a : Stack) (off : Nat) : Bool := a.banks[powerBank off].serves && !a.dark

/-- The line lies in an enabled cached range (R180). -/
def Stack.inCachedRange (a : Stack) (line : Nat) : Bool :=
  a.cacheRange.toList.any (fun r =>
    r.enable && decide (r.base.toNat * 2 ^ 20 ≤ 64 * line) && decide (64 * line < r.bound.toNat * 2 ^ 20))

def Stack.cached (a : Stack) (line : Nat) : Option CacheLine := a.cache.find? (fun c => c.line == line)

/-- A sorted list of numbers with one more. -/
def insertNat : List Nat → Nat → List Nat
  | [], n => [n]
  | x :: xs, n => if n < x then n :: x :: xs else if n = x then x :: xs else x :: insertNat xs n

/-- A line written to the device, poisoned or not (R177). -/
def Stack.putDevice (a : Stack) (line : Nat) (bs : List Byte) (poison : Bool) : Stack :=
  { a with
    mem := Memory.write a.mem (64 * line) bs
    poisonLines := if poison then insertNat a.poisonLines line else a.poisonLines.filter (fun l => l != line) }

/-- A line put in the shared cache, or replaced there, as the most recently used of its set; the least recently used
line of a full set is replaced, and written back if it is dirty (R180). -/
def Stack.putCache (a : Stack) (c : CacheLine) : Stack :=
  let others := a.cache.filter (fun d => d.line != c.line)
  let set := others.filter (fun d => d.line % 32768 == c.line % 32768)
  if set.length < 16 then { a with cache := others ++ [c] }
  else match set with
    | v :: _ =>
      let a := if v.dirty then a.putDevice v.line v.bytes v.poison else a
      { a with cache := others.filter (fun d => d.line != v.line) ++ [c] }
    | [] => { a with cache := others ++ [c] }

/-- A line as a read finds it: from the cache if present, else from the device. -/
def Stack.line (a : Stack) (line : Nat) : List Byte × Bool :=
  match a.cached line with
  | some c => (c.bytes, c.poison)
  | none => (Memory.read a.mem (64 * line) 64, a.poisonLines.contains line)

/-- The line's bank drains, so that the cache allocates none of its lines (R187). -/
def Stack.draining (a : Stack) (line : Nat) : Bool := a.banks[powerBank (64 * line)] == .draining

/-- The cache after a read of a line: a present line is most recently used, and a line of a cached range is allocated. -/
def Stack.touch (a : Stack) (line : Nat) : Stack :=
  match a.cached line with
  | some c => a.putCache c
  | none =>
    if a.inCachedRange line && !a.draining line then
      let l := a.line line
      a.putCache { line := line, bytes := l.1, poison := l.2 }
    else a

/-- A line written (R175, R180, R187): into the cache if it is present there, in a cached range or the target of an atomic, else into
the device. The cache allocates no line of a draining bank, and one that it holds is written back. -/
def Stack.putLine (a : Stack) (atomic : Bool) (line : Nat) (bs : List Byte) (poison : Bool) : Stack :=
  if (a.cached line).isSome || (!a.draining line && (atomic || a.inCachedRange line)) then
    let b := a.putCache { line := line, bytes := bs, dirty := true, poison := poison }
    if a.draining line then { b with jobs := b.jobs ++ [.writeback line] } else b
  else a.putDevice line bs poison

def Stack.writeLine (a : Stack) (line : Nat) (bs : List Byte) (poison : Bool) : Stack := a.putLine false line bs poison

/-- A dirty line of the cache written back to the device (R180). -/
def Stack.writeBack (a : Stack) (line : Nat) : Stack :=
  match a.cached line with
  | none => a
  | some c =>
    if c.dirty then
      { (a.putDevice line c.bytes c.poison) with cache := a.cache.map (fun d => if d.line = line then { d with dirty := false } else d) }
    else a

/-- The lines that the len bytes at a stack offset touch. -/
def linesOf (off len : Nat) : List Nat := (List.range ((off + len - 1) / 64 - off / 64 + 1)).map (fun i => off / 64 + i)

/-- An uncorrectable line met by an access: recorded in HBM.ECC and reported (R177, R418). -/
def State.noteStackUe (s : State) (st line : Nat) : State :=
  let s := s.updStack st (fun a => { a with ue := true, ueAddr := if a.ue then a.ueAddr else BitVec.ofNat 31 line })
  s.post 0x0e 1 0 ukStack st [(s.stack st).ueAddr.toNat]

/-- The len bytes at a stack offset read, with the poison of the lines they touch. The cache takes up the lines that a request
named (R178). -/
def State.readLines (s : State) (st off len : Nat) (named : List Nat) : State × List Byte × Bool :=
  let ls := linesOf off len
  let a := s.stack st
  let bs := ((ls.flatMap (fun l => (a.line l).1)).drop (off % 64)).take len
  let bad := ls.filter (fun l => (a.line l).2)
  let s := s.updStack st (fun a => named.foldl Stack.touch a)
  let s := bad.foldl (fun s l => s.noteStackUe st l) s
  (s, bs, !bad.isEmpty)

def State.readStack (s : State) (st off len : Nat) : State × List Byte × Bool := s.readLines st off len (linesOf off len)

/-- The payload of a READ_RSP: zero where it carries POISON (R186). -/
def rspBytes (bs : List Byte) (bad : Bool) : List Byte := if bad then List.replicate bs.length 0 else bs

/-- Whole lines written at a stack offset. -/
def Stack.writeLines (a : Stack) (off : Nat) (bs : List Byte) (poison : Bool) : Stack :=
  (List.range (bs.length / 64)).foldl (fun a i => a.writeLine (off / 64 + i) ((bs.drop (64 * i)).take 64) poison) a

/-! ## Merging (R158, R159) -/

/-- A READ_REQ as a member of an entry. -/
def memberOf (p : Packet) : Member :=
  { row := p.srow, col := p.scol, port := p.sport, tag := p.tag, off := p.addr.toNat % 512, len := p.bytesM1.toNat + 1 }

/-- The sender of a read is a member of an entry. -/
def MergeEntry.has (m : MergeEntry) (p : Packet) : Bool := m.members.any (fun q => q.row == p.srow && q.col == p.scol && q.port == p.sport)

/-- A site position holds no logical array by the controller's site map and its fence records, so that a run may span it (R159). -/
def State.noArray (s : State) (row col : Nat) : Bool :=
  let k := siteAt row col
  !mapHolds (Memory.get s.smap) k || (s.site k).fenced

/-- The runs of one site row: columns of members joined over sites without a logical array. -/
def State.rowRuns (s : State) (row : Nat) (cols : List Nat) : List (Nat × Nat) :=
  cols.foldl (fun (rs : List (Nat × Nat)) c =>
    match rs.reverse with
    | (lo, hi) :: t =>
      if (List.range (c - hi - 1)).all (fun i => s.noArray row (hi + 1 + i)) then (((lo, c) :: t).reverse) else rs ++ [(c, c)]
    | [] => [(c, c)]) []

/-- A rectangle of site positions. -/
structure Rect where
  rowLo : Nat
  rowHi : Nat
  colLo : Nat
  colHi : Nat
  deriving DecidableEq, Repr

/-- Runs of equal bounds in consecutive rows merged into rectangles. -/
def mergeRuns (rs : List (Nat × Nat × Nat)) : List Rect :=
  rs.foldl (fun (out : List Rect) r =>
    if out.any (fun q => q.rowHi + 1 == r.1 && q.colLo == r.2.1 && q.colHi == r.2.2) then
      updFirst (fun q => q.rowHi + 1 == r.1 && q.colLo == r.2.1 && q.colHi == r.2.2) (fun q => { q with rowHi := r.1 }) out
    else out ++ [⟨r.1, r.1, r.2.1, r.2.2⟩]) []

/-- The rectangles of a closed entry. -/
def State.rectangles (s : State) (ms : List Member) : List Rect :=
  let rows := ms.foldl (fun l m => insertNat l m.row) []
  mergeRuns (rows.flatMap (fun r =>
    (s.rowRuns r ((ms.filter (fun m => m.row == r)).foldl (fun l m => insertNat l m.col) [])).map (fun q => (r, q.1, q.2))))

/-- The READ_RSP of one rectangle, carrying the whole block (R159). -/
def rectPacket (ms : List Member) (block : Nat) (bs : List Byte) (poison : Bool) (q : Rect) : Packet :=
  let addr := BitVec.ofNat 48 (512 * block)
  if q.rowLo = q.rowHi ∧ q.colLo = q.colHi then
    let tag := ((ms.find? (fun m => m.row == q.rowLo && m.col == q.colLo)).map (fun m => m.tag)).getD 0
    { cls := .sluice, drow := q.rowLo, dcol := q.colLo, srow := 0, scol := 0, ptype := ptReadRsp, tag := tag, poison := poison,
      addr := addr, bytesM1 := 511, payload := bs }
  else
    { cls := .sluice, drow := q.rowLo, dcol := q.colLo, srow := 0, scol := 0, ptype := ptReadRsp, dset := true, poison := poison,
      addr := addr, bytesM1 := 511, payload := bs
      ext := BitVec.ofNat 32 (q.rowLo + q.rowHi * 2 ^ 8 + q.colLo * 2 ^ 16 + q.colHi * 2 ^ 24) }

/-! ## Device accesses (R173–R176) -/

/-- The answers to the members of an entry: rectangles of sites, and a unicast for a member that is a service endpoint, which no
destination set reaches (R159, R160; DEDUCED 124). -/
def State.sendBlock (s : State) (st block : Nat) (ms : List Member) (bs : List Byte) (bad : Bool) : State :=
  let r := stackRouter st (512 * block)
  let sites := ms.filter (fun m => m.port == 0)
  let s := (s.rectangles sites).foldl (fun s q => s.sendStack r (rectPacket sites block bs bad q)) s
  (ms.filter (fun m => m.port != 0)).foldl (fun s m =>
    s.sendStack r { (rectPacket [m] block bs bad ⟨m.row, m.row, m.col, m.col⟩) with dport := m.port }) s

/-- A read answered as poisoned: its bank serves no reads (R186). -/
def State.poisonJob (s : State) (st : Nat) (j : StackJob) : State :=
  match j with
  | .read p => s.sendStack (stackRouter st p.addr.toNat) (p.answer ptReadRsp stOk (List.replicate (p.bytesM1.toNat + 1) 0) true)
  | .merged block ms => s.sendBlock st block ms (List.replicate 512 0) true
  | _ => s

/-- The lines of the stack that the members of an entry named. -/
def memberLines (block : Nat) (ms : List Member) : List Nat := ms.flatMap (fun m => linesOf (stackOff (512 * block) + m.off) m.len)

/-- The first job of a stack done: its bank is looked at as it is now (R186). -/
def State.runJob (s : State) (st : Nat) (j : StackJob) : State :=
  match j with
  | .read p =>
    let off := stackOff p.addr.toNat
    if (s.stack st).serves off then
      let (s, bs, bad) := s.readStack st off (p.bytesM1.toNat + 1)
      s.sendStack (stackRouter st p.addr.toNat) (p.answer ptReadRsp stOk (rspBytes bs bad) bad)
    else s.poisonJob st j
  | .merged block ms =>
    let off := stackOff (512 * block)
    if (s.stack st).serves off then
      let (s, bs, bad) := s.readLines st off 512 (memberLines block ms)
      s.sendBlock st block ms (rspBytes bs bad) bad
    else s.poisonJob st j
  | .writeback line => s.updStack st (fun a => a.writeBack line)
  | .write p =>
    let off := stackOff p.addr.toNat
    let r := stackRouter st p.addr.toNat
    if (s.stack st).serves off then
      (s.updStack st (fun a => a.writeLines off p.payload p.poison)).sendStack r (p.answer ptWriteAck stOk [] false)
    else s.sendStack r (p.answer ptWriteAck stTargetOff [] false)

/-- The first job taken from the queue and done. -/
def State.stepJobs (s : State) (st : Nat) : State :=
  match (s.stack st).jobs with
  | [] => s
  | j :: t => (s.updStack st (fun a => { a with jobs := t })).runJob st j

/-- Every job queued at a stack done, in order, so that what follows is applied after them (R174). -/
def State.flushJobs (s : State) (st : Nat) : State := (s.stack st).jobs.foldl (fun s _ => s.stepJobs st) s

/-- An open entry of a block closed: one read of the block takes a tracker entry, and the waiting reads of the block
open the next entry (R158). -/
def Stack.closeEntry (a : Stack) (block : Nat) : Stack :=
  match a.entries.find? (fun m => m.block == block) with
  | none => a
  | some m =>
    let mine (p : Packet) : Bool := p.addr.toNat / 512 == block
    let next := (a.waiting.filter mine).foldl (fun (q : MergeEntry × List Packet) p =>
      if q.1.has p then (q.1, q.2 ++ [p]) else ({ q.1 with members := q.1.members ++ [memberOf p] }, q.2)) (⟨block, []⟩, [])
    { a with
      entries := a.entries.filter (fun m => m.block != block) ++ (if next.1.members.isEmpty then [] else [next.1])
      waiting := a.waiting.filter (fun p => !mine p) ++ next.2
      jobs := a.jobs ++ [.merged block m.members] }

/-- Every entry of a block closed, those of the reads that wait among them, so that all of them come before what follows
(R158, R174, R182). -/
def Stack.closeBlock (a : Stack) (block : Nat) : Stack :=
  (List.range (a.waiting.countP (fun p => p.addr.toNat / 512 == block) + 1)).foldl (fun a _ => a.closeEntry block) a

def State.closeEntry (s : State) (st block : Nat) : State := s.updStack st (fun a => a.closeEntry block)
def State.closeBlock (s : State) (st block : Nat) : State := s.updStack st (fun a => a.closeBlock block)

/-- Every entry of a bank closed. -/
def State.closeBank (s : State) (st : Nat) (b : Fin 8) : State :=
  ((s.stack st).entries.filter (fun m => powerBank (stackOff (512 * m.block)) == b)).foldl (fun s m => s.closeBlock st m.block) s

/-- A request is the first of those that have arrived and are not taken: the controller takes them in the order of their arrival (R174). -/
def Stack.isFirst (a : Stack) (p : Packet) : Bool := a.arrived.find? (fun q => q.cls == .bulk) == some p

/-- A packet that has arrived is taken. -/
def Stack.take (a : Stack) (p : Packet) : Stack := { a with arrived := a.arrived.erase p }

/-- An address lies in the image staging area (R369, R380). -/
def Images.inStage (i : Images) (addr : Nat) : Bool :=
  decide (i.stageBase.toNat * 2 ^ 20 ≤ addr) && decide (addr < i.stageBound.toNat * 2 ^ 20)

/-- During a load, writes to the staging area from any requester but the loader are answered TARGET_OFF (R369). -/
def State.stageLocked (s : State) (addr : Nat) : Bool :=
  s.images.loads.any (fun l => l.step != 0) && s.images.inStage addr

/-- A request to an address that the stack does not populate (R171). -/
def State.answerUnpop (s : State) (st : Nat) (p : Packet) (a : Packet) : State :=
  (s.updStack st (fun x => { x with unpop := satAdd x.unpop 1 })).sendStack (stackRouter st p.addr.toNat) a

/-- A request in the sink of a stack that has gone dark: the router answers in its place (R152, R188). -/
def State.answerDark (s : State) (st : Nat) (p : Packet) : State :=
  let r := stackRouter st p.addr.toNat
  s.inject r .edge (p.turnedOff r)

/-- HBM_READ_REQ (R158, R171, R173, R186, R188): a READ_REQ that has arrived at a stack controller. It waits while every read tracker
entry is in use. -/
def execHbmReadReq (stack : Fin 192) (p : Packet) (s : State) : Result :=
  let st := stack.val
  let a := s.stack st
  let len := p.bytesM1.toNat + 1
  let off := stackOff p.addr.toNat
  let block := p.addr.toNat / 512
  .next (
    if !(a.isFirst p && p.ptype == ptReadReq && targetOf p.addr.toNat == .stack st) then s
    else
      let t := s.updStack st (fun a => a.take p)
      if a.dark then t.answerDark st p
      else if !hbmPopulated p.addr.toNat then t.answerUnpop st p (p.answer ptReadRsp stOk (List.replicate len 0) true)
      else if !a.serves off then t.poisonJob st (.read p)
      else if 8192 ≤ a.readsInUse then s
      else if p.nomerge || a.window == 0 then t.updStack st (fun a => { a with jobs := a.jobs ++ [.read p] })
      else match a.entries.find? (fun m => m.block == block) with
        | some m =>
          if m.has p then t.updStack st (fun a => { a with waiting := a.waiting ++ [p] })
          else
            let t := t.updStack st (fun a =>
              { a with joined := satAdd a.joined 1
                       entries := updFirst (fun m => m.block == block) (fun m => { m with members := m.members ++ [memberOf p] }) a.entries })
            if m.members.length + 1 = 1024 then t.closeEntry st block else t
        | none =>
          if a.entries.length < 64 then t.updStack st (fun a => { a with entries := a.entries ++ [⟨block, [memberOf p]⟩] })
          else t.updStack st (fun a => { a with jobs := a.jobs ++ [.read p] }))

/-- MERGE_CLOSE (R158): the window of an open entry has ended. -/
def execMergeClose (stack : Fin 192) (block : Nat) (s : State) : Result :=
  .next (if (s.stack stack.val).readsInUse < 8192 then s.closeEntry stack.val block else s)

/-- HBM_WRITE (R158, R171, R173, R175, R186, R188): a WRITE that has arrived at a stack controller enters the write buffer, once there
is room for it and for the entries of its block that it closes. -/
def execHbmWrite (stack : Fin 192) (p : Packet) (s : State) : Result :=
  let st := stack.val
  let a := s.stack st
  .next (
    if !(a.isFirst p && p.ptype == ptWrite && isHbm p.addr.toNat && targetOf p.addr.toNat == .stack st) then s
    else
      let t := s.updStack st (fun a => a.take p)
      if a.dark then t.answerDark st p
      else if !hbmPopulated p.addr.toNat then t.answerUnpop st p (p.answer ptWriteAck stTargetOff [] false)
      else if !a.serves (stackOff p.addr.toNat) || s.stageLocked p.addr.toNat then
        t.sendStack (stackRouter st p.addr.toNat) (p.answer ptWriteAck stTargetOff [] false)
      else if a.linesInUse + p.payload.length / 64 ≤ 4096 ∧ (a.closeBlock (p.addr.toNat / 512)).readsInUse ≤ 8192 then
        (t.closeBlock st (p.addr.toNat / 512)).updStack st (fun a => { a with jobs := a.jobs ++ [.write p] })
      else s)

/-- HBM_DEVICE_ACCESS_DONE (R174): the oldest device access of a stack completes and is answered. -/
def execHbmDeviceAccessDone (stack : Fin 192) (s : State) : Result := .next (s.stepJobs stack.val)

/-! ## Accesses of the other units -/

/-- The outcome of an access that a port complex, host port, ACU, store controller or dispatch engine makes: data, a
status and poison. Their requests are applied within the command that issues them (log entry 20). -/
structure HbmAnswer where
  bytes : List Byte := []
  status : BitVec 4 := 0
  poison : Bool := false
  deriving DecidableEq, Repr

/-- A read that joins the open entry of its block, whose window ends with it; one that opens an entry is alone in it (R158; log
entry 20). -/
def Stack.joinRead (a : Stack) (block : Nat) : Stack :=
  if a.window != 0 && a.entries.any (fun m => m.block == block) && decide (a.readsInUse < 8192) then
    { a with joined := satAdd a.joined 1 }.closeEntry block
  else a

/-- A read of up to one block, after everything that reached the stack before it (R158, R171, R174, R186, R188). -/
def State.hbmRead (s : State) (addr len : Nat) : State × HbmAnswer :=
  if len = 0 then (s, {})
  else if !isHbm addr || decide (192 ≤ stackOf addr) then (s, { bytes := List.replicate len 0, poison := true })
  else
    let st := stackOf addr
    if (s.stack st).dark then (s, { bytes := List.replicate len 0, status := stTargetOff })
    else if !hbmPopulated (addr + len - 1) then
      (s.updStack st (fun a => { a with unpop := satAdd a.unpop 1 }), { bytes := List.replicate len 0, poison := true })
    else if !(s.stack st).serves (stackOff addr) then (s, { bytes := List.replicate len 0, poison := true })
    else
      let s := (s.updStack st (fun a => a.joinRead (addr / 512))).flushJobs st
      let (s, bs, bad) := s.readStack st (stackOff addr) len
      (s, { bytes := rspBytes bs bad, poison := bad })

/-- A write of whole lines: its status. The loader alone calls it for the staging area during a load. -/
def State.hbmStore (s : State) (addr : Nat) (bs : List Byte) (poison : Bool := false) : State × BitVec 4 :=
  if !isHbm addr || decide (192 ≤ stackOf addr) then (s, stTargetOff)
  else
    let st := stackOf addr
    if (s.stack st).dark then (s, stTargetOff)
    else if !hbmPopulated (addr + bs.length - 1) then
      (s.updStack st (fun a => { a with unpop := satAdd a.unpop 1 }), stTargetOff)
    else if !(s.stack st).serves (stackOff addr) then (s, stTargetOff)
    else
      let blocks := (List.range ((addr + bs.length - 1) / 512 - addr / 512 + 1)).map (fun i => addr / 512 + i)
      let s := (blocks.foldl (fun s b => s.closeBlock st b) s).flushJobs st
      (s.updStack st (fun a => a.writeLines (stackOff addr) bs poison), stOk)

/-- A write of whole lines by any requester but the loader. -/
def State.hbmWrite (s : State) (addr : Nat) (bs : List Byte) (poison : Bool := false) : State × BitVec 4 :=
  if s.stageLocked addr then (s, stTargetOff) else s.hbmStore addr bs poison

/-! ## Atomics (R180–R182) -/

/-- A line as n elements of w bytes. -/
def lineElems (w : Nat) (bs : List Byte) : List Nat :=
  (List.range (bs.length / w)).map (fun i => leNat ((bs.drop (w * i)).take w))

/-- The element-wise operations: the new line from the old line and the operand. -/
def atomicMap (w : Nat) (f : Nat → Nat → Nat) (line operand : List Byte) : List Byte :=
  ((lineElems w line).zip (lineElems w operand)).flatMap (fun q => leBytes w (f q.1 q.2))

def minMaxI32 (takeMin : Bool) (x y : Nat) : Nat :=
  let less := decide ((BitVec.ofNat 32 x).toInt < (BitVec.ofNat 32 y).toInt)
  if takeMin == less then x else y

/-- The new line of an atomic. -/
def atomicLine (aop : Nat) (line operand : List Byte) : List Byte :=
  match aop with
  | 0 => atomicMap 4 (fun x y => (x + y) % 2 ^ 32) line operand
  | 1 => atomicMap 4 (fun x y => elemAdd 0 x y) line operand
  | 2 => atomicMap 2 (fun x y => elemAdd 1 x y) line operand
  | 3 => atomicMap 4 (minMaxI32 true) line operand
  | 4 => atomicMap 4 (minMaxI32 false) line operand
  | 5 => atomicMap 4 (fun x y => fmtFp32.round ((fmtFp32.decode x).min (fmtFp32.decode y))) line operand
  | 6 => atomicMap 4 (fun x y => fmtFp32.round ((fmtFp32.decode x).max (fmtFp32.decode y))) line operand
  | 7 => operand
  | _ => if line.take 32 = operand.take 32 then operand.drop 32 ++ line.drop 32 else line

/-- The element format of a floating-point atomic. -/
def atomicFmt (aop : Nat) : Option (Format × Nat) :=
  match aop with
  | 1 | 5 | 6 => some (fmtFp32, 4)
  | 2 => some (fmtBf16, 2)
  | _ => none

/-- NAN_SEEN and INF_SEEN of an atomic's results. -/
def atomicSeen (aop : Nat) (line : List Byte) : Bool × Bool :=
  match atomicFmt aop with
  | none => (false, false)
  | some (f, w) => ((lineElems w line).any (fun x => (f.decode x).isNan), (lineElems w line).any (fun x => (f.decode x).isInf))

/-- An atomic applied to a line of a stack: the line's prior bytes and their poison. -/
def State.applyAtomic (s : State) (st line aop : Nat) (operand : List Byte) : State × List Byte × Bool :=
  let s := (s.closeBlock st ((hbmBase + st * 2 ^ 37) / 512 + line / 8)).flushJobs st
  let (s, old, bad) := s.readStack st (64 * line) 64
  let new := atomicLine aop old operand
  let seen := atomicSeen aop new
  (s.updStack st (fun a =>
    { (a.putLine true line new bad) with
      atomicNan := a.atomicNan || seen.1, atomicInf := a.atomicInf || seen.2, atomicCount := satAdd a.atomicCount 1 }), old, bad)

/-- An ATOMIC_REQ of operation aop that has arrived at a stack controller. It waits while the write buffer is full (R173). -/
def State.atomicReq (s : State) (stack : Fin 192) (aop : Nat) (p : Packet) : State :=
  let st := stack.val
  let a := s.stack st
  let off := stackOff p.addr.toNat
  let r := stackRouter st p.addr.toNat
  if !(a.isFirst p && p.ptype == ptAtomicReq && p.aop.toNat == aop && isHbm p.addr.toNat && targetOf p.addr.toNat == .stack st) then s
  else
    let t := s.updStack st (fun a => a.take p)
    if a.dark then t.answerDark st p
    else if !hbmPopulated p.addr.toNat then t.answerUnpop st p (p.answer ptAtomicRsp stTargetOff (List.replicate 64 0) false)
    else if !a.serves off || s.stageLocked p.addr.toNat then t.sendStack r (p.answer ptAtomicRsp stTargetOff (List.replicate 64 0) false)
    else if 4096 ≤ a.linesInUse ∨ 8192 < (a.closeBlock (p.addr.toNat / 512)).readsInUse then s
    else
      let (t, old, bad) := t.applyAtomic st (off / 64) aop p.payload
      t.sendStack r (p.answer ptAtomicRsp stOk old bad)

def execAddI32 (stack : Fin 192) (p : Packet) (s : State) : Result := .next (s.atomicReq stack 0 p)
def execAddF32 (stack : Fin 192) (p : Packet) (s : State) : Result := .next (s.atomicReq stack 1 p)
def execAddBf16 (stack : Fin 192) (p : Packet) (s : State) : Result := .next (s.atomicReq stack 2 p)
def execMinI32 (stack : Fin 192) (p : Packet) (s : State) : Result := .next (s.atomicReq stack 3 p)
def execMaxI32 (stack : Fin 192) (p : Packet) (s : State) : Result := .next (s.atomicReq stack 4 p)
def execMinF32 (stack : Fin 192) (p : Packet) (s : State) : Result := .next (s.atomicReq stack 5 p)
def execMaxF32 (stack : Fin 192) (p : Packet) (s : State) : Result := .next (s.atomicReq stack 6 p)
def execSwap (stack : Fin 192) (p : Packet) (s : State) : Result := .next (s.atomicReq stack 7 p)
def execCas (stack : Fin 192) (p : Packet) (s : State) : Result := .next (s.atomicReq stack 8 p)

/-! ## Power banks (R186–R190) -/

/-- A bank in transition. -/
def BankState.moving : BankState → Bool
  | .draining => true
  | .opening => true
  | _ => false

/-- Outstanding-write count of a bank (R187). -/
def Stack.outstandingWrites (a : Stack) (b : Fin 8) : Nat :=
  (a.jobs.map (fun j => match j with
      | .write p => if powerBank (stackOff p.addr.toNat) = b then p.payload.length / 64 else 0
      | _ => 0)).sum
    + a.cache.countP (fun c => c.dirty && powerBank (64 * c.line) == b)

/-- The whole stack's state from its banks (R188): 1 when every bank is in RETAIN, 2 or 3 when every bank is OFF. -/
def Stack.settle (a : Stack) : Stack :=
  if a.banks.toList.all (fun b => b == .retain) then { a with stackState := 1 }
  else if a.banks.toList.all (fun b => b == .off) then { a with stackState := if a.thermalOff then 3 else 2 }
  else { a with stackState := 0 }

/-- The bytes of a bank lost: device, cache and poison marks. -/
def Stack.loseBank (a : Stack) (b : Fin 8) : Stack :=
  { a with
    mem := Sparse.clear a.mem (b.val * 2 ^ 34) (2 ^ 34)
    poisonLines := a.poisonLines.filter (fun l => powerBank (64 * l) != b) }

/-- A request for a state of one bank (R187, R189): acted on at once, or held while a transition is in progress. A stack that has
been taken off line for heat returns by way of the RMC alone (R185, R190), so that ON is refused until then, and no later request takes the
place of its OFF (DEDUCED 125). A bank in RETAIN holds no line to write back and goes to OFF at once (DESIGN CHOICE 162). -/
def Stack.requestBank (a : Stack) (b : Fin 8) (target : BankState) : Stack :=
  let now := a.banks[b]
  if now.moving then
    if a.thermalOff && target != .off then { a with refused := a.refused || target == .on }
    else { a with held := a.held.set b (some target) }
  else match target with
    | .on =>
      if a.thermalOff then { a with refused := true }
      else if now = .retain then
        let a := { a with banks := a.banks.set b .on }
        if a.stackState = 1 then { a with samples := 0, band := 4, lowCount := 0, throttle := false } else a
      else if now = .off then { a with banks := a.banks.set b .opening }
      else a
    | t => if now = t then a
      else if now = .on then
        let dirty := a.cache.filter (fun c => c.dirty && powerBank (64 * c.line) == b)
        { a with banks := a.banks.set b .draining, drainTo := a.drainTo.set b t
                 jobs := a.jobs ++ dirty.map (fun c => .writeback c.line) }
      else if t = .off then ({ a with banks := a.banks.set b .off }).loseBank b
      else a

/-- A held request acted on when the transition of its bank has ended. -/
def Stack.release (a : Stack) (b : Fin 8) : Stack :=
  match a.held[b] with
  | none => a
  | some t => ({ a with held := a.held.set b none }).requestBank b t

/-- The banks that a request names. -/
def banksNamed (whole : Bool) (bank : Fin 8) : List (Fin 8) := if whole then [0, 1, 2, 3, 4, 5, 6, 7] else [bank]

/-- A write of HBM.PWR_CTL served by the controller. -/
def State.powerRequest (s : State) (st : Nat) (whole : Bool) (bank : Fin 8) (target : BankState) : State :=
  s.updStack st (fun a => ((banksNamed whole bank).foldl (fun a b => a.requestBank b target) a).settle)

/-- HBM_PWR_ON (R189). -/
def execHbmPwrOn (stack : Fin 192) (whole : Bool) (bank : Fin 8) (s : State) : Result :=
  .next (if (s.stack stack.val).dark then s else s.powerRequest stack.val whole bank .on)

/-- HBM_PWR_RETAIN (R187). -/
def execHbmPwrRetain (stack : Fin 192) (whole : Bool) (bank : Fin 8) (s : State) : Result :=
  .next (if (s.stack stack.val).dark then s else s.powerRequest stack.val whole bank .retain)

/-- HBM_PWR_OFF (R187, R188). -/
def execHbmPwrOff (stack : Fin 192) (whole : Bool) (bank : Fin 8) (s : State) : Result :=
  .next (if (s.stack stack.val).dark then s else s.powerRequest stack.val whole bank .off)

/-- A job is a read of a bank. -/
def StackJob.readsBank (j : StackJob) (b : Fin 8) : Bool :=
  match j with
  | .read p => powerBank (stackOff p.addr.toNat) == b
  | .merged block _ => powerBank (stackOff (512 * block)) == b
  | _ => false

/-- A drained bank enters its target (R187, step 4): merge entries and reads of the bank are served as poisoned (R186), its cache
lines invalidated. -/
def State.enterBank (s : State) (st : Nat) (b : Fin 8) : State :=
  let s := s.closeBank st b
  let reads := (s.stack st).jobs.filter (fun j => j.readsBank b)
  let s := s.updStack st (fun a => { a with jobs := a.jobs.filter (fun j => !j.readsBank b) })
  let s := reads.foldl (fun s j => s.poisonJob st j) s
  s.updStack st (fun a =>
    let t := a.drainTo[b]
    let a := { a with banks := a.banks.set b t, cache := a.cache.filter (fun c => powerBank (64 * c.line) != b) }
    ((if t = .off then a.loseBank b else a).release b).settle)

/-- HBM_BANK_DRAINED (R187): the outstanding-write count of a draining bank is zero. -/
def execHbmBankDrained (stack : Fin 192) (bank : Fin 8) (s : State) : Result :=
  let a := s.stack stack.val
  .next (if a.banks[bank] = .draining ∧ a.outstandingWrites bank = 0 then s.enterBank stack.val bank else s)

/-- HBM_DRAIN_FORCED (R187, step 3): the lines still in the write buffer are dropped and answered TARGET_OFF, dirty
cache lines are discarded, and LOST counts both. -/
def execHbmDrainForced (stack : Fin 192) (bank : Fin 8) (s : State) : Result :=
  let st := stack.val
  let a := s.stack st
  .next (if a.banks[bank] = .draining then
      let mine (j : StackJob) : Option Packet := match j with
        | .write p => if powerBank (stackOff p.addr.toNat) = bank then some p else none
        | _ => none
      let dropped := a.jobs.filterMap mine
      let s := s.updStack st (fun a =>
        { a with
          lost := satAdd a.lost (a.outstandingWrites bank)
          jobs := a.jobs.filter (fun j => (mine j).isNone)
          cache := a.cache.filter (fun c => !(c.dirty && powerBank (64 * c.line) == bank)) })
      let s := dropped.foldl (fun s p => s.sendStack (stackRouter st p.addr.toNat) (p.answer ptWriteAck stTargetOff [] false)) s
      s.enterBank st bank
    else s)

/-- HBM_BANK_OPENED (R189): zeros have been written over an OPENING bank, which is ON. -/
def execHbmBankOpened (stack : Fin 192) (bank : Fin 8) (s : State) : Result :=
  .next (if (s.stack stack.val).banks[bank] = .opening then
      s.updStack stack.val (fun a => ((({ a with banks := a.banks.set bank .on }).loseBank bank).release bank).settle)
    else s)

/-- A request for ON of a whole stack whose domain is off (R190). A fenced stack, and one of a fenced wafer, stays off (R420, R428). -/
def State.rmcStackOn (s : State) (st : Nat) : State :=
  let a := s.stack st
  if a.stackState.toNat < 2 ∨ a.fenced = true ∨ bit s.fault.waferFenced (st / 48) = true then s
  else if a.thermalOff ∧ 95 < a.celsius.toNat then s.updStack st (fun a => { a with refused := true })
  else s.updStack st (fun a => { a with initing := true })

/-- RMC_STACK_ON_REQUEST (R190). -/
def execRmcStackOnRequest (stack : Fin 192) (s : State) : Result := .next (s.rmcStackOn stack.val)

/-- RMC_STACK_TEMP_SAMPLE (R190): the RMC's sample of a stack that is off. -/
def execRmcStackTempSample (stack : Fin 192) (celsius : BitVec 8) (s : State) : Result :=
  .next (if (s.stack stack.val).stackState.toNat < 2 then s else s.updStack stack.val (fun a => { a with celsius := celsius }))

/-- STACK_INIT_DONE (R184, R190): MBIST and initialisation are over; every bank passes through OPENING. -/
def execStackInitDone (stack : Fin 192) (s : State) : Result :=
  .next (if (s.stack stack.val).initing then
      s.updStack stack.val (fun a =>
        { a with initing := false, thermalOff := false, stackState := 0, banks := Vector.replicate 8 .opening, samples := 0,
                 band := 4, lowCount := 0, hotCount := 0, throttle := false })
    else s)

/-! ## Refresh and temperature (R183–R185) -/

/-- Lowest temperature that lies above a band's lower bound is one more than this (R183). -/
def bandBound (b : Nat) : Nat := match b with | 0 => 0 | 1 => 85 | 2 => 90 | 3 => 95 | 4 => 100 | _ => 105

/-- The band of the table for a temperature. -/
def bandOf (t : Nat) : Nat :=
  if 105 < t then 5 else if 100 < t then 4 else if 95 < t then 3 else if 90 < t then 2 else if 85 < t then 1 else 0

/-- The band after a sample: it rises at once, falls one band after four consecutive samples HYST below its bound, stays
at 4 or more until 16 samples exist, and never falls below FLOOR (R183, R184). -/
def Stack.sample (a : Stack) (t : Nat) : Stack :=
  let n := min 16 (a.samples.toNat + 1)
  let b := a.band.toNat
  let low := decide (t + a.hyst.toNat ≤ bandBound b)
  let lc := if low then a.lowCount + 1 else 0
  let floor := max a.floor.toNat (if n < 16 then 4 else 0)
  let up := max (bandOf t) floor
  let (b', lc') := if b < up then (up, 0) else if 4 ≤ lc ∧ floor < b then (b - 1, 0) else (b, lc)
  { a with
    celsius := BitVec.ofNat 8 t, samples := BitVec.ofNat 5 n, band := BitVec.ofNat 3 b', lowCount := lc'
    hotCount := if 105 < t then a.hotCount + 1 else 0, throttle := decide (b' = 5) }

/-- The value of HBM.TEMP. -/
def Stack.tempWord (a : Stack) : Nat :=
  a.celsius.toNat + (if a.dark then 6 else a.band.toNat) * 2 ^ 8 + a.samples.toNat * 2 ^ 11 + b2n (a.throttle && !a.dark) * 2 ^ 16

/-- HBM_TEMP_SAMPLE (R183, R185): a thermal event when band 5 begins, and the stack taken off line after 16 consecutive
samples above 105 °C or one of 110 °C. -/
def execHbmTempSample (stack : Fin 192) (celsius : BitVec 8) (s : State) : Result :=
  let st := stack.val
  .next (if (s.stack st).dark then s
    else
      let was := (s.stack st).throttle
      let s := s.updStack st (fun a => a.sample celsius.toNat)
      let a := s.stack st
      let s := if a.throttle && !was then s.post 0x0d 1 0 ukStack st [a.tempWord] else s
      if (16 ≤ a.hotCount ∨ 110 ≤ celsius.toNat) ∧ a.thermalOff = false then
        ((s.updStack st (fun a => { a with thermalOff := true })).post 0x0d 2 0 ukStack st [a.tempWord]).powerRequest st true 0 .off
      else s)

/-- HBM_REFRESH (R172, R183): a per-bank refresh falls due. It keeps the bank's contents and changes nothing that State
holds; its time is outside the model. -/
def execHbmRefresh (_stack : Fin 192) (_bank : Fin 8) (s : State) : Result := .next s

end Sys2Proof.Machine
end

