-- ==== Sys2Proof/Machine/Link.lean ====
section
/-! DEFINITION. Machine/Link.lean: the ports of the module fabric: flits, replay, credits, the routing of packets, and
the forwarding table (R273–R293, R308, R311). -/

namespace Sys2Proof

open Machine

/-- The bytes of a module-fabric packet. -/
def FabPkt.bytes (p : FabPkt) : List Byte :=
  [p.ty, BitVec.ofNat 8 (p.dpc.toNat + 8 * p.spc.toNat + 64 * b2n p.path + 128 * b2n p.poison)] ++ leBytes 2 p.body.length
    ++ leBytes 4 p.dst.toNat ++ leBytes 4 p.src.toNat ++ leBytes 4 p.via.toNat ++ leBytes 2 p.tag.toNat
    ++ [p.ttl, p.status] ++ leBytes 12 p.specific.toNat ++ p.body

/-- Flits of a packet. -/
def FabPkt.flits (p : FabPkt) : Nat := ceilDiv (32 + p.body.length) 240

/-- The answer of STATUS st to a request of the module fabric. -/
def FabPkt.answerTo (p : FabPkt) (own : W32) (ty st : BitVec 8) : FabPkt :=
  { ty := ty, dpc := p.spc, spc := p.dpc, path := p.path, dst := p.src, src := own, tag := p.tag, status := st }

end Sys2Proof

namespace Sys2Proof.Machine

/-! ## CRC-64 (R220, R276) -/

/-- One bit of a reflected CRC-64 with polynomial 0x42F0E1EBA9EA3693. -/
def crcBit (c : W64) : W64 := if bit c 0 then (c >>> 1) ^^^ 0xc96c5795d7870f42 else c >>> 1

def crcByte (c : W64) (b : Byte) : W64 :=
  let c := c ^^^ b.setWidth 64
  crcBit (crcBit (crcBit (crcBit (crcBit (crcBit (crcBit (crcBit c)))))))

/-- CRC-64 of bytes: initial value and final XOR all ones. -/
def crc64 (bs : List Byte) : W64 := ~~~(bs.foldl crcByte (~~~0))

/-! ## Packets (R283, R284) -/

/-- A field of n bytes at byte i. -/
def bytesAt (bs : List Byte) (i n : Nat) : Nat := leNat ((bs.drop i).take n)

/-- The packet that bytes spell; none when they are fewer than its header and LENGTH need. -/
def parsePkt (bs : List Byte) : Option FabPkt :=
  let len := bytesAt bs 2 2
  if bs.length < 32 + len then none
  else
    let r := bytesAt bs 1 1
    some {
      ty := BitVec.ofNat 8 (bytesAt bs 0 1), dpc := BitVec.ofNat 3 r, spc := BitVec.ofNat 3 (r / 8)
      path := r / 64 % 2 == 1, poison := r / 128 == 1
      dst := BitVec.ofNat 32 (bytesAt bs 4 4), src := BitVec.ofNat 32 (bytesAt bs 8 4), via := BitVec.ofNat 32 (bytesAt bs 12 4)
      tag := BitVec.ofNat 16 (bytesAt bs 16 2), ttl := BitVec.ofNat 8 (bytesAt bs 18 1), status := BitVec.ofNat 8 (bytesAt bs 19 1)
      specific := BitVec.ofNat 96 (bytesAt bs 20 12), body := (bs.drop 32).take len }

/-- Packet types (R284). -/
def ftRed : BitVec 8 := 1
def ftWwrite : BitVec 8 := 2
def ftWack : BitVec 8 := 3
def ftToken : BitVec 8 := 4
def ftTack : BitVec 8 := 5
def ftResult : BitVec 8 := 6
def ftRack : BitVec 8 := 7
def ftCtrl : BitVec 8 := 8
def ftCack : BitVec 8 := 9
def ftHeartbeat : BitVec 8 := 10

/-- The class that a type travels in; none for a reserved code. -/
def fabClass (t : BitVec 8) : Option Nat :=
  match t.toNat with
  | 1 => some 2
  | 2 | 4 | 6 => some 3
  | 3 | 5 | 7 | 9 => some 0
  | 8 | 10 => some 1
  | _ => none

/-- The answer's type of a request. -/
def fabAnswer (t : BitVec 8) : Option (BitVec 8) :=
  match t.toNat with
  | 2 => some ftWack
  | 4 => some ftTack
  | 6 => some ftRack
  | 8 => some ftCack
  | _ => none

/-- Flits of buffer per lane (R278). -/
def fabBuf (c : Nat) : Nat := match c with | 0 => 128 | 1 => 32 | 2 => 384 | _ => 480

/-! ## Ports -/

def State.port (s : State) (n : Nat) : Port := Tbl.get (fun _ => {}) s.ports n
def State.setPort (s : State) (n : Nat) (p : Port) : State := { s with ports := Tbl.set s.ports n p }
def State.updPort (s : State) (n : Nat) (f : Port → Port) : State := s.setPort n (f (s.port n))

/-- Number of a class and lane, as CR_SEL has it. -/
def clKey (c lane : Nat) : Nat := 2 * c + lane

/-- The 256 bytes of a flit, with the port's present ACK and credit fields; nak makes its ACK a replay request (R276). -/
def Port.flit (p : Port) (nak : Bool) (seqNo : BitVec 16) (idle : Bool) (cls lane : Nat) (sop eop : Bool) (fill : BitVec 8) (linkctl : Bool)
    (payload : List Byte) : List Byte :=
  let h : Nat := seqNo.toNat + p.rxSeq.toNat * 2 ^ 16 + b2n nak * 2 ^ 32 + b2n idle * 2 ^ 33 + cls * 2 ^ 34 + lane * 2 ^ 36
    + b2n sop * 2 ^ 37 + b2n eop * 2 ^ 38 + fill.toNat * 2 ^ 39 + p.crNext.val * 2 ^ 47
    + (vget 0 p.freed p.crNext.val).toNat * 2 ^ 50 + b2n linkctl * 2 ^ 63
  let body := leBytes 8 h ++ (payload ++ List.replicate (240 - payload.length) 0)
  body ++ leBytes 8 (crc64 body).toNat

def TxFlit.bytes (p : Port) (f : TxFlit) : List Byte := p.flit false f.seq false f.cls f.lane f.sop f.eop f.fill false f.payload

/-- A flit goes out on port n; the credit field moves on to the next class and lane. -/
def State.flitOut (s : State) (n : Nat) (bs : List Byte) : State :=
  (s.emit (.flit (Fin.ofNat 96 n) bs)).updPort n (fun p => { p with crNext := p.crNext + 1 })

/-- A flit without packet data, which delivers ACK and credits, or a NAK. -/
def State.idleOut (s : State) (n : Nat) (nak : Bool := false) : State :=
  let p := s.port n
  if p.st = .up then s.flitOut n (p.flit nak 0 true 0 0 false false 0 false []) else s

/-- Free flits of the peer's buffer for a class and lane (R149, R276). -/
def Port.credit (p : Port) (c lane : Nat) : Nat :=
  fabBuf c - (vget 0 p.sent (clKey c lane) - vget 0 p.peerFreed (clKey c lane)).toNat

/-! ### Outputs of ports and of the transit crossbar (R162, R279) -/

/-- The head packet of a class and lane at an output, when it is ready: ok says that its flits find room. -/
def FabOut.head (o : FabOut) (ok : TxPkt → Bool) (c lane : Nat) : Option TxPkt :=
  (o.queue.find? (fun t => t.cls == c && t.lane == lane)).filter ok

/-- The packet of a class to be sent: the longest ready of those that have been ready for AGE flit cycles, else the next in the round
robin over lanes. -/
def FabOut.pick (o : FabOut) (age : Nat) (ok : TxPkt → Bool) (c : Nat) : Option TxPkt :=
  let w (lane : Nat) : Nat := vget 0 o.waited (clKey c lane)
  let h (lane : Nat) : Option TxPkt := o.head ok c lane
  let old (lane : Nat) : Option TxPkt := if age ≤ w lane then h lane else none
  match old 0, old 1 with
  | some a, some b => some (if w 0 < w 1 then b else a)
  | some a, none => some a
  | none, some b => some b
  | none, none => if vget 13 o.arb.last c = 0 then (h 1).or (h 0) else (h 0).or (h 1)

/-- The procedure of R162 with the weights and AGE of FAB.CFG, until a packet is chosen. -/
def FabOut.arbitrate (weights : BitVec 16) (age : Nat) (ok : TxPkt → Bool) : Nat → FabOut → FabOut × Option TxPkt
  | 0, o => (o, none)
  | n + 1, o =>
    let x := o.arb
    let c := x.pointer.val
    match o.pick age ok c with
    | none => FabOut.arbitrate weights age ok n { o with arb := { x with deficit := vset x.deficit c 0, pointer := x.pointer + 1, arrived := true } }
    | some t =>
      let x := if x.arrived then { x with deficit := vset x.deficit c (vget 0 x.deficit c + bitsOf weights.toNat (4 * c) 4), arrived := false } else x
      if t.pkt.flits ≤ vget 0 x.deficit c then
        ({ o with arb := { x with deficit := vset x.deficit c (vget 0 x.deficit c - t.pkt.flits), last := vset x.last c t.lane } }, some t)
      else FabOut.arbitrate weights age ok n { o with arb := { x with pointer := x.pointer + 1, arrived := true } }

/-- The packet t leaves: the heads that were ready beside it have waited its flit cycles more. -/
def FabOut.sent (o : FabOut) (ok : TxPkt → Bool) (t : TxPkt) : FabOut :=
  { o with
    queue := o.queue.erase t
    waited := Vector.ofFn (fun (k : Fin 8) =>
      if k.val ≠ clKey t.cls t.lane ∧ (o.head ok (k.val / 2) (k.val % 2)).isSome then vget 0 o.waited k.val + t.pkt.flits else 0) }

/-- Some packet is ready at the output. -/
def FabOut.any (o : FabOut) (age : Nat) (ok : TxPkt → Bool) : Bool := (List.range 4).any (fun c => (o.pick age ok c).isSome)

/-- A packet may leave a port: credit and replay space hold all its flits (R162, R277). -/
def Port.mayLeave (p : Port) (t : TxPkt) : Bool :=
  decide (t.pkt.flits ≤ p.credit t.cls t.lane) && decide (p.replay.length + t.pkt.flits ≤ 2048)

/-- Buffer space that a packet held at port n is freed, and the peer hears of it; space held since before the last LINKCTL exchange is
free already. -/
def State.freeFlits (s : State) (n cl session k : Nat) : State :=
  if (s.port n).session = session then
    (s.updPort n (fun p => { p with freed := vset p.freed cl (vget 0 p.freed cl + BitVec.ofNat 12 k) })).idleOut n
  else s

/-- The space that a packet of k flits held is free; q is the port complex it is at. -/
def State.release (s : State) (q : Nat) (h : FabHold) (k : Nat) : State :=
  match h with
  | .free => s
  | .port n cl session => s.freeFlits n cl session k
  | .xbar cl => s.updPc q (fun c => { c with disp := { c.disp with xused := vset c.disp.xused cl (vget 0 c.disp.xused cl - k) } })

/-- The payload of flit i of a packet. -/
def flitPart (bs : List Byte) (i : Nat) : List Byte := (bs.drop (240 * i)).take 240

/-- One flit of a packet given the next SEQ, kept for replay and sent (R277). -/
def State.sendFlit (s : State) (n : Nat) (t : TxPkt) (i : Nat) : State :=
  let p := s.port n
  let bs := t.pkt.bytes
  let last := t.pkt.flits - 1
  let part := flitPart bs i
  let f : TxFlit := { seq := p.txSeq, cls := t.cls, lane := t.lane, sop := i == 0, eop := i == last
                      fill := if i = last then BitVec.ofNat 8 (part.length - 1) else 0, payload := part }
  let s := s.updPort n (fun p => { p with
    txSeq := p.txSeq + 1, replay := p.replay ++ [f], sent := vset p.sent (clKey t.cls t.lane) (vget 0 p.sent (clKey t.cls t.lane) + 1) })
  s.flitOut n (f.bytes p)

/-- One packet chosen at port n's output and sent, if one may leave. -/
def State.sendOne (s : State) (n : Nat) : State :=
  let p := s.port n
  let d := (s.pc (n / 12)).disp
  if p.st = .up ∧ p.out.any d.age.toNat p.mayLeave then
    let g := p.out.arbitrate d.weights d.age.toNat p.mayLeave 128
    match g.2 with
    | some t =>
      let s := s.setPort n { p with out := g.1.sent p.mayLeave t }
      ((List.range t.pkt.flits).foldl (fun s i => s.sendFlit n t i) s).release (n / 12) t.hold t.pkt.flits
    | none => s.setPort n { p with out := g.1 }
  else s

/-- Every packet that may leave port n now leaves it. -/
def State.pump (s : State) (n : Nat) : State := (s.port n).out.queue.foldl (fun s _ => s.sendOne n) s

/-! ### The transit crossbar (R282) -/

/-- A packet that has come to port complex q: at the output of its port, or delivered. -/
def State.fabPut (s : State) (q : Nat) (t : TxPkt) : State :=
  match t.to_ with
  | some n => (s.updPort n (fun p => { p with out := { p.out with queue := p.out.queue ++ [t] } })).pump n
  | none => s.updPc q (fun c => { c with disp := { c.disp with inbox := c.disp.inbox ++ [{ pkt := t.pkt, hold := t.hold }] } })

/-- A packet may cross to an engine: its buffer there has room in the packet's class and lane (R278). -/
def Disp.mayCross (d : Disp) (t : TxPkt) : Bool :=
  decide (vget 0 d.xused (clKey t.cls t.lane) + t.pkt.flits ≤ fabBuf t.cls)

/-- One packet chosen at the crossbar's output to port complex q, and crossed, if one may: it frees the space it held where it came
from. -/
def State.crossOne (s : State) (q : Nat) : State :=
  let d := (s.pc q).disp
  if d.xout.any d.age.toNat d.mayCross then
    let g := d.xout.arbitrate d.weights d.age.toNat d.mayCross 128
    match g.2 with
    | some t =>
      let cl := clKey t.cls t.lane
      let s := s.updPc q (fun c => { c with disp := { c.disp with
        xout := g.1.sent d.mayCross t, xused := vset c.disp.xused cl (vget 0 c.disp.xused cl + t.pkt.flits) } })
      (s.release q t.hold t.pkt.flits).fabPut q { t with hold := .xbar cl }
    | none => s.updPc q (fun c => { c with disp := { c.disp with xout := g.1 } })
  else s

/-- Every packet that may cross to port complex q now crosses. -/
def State.cross (s : State) (q : Nat) : State := (s.pc q).disp.xout.queue.foldl (fun s _ => s.crossOne q) s

/-- A packet at port complex q placed for port complex d: it crosses when the two differ. -/
def State.fabPlace (s : State) (q d : Nat) (t : TxPkt) : State :=
  if q = d then s.fabPut d t
  else (s.updPc d (fun c => { c with disp := { c.disp with xout := { c.disp.xout with queue := c.disp.xout.queue ++ [t] } } })).cross d

/-- Port n sends what it may, and what waits to cross to its engine follows. -/
def State.pumpPort (s : State) (n : Nat) : State := (s.pump n).cross (n / 12)

/-! ## Link down (R281, R407) -/

/-- The state of an enabled port while its link is not up (R281, R432): it trains over a powered optical module, is down without one, and
reads STATE 3 where the module stays unpowered. -/
def Port.idleState (p : Port) : PortState :=
  match p.optics with
  | .powered => .training
  | .absent => .down
  | .refused => .disabled

/-- What a link that goes down discards: the packet partly received and every flit not yet acknowledged. -/
def Port.dropLink (p : Port) : Port :=
  { p with replay := [], rounds := 0, partly := Vector.replicate 8 [], nakSent := false }

/-- Port n goes down: LINK_DOWN is raised when it was up. -/
def State.linkDown (s : State) (n : Nat) (to_ : PortState) : State :=
  let p := s.port n
  let s := s.updPort n (fun p => { p.dropLink with st := to_ })
  if p.st = .up then s.post 9 1 0 ukCage (n / 2) [n, p.peer.toNat] else s

/-! ## Forwarding (R286–R293) -/

/-- MOD and GROUP of a module address. -/
def modOf (a : W32) : Nat := bitsOf a.toNat 0 6
def groupOf (a : W32) : Nat := bitsOf a.toNat 6 8

/-- The module's own address. -/
def State.ownAddr (s : State) : W32 := s.fab.addr.setWidth 32

/-- An address is fenced (R288). -/
def State.fencedAddr (s : State) (a : W32) : Bool := s.fab.fence.toList.any (fun w => bit w 32 && w.setWidth 32 == a)

def noVia : W32 := 0xffffffff

/-- Entries of the active forwarding table. -/
def State.fwdMod (s : State) (j : Nat) : BitVec 15 := Tbl.get (fun _ => 0) s.fab.modActive j
def State.fwdGrp (s : State) (g : Nat) : BitVec 28 := Tbl.get (fun _ => 0) s.fab.grpActive g

/-- The direct port to module j of the group, when the entry is valid. -/
def State.portTo (s : State) (j : Nat) : Option Nat :=
  let e := s.fwdMod j
  if bit e 7 then some (fld e 0 7).toNat else none

/-- The port toward another group. -/
def State.portToGroup (s : State) (g : Nat) (path : Bool) : Option Nat :=
  let e := s.fwdGrp g
  let (m, q, ok) := if path then ((fld e 14 6).toNat, (fld e 20 7).toNat, bit e 27) else ((fld e 0 6).toNat, (fld e 6 7).toNat, bit e 13)
  if !ok then none else if m = modOf s.ownAddr then some q else s.portTo m

/-- Where the procedure of R288 sends a packet. -/
inductive FabRoute where
  | deliver (p : FabPkt)
  | out (n : Nat) (p : FabPkt)
  | discard
  deriving DecidableEq, Repr

/-- The procedure of R288. DESIGN CHOICE 134: a packet for a port complex whose domain is off is discarded as one for a port that is
down. -/
def State.fabRoute (s : State) (p : FabPkt) (forwarding : Bool) : FabRoute :=
  if s.fencedAddr p.dst || s.fencedAddr p.src then .discard
  else
    let own := s.ownAddr
    let p := if p.via = own then { p with via := noVia } else p
    if p.via = noVia ∧ p.dst = own then (if (s.pc p.dpc.toNat).off then .discard else .deliver p)
    else
      let o := if p.via ≠ noVia then s.portTo (modOf p.via)
        else if groupOf p.dst = groupOf own then s.portTo (modOf p.dst)
        else s.portToGroup (groupOf p.dst) p.path
      if forwarding ∧ p.ttl = 0 then .discard
      else
        let p := if forwarding then { p with ttl := p.ttl - 1 } else p
        match o with
        | some n => if n < 96 ∧ (s.port n).st = .up then .out n p else .discard
        | none => .discard

/-- DISP.STAT.DISCARD of a port complex. -/
def State.countDiscard (s : State) (q : Nat) : State :=
  s.updPc q (fun c => { c with disp := { c.disp with discard := satAdd c.disp.discard 1 } })

/-- A packet at port complex q routed once: delivered, sent, or discarded. A packet received from a port goes on in lane 1 (R280), over
the crossbar too (DEDUCED 135). -/
def State.fabMove (s : State) (q : Nat) (p : FabPkt) (forwarding : Bool) (hold : FabHold) : State × Bool :=
  let t (p : FabPkt) (to_ : Option Nat) : TxPkt :=
    { pkt := p, cls := (fabClass p.ty).getD 0, lane := b2n forwarding, hold := hold, to_ := to_ }
  match s.fabRoute p forwarding with
  | .deliver p => (s.fabPlace q p.dpc.toNat (t p none), true)
  | .out n p => (s.fabPlace q (n / 12) (t p (some n)), true)
  | .discard => (s.countDiscard q, false)

/-- A packet routed; a discarded request is answered TARGET_OFF unless its SRC is fenced (R293). -/
def State.fabStep (s : State) (q : Nat) (p : FabPkt) (forwarding : Bool) (hold : FabHold) : State :=
  match s.fabMove q p forwarding hold with
  | (t, true) => t
  | (t, false) =>
    match fabAnswer p.ty with
    | some ty => if s.fencedAddr p.src then t else (t.fabMove q (p.answerTo s.ownAddr ty 1) false .free).1
    | none => t

/-- A packet that the dispatch engine of port complex q creates (R288): a PATH 1 packet within the group goes by the
relay that the table names. -/
def State.fabSend (s : State) (q : Nat) (p : FabPkt) : State :=
  let p := { p with src := s.ownAddr, spc := BitVec.ofNat 3 q, ttl := 2, via := noVia }
  if p.path && p.dst != s.ownAddr && groupOf p.dst == groupOf s.ownAddr then
    let e := s.fwdMod (modOf p.dst)
    if bit e 14 then
      s.fabStep q { p with via := BitVec.ofNat 32 (64 * groupOf s.ownAddr + (fld e 8 6).toNat) } false .free
    else s.countDiscard q
  else s.fabStep q p false .free

/-! ## Receiving (R277, R278) -/

/-- Flits that an ACK passes leave the replay buffer (R277). -/
def Port.takeAck (p : Port) (ack : BitVec 16) : Port :=
  match p.replay with
  | [] => p
  | f :: _ =>
    let n := (ack - f.seq).toNat
    if 0 < n ∧ n ≤ p.replay.length then { p with replay := p.replay.drop n, rounds := 0 } else p

/-- A resend round: every unacknowledged flit goes out again in order. What would begin a round after sixteen without ACK progress ends
the link (DEDUCED 130). -/
def State.resend (s : State) (n : Nat) : State :=
  let p := s.port n
  if p.replay.isEmpty then s
  else
    let s := if p.rounds < 16 then s.updPort n (fun p => { p with rounds := p.rounds + 1, replays := satAdd p.replays 1 }) else s
    if 16 ≤ p.rounds then s.linkDown n p.idleState
    else p.replay.foldl (fun s f => s.flitOut n (f.bytes (s.port n))) s

/-- The payload of an accepted flit joins its packet, which is complete at EOP. -/
def Port.takeFlit (p : Port) (cls lane : Nat) (sop eop : Bool) (fill : Nat) (payload : List Byte) : Port :=
  let k := clKey cls lane
  let part := if sop then [] else vget [] p.partly k
  if eop then
    let bs := part ++ payload.take (fill + 1)
    let p := { p with partly := vset p.partly k [] }
    match parsePkt bs with
    | some pkt => { p with rx := p.rx ++ [{ pkt := pkt, cls := cls, lane := lane, flits := pkt.flits, session := p.session }] }
    | none => p
  else { p with partly := vset p.partly k (part ++ payload) }

/-- A sequenced flit discarded: the first discard sends NAK with the expected SEQ. -/
def State.discardFlit (s : State) (n : Nat) : State :=
  if (s.port n).nakSent then s else (s.updPort n (fun p => { p with nakSent := true })).idleOut n true

/-- A flit of 256 bytes at a port that is up. -/
def State.takeFlit (s : State) (n : Nat) (bs : List Byte) : State :=
  let h := bytesAt bs 0 8
  if bytesAt bs 248 8 ≠ (crc64 (bs.take 248)).toNat then s.discardFlit n
  else
    let ack := BitVec.ofNat 16 (bitsOf h 16 16)
    let s := s.updPort n (fun p =>
      { (p.takeAck ack) with peerFreed := vset p.peerFreed (bitsOf h 47 3) (BitVec.ofNat 12 (bitsOf h 50 12)) })
    let s := if bitsOf h 32 1 = 1 then s.resend n else s
    let s := s.pumpPort n
    if bitsOf h 33 1 = 1 ∨ bitsOf h 63 1 = 1 then s
    else if BitVec.ofNat 16 h = (s.port n).rxSeq then
      (s.updPort n (fun p => ({ p with rxSeq := p.rxSeq + 1, nakSent := false }).takeFlit (bitsOf h 34 2) (bitsOf h 36 1) (bitsOf h 37 1 == 1)
        (bitsOf h 38 1 == 1) (bitsOf h 39 8) ((bs.drop 8).take 240))).idleOut n
    else s.discardFlit n

/-- FLIT_RECEIVE (R277). -/
def execFlitReceive (port : Fin 96) (flit : List Byte) (s : State) : Result :=
  .next (if (s.port port.val).st = .up ∧ flit.length = 256 then s.takeFlit port.val flit else s)

/-- NAK_REPEAT (R277): the expected flit has not come 2 µs after the NAK. -/
def execNakRepeat (port : Fin 96) (s : State) : Result :=
  .next (if (s.port port.val).nakSent then s.idleOut port.val true else s)

/-- REPLAY_TIMEOUT (R277): the oldest flit has stayed unacknowledged for 20 µs. -/
def execReplayTimeout (port : Fin 96) (s : State) : Result :=
  .next (if (s.port port.val).st = .up then s.resend port.val else s)

/-- PCS_LOCK_LOST (R281): the link goes down, and the port retrains (R418). -/
def execPcsLockLost (port : Fin 96) (s : State) : Result :=
  let p := s.port port.val
  .next (if p.enable then s.linkDown port.val p.idleState else s)

/-- The LINKCTL flit of a port: its module address and its number (R281). -/
def State.linkctlOut (s : State) (n : Nat) : State :=
  s.flitOut n ((s.port n).flit false 0 false 0 0 false false 0 true (leBytes 4 s.ownAddr.toNat ++ [BitVec.ofNat 8 n]))

/-- LINKCTL_EXCHANGE (R281, R407): a trained port takes its peer's LINKCTL flit and is up; SEQ restarts at 0 and every
credit is restored. -/
def execLinkctlExchange (port : Fin 96) (peer : W32) (peerPort : BitVec 7) (s : State) : Result :=
  let n := port.val
  let p := s.port n
  .next (if p.enable ∧ p.optics = .powered ∧ p.st ≠ .up then
      let s := (s.updPort n (fun p => { p.dropLink with
        st := .up, peer := peer, peerPort := peerPort, rxSeq := 0, txSeq := 0, sent := Vector.replicate 8 0
        peerFreed := Vector.replicate 8 0, freed := Vector.replicate 8 0, crNext := 0, session := p.session + 1 })).linkctlOut n
      s.pumpPort n
    else s)

/-- A write of FAB.PORT_k.ENABLE (R281). -/
def State.portEnable (s : State) (n : Nat) (b : Bool) : State :=
  if b then
    if (s.port n).enable then s else s.updPort n (fun p => { p with enable := true, st := p.idleState })
  else (s.linkDown n .disabled).updPort n (fun p => { p with enable := false })

/-- PORT_ENABLE_WRITE (R281). -/
def execPortEnableWrite (port : Fin 96) (enable : Bool) (s : State) : Result := .next (s.portEnable port.val enable)

/-- A port taken down and retrained (R407). -/
def State.portRetrain (s : State) (n : Nat) : State := if (s.port n).enable then s.linkDown n (s.port n).idleState else s

/-- PORT_RETRAIN (R407). -/
def execPortRetrain (port : Fin 96) (s : State) : Result := .next (s.portRetrain port.val)

/-- FABRIC_PACKET_ROUTE (R280, R284, R288, R293): the oldest packet received at a port is routed. A discarded packet frees its buffer;
another keeps it until it has crossed, left or been taken. -/
def execFabricPacketRoute (port : Fin 96) (s : State) : Result :=
  let n := port.val
  .next (match (s.port n).rx with
    | [] => s
    | r :: t =>
      let s := s.updPort n (fun p => { p with rx := t })
      let cl := clKey r.cls r.lane
      if fabClass r.pkt.ty ≠ some r.cls then (s.countDiscard (n / 12)).freeFlits n cl r.session r.flits
      else match s.fabRoute r.pkt true with
        | .discard => (s.fabStep (n / 12) r.pkt true .free).freeFlits n cl r.session r.flits
        | _ => s.fabStep (n / 12) r.pkt true (.port n cl r.session))

/-! ## Taking delivered packets -/

/-- Two packets of one class that come from one origin by the same PATH, which arrive in the order in which they were sent (R291). -/
def sameFlow (p r : FabPkt) : Bool := p.src == r.src && p.spc == r.spc && p.path == r.path && fabClass p.ty == fabClass r.ty

/-- A delivered packet taken from the inbox of port complex q, the first there of its flow (R291): the buffer space it held is free, and what waits to cross here follows. -/
def State.takeFab (s : State) (q : Nat) (p : FabPkt) : Option State :=
  match (s.pc q).disp.inbox.find? (fun f => sameFlow f.pkt p) with
  | none => none
  | some f =>
    if f.pkt ≠ p then none else
    let s := s.updPc q (fun c => { c with disp := { c.disp with inbox := c.disp.inbox.erase f } })
    some ((s.release q f.hold p.flits).cross q)

/-! ## Heartbeats (R308) -/

/-- A port complex, or the module's fault path, reports a fatal condition (R308). DEDUCED 132: the port complex is fenced, switched off or
reported dead, or every domain of the module is off and locked out. -/
def State.fatal (s : State) (q : Nat) : Bool :=
  (s.pc q).fenced || (s.pc q).off || s.fault.dead.contains (unitNo ukPc q) || s.power.dark || s.power.lockout

/-- The path that a port's neighbour sees in a HEARTBEAT is direct: it names the peer itself. One to or from a fenced address is
discarded (R288). -/
def State.heartbeat (s : State) (n : Nat) : State :=
  let p := s.port n
  if p.st = .up then
    let pkt : FabPkt := { ty := ftHeartbeat, dpc := BitVec.ofNat 3 (p.peerPort.toNat / 12), spc := BitVec.ofNat 3 (n / 12)
                          dst := p.peer, src := s.ownAddr, body := List.replicate 32 0 }
    if s.fencedAddr pkt.dst || s.fencedAddr pkt.src then s.countDiscard (n / 12)
    else s.fabPut (n / 12) { pkt := pkt, cls := 1, lane := 0, to_ := some n }
  else s

/-- HEARTBEAT_SEND (R308): on each up port of a dispatch engine, while no fatal condition is reported. -/
def execHeartbeatSend (pc : Fin 8) (s : State) : Result :=
  .next (if s.fatal pc.val then s
    else (List.range 12).foldl (fun s i => s.heartbeat (12 * pc.val + i)) s)

/-- HEARTBEAT_ARRIVE (R284, R308): consumed, which restarts the neighbour's eight periods. -/
def execHeartbeatArrive (pc : Fin 8) (p : FabPkt) (s : State) : Result :=
  .next (if p.ty = ftHeartbeat then (s.takeFab pc.val p).getD s else s)

/-- MODULE_LOST (R308): no HEARTBEAT from a directly linked module on any port for eight periods. -/
def execModuleLost (address : W32) (s : State) : Result :=
  let linked := s.ports.any (fun e => e.2.st == .up && e.2.peer == address)
  let heard := s.pcs.any (fun e => e.2.disp.inbox.any (fun f => f.pkt.ty == ftHeartbeat && f.pkt.src == address))
  .next (if linked && !heard then s.post 0x0a 1 0 ukRemote address.toNat [address.toNat] else s)

/-! ## Forwarding table and fences (R289, R310, R311) -/

/-- Entry j of the pending table is sound (R289). -/
def State.modEntryOk (s : State) (j : Nat) : Bool :=
  let f := s.fab
  let e := Tbl.get (fun _ => 0) f.modPending j
  let port := (fld e 0 7).toNat
  !bit e 7 ||
    (decide (port < 96) && (List.range 64).all (fun i =>
        let d := Tbl.get (fun _ => 0) f.modPending i
        i == j || !bit d 7 || (fld d 0 7).toNat != port)
      && ((s.port port).st != .up || (s.port port).peer.toNat == 64 * groupOf s.ownAddr + j)
      && (!bit e 14 || (let v := (fld e 8 6).toNat
          v != modOf s.ownAddr && v != j && bit (Tbl.get (fun _ => 0) f.modPending v) 7)))

/-- A group entry's route by module m and port q is sound. -/
def State.grpRouteOk (s : State) (g m q : Nat) : Bool :=
  decide (q < 96) && (m != modOf s.ownAddr ||
    ((List.range 64).all (fun i =>
        let d := Tbl.get (fun _ => 0) s.fab.modPending i
        !bit d 7 || (fld d 0 7).toNat != q)
      && ((s.port q).st != .up || groupOf (s.port q).peer == g)))

def State.grpEntryOk (s : State) (g : Nat) : Bool :=
  let e := Tbl.get (fun _ => 0) s.fab.grpPending g
  let pm := (fld e 0 6).toNat
  let sm := (fld e 14 6).toNat
  (!bit e 13 || s.grpRouteOk g pm (fld e 6 7).toNat) && (!bit e 27 || s.grpRouteOk g sm (fld e 20 7).toNat)
    && (!(bit e 13 && bit e 27) || pm != sm)

/-- The first failing entry of the pending table: j, or 64 + g. -/
def State.fwdBad (s : State) : Option Nat :=
  ((List.range 64).find? (fun j => !s.modEntryOk j)).or (((List.range 256).find? (fun g => !s.grpEntryOk g)).map (fun g => 64 + g))

/-- A commit of the forwarding table (R289). -/
def State.fwdCommit (s : State) : State :=
  match s.fwdBad with
  | some b => { s with fab := { s.fab with status := 2, bad := BitVec.ofNat 9 b } }
  | none => { s with fab := { s.fab with status := 1, modActive := s.fab.modPending, grpActive := s.fab.grpPending } }

/-- FWD_COMMIT (R289). -/
def execFwdCommit (s : State) : Result := .next s.fwdCommit

/-- A write of MODULE.FENCE_n (R310, R311). -/
def State.fenceWrite (s : State) (n : Fin 16) (v : W64) : State :=
  { s with fab := { s.fab with fence := s.fab.fence.set n (v.setWidth 33) } }

/-- MODULE_FENCE_WRITE (R310). -/
def execModuleFenceWrite (n : Fin 16) (value : W64) (s : State) : Result := .next (s.fenceWrite n value)

end Sys2Proof.Machine
end

