-- ==== Sys2Proof/Machine/Req.lean ====
section
/-! DEFINITION. Machine/Req.lean: the requests of arrays and update engines, and the arrival of their answers
(R41, R44, R110, R152, R160, R164, R165, R195). -/

namespace Sys2Proof.Machine

/-! ## Units -/

/-- The unit that a node of the mesh names, where it issues tagged requests: a site or an update engine. -/
def unitOf : Node → Option Nat
  | .site x => some x.key
  | .ue p e => some (65536 + 16 * p.val + e.val)
  | _ => none

/-- The packets delivered to a node and not yet acted on; an update engine's stand at its port complex. -/
def State.arrivedAt (s : State) : Node → List Packet
  | .site x => (s.site x.key).arrived
  | .ue p _ => (s.pc p.val).arrived
  | .stack st => (s.stack st.val).arrived
  | .pc p => (s.pc p.val).arrived
  | .host h => (s.hp h.val).arrived
  | .store b => (s.bay b.val).arrived

/-- A delivered packet taken. -/
def State.takeAt (s : State) (n : Node) (p : Packet) : State :=
  match n with
  | .site x => s.updSite x.key (fun a => { a with arrived := a.arrived.erase p })
  | .ue c _ => s.updPc c.val (fun a => { a with arrived := a.arrived.erase p })
  | .stack st => s.updStack st.val (fun a => { a with arrived := a.arrived.erase p })
  | .pc c => s.updPc c.val (fun a => { a with arrived := a.arrived.erase p })
  | .host h => s.updHp h.val (fun a => { a with arrived := a.arrived.erase p })
  | .store b => s.updBay b.val (fun a => { a with arrived := a.arrived.erase p })

/-- A packet sent by a node into the mesh. -/
def State.sendNode (s : State) (n : Node) (p : Packet) : State :=
  match n with
  | .site x => s.sendFrom x.key { p with srow := posRow x.key, scol := posCol x.key, sport := 0 }
  | .ue c _ => s.sendService (.pc c) p
  | .stack st => s.sendStack (stackRouter st.val p.addr.toNat) p
  | .pc c => s.sendService (.pc c) p
  | .host h => s.sendService (.host h) p
  | .store b => s.sendService (.store b) p

/-! ## Tags (R147) -/

/-- TAGs of the requests that a unit, or the update engines of its port complex, have outstanding. -/
def State.tagsInUse (s : State) (k : Nat) : List (BitVec 12) :=
  if k < 65536 then (s.site k).reqs.map (fun r => r.tag)
  else (List.range 16).flatMap (fun e => ((s.site (65536 + 16 * ((k - 65536) / 16) + e)).reqs.map (fun r => r.tag)))

/-- A TAG for a new request. TAG 0 is left to DSET packets and to the unicasts of an unrolled one (R147, R161). -/
def State.freeTag (s : State) (k : Nat) : Option (BitVec 12) :=
  ((List.range 4095).map (fun i => BitVec.ofNat 12 (i + 1))).find? (fun t => !(s.tagsInUse k).contains t)

/-! ## Accounting of answers -/

/-- Entry id of queue q of a unit replaced by f of it. -/
def Site.updEntry (a : Site) (q : Fin 4) (id : Nat) (f : QEntry → QEntry) : Site :=
  { a with queues := a.queues.set q (a.queues[q].map (fun x => if x.id = id then f x else x)) }

/-- Queue number of DMA engine e (R32). -/
def dmaQueue (e : Fin 2) : Fin 4 := if e = 0 then 2 else 3

/-- The entry of a DMA request has one answer less to wait for; its first non-OK status is kept (R45). -/
def QEntry.answered (x : QEntry) (status : BitVec 3) : QEntry :=
  { x with waiting := x.waiting - 1, dmaStatus := if x.dmaStatus = 0 then status else x.dmaStatus }

/-! ## Requests -/

/-- What a unit asks for. -/
structure Ask where
  owner : ReqOwner
  ptype : BitVec 6
  addr : Nat
  len : Nat
  dst : Nat := 0
  nomerge : Bool := false
  payload : List Byte := []
  poison : Bool := false
  aop : BitVec 4 := 0
  /-- Site position of a PUT's target. -/
  dest : Option (Nat × Nat) := none

/-- The packet of a request, addressed. -/
def Ask.packet (q : Ask) (k : Nat) (tag : BitVec 12) : Option Packet :=
  let p : Packet := {
    cls := .bulk, drow := 0, dcol := 0, srow := 0, scol := 0, ptype := q.ptype, tag := tag, nomerge := q.nomerge
    addr := BitVec.ofNat 48 q.addr, bytesM1 := BitVec.ofNat 10 (q.len - 1), payload := q.payload, poison := q.poison, aop := q.aop }
  let t := match q.dest with
    | some (r, c) => some { p with drow := r, dcol := c }
    | none =>
      let (r, c, sp) := srcOf k 0 0
      ({ p with srow := r, scol := c, sport := sp } : Packet).toTarget
  t.map (fun p => let (r, c, sp) := srcOf k p.drow p.dcol; { p with srow := r, scol := c, sport := sp })

/-! ## The streamer's reads (R195, R197) -/

/-- Reads of the streamer outstanding. -/
def Site.streamerReads (a : Site) : Nat := a.reqs.countP (fun r => match r.owner with | .streamer _ _ => true | _ => false)

/-- The running descriptor. -/
def Ws.cur (w : Ws) : Option WsDesc :=
  match w.kicks with
  | (d :: _) :: _ => some d
  | _ => none

def wsAddr (d : WsDesc) : Nat := bitsOf d.w0.toNat 0 48
def wsWin (d : WsDesc) : BitVec 3 := fld d.w0 48 3
def wsTag (d : WsDesc) : BitVec 8 := fld d.w0 56 8
def wsLocal (d : WsDesc) : Nat := bitsOf d.w1.toNat 0 23
def wsBlocks (d : WsDesc) : Nat := bitsOf d.w1.toNat 32 14 + 1
def wsVersion (d : WsDesc) : Nat := bitsOf d.w2.toNat 0 32
def wsLayer (d : WsDesc) : Nat := bitsOf d.w2.toNat 32 16

/-- VERSION and LAYER of a slab header's bytes (R191). -/
def hdrVersion (bs : List Byte) : Nat := leNat (bs.take 4)
def hdrLayer (bs : List Byte) : Nat := leNat ((bs.drop 4).take 2)

/-- The attempt has failed: a refetch after the delay, or STALE_SLAB (R195). -/
def Ws.failed (w : Ws) : Ws :=
  if w.retried then { w with phase := some (.finished 6) }
  else { w with phase := some .retryWait, retried := true, refetches := satAdd w.refetches 1 }

/-- The streamer after an answer to one of its reads of the running descriptor (R195). -/
def Ws.answered (w : Ws) (block : Option Nat) (status : BitVec 3) (bs : List Byte) : Ws :=
  match w.cur, w.phase with
  | some d, some ph =>
    if ph = .retryWait then w
    else match ph with
      | .finished _ => w
      | _ =>
        if status ≠ 0 then { w with phase := some (.finished status) }
        else match block with
          | none => if hdrVersion bs = wsVersion d then { w with phase := some (.finished 0) } else w.failed
          | some 0 =>
            if hdrVersion bs = wsVersion d ∧ hdrLayer bs = wsLayer d then
              if wsBlocks d = 1 then { w with phase := some (.finished 0) } else { w with phase := some .body, next := 1, waiting := 0 }
            else w.failed
          | some _ =>
            let w := { w with waiting := w.waiting - 1 }
            if w.waiting = 0 ∧ w.next = wsBlocks d then { w with phase := some .reread } else w
  | _, _ => w

/-! ## Sending and finishing -/

/-- What an answer does to the unit, the scratchpad apart. -/
def Site.account (a : Site) (o : ReqOwner) (status : BitVec 3) (bs : List Byte) : Site :=
  match o with
  | .dma e id => a.updEntry (dmaQueue e) id (fun x => x.answered status)
  | .streamer g b => if a.ws.gen = g then { a with ws := a.ws.answered b status bs } else a
  | .trace n => if status = 0 then a else { a with trc := { a.trc with dropped := satAdd a.trc.dropped n } }
  | .ctrl => a
  | .discard => a

/-- The header reread of a stream is written nowhere (R195). -/
def Req.writesBytes (r : Req) : Bool := match r.owner with | .streamer _ none => false | .trace _ => false | .ctrl => false | .discard => false | _ => true

/-- A packet whose bytes the write port takes (R106): inbound writes are made in the order of their arrival (R108). -/
def inboundWrite (p : Packet) : Bool := p.ptype == ptReadRsp || p.ptype == ptAtomicRsp || p.ptype == ptPut

/-- The inbound write of a unit that is made next: the first that arrived; an update engine's among those with its TAGs. -/
def State.nextInbound (s : State) (node : Node) (k : Nat) : Option Packet :=
  (s.arrivedAt node).find? (fun p => inboundWrite p && (decide (k < 65536) || (s.site k).reqs.any (fun r => r.tag == p.tag)))

/-- A request completed with a status and the bytes of its answer (R45, R195). -/
def State.finishReq (s : State) (k : Nat) (r : Req) (status : BitVec 3) (bs : List Byte) : State :=
  let s := s.updSite k (fun a => { a with reqs := a.reqs.filter (fun q => q.tag != r.tag) })
  let s := if r.writesBytes && !bs.isEmpty then s.writeRun k r.dst bs else s
  s.updSite k (fun a => a.account r.owner status bs)

/-- STATUS 0 to 3 of a packet, as a completion carries it (R45, R147). -/
def statusOf (p : Packet) : BitVec 3 := p.status.setWidth 3

/-- The answer to a request at an address that no endpoint serves (R171; for others DEDUCED 5): POISON for a read,
TARGET_OFF for a write. -/
def State.finishNowhere (s : State) (k : Nat) (r : Req) : State :=
  if r.ptype = ptReadReq then s.finishReq k r 3 (List.replicate r.len 0) else s.finishReq k r 1 []

/-- A request sent with its answer's space reserved (R44, R164). -/
def State.sendRequest (s : State) (k : Nat) (q : Ask) : State :=
  match s.freeTag k with
  | none => s
  | some tag =>
    let r : Req := { tag := tag, owner := q.owner, ptype := q.ptype, addr := q.addr, len := q.len, dst := q.dst, nomerge := q.nomerge }
    let s := s.updSite k (fun a => { a with reqs := a.reqs ++ [r] })
    match q.packet k tag with
    | some p => s.sendFrom k p
    | none => s.finishNowhere k r

/-- The streamer reads block b of its running descriptor, or the header again. -/
def State.streamRead (s : State) (k : Nat) (b : Option Nat) : State :=
  let a := s.site k
  match a.ws.cur with
  | none => s
  | some d =>
    let n := b.getD 0
    s.sendRequest k { owner := .streamer a.ws.gen b, ptype := ptReadReq, addr := wsAddr d + 512 * n, len := if b.isSome then 512 else 64,
                      dst := a.winBase (wsWin d) + wsLocal d + 512 * n }

/-- The streamer issues what it may: body blocks up to 128 reads outstanding, or the header reread (R195). -/
def State.streamPump (s : State) (k : Nat) : State :=
  let a := s.site k
  match a.ws.cur, a.ws.phase with
  | some d, some .body =>
    let n := min (min (wsBlocks d - a.ws.next) (128 - a.streamerReads)) (4095 - (s.tagsInUse k).length)
    (List.range n).foldl (fun s i =>
      (s.updSite k (fun a => { a with ws := { a.ws with next := a.ws.next + 1, waiting := a.ws.waiting + 1 } })).streamRead k
        (some (a.ws.next + i))) s
  | some _, some .reread =>
    if (s.freeTag k).isNone || a.reqs.any (fun r => r.owner == .streamer a.ws.gen none) then s else s.streamRead k none
  | _, _ => s

/-! ## Arrivals of answers -/

/-- The request that a READ_RSP completes (R147, R160): by TAG, or the oldest NOMERGE = 0 read of its block. -/
def Site.readFor (a : Site) (p : Packet) : Option Req :=
  if p.dset || p.tag == 0 then
    a.reqs.find? (fun r => r.ptype == ptReadReq && !r.nomerge && r.addr / 512 == p.addr.toNat / 512)
  else a.reqs.find? (fun r => r.ptype == ptReadReq && r.tag == p.tag)

/-- The bytes that a read asked for: a whole block's answer is cut to them. -/
def readBytes (r : Req) (p : Packet) : List Byte :=
  if r.len < p.payload.length then (p.payload.drop (r.addr % 512)).take r.len else p.payload

/-- READ_RSP_ARRIVE (R45, R160, R195): a READ_RSP or a copy of a DSET packet that has reached a unit. -/
def execReadRspArrive (node : Node) (p : Packet) (s : State) : Result :=
  .next (match unitOf node with
    | none => s
    | some k =>
      if s.nextInbound node k == some p && p.ptype == ptReadRsp then
        match (s.site k).readFor p with
        | some r => ((s.takeAt node p).finishReq k r (if p.poison then 3 else 0) (readBytes r p)).streamPump k
        | none => (s.takeAt node p).updSite k (fun a => { a with rt := { a.rt with dropSluice := satAdd a.rt.dropSluice 1 } })
      else s)

/-- Types of the answers without a payload, and ATOMIC_RSP. -/
def isAck (t : BitVec 6) : Bool := t == ptWriteAck || t == ptPutAck || t == ptAtomicRsp

/-- ACK_ARRIVE (R45, R164): the acknowledgement of a WRITE or PUT, or the answer of an atomic, reaches its unit.
A CTRL_ACK frees its sender's slot by GRANT_ARRIVE's counterpart at the port complex. -/
def State.ackUnit (s : State) (node : Node) (k : Nat) (p : Packet) : State :=
  if p.ptype = ptAtomicRsp ∧ s.nextInbound node k ≠ some p then s
  else match (s.site k).reqs.find? (fun r => r.tag == p.tag && r.ptype != ptReadReq) with
  | some r => ((s.takeAt node p).finishReq k r
      (if p.ptype = ptAtomicRsp ∧ p.poison = true ∧ p.status = 0 then 3 else statusOf p) p.payload).streamPump k
  | none => s.takeAt node p

/-- COMPLETION_ARRIVE (R45, R152, R195): a COMPLETION with TARGET_OFF replaces the answer: no byte is written. -/
def State.completionUnit (s : State) (node : Node) (k : Nat) (p : Packet) : State :=
  match (s.site k).reqs.find? (fun r => r.tag == p.tag) with
  | some r => ((s.takeAt node p).finishReq k r (statusOf p) []).streamPump k
  | none => s.takeAt node p

/-- PUT_ARRIVE (R41, R110): an inbound PUT is checked against its window and written whole, or dropped. -/
def execPutArrive (site : SiteId) (p : Packet) (s : State) : Result :=
  let k := site.key
  let a := s.site k
  .next (if a.arrived.find? inboundWrite == some p && p.ptype == ptPut then
      let s := s.updSite k (fun a => { a with arrived := a.arrived.erase p })
      let w := BitVec.ofNat 3 (bitsOf p.addr.toNat 23 3)
      let off := bitsOf p.addr.toNat 0 23
      let reply (st : BitVec 4) : Packet := p.answer ptPutAck st [] false
      if p.poison then s.sendFrom k (reply stPoison)
      else if (vget {} a.spad.win w.toNat).remoteEn && a.inWindow w off p.payload.length then
        (s.writeRun k (a.winBase w + off) p.payload).sendFrom k (reply stOk)
      else s.sendFrom k (reply stOutOfWindow)
    else s)

/-! ## Control inboxes (R165) -/

/-- Entries of a control inbox. -/
def inboxCap : Nat := 16

/-- The control inbox of a node. -/
def State.inboxOf (s : State) : Node → List Packet
  | .site x => (s.site x.key).ctrlInbox
  | .ue p _ => (s.pc p.val).ctrlInbox
  | .stack st => (s.stack st.val).ctrlInbox
  | .pc p => (s.pc p.val).ctrlInbox
  | .host h => (s.hp h.val).ctrlInbox
  | .store b => (s.bay b.val).ctrlInbox

/-- A message put in a node's control inbox. -/
def State.addInbox (s : State) (n : Node) (p : Packet) : State :=
  match n with
  | .site x => s.updSite x.key (fun a => { a with ctrlInbox := a.ctrlInbox ++ [p] })
  | .ue c _ => s.updPc c.val (fun a => { a with ctrlInbox := a.ctrlInbox ++ [p] })
  | .stack st => s.updStack st.val (fun a => { a with ctrlInbox := a.ctrlInbox ++ [p] })
  | .pc c => s.updPc c.val (fun a => { a with ctrlInbox := a.ctrlInbox ++ [p] })
  | .host h => s.updHp h.val (fun a => { a with ctrlInbox := a.ctrlInbox ++ [p] })
  | .store b => s.updBay b.val (fun a => { a with ctrlInbox := a.ctrlInbox ++ [p] })

/-- CTRL_MSG_ARRIVE (R165): accepted into the inbox, or answered BUSY when the inbox is full. -/
def execCtrlMsgArrive (node : Node) (p : Packet) (s : State) : Result :=
  .next (if (s.arrivedAt node).contains p && p.ptype == ptCtrlMsg then
      let s := s.takeAt node p
      if (s.inboxOf node).length < inboxCap then (s.addInbox node p).sendNode node (p.answer ptCtrlAck stOk [] false)
      else s.sendNode node (p.answer ptCtrlAck stBusy [] false)
    else s)

end Sys2Proof.Machine
end

