-- ==== Sys2Proof/Machine/Reduce.lean ====
section
/-! DEFINITION. Machine/Reduce.lean: gradient reduction at the port complexes: jobs, grants, the collection of chunks, the
member tree, the shadow check and the timers (R229–R250). -/

namespace Sys2Proof.Machine

/-! ## Jobs (R233) -/

def State.job (s : State) (q j : Nat) : Job := Tbl.get (fun _ => {}) (s.pc q).red.jobs j
def State.updRed (s : State) (q : Nat) (f : Red → Red) : State := s.updPc q (fun c => { c with red := f c.red })
def State.updJob (s : State) (q j : Nat) (f : Job → Job) : State :=
  s.updRed q (fun r => { r with jobs := Tbl.set r.jobs j (f (Tbl.get (fun _ => {}) r.jobs j)) })

/-- A field of a job's word. -/
def Job.fld (x : Job) (w lo len : Nat) : Nat := bitsOf (vget 0 x.w w).toNat lo len

def Job.squash (x : Job) : Bool := x.fld 0 1 1 == 1
def Job.rfmt (x : Job) : Nat := x.fld 0 2 2
def Job.shadowEn (x : Job) : Bool := x.fld 0 4 1 == 1
def Job.shadowK (x : Job) : Nat := x.fld 0 5 5
def Job.nChunks (x : Job) : Nat := x.fld 0 16 4 + 1
def Job.slotBytes (x : Job) : Nat := 512 * x.nChunks
def Job.gen (x : Job) : Nat := x.fld 0 24 8
def Job.expect (x : Job) : Nat := x.fld 0 32 16
def Job.phase (x : Job) : Nat := x.fld 0 48 16
def Job.member (x : Job) : Nat := x.fld 1 0 14
def Job.members (x : Job) : Nat := x.fld 1 16 14 + 1
def Job.passes (x : Job) : Nat := x.fld 1 32 32 + 1
def Job.slot (x : Job) : Nat := x.fld 2 0 17
def Job.check (x : Job) : Nat := x.fld 2 32 17
def Job.staging (x : Job) : Nat := x.fld 3 0 48
def Job.mapAddr (x : Job) : Nat := x.fld 4 0 48
def Job.grantAddr (x : Job) : Nat := x.fld 5 0 48
def Job.grantCount (x : Job) : Nat := x.fld 5 48 7

/-- Bytes of an element (R235). -/
def Job.elem (x : Job) : Nat := if x.rfmt = 1 then 2 else 4

/-! ## The member tree (R231) -/

/-- The least D with M ≤ 2^D, for M up to 16,384. -/
def clog2 (m : Nat) : Nat := ((List.range 15).find? (fun d => decide (m ≤ 2 ^ d))).getD 14

/-- t(m): trailing zero bits of m, and D for the root. -/
def treeT (members m : Nat) : Nat :=
  if m = 0 then clog2 members else ((List.range 14).find? (fun i => m / 2 ^ i % 2 == 1)).getD 0

/-- The children of a member, with their levels, in rising level. -/
def treeKids (members m : Nat) : List (Nat × Nat) :=
  ((List.range (treeT members m)).map (fun i => (i + 1, m + 2 ^ i))).filter (fun c => decide (c.2 < members))

/-- The parent of a member, and the level of the hop to it; none at the root. -/
def treeParent (members m : Nat) : Option (Nat × Nat) :=
  if m = 0 then none else some (m - 2 ^ treeT members m, treeT members m + 1)

def Job.kids (x : Job) : List (Nat × Nat) := treeKids x.members x.member
def Job.parent (x : Job) : Option (Nat × Nat) := treeParent x.members x.member

/-- The module address of a member that a job talks to. -/
def Job.addrOf (x : Job) (m : Nat) : W32 := ((x.peers.find? (fun e => e.1 == m)).map (fun e => e.2)).getD 0

/-- Chunk c of the pass in progress is sampled (R245). -/
def Job.sampled (x : Job) (c : Nat) : Bool :=
  x.shadowEn && (x.pass.toNat * x.nChunks + c + x.phase) % 2 ^ x.shadowK == 0

/-- The shadow partner's port complex. -/
def shadowOf (q : Nat) : Nat := if q < 4 then q + 4 else q - 4

/-- Position of the child at a level among the check entries: 1 + its place among the children present. -/
def Job.checkPos (x : Job) (level : Nat) : Nat :=
  if level = 0 then 0 else 1 + ((x.kids.findIdx? (fun c => c.1 == level)).getD 0)

/-! ## Trailers (R241, R242) -/

/-- The lower of two FIRST records. -/
def firstMin (a b : Option (Nat × Nat)) : Option (Nat × Nat) :=
  match a, b with
  | none, y => y
  | x, none => x
  | some x, some y => if y.1 < x.1 ∨ (y.1 = x.1 ∧ y.2 < x.2) then some y else some x

/-- A trailer merged into another (R242). -/
def RedTrailer.merge (a b : RedTrailer) : RedTrailer :=
  { nf := a.nf ||| b.nf, abort := a.abort || b.abort, checkFail := a.checkFail || b.checkFail, first := firstMin a.first b.first
    contrib := a.contrib + b.contrib, squashed := min 0xffffffff (a.squashed + b.squashed) }

/-- The same over the chunks of a pass: they hold the contributions of the same members, and CONTRIB is the least. -/
def RedTrailer.joinChunk (a b : RedTrailer) : RedTrailer :=
  { a.merge b with contrib := if a.contrib = 0 then b.contrib else min a.contrib b.contrib }

/-- The 32 bytes of a trailer. -/
def RedTrailer.bytes (t : RedTrailer) : List Byte :=
  let f := t.first.getD (0, 0)
  [BitVec.ofNat 8 (t.nf.toNat + 16 * b2n t.abort + 32 * b2n t.checkFail + 64 * b2n t.first.isSome), 0] ++ leBytes 2 t.contrib
    ++ leBytes 2 f.1 ++ [0, 0] ++ leBytes 8 f.2 ++ leBytes 4 t.squashed ++ List.replicate 12 0

def parseTrailer (bs : List Byte) : RedTrailer :=
  let f := bytesAt bs 0 1
  { nf := BitVec.ofNat 4 f, abort := f / 16 % 2 == 1, checkFail := f / 32 % 2 == 1
    first := if f / 64 % 2 = 1 then some (bytesAt bs 4 2 % 16384, bytesAt bs 8 5) else none
    contrib := bytesAt bs 2 2, squashed := bytesAt bs 16 4 }

/-! ## Reduction packets (R241) -/

def rkUp : Nat := 1
def rkDown : Nat := 2
def rkShadowUp : Nat := 3
def rkShadowDown : Nat := 4

/-- A reduction packet's body, read. -/
structure RedMsg where
  kind : Nat
  rfmt : Nat
  firstChunk : Nat
  job : Nat
  gen : Nat
  level : Nat
  srcMember : Nat
  dstMember : Nat
  round : Nat
  pass : Nat
  chunks : List (List Byte)
  trailer : RedTrailer
  deriving DecidableEq, Repr

def RedMsg.bytes (m : RedMsg) : List Byte :=
  [BitVec.ofNat 8 m.kind, BitVec.ofNat 8 (m.rfmt + 4 * (m.chunks.length - 1) + 16 * m.firstChunk)] ++ leBytes 2 m.job
    ++ [BitVec.ofNat 8 m.gen, BitVec.ofNat 8 m.level] ++ leBytes 2 m.srcMember ++ leBytes 2 m.dstMember ++ leBytes 2 m.round
    ++ leBytes 4 m.pass ++ List.replicate 16 0 ++ m.chunks.flatten ++ m.trailer.bytes

def parseRed (bs : List Byte) : Option RedMsg :=
  let f := bytesAt bs 1 1
  let n := f / 4 % 4 + 1
  if bs.length = 64 + 512 * n then
    some { kind := bytesAt bs 0 1, rfmt := f % 4, firstChunk := f / 16, job := bytesAt bs 2 2 % 4096, gen := bytesAt bs 4 1
           level := bytesAt bs 5 1, srcMember := bytesAt bs 6 2, dstMember := bytesAt bs 8 2, round := bytesAt bs 10 2
           pass := bytesAt bs 12 4, chunks := (List.range n).map (fun i => (bs.drop (32 + 512 * i)).take 512)
           trailer := parseTrailer (bs.drop (32 + 512 * n)) }
  else none

/-- A message of job j sent to a member of its tree: between the port complexes q of both modules, or between their
shadow partners on PATH 1. -/
def State.redSend (s : State) (q j : Nat) (x : Job) (kind level to_ c : Nat) (chunks : List (List Byte)) (t : RedTrailer) : State :=
  let m : RedMsg := { kind := kind, rfmt := x.rfmt, firstChunk := c, job := j, gen := x.gen, level := level, srcMember := x.member
                      dstMember := to_, round := x.round.toNat, pass := x.pass.toNat, chunks := chunks, trailer := t }
  s.fabSend q { ty := ftRed, dpc := BitVec.ofNat 3 q, spc := BitVec.ofNat 3 q, path := decide (rkShadowUp ≤ kind), dst := x.addrOf to_
                src := s.ownAddr, body := m.bytes }

/-- A chunk sent to every child in decreasing level (R232). -/
def State.sendDown (s : State) (q j : Nat) (x : Job) (kind c : Nat) (chunks : List (List Byte)) (t : RedTrailer) : State :=
  x.kids.reverse.foldl (fun s k => s.redSend q j x kind k.1 k.2 c chunks t) s

/-! ## Sticky records (R244, R250) -/

/-- RED_STAT.FIRST_JOB holds the job of the first event since the three flags were last all clear. -/
def Red.noteJob (r : Red) (j : Nat) : Red :=
  if r.nonfinite || r.checkMismatch || r.shortfall then r else { r with firstJob := BitVec.ofNat 12 j }

/-- A non-finite record enters a chunk's trailer, the job and RED_STAT (R244). -/
def State.recordNf (s : State) (q j c : Nat) (f : Option (Nat × Nat)) : State :=
  let s := s.updRed q (fun r => { r.noteJob j with nonfinite := true })
  s.updJob q j (fun x => { x with
    nonfinite := true, first := firstMin x.first f
    chunks := updAt x.chunks c (fun h => { h with trailer := { h.trailer with nf := h.trailer.nf ||| 1, first := firstMin h.trailer.first f } }) })

/-- REDUCE_SHORTFALL reported (R242, R248). -/
def State.reportShortfall (s : State) (q j : Nat) : State :=
  let x := s.job q j
  (s.updRed q (fun r => { r.noteJob j with shortfall := true })).post 7 2 0 ukPc q [j, x.round.toNat, x.pass.toNat]

/-! ## The combining buffer -/

def State.unitBytes (s : State) (q u : Nat) : List Byte := Memory.read (s.pc q).red.buf (512 * u) 512
def State.putUnit (s : State) (q u off : Nat) (bs : List Byte) : State :=
  s.updRed q (fun r => { r with buf := Memory.write r.buf (512 * u + off) bs })

/-- Two runs of bytes added; whether some element became non-finite from finite operands, and the first such (R157). -/
def redAdd (rfmt : Nat) (a b : List Byte) : List Byte × Option Nat :=
  let xs := reduceElems rfmt a
  let ys := reduceElems rfmt b
  let zs := (xs.zip ys).map (fun e => elemAdd rfmt e.1 e.2)
  let bad := ((xs.zip ys).zip zs).findIdx? (fun e =>
    !elemNonFinite rfmt e.1.1 && !elemNonFinite rfmt e.1.2 && elemNonFinite rfmt e.2)
  (elemBytes rfmt zs, bad)

/-! ## Grants (R236) -/

/-- The message of a REDUCE_GRANT, as the four payload bytes of a CTRL_MSG carry it: JOB in [11:0] and PC in [14:12] (DESIGN
CHOICE 25; EXT of a CTRL_MSG is zero, R147). -/
def grantBytes (q j : Nat) : List Byte := leBytes 4 (j + 4096 * q)

/-- A TAG for a control message of port complex q. -/
def State.ctrlTag (s : State) (q : Nat) : BitVec 12 :=
  (((List.range 9).map (fun i => BitVec.ofNat 12 (i + 1))).find? (fun t => !(s.pc q).ctrlOut.contains t)).getD 0

/-- The next grant of entry i of a job's list sent, if it may be: the array has accepted the one before, and fewer than
eight control messages are outstanding (R164). -/
def State.sendGrant (s : State) (q j i : Nat) : State :=
  match (s.job q j).grants[i]? with
  | none => s
  | some g =>
    if g.owed = 0 ∨ g.sent.isSome ∨ g.busy ∨ 8 ≤ (s.pc q).ctrlOut.length then s
    else match s.siteOfMesh g.row g.col with
      | none => s.updJob q j (fun x => { x with grants := updAt x.grants i (fun g => { g with owed := g.owed - 1 }) })
      | some k =>
        let t := s.ctrlTag q
        let s := s.updPc q (fun c => { c with ctrlOut := c.ctrlOut ++ [t] })
        let s := s.updJob q j (fun x => { x with grants := updAt x.grants i (fun g => { g with owed := g.owed - 1, sent := some t }) })
        s.sendService (.pc (Fin.ofNat 8 q)) { cls := .control, drow := posRow k, dcol := posCol k, srow := 0, scol := 0, ptype := ptCtrlMsg, tag := t,
                                                bytesM1 := 3, payload := grantBytes q j }

/-- Every grant of a running job that may go now, in list order. -/
def State.pumpGrants (s : State) (q j : Nat) : State :=
  if (s.job q j).st = .running then (List.range (s.job q j).grants.length).foldl (fun s i => s.sendGrant q j i) s else s

/-- Every running job of a port complex sends what it may. -/
def State.pumpAllGrants (s : State) (q : Nat) : State := (s.pc q).red.jobs.foldl (fun s e => s.pumpGrants q e.1) s

/-- The answer of a control message of port complex q has come back, with BUSY or not: its slot is free, and a grant
answered BUSY is owed again (R164, R236). -/
def State.grantAnswered (s : State) (q : Nat) (tag : BitVec 12) (busy : Bool) : State :=
  let s := s.updPc q (fun c => { c with ctrlOut := c.ctrlOut.erase tag })
  let f (g : Grant) : Grant := if g.sent = some tag then { g with sent := none, busy := busy, owed := g.owed + b2n busy } else g
  let s := s.updRed q (fun r => { r with jobs := r.jobs.map (fun e => (e.1, { e.2 with grants := e.2.grants.map f })) })
  s.pumpAllGrants q

/-- A grant taken from the control inbox of an array (R236). -/
def Site.takeGrant (a : Site) (p : Packet) : Site :=
  let w := bytesAt p.payload 0 4
  let j := BitVec.ofNat 12 w
  let q := BitVec.ofNat 3 (w / 4096)
  match a.rgrant.toList.findIdx? (fun r => r.en && r.job == j && r.pc == q) with
  | some i => { a with rgrant := vset a.rgrant i (let r := vget {} a.rgrant i; { r with granted := r.granted + 1 }) }
  | none => { a with rgrantMiss := satAdd a.rgrantMiss 1 }

/-- GRANT_ARRIVE (R236): the oldest accepted control message of an array is its REDUCE_GRANT. -/
def execGrantArrive (site : SiteId) (s : State) : Result :=
  .next (s.updSite site.key (fun a => match a.ctrlInbox with
    | [] => a
    | p :: t => ({ a with ctrlInbox := t }).takeGrant p))

/-- GRANT_RETRY (R236): 1 µs after BUSY the same grant is sent again. -/
def execGrantRetry (pc : Fin 8) (job : Fin 4096) (row col : Fin 192) (s : State) : Result :=
  .next ((s.updJob pc.val job.val (fun x => { x with
    grants := x.grants.map (fun g => if g.row = row.val ∧ g.col = col.val then { g with busy := false } else g) })).pumpGrants pc.val job.val)

/-! ## Passes (R236, R239) -/

/-- A pass opens: line counts are cleared and every array of the list is owed one more grant. -/
def State.passOpen (s : State) (q j : Nat) : State :=
  (s.updJob q j (fun x => { x with
    chunks := List.replicate x.nChunks {}, passTrailer := {}
    grants := x.grants.map (fun g => { g with owed := g.owed + 1 }) })).pumpGrants q j

/-- The trailer and pass fields of a pass record (R239). -/
def passRecord (t : RedTrailer) (round : BitVec 16) (pass : W32) : List Byte :=
  t.bytes ++ leBytes 2 round.toNat ++ [0, 0] ++ leBytes 4 pass.toNat ++ [1] ++ List.replicate 23 0

/-- Address of the pass record of pass n. -/
def Job.recordAddr (x : Job) (n : Nat) : Nat := x.staging + x.passes * x.slotBytes + 64 * n

/-- The pass record written; then the next pass opens, or the job enters HELD or ABORTED (R239, R248). A pass that the down timer
ends (abort) is not complete, and PASSES does not count it. -/
def State.endPass (s : State) (q j : Nat) (t : RedTrailer) (abort : Bool) : State :=
  let x := s.job q j
  let (s, _) := s.hbmWrite (x.recordAddr x.pass.toNat) (passRecord { t with abort := t.abort || abort } x.round x.pass)
  let s := s.updRed q (fun r => { r with passes := if abort then r.passes else satAdd r.passes 1 })
  let s := s.updJob q j (fun x => { x with recorded := true, checkFail := x.checkFail || t.checkFail })
  if t.abort ∨ abort then s.updJob q j (fun x => { x with st := .aborted, chunks := [] })
  else if x.pass.toNat + 1 < x.passes then (s.updJob q j (fun x => { x with pass := x.pass + 1 })).passOpen q j
  else s.updJob q j (fun x => { x with st := .held, chunks := [] })

/-- A new round begins after the release of the staging area (R239). -/
def State.nextRound (s : State) (q j : Nat) : State :=
  (s.updJob q j (fun x => { x with
    round := x.round + 1, pass := 0, st := .running, nonfinite := false, checkFail := false, first := none, squashed := 0
    recorded := false, tasked := false, awaiting := [] })).passOpen q j

/-! ## Comparing (R247) -/

/-- Data, NF bits and CONTRIB of two results are equal. -/
def sameResult (a b : List Byte × RedTrailer) : Bool :=
  a.1 == b.1 && a.2.nf == b.2.nf && a.2.contrib == b.2.contrib

/-- A result chunk is written to staging and joins the pass's trailer; at the root it goes down to the children. -/
def State.finishChunk (s : State) (q j c : Nat) (data : List Byte) (t : RedTrailer) (down : Bool) : State :=
  let x := s.job q j
  let (s, _) := s.hbmWrite (x.staging + x.pass.toNat * x.slotBytes + 512 * c) data
  let s := s.updJob q j (fun x => { x with
    passTrailer := x.passTrailer.joinChunk t, chunks := updAt x.chunks c (fun h => { h with done := true }) })
  if down then s.sendDown q j x rkDown c [data] t else s

/-- REDUCE_CHECK_MISMATCH (R247). -/
def State.checkMismatch (s : State) (q j c : Nat) : State :=
  let x := s.job q j
  let s := s.updRed q (fun r => { r.noteJob j with checkMismatch := true })
  (s.updJob q j (fun x => { x with
      checkFail := true, passTrailer := { x.passTrailer with checkFail := true }
      chunks := updAt x.chunks c (fun h => { h with trailer := { h.trailer with checkFail := true } }) })).post 6 1 0 ukPc q
    [j, x.round.toNat, x.pass.toNat, x.pass.toNat * x.nChunks + c, x.member, q, shadowOf q]

/-- The two results of a sampled chunk compared when both have come; at the root the chunk then goes down. -/
def State.tryCompare (s : State) (q j c : Nat) : State :=
  let x := s.job q j
  match x.chunks[c]? with
  | none => s
  | some h =>
    match h.primary, h.shadow with
    | some a, some b =>
      if h.compared then s
      else
        let s := s.updRed q (fun r => { r with checks := satAdd r.checks 1 })
        let s := s.updJob q j (fun x => { x with chunks := updAt x.chunks c (fun h => { h with compared := true }) })
        let bad := !sameResult a b
        let s := if bad then s.checkMismatch q j c else s
        if x.member = 0 then s.finishChunk q j c a.1 { a.2 with checkFail := a.2.checkFail || bad } true else s
    | _, _ => s

/-! ## Collecting and sending upward (R238, R239, R246) -/

/-- A chunk's in-module part is complete. -/
def Job.inModule (x : Job) (h : Chunk) : Bool := h.forced || h.counts.toList.all (fun n => n == x.expect)

/-- The in-module part of chunk c has become complete: the member's own contribution enters its trailer, and of a sampled
chunk the two copies are made. -/
def State.collect (s : State) (q j c : Nat) : State :=
  let x := s.job q j
  match x.chunks[c]? with
  | none => s
  | some h =>
    if h.collected || !x.inModule h then s
    else
      let t := { h.trailer with contrib := h.trailer.contrib + 1 }
      let samp := x.sampled c && !h.forced
      let s := s.updJob q j (fun x => { x with chunks := updAt x.chunks c (fun h =>
        { h with collected := true, trailer := t, entries := if samp then h.entries ++ [(0, t)] else h.entries }) })
      if samp then
        let data := s.unitBytes q (x.slot + c)
        let s := s.putUnit q x.check 0 data
        s.updRed (shadowOf q) (fun r => { r with copies := r.copies ++
          [{ job := j, outward := true, round := x.round, pass := x.pass, chunk := c, data := data, trailer := t }] })
      else s

/-- The entries of a sampled chunk are all present. -/
def Job.entriesFull (x : Job) (es : List (Nat × RedTrailer)) : Bool :=
  (0 :: x.kids.map (fun k => k.1)).all (fun l => es.any (fun e => e.1 == l))

/-- The lower of two element indexes. -/
def lowerOf (a b : Option Nat) : Option Nat :=
  match a, b with
  | some i, some k => some (min i k)
  | none, y => y
  | x, none => x

/-- The fixed-order sum of the check entries present at port complex q, entry 0 first: its data and merged trailer, and the lowest
index of an element that became non-finite from finite operands in one of the additions (R244, R246). -/
def State.sumEntries (s : State) (q : Nat) (x : Job) (es : List (Nat × RedTrailer)) : List Byte × RedTrailer × Option Nat :=
  (x.kids.filter (fun k => es.any (fun e => e.1 == k.1))).foldl (fun (acc : List Byte × RedTrailer × Option Nat) k =>
    let t := ((es.find? (fun e => e.1 == k.1)).map (fun e => e.2)).getD {}
    let r := redAdd x.rfmt acc.1 (s.unitBytes q (x.check + x.checkPos k.1))
    let m := acc.2.1.merge t
    let bad := r.2
    (r.1, if bad.isSome then { m with nf := m.nf ||| 1 } else m, lowerOf acc.2.2 bad))
    (s.unitBytes q x.check, ((es.find? (fun e => e.1 == 0)).map (fun e => e.2)).getD {}, none)

/-- The lowest element index of byte off of a chunk's element i. -/
def Job.elemIndex (x : Job) (off : Nat) : Nat := (x.pass.toNat * x.slotBytes + off) / x.elem

/-- The sum of entries es becomes chunk c's data in the slot, with their merged trailer; the levels added are marked. -/
def State.takeSum (s : State) (q j c : Nat) (es : List (Nat × RedTrailer)) : State :=
  let x := s.job q j
  let r := s.sumEntries q x es
  let f : Option (Nat × Nat) := r.2.2.map (fun i => (x.member, x.elemIndex (512 * c) + i))
  let s := (s.putUnit q (x.slot + c) 0 r.1).updJob q j (fun x => { x with chunks := updAt x.chunks c (fun h => { h with
    trailer := r.2.1, kids := (x.kids.map (fun k => k.1)).filter (fun l => es.any (fun e => e.1 == l)) }) })
  if f.isSome then s.recordNf q j c f else s

/-- A sampled chunk whose entries are all present takes its sum as its result. -/
def State.sumSampled (s : State) (q j c : Nat) : State :=
  let x := s.job q j
  match x.chunks[c]? with
  | none => s
  | some h =>
    if h.forced || !x.sampled c || h.sentUp || h.primary.isSome || !x.entriesFull h.entries then s else s.takeSum q j c h.entries

/-- A chunk is complete: in the module, and for every child. -/
def Job.chunkComplete (x : Job) (h : Chunk) : Bool :=
  h.collected && (h.forced || x.kids.all (fun k => h.kids.contains k.1))

/-- The run of chunks from c on that leave in one UP packet: complete, unsent, unsampled, of equal CONTRIB, at most four. -/
def Job.upRun (x : Job) (c : Nat) : Nat → Nat
  | 0 => 0
  | n + 1 =>
    match x.chunks[c]? with
    | none => 0
    | some h =>
      if x.chunkComplete h && !h.sentUp && !x.sampled c then
        match x.chunks[c + 1]? with
        | some g => if g.trailer.contrib = h.trailer.contrib then 1 + x.upRun (c + 1) n else 1
        | none => 1
      else 0

/-- The merged trailer of n chunks from c on, with one NF bit for each. -/
def Job.runTrailer (x : Job) (c n : Nat) : RedTrailer :=
  let ts := (List.range n).map (fun i => ((x.chunks[c + i]?).map (fun h => h.trailer)).getD {})
  let m := ts.foldl RedTrailer.joinChunk {}
  { m with nf := (List.range n).foldl (fun w i => putBit w i (((ts[i]?).getD {}).nf != 0)) 0 }

/-- Chunks c to c + n − 1 sent to the parent. -/
def State.sendUp (s : State) (q j c n : Nat) : State :=
  let x := s.job q j
  match x.parent with
  | none => s
  | some (m, level) =>
    let data := (List.range n).map (fun i => s.unitBytes q (x.slot + c + i))
    let s := s.updJob q j (fun x => { x with
      chunks := (List.range n).foldl (fun l i => updAt l (c + i) (fun h => { h with sentUp := true })) x.chunks })
    s.redSend q j x rkUp level m c data (x.runTrailer c n)

/-- The root's result of a complete chunk: CONTRIB is held against M, and an unsampled chunk goes to staging and down. -/
def State.rootResult (s : State) (q j c : Nat) (h : Chunk) : State :=
  let x := s.job q j
  let short := decide (h.trailer.contrib ≠ x.members)
  let t := { h.trailer with abort := h.trailer.abort || short }
  let data := s.unitBytes q (x.slot + c)
  let s := s.updJob q j (fun x => { x with chunks := updAt x.chunks c (fun h => { h with sentUp := true, trailer := t }) })
  let s := if short then s.reportShortfall q j else s
  if x.sampled c && !h.forced then
    (s.updJob q j (fun x => { x with chunks := updAt x.chunks c (fun h => { h with primary := some (data, t) }) })).tryCompare q j c
  else s.finishChunk q j c data t true

/-- What chunk c can do now. -/
def State.advanceChunk (s : State) (q j c : Nat) : State :=
  let s := (s.collect q j c).sumSampled q j c
  let x := s.job q j
  match x.chunks[c]? with
  | none => s
  | some h =>
    if h.sentUp || !x.chunkComplete h then s
    else if x.member = 0 then s.rootResult q j c h
    else if x.sampled c then s.sendUp q j c 1
    else s.sendUp q j c (x.upRun c 4)

/-- What every chunk of the pass can do now. In-module parts are collected first, so that consecutive chunks leave together. -/
def State.redAdvance (s : State) (q j : Nat) : State :=
  let n := (s.job q j).nChunks
  let s := (List.range n).foldl (fun s c => s.collect q j c) s
  (List.range n).foldl (fun s c => s.advanceChunk q j c) s

/-! ## Mesh packets (R238, R244) -/

/-- The count of a line of the slot. -/
def Job.lineCount (x : Job) (l : Nat) : Nat := ((x.chunks[l / 8]?).map (fun h => vget 0 h.counts (l % 8))).getD 0

/-- 64 bytes of a mesh packet enter line l of the slot: copied at count 0 while no child's data stands there, added otherwise. -/
def State.addLine (s : State) (q j l count : Nat) (bs : List Byte) : State :=
  let x := s.job q j
  match x.chunks[l / 8]? with
  | none => s
  | some h =>
    let u := x.slot + l / 8
    let off := 64 * (l % 8)
    let copy := decide (x.lineCount l = 0) && (h.kids.isEmpty || x.sampled (l / 8))
    let r := if copy then (bs, none) else redAdd x.rfmt (Memory.read (s.pc q).red.buf (512 * u + off) 64) bs
    let s := (s.putUnit q u off r.1).updJob q j (fun x => { x with chunks := updAt x.chunks (l / 8) (fun h =>
      { h with counts := vset h.counts (l % 8) (vget 0 h.counts (l % 8) + count) }) })
    match r.2 with
    | some i => s.recordNf q j (l / 8) (some (x.member, x.elemIndex (64 * l) + i))
    | none => s

/-- MESH or EXCESS of PC.RED_DISCARD. -/
def State.discardMesh (s : State) (q : Nat) (excess : Bool) : State :=
  s.updRed q (fun r => if excess then { r with discExcess := satAdd r.discExcess 1 } else { r with discMesh := satAdd r.discMesh 1 })

/-- A REDUCE packet taken in by its job. -/
def State.meshReduce (s : State) (q : Nat) (p : Packet) : State :=
  let j := p.tag.toNat
  let x := s.job q j
  let len := p.bytesM1.toNat + 1
  let off := p.addr.toNat
  if !(s.pc q).red.enable || x.st != .running || reduceFmt p != x.rfmt || decide (x.slotBytes < off + len) then s.discardMesh q false
  else
    let l0 := off / 64
    let lines := (List.range ((off + len - 1) / 64 - l0 + 1)).map (fun i => l0 + i)
    if lines.any (fun l => decide (x.expect < x.lineCount l + reduceCount p)) then s.discardMesh q true
    else
      let es := reduceElems x.rfmt p.payload
      let first := x.squash && reduceCount p == 1
      let gone := if first then es.countP (fun e => elemNonFinite x.rfmt e) else 0
      let es := if first then es.map (fun e => if elemNonFinite x.rfmt e then 0 else e) else es
      let sq := reduceSquashed p + gone
      let c := l0 / 8
      let s := s.updJob q j (fun x => { x with
        squashed := satAdd x.squashed sq
        chunks := updAt x.chunks c (fun h => { h with trailer := { h.trailer with squashed := min 0xffffffff (h.trailer.squashed + sq), abort := h.trailer.abort || p.poison } }) })
      let s := if p.poison then s.reportShortfall q j else s
      let s := match (if p.nf then es.findIdx? (fun e => elemNonFinite x.rfmt e) else none) with
        | some i => s.recordNf q j c (some (x.member, x.elemIndex off + i))
        | none => s
      let bs := elemBytes x.rfmt es
      let s := lines.foldl (fun s l => s.addLine q j l (reduceCount p) ((bs.drop (64 * (l - l0))).take 64)) s
      s.redAdvance q j

/-- PC_REDUCE_ARRIVE (R230, R238): a REDUCE packet from the mesh reaches its port complex. Another request to the reduce
aperture is answered with POISON. -/
def execPcReduceArrive (pc : Fin 8) (p : Packet) (s : State) : Result :=
  let q := pc.val
  let aperture := 0x000200000000 + q * 2 ^ 29 + 0x08000000
  .next (if (s.pc q).arrived.contains p then
      let t := s.updPc q (fun c => { c with arrived := c.arrived.erase p })
      if p.ptype = ptReduce then t.meshReduce q p
      else if aperture ≤ p.addr.toNat ∧ p.addr.toNat < aperture + 0x08000000 then
        if p.ptype = ptReadReq then
          t.sendService (.pc pc) (p.answer ptReadRsp stPoison (List.replicate (p.bytesM1.toNat + 1) 0) true)
        else if p.ptype = ptAtomicReq then t.sendService (.pc pc) (p.answer ptAtomicRsp stPoison [] true)
        else s
      else s
    else s)

/-! ## Packets of the tree (R232, R240, R243, R246, R247) -/

/-- What becomes of a received reduction packet (R240, R243). -/
inductive RedFate where
  | accept | wait | discard
  deriving DecidableEq, Repr

/-- (ROUND, PASS) that follows the pass in progress. -/
def Job.nextPass (x : Job) : Nat × Nat :=
  if x.pass.toNat + 1 < x.passes then (x.round.toNat, x.pass.toNat + 1) else ((x.round + 1).toNat, 0)

/-- The fate of a packet whose sender must be `from_`: for a job that is not RUNNING, discarded (R234, R243); of a RUNNING job's next
pass, kept until that pass opens (R240). -/
def State.redFate (s : State) (q : Nat) (m : RedMsg) (x : Job) (from_ : Option Nat) : RedFate :=
  if !(s.pc q).red.enable || m.gen != x.gen || m.rfmt != x.rfmt || from_ != some m.srcMember then .discard
  else if x.st = .running then
    if m.round = x.round.toNat ∧ m.pass = x.pass.toNat then .accept
    else if (m.round, m.pass) = x.nextPass then .wait else .discard
  else .discard

/-- The member that an UP or SHADOW_UP packet of a level must come from. -/
def Job.kidAt (x : Job) (level : Nat) : Option Nat := (x.kids.find? (fun k => k.1 == level)).map (fun k => k.2)

/-- A packet of a reduction kind taken, kept waiting, or discarded. -/
def State.withRed (s : State) (q : Nat) (p : FabPkt) (kind : Nat) (jobAt : Nat) (from_ : Job → RedMsg → Option Nat)
    (f : State → Job → RedMsg → State) : State :=
  match s.takeFab q p with
  | none => s
  | some t =>
    let drop (t : State) : State := t.updRed q (fun r => { r with discFabric := satAdd r.discFabric 1 })
    if p.ty ≠ ftRed then s
    else match parseRed p.body with
      | none => drop t
      | some m =>
        if m.kind ≠ kind then s
        else
          let x := s.job jobAt m.job
          match s.redFate q m x (from_ x m) with
          | .accept => f t x m
          | .wait => s
          | .discard => drop t

/-- One chunk of a child's UP packet added, or placed in its check entry (R238, R246). -/
def State.takeUpChunk (s : State) (q : Nat) (m : RedMsg) (i : Nat) : State :=
  let j := m.job
  let x := s.job q j
  let c := m.firstChunk + i
  let data := (m.chunks[i]?).getD []
  let t := { m.trailer with nf := if bit m.trailer.nf i then 1 else 0, squashed := if i = 0 then m.trailer.squashed else 0 }
  match x.chunks[c]? with
  | none => s
  | some h =>
    if h.sentUp then s
    else if x.sampled c && !h.forced then
      (s.putUnit q (x.check + x.checkPos m.level) 0 data).updJob q j (fun x => { x with
        chunks := updAt x.chunks c (fun h => { h with entries := h.entries ++ [(m.level, t)] }) })
    else
      let u := x.slot + c
      let old := s.unitBytes q u
      let r := (List.range 8).map (fun l =>
        let new := (data.drop (64 * l)).take 64
        if vget 0 h.counts l = 0 ∧ h.kids = [] then (new, none) else redAdd x.rfmt ((old.drop (64 * l)).take 64) new)
      let s := (s.putUnit q u 0 (r.flatMap (fun e => e.1))).updJob q j (fun x => { x with
        chunks := updAt x.chunks c (fun h => { h with kids := h.kids ++ [m.level], trailer := h.trailer.merge t }) })
      match r.findIdx? (fun e => e.2.isSome) with
      | some l => s.recordNf q j c (some (x.member, x.elemIndex (512 * c + 64 * l) + (((r[l]?).getD ([], none)).2.getD 0)))
      | none => s

/-- UP_ARRIVE (R238, R240, R243, R244). -/
def execUpArrive (pc : Fin 8) (p : FabPkt) (s : State) : Result :=
  let q := pc.val
  .next (s.withRed q p rkUp q (fun x m => x.kidAt m.level) (fun s _ m =>
    let s := if m.trailer.nf ≠ 0 ∨ m.trailer.first.isSome = true then
        (s.updRed q (fun r => { r.noteJob m.job with nonfinite := true })).updJob q m.job (fun x =>
          { x with nonfinite := true, first := firstMin x.first m.trailer.first })
      else s
    ((List.range m.chunks.length).foldl (fun s i => s.takeUpChunk q m i) s).redAdvance q m.job))

/-- One chunk of a DOWN packet: written to staging; a sampled one also waits for its shadow (R232, R247). -/
def State.takeDownChunk (s : State) (q : Nat) (m : RedMsg) (i : Nat) : State :=
  let j := m.job
  let x := s.job q j
  let c := m.firstChunk + i
  let data := (m.chunks[i]?).getD []
  let t := { m.trailer with nf := if bit m.trailer.nf i then 1 else 0, squashed := if i = 0 then m.trailer.squashed else 0 }
  match x.chunks[c]? with
  | none => s
  | some h =>
    if h.done then s
    else
      let s := s.finishChunk q j c data { t with checkFail := t.checkFail || h.trailer.checkFail } false
      if x.sampled c && !h.forced then
        (s.updJob q j (fun x => { x with chunks := updAt x.chunks c (fun h => { h with primary := some (data, t) }) })).tryCompare q j c
      else s

/-- DOWN_ARRIVE (R232, R240, R242, R243): the packet is also forwarded to the children, with the member's own
CHECK_FAIL in its trailer. -/
def execDownArrive (pc : Fin 8) (p : FabPkt) (s : State) : Result :=
  let q := pc.val
  .next (s.withRed q p rkDown q (fun x _ => x.parent.map (fun e => e.1)) (fun s _ m =>
    let s := (List.range m.chunks.length).foldl (fun s i => s.takeDownChunk q m i) s
    let x := s.job q m.job
    let own := x.checkFail || (List.range m.chunks.length).any (fun i => ((x.chunks[m.firstChunk + i]?).map (fun h => h.trailer.checkFail)).getD false)
    s.sendDown q m.job x rkDown m.firstChunk m.chunks { m.trailer with checkFail := m.trailer.checkFail || own }))

/-! ## The shadow partner (R245–R247) -/

def State.shadowJob (s : State) (q j : Nat) : ShadowJob := Tbl.get (fun _ => {}) (s.pc q).red.shadows j
def State.updShadow (s : State) (q j : Nat) (f : ShadowJob → ShadowJob) : State :=
  s.updRed q (fun r => { r with shadows := Tbl.set r.shadows j (f (Tbl.get (fun _ => {}) r.shadows j)) })

/-- The job that a shadow partner works on, with its pass. -/
def ShadowJob.asJob (h : ShadowJob) : Job := { w := h.w, peers := h.peers, round := h.round, pass := h.pass }

/-- A result of the shadow tree on its way back to the job's own port complex. -/
def State.shadowBack (s : State) (q j : Nat) (h : ShadowJob) (data : List Byte) (t : RedTrailer) : State :=
  s.updRed (shadowOf q) (fun r => { r with copies := r.copies ++
    [{ job := j, outward := false, round := h.round, pass := h.pass, chunk := h.chunk, data := data, trailer := t }] })

/-- The shadow sum of a chunk whose entries are all present: to the parent's shadow partner, or at the root back to the job
and down to the children's shadow partners. -/
def State.shadowSum (s : State) (q j : Nat) : State :=
  let h := s.shadowJob q j
  let x := h.asJob
  if x.entriesFull h.entries then
    let r := s.sumEntries q x h.entries
    let s := s.updShadow q j (fun h => { h with entries := [] })
    match x.parent with
    | some (m, level) => s.redSend q j x rkShadowUp level m h.chunk [r.1] r.2.1
    | none => (s.shadowBack q j h r.1 r.2.1).sendDown q j x rkShadowDown h.chunk [r.1] r.2.1
  else s

/-- A check entry of the shadow partner filled for a chunk; a new chunk begins with no entry present. -/
def State.shadowPlace (s : State) (q j : Nat) (round : BitVec 16) (pass : W32) (chunk level : Nat) (data : List Byte) (t : RedTrailer) : State :=
  let s := s.updShadow q j (fun h =>
    let h := if h.round = round ∧ h.pass = pass ∧ h.chunk = chunk then h else { h with round := round, pass := pass, chunk := chunk, entries := [] }
    { h with entries := h.entries ++ [(level, t)] })
  let x := (s.shadowJob q j).asJob
  (s.putUnit q (x.check + x.checkPos level) 0 data).shadowSum q j

/-- SHADOW_COPY_ARRIVE (R246, R247): the oldest copy of a job that crosses to this port complex arrives: a chunk for the
shadow partner, or a shadow result for the job's own port complex. -/
def execShadowCopyArrive (pc : Fin 8) (job : Fin 4096) (s : State) : Result :=
  let q := pc.val
  .next (match (s.pc q).red.copies.find? (fun c => c.job == job.val) with
    | none => s
    | some c =>
      let s := s.updRed q (fun r => { r with copies := r.copies.erase c })
      if c.outward then
        if (s.job (shadowOf q) c.job).st = .running then s.shadowPlace q c.job c.round c.pass c.chunk 0 c.data c.trailer else s
      else
        let x := s.job q c.job
        if x.st = .running ∧ x.round = c.round ∧ x.pass = c.pass then
          (s.updJob q c.job (fun x => { x with chunks := updAt x.chunks c.chunk (fun h => { h with shadow := some (c.data, c.trailer) }) })).tryCompare q c.job c.chunk
        else s)

/-- SHADOW_UP_ARRIVE (R243, R246): at the shadow partner of the parent's port complex. -/
def execShadowUpArrive (pc : Fin 8) (p : FabPkt) (s : State) : Result :=
  let q := pc.val
  .next (s.withRed q p rkShadowUp (shadowOf q) (fun x m => x.kidAt m.level) (fun s _ m =>
    s.shadowPlace q m.job (BitVec.ofNat 16 m.round) (BitVec.ofNat 32 m.pass) m.firstChunk m.level ((m.chunks[0]?).getD []) m.trailer))

/-- SHADOW_DOWN_ARRIVE (R243, R247): forwarded to the job's own port complex for comparison, and to the children's
shadow partners. -/
def execShadowDownArrive (pc : Fin 8) (p : FabPkt) (s : State) : Result :=
  let q := pc.val
  .next (s.withRed q p rkShadowDown (shadowOf q) (fun x _ => x.parent.map (fun e => e.1)) (fun s x m =>
    let s := s.updRed (shadowOf q) (fun r => { r with copies := r.copies ++
      [{ job := m.job, outward := false, round := x.round, pass := x.pass, chunk := m.firstChunk, data := (m.chunks[0]?).getD [], trailer := m.trailer }] })
    s.sendDown q m.job x rkShadowDown m.firstChunk m.chunks m.trailer))

/-! ## The end of a pass, and the timers (R239, R248) -/

/-- Every chunk of the pass is written and compared. -/
def Job.passDone (x : Job) : Bool :=
  (List.range x.nChunks).all (fun c => match x.chunks[c]? with
    | some h => h.done && (!x.sampled c || h.forced || h.compared)
    | none => false)

/-- A round is late for a child: its lag, in µs, exceeds both STRAG_PCT percent of the round and 50 µs (R309). -/
def Disp.lateRound (d : Disp) (lag round : Nat) : Bool := decide (round * d.stragPct.toNat < 100 * lag) && decide (50 < lag)

/-- STRAGGLER raised for a child, and recorded in FAB.STRAG (R309, R312). -/
def State.raiseStraggler (s : State) (q j level member lag : Nat) : State :=
  let word : W64 := BitVec.ofNat 64 (j + member * 2 ^ 12 + level * 2 ^ 26 + 2 ^ 30 + lag * 2 ^ 32)
  (s.updPc q (fun c => { c with disp := { c.disp with strag := word } })).post 0x0b 1 0 ukPc q [j, member, level, lag]

/-- The straggler detector on one child at the end of a round: its consecutive late rounds are counted, and STRAG_ROUNDS of them raise
STRAGGLER, once in a run of late rounds (DESIGN CHOICE 131). Its lag and the round's length are times, and free values. -/
def State.stragglerChild (s : State) (q j : Nat) (k : Nat × Nat) : State :=
  let d := (s.pc q).disp
  let (v, s) := s.draw
  let lag := (fld v 0 32).toNat
  let n := if d.lateRound lag (fld v 32 32).toNat then Tbl.get (fun _ => 0) (s.job q j).late k.1 + 1 else 0
  let s := s.updJob q j (fun x => { x with late := Tbl.set x.late k.1 n })
  if n = d.stragRounds.toNat then s.raiseStraggler q j k.1 k.2 lag else s

/-- The straggler detector's verdict on a round (R309); no decision is made in the first 32 rounds after OPEN. -/
def State.straggler (s : State) (q j : Nat) : State :=
  let x := s.job q j
  let s := s.updJob q j (fun x => { x with rounds := x.rounds + 1 })
  if x.rounds < 32 then s else x.kids.foldl (fun s k => s.stragglerChild q j k) s

/-- PASS_COMPLETE (R239, R309). -/
def execPassComplete (pc : Fin 8) (job : Fin 4096) (s : State) : Result :=
  let q := pc.val
  let j := job.val
  let x := s.job q j
  .next (if x.st = .running ∧ x.passDone = true then
      let s := s.endPass q j x.passTrailer false
      if (s.job q j).st = .held then s.straggler q j else s
    else s)

/-- The chunk completed as it stands: lines never written read as +0, and of a sampled chunk the children's entries that have come are
added. -/
def State.forceChunk (s : State) (q j c : Nat) : State :=
  let x := s.job q j
  match x.chunks[c]? with
  | none => s
  | some h =>
    if x.chunkComplete h then
      if x.sampled c && !h.compared then
        let s := s.updJob q j (fun x => { x with chunks := updAt x.chunks c (fun h =>
          { h with compared := true, trailer := { h.trailer with abort := true } }), passTrailer := { x.passTrailer with abort := true } })
        match h.primary with
        | some a => if x.member = 0 ∧ h.done = false then s.finishChunk q j c a.1 { a.2 with abort := true } true else s
        | none => s
      else s
    else
      let s := (List.range 8).foldl (fun (s : State) l =>
        if vget 0 h.counts l = 0 ∧ h.kids = [] then s.putUnit q (x.slot + c) (64 * l) (List.replicate 64 0) else s) s
      let s := if x.sampled c then
          (s.putUnit q x.check 0 (s.unitBytes q (x.slot + c))).takeSum q j c ((0, h.trailer) :: h.entries.filter (fun e => e.1 != 0))
        else s
      s.updJob q j (fun x => { x with chunks := updAt x.chunks c (fun h =>
        { h with forced := true, trailer := { h.trailer with abort := true } }) })

/-- Something has come for the pass, which starts its shortfall timer. -/
def Chunk.begun (h : Chunk) : Bool := h.counts.toList.any (fun n => n != 0) || !h.kids.isEmpty || !h.entries.isEmpty

/-- SHORTFALL_TIMEOUT (R248): the pass is not complete within the bound after its first contribution or child packet. -/
def execShortfallTimeout (pc : Fin 8) (job : Fin 4096) (s : State) : Result :=
  let q := pc.val
  let j := job.val
  let x := s.job q j
  let open_ := (List.range x.nChunks).any (fun c => match x.chunks[c]? with
    | some h => !x.chunkComplete h || (x.sampled c && h.primary.isSome && !h.compared)
    | none => false)
  .next (if x.st = .running ∧ x.chunks.any Chunk.begun = true ∧ open_ = true then
      let s := s.reportShortfall q j
      ((List.range x.nChunks).foldl (fun s c => s.forceChunk q j c) s).redAdvance q j
    else s)

/-- DOWN_TIMEOUT (R248): a member that has sent its last UP packet of the pass gets no DOWN packet for every chunk within
the bound: it writes a pass record with ABORT, and the job enters ABORTED. -/
def execDownTimeout (pc : Fin 8) (job : Fin 4096) (s : State) : Result :=
  let q := pc.val
  let j := job.val
  let x := s.job q j
  .next (if x.st = .running ∧ x.member ≠ 0 ∧ x.chunks.all (fun h => h.sentUp) = true ∧ x.chunks.all (fun h => h.done) = false then
      (s.reportShortfall q j).endPass q j x.passTrailer true
    else s)

/-! ## Commands (R234) -/

/-- Every field of the entry is in its range. -/
def Job.fieldsOk (x : Job) : Bool :=
  x.rfmt != 3 && decide (8 ≤ x.shadowK) && decide (x.shadowK ≤ 16) && decide (1 ≤ x.expect) && decide (x.phase < 2 ^ x.shadowK)
    && decide (x.member < x.members) && x.staging % 512 == 0 && x.mapAddr % 64 == 0 && x.grantAddr % 64 == 0
    && decide (x.grantCount ≤ 64)

/-- Two runs of units are disjoint. -/
def apart (a n b m : Nat) : Bool := decide (a + n ≤ b) || decide (b + m ≤ a)

/-- The check entries of a job: 1 + C(MEMBER) units. -/
def Job.checkLen (x : Job) : Nat := 1 + x.kids.length

/-- Check units a to a + n − 1 are free at port complex q. -/
def State.checkFree (s : State) (q a n : Nat) : Bool :=
  (s.pc q).red.jobs.all (fun e => e.2.st == .closed || !e.2.shadowEn || apart a n e.2.check e.2.checkLen)
    && (s.pc q).red.shadows.all (fun e => apart a n e.2.asJob.check e.2.asJob.checkLen)

/-- The slot and the check entries of a job can be reserved. -/
def State.spaceOk (s : State) (q : Nat) (x : Job) : Bool :=
  decide (x.slot + x.nChunks ≤ 65536)
    && (s.pc q).red.jobs.all (fun e => e.2.st == .closed || apart x.slot x.nChunks e.2.slot e.2.nChunks)
    && (!x.shadowEn || (decide (65536 ≤ x.check) && decide (x.check + x.checkLen ≤ 131072)
        && s.checkFree q x.check x.checkLen && s.checkFree (shadowOf q) x.check x.checkLen))

/-- len bytes within one line read from HBM; none where the read is not OK. -/
def State.readField (s : State) (addr len : Nat) : State × Option (List Byte) :=
  let (s, a) := s.hbmRead (addr / 64 * 64) 64
  (s, if a.status = 0 ∧ a.poison = false then some ((a.bytes.drop (addr % 64)).take len) else none)

/-- The member map entries of a list of members. -/
def State.readMap (s : State) (x : Job) : List Nat → State × Option (List (Nat × W32))
  | [] => (s, some [])
  | m :: ms =>
    match s.readField (x.mapAddr + 4 * m) 4 with
    | (s, none) => (s, none)
    | (s, some b) => match s.readMap x ms with
      | (s, none) => (s, none)
      | (s, some r) => (s, some ((m, BitVec.ofNat 32 (leNat b)) :: r))

/-- The grant list from entry i on. -/
def State.readGrants (s : State) (x : Job) (i : Nat) : Nat → State × Option (List Grant)
  | 0 => (s, some [])
  | n + 1 =>
    match s.readField (x.grantAddr + 2 * i) 2 with
    | (s, none) => (s, none)
    | (s, some b) => match s.readGrants x (i + 1) n with
      | (s, none) => (s, none)
      | (s, some r) => (s, some ({ row := leNat b / 256, col := leNat b % 256 } :: r))

def resOk : Nat := 0
def resState : Nat := 1
def resField : Nat := 2
def resSpace : Nat := 3
def resMap : Nat := 4

/-- OPEN: the result, and the state (R234). -/
def State.redOpen (s : State) (q j : Nat) : State × Nat :=
  let x := s.job q j
  if x.st ≠ .closed then (s, resState)
  else if !x.fieldsOk then (s, resField)
  else if !s.spaceOk q x then (s, resSpace)
  else
    match s.readMap x ((x.parent.map (fun e => e.1)).toList ++ x.kids.map (fun k => k.2)) with
    | (s, none) => (s, resMap)
    | (s, some peers) => match s.readGrants x 0 x.grantCount with
      | (s, none) => (s, resMap)
      | (s, some gs) =>
        let s := s.updJob q j (fun x => { w := x.w, st := .opened, peers := peers, grants := gs })
        if x.shadowEn then (s.updShadow (shadowOf q) j (fun _ => { w := x.w, peers := peers }), resOk) else (s, resOk)

/-- START. -/
def State.redStart (s : State) (q j : Nat) : State × Nat :=
  if (s.job q j).st = .opened then ((s.updJob q j (fun x => { x with st := .running, pass := 0, round := 0 })).passOpen q j, resOk)
  else (s, resState)

/-- Copies of job j that still cross between the port complexes are dropped (R234). -/
def State.dropCopies (s : State) (q j : Nat) : State :=
  (s.updRed q (fun r => { r with copies := r.copies.filter (fun c => c.job != j || c.outward) })).updRed (shadowOf q)
    (fun r => { r with copies := r.copies.filter (fun c => c.job != j || !c.outward) })

/-- Slot and check entries freed. -/
def State.freeJob (s : State) (q j : Nat) : State :=
  ((s.dropCopies q j).updJob q j (fun x => { x with st := .closed, chunks := [], grants := [], peers := [] })).updRed (shadowOf q) (fun r => { r with shadows := r.shadows.filter (fun e => e.1 != j) })

/-- The result of a command of PC.RED_CMD. -/
def State.redResult (s : State) (q j : Nat) (r : State × Nat) : State :=
  if (s.pc q).red.enable then r.1.updRed q (fun d => { d with result := BitVec.ofNat 3 r.2, cmdJob := BitVec.ofNat 12 j }) else s

/-- RED_OPEN (R234). -/
def execRedOpen (pc : Fin 8) (job : Fin 4096) (s : State) : Result :=
  .next (s.redResult pc.val job.val (s.redOpen pc.val job.val))

/-- RED_START (R234). -/
def execRedStart (pc : Fin 8) (job : Fin 4096) (s : State) : Result :=
  .next (s.redResult pc.val job.val (s.redStart pc.val job.val))

end Sys2Proof.Machine
end

