-- ==== Sys2Proof/Machine/Tempo.lean ====
section
/-! DEFINITION. Machine/Tempo.lean: the tempo counter, the stop protocol, and the starting and stopping of pans
(R205–R209, R226, R378, R381). -/

namespace Sys2Proof.Machine

/-! ## The tempo counter of an array (R205, R226) -/

/-- Queue entries of slot n that have not completed. -/
def Site.openIds (a : Site) (n : Fin 4) : List Nat :=
  (a.queues.toList.flatten.filter (fun e => e.slot == n && e.phase != .complete)).map (fun e => e.id)

/-- END for slot n: ignored from a slot that is not in SLOTS or has ended this tempo already. -/
def Site.endSlot (a : Site) (n : Fin 4) : Site :=
  if bit a.tempo.slots n.val && !bit a.tempo.arrived n.val then
    { a with tempo := { a.tempo with arrived := putBit a.tempo.arrived n.val true, waitIds := a.tempo.waitIds ++ a.openIds n } }
  else a

/-- A write of CC.TEMPO.END. -/
def Site.tempoEnd (a : Site) (bits : BitVec 4) : Site :=
  [0, 1, 2, 3].foldl (fun (a : Site) (n : Fin 4) => if bit bits n.val then a.endSlot n else a) a

/-- A write of CC.TEMPO.CURRENT: only while every slot is IDLE, HALTED or FAULTED; ARRIVED and FORCED are cleared. -/
def Site.tempoWrite (a : Site) (v : W32) : Site :=
  if a.slotsQuiet then
    { a with tempo := { a.tempo with current := v, arrived := 0, forced := false, waitIds := [] } }
  else a

/-- The condition `done` of R205. -/
def Site.tempoDone (a : Site) : Bool :=
  a.tempo.slots != 0 && a.tempo.arrived == a.tempo.slots
    && (a.queues.toList.flatten).all (fun e => e.phase == .complete || !a.tempo.waitIds.contains e.id)

/-- CURRENT advances by one and ARRIVED is cleared. -/
def Site.advance (a : Site) : Site :=
  { a with tempo := { a.tempo with current := a.tempo.current + 1, arrived := 0, waitIds := [] } }

/-- An advance of unit k, with its TEMPO record (R459). -/
def State.advance (s : State) (k : Nat) : State :=
  let s := s.updSite k Site.advance
  s.trace k (some 3) 4 0xff (payload20 (s.site k).tempo.current.toNat 0)

/-- The pan of a site is in a state. -/
def State.panIn (s : State) (k : Nat) (p : Pan → Bool) : Bool :=
  match s.panOf k with
  | some n => p (s.pan n)
  | none => false

/-- TEMPO_END (R205). -/
def execTempoEnd (site : SiteId) (slots : BitVec 4) (s : State) : Result := .next (s.updSite site.key (fun a => a.tempoEnd slots))

/-- TEMPO_WRITE (R208, R226). -/
def execTempoWrite (site : SiteId) (value : W32) (s : State) : Result := .next (s.updSite site.key (fun a => a.tempoWrite value))

/-- TEMPO_ADVANCE (R205): one application of the rule, while the pan of the array runs or stops. -/
def execTempoAdvance (site : SiteId) (s : State) : Result :=
  let k := site.key
  let a := s.site k
  .next (
    if a.tempoDone && s.panIn k (fun p => p.st == .running || p.st == .stopping) then
      if a.tempo.valid && a.tempo.current == a.tempo.target then
        if a.tempo.atBoundary then s
        else s.updSite k (fun a => { a.haltAll true with tempo := { a.tempo with atBoundary := true } })
      else if a.tempo.armed && !a.tempo.valid then s
      else s.advance k
    else s)

/-! ## Stopping at a boundary (R207, R208) -/

/-- The arrays of a pan that take part in its stops: those whose site is not fenced, parked or off. -/
def State.liveSites (s : State) (n : Nat) : List Nat := (s.panSites n).filter (fun k => (s.site k).forwards)

/-- A stop of pan n at its next tempo boundary. -/
def State.panStop (s : State) (n : Nat) : State := s.updPan n (fun p => { p with st := .stopping, forcedStop := false, target := none })

/-- A CTL write that is not honoured (R378). -/
def State.panRefuse (s : State) (n : Nat) : State := s.updPan n (fun p => { p with refused := true })

/-- PAN_STOP (R378): a write of PAN_n.CTL.STOP, honoured only in RUNNING. -/
def execPanStop (pan : Fin 1024) (s : State) : Result :=
  .next (if (s.pan pan.val).st = .running then s.panStop pan.val else s.panRefuse pan.val)

/-- TEMPO_STOP_ARM (R207, step 2): the arm message reaches an array of a stopping pan. -/
def execTempoStopArm (site : SiteId) (s : State) : Result :=
  .next (if s.panIn site.key (fun p => p.st == .stopping && !p.forcedStop) then
      s.updSite site.key (fun a => { a with tempo := { a.tempo with armed := true } })
    else s)

/-- The greatest CURRENT of a list of arrays. -/
def State.maxCurrent (s : State) (ks : List Nat) : W32 :=
  BitVec.ofNat 32 (ks.foldl (fun m k => max m (s.site k).tempo.current.toNat) 0)

/-- PAN_STOP_TARGET (R207, step 3): every array has returned its CURRENT, and the module chooses N. -/
def execPanStopTarget (pan : Fin 1024) (s : State) : Result :=
  let n := pan.val
  .next (if (s.pan n).st = .stopping ∧ (s.pan n).forcedStop = false ∧ (s.liveSites n).all (fun k => (s.site k).tempo.armed) then
      s.updPan n (fun p => { p with target := some (s.maxCurrent (s.liveSites n)) })
    else s)

/-- TEMPO_TARGET_ARRIVE (R207, step 3): N reaches an array. -/
def execTempoTargetArrive (site : SiteId) (s : State) : Result :=
  .next (match s.panOf site.key with
    | some n =>
      match (s.pan n).target with
      | some t =>
        if (s.pan n).st = .stopping ∧ (s.site site.key).tempo.armed then
          s.updSite site.key (fun a => { a with tempo := { a.tempo with target := t, valid := true } })
        else s
      | none => s
    | none => s)

/-- Every array of the pan has stopped: at the boundary, or by force with every slot quiet. -/
def State.panQuiet (s : State) (n : Nat) : Bool :=
  (s.liveSites n).all (fun k => (s.site k).tempo.atBoundary || ((s.site k).tempo.forced && (s.site k).slotsQuiet))

/-- PAN_STOPPED (R207, step 5; R208): BOUNDARY takes N unless the stop was forced. -/
def execPanStopped (pan : Fin 1024) (s : State) : Result :=
  let n := pan.val
  .next (if (s.pan n).st = .stopping ∧ s.panQuiet n = true then
      s.updPan n (fun p => { p with st := .stopped, boundary := if p.forcedStop then p.boundary else p.target.getD p.boundary
                                    target := none })
    else s)

/-- PAN_FORCED_STOP (R208): step 5 of a stop has not come 10 ms after its step 1. -/
def execPanForcedStop (pan : Fin 1024) (s : State) : Result :=
  .next (if (s.pan pan.val).st = .stopping then s.panForceStop pan.val else s)

/-- PAN_FORCE (R381): a write of PAN_n.CTL.FORCE, honoured while the pan runs or stops. -/
def execPanForce (pan : Fin 1024) (s : State) : Result :=
  let n := pan.val
  .next (if (s.pan n).st = .running ∨ (s.pan n).st = .stopping then s.panForceStop n else s.panRefuse n)

/-! ## Starting (R209, R378, R399) -/

/-- A slot at the start of its pan (R209): one that a stop of the pan halted, or an IDLE one with AUTOSTART, is READY. -/
def Slot.panStart (x : Slot) : Slot :=
  if (x.st = .halted ∧ x.panHalted = true) ∨ (x.st = .idle ∧ x.autostart = true) then { x with st := .ready, panHalted := false, line := none }
  else x

/-- An array at the start of its pan, its tempo counter apart (R209). -/
def Site.panStart (a : Site) : Site :=
  { a with
    tempo := { a.tempo with armed := false, valid := false, atBoundary := false }
    slots := a.slots.map Slot.panStart }

/-- The start of pan n. -/
def State.panStart (s : State) (n : Nat) : State :=
  let s := (s.liveSites n).foldl (fun s k =>
    let a := s.site k
    let s := s.updSite k Site.panStart
    if a.tempo.slots ≠ 0 ∧ a.tempo.arrived = a.tempo.slots then s.advance k else s) s
  s.updPan n (fun p => { p with st := .running, forcedStop := false })

/-- RUN is honoured only in STOPPED, and refused while an array reports FORCED or is parked (R208, R378, R399). A pan with a
fenced array, or with one on a fenced wafer, stays STOPPED (R425, R428; DEDUCED 46), and so does one while the clear of a
scratchpad goes on, which is complete before any slot starts (R114). -/
def State.mayRun (s : State) (n : Nat) : Bool :=
  (s.pan n).st == .stopped && (s.panSites n).all (fun k => !(s.site k).tempo.forced && !(s.site k).parked
    && !(s.site k).fenced && !(s.site k).spad.clearing && !bit s.fault.waferFenced (siteW k))

/-- PAN_RUN (R209, R378): a write of PAN_n.CTL.RUN. -/
def execPanRun (pan : Fin 1024) (s : State) : Result :=
  .next (if s.mayRun pan.val then s.panStart pan.val else s.panRefuse pan.val)

end Sys2Proof.Machine
end

