-- ==== Sys2Proof/Machine/Ws.lean ====
section
/-! DEFINITION. Machine/Ws.lean: the weight streamer: kicks, and the run of a descriptor (R191–R197). -/

namespace Sys2Proof.Machine

/-- The bytes from addr up to end_, exclusive, lie wholly inside one enabled HBM range of the unit (R42, R194). -/
def Site.inHbmRange (a : Site) (addr end_ : Nat) (write : Bool) : Bool :=
  a.hbm.toList.any (fun r =>
    r.enable && (!write || r.writeEn) && decide (r.base.toNat * 2 ^ 20 ≤ addr) && decide (end_ ≤ r.bound.toNat * 2 ^ 20))

/-- The bytes lie inside the populated range of one stack (R171, R194). -/
def inOneStack (addr end_ : Nat) : Bool :=
  decide (addr < end_) && hbmPopulated addr && hbmPopulated (end_ - 1) && decide (stackOf addr = stackOf (end_ - 1))

/-- Reasons of DMA.STAT_e.REJECT and WS.STAT.REJECT (R46, R198). -/
def rejAlign : BitVec 3 := 1
def rejField : BitVec 3 := 2
def rejLocal : BitVec 3 := 3
def rejRemote : BitVec 3 := 4
def rejFull : BitVec 3 := 5

/-- The descriptor at a physical address. -/
def Site.readDesc (a : Site) (addr : Nat) : WsDesc :=
  let w (i : Nat) : W64 := BitVec.ofNat 64 (leNat (a.bytes (addr + 8 * i) 8))
  ⟨w 0, w 1, w 2, w 3⟩

/-- Reserved fields of a descriptor are zero and VERSION is allowed (R193, R194). -/
def WsDesc.fieldOk (d : WsDesc) : Bool :=
  fld d.w0 51 5 == 0 && fld d.w1 23 9 == 0 && fld d.w1 46 18 == 0 && fld d.w2 48 16 == 0 && d.w3 == 0
    && wsVersion d != 0xffffffff

/-- The first reason to refuse a descriptor of slot n, in the order of R194. -/
def Site.wsReason (a : Site) (n : Fin 4) (d : WsDesc) : Option (BitVec 3) :=
  let span := 512 * wsBlocks d
  if !d.fieldOk then some rejField
  else if wsAddr d % 512 ≠ 0 ∨ wsLocal d % 512 ≠ 0 then some rejAlign
  else if !(bit a.slots[n].winMask (wsWin d).toNat && a.inWindow (wsWin d) (wsLocal d) span) then some rejLocal
  else if !(a.inHbmRange (wsAddr d) (wsAddr d + span) false && inOneStack (wsAddr d) (wsAddr d + span)) then some rejRemote
  else none

/-- The descriptors of a kick checked in order: all of them, or the first failure with its TAG (R194). -/
def Site.wsCheck (a : Site) (n : Fin 4) : Nat → Nat → Except (BitVec 3 × BitVec 8) (List WsDesc)
  | _, 0 => .ok []
  | off, c + 1 =>
    let d := a.readDesc (a.homeAddr n off)
    if !a.inWindow (a.homeOf n) off 32 then .error (rejLocal, wsTag d)
    else
      match a.wsReason n d with
      | some r => .error (r, wsTag d)
      | none => match a.wsCheck n (off + 32) c with
        | .ok ds => .ok (d :: ds)
        | .error e => .error e

/-- A write of WS.KICK by slot n of an array, whose CSRW stands at pc (R194). -/
def State.wsKick (s : State) (k : Nat) (n : Fin 4) (v pc : W64) : State :=
  let a := s.site k
  let refuse (s : State) (r : BitVec 3) (t : BitVec 8) : State :=
    (s.updSite k (fun a => { a with ws := { a.ws with reject := r, tag := t } })).taskFault k n fcDmaReject false pc
  let off := 32 * bitsOf v.toNat 5 18
  let count := bitsOf v.toNat 24 6 + 1
  if 4 ≤ a.ws.kicks.length then refuse s rejFull a.ws.tag
  else s.readRuns k [(a.homeAddr n off, 32 * count)] (fun s => match a.wsCheck n off count with
    | .error (r, t) => refuse s r t
    | .ok ds => s.updSite k (fun a => { a with ws := { a.ws with kicks := a.ws.kicks ++ [ds] } }))

/-- WS_KICK (R194): a slot writes WS.KICK. -/
def execWsKick (site : SiteId) (slot : Fin 4) (value : W64) (s : State) : Result :=
  let x := s.slot site.key slot
  .next (if x.st = .ready ∧ x.stopping = false then s.wsKick site.key slot value x.pc else s)

/-- WS_DESC_START (R195): the streamer is free and takes the next descriptor: block 0 is read. -/
def execWsDescStart (site : SiteId) (s : State) : Result :=
  let k := site.key
  let a := s.site k
  .next (if a.ws.phase.isNone ∧ a.ws.cur.isSome ∧ a.streamerReads < 128 ∧ (s.freeTag k).isSome then
      (s.updSite k (fun a => { a with ws :=
        { a.ws with phase := some .block0, retried := false, next := 0, waiting := 0, gen := a.ws.gen + 1 } })).streamRead k (some 0)
    else s)

/-- WS_RETRY_DELAY (R195): the delay has passed, and block 0 is read again. -/
def execWsRetryDelay (site : SiteId) (s : State) : Result :=
  let k := site.key
  .next (if (s.site k).ws.phase = some .retryWait ∧ (s.freeTag k).isSome then
      (s.updSite k (fun a => { a with ws := { a.ws with phase := some .block0, next := 0, waiting := 0 } })).streamRead k (some 0)
    else s)

/-- The descriptor leaves the streamer: the first non-OK status is recorded with its TAG (R196). -/
def Ws.complete (w : Ws) (d : WsDesc) (status : BitVec 3) : Ws :=
  { w with
    done := w.done + 1, phase := none
    status := if w.status = 0 then status else w.status
    tag := if w.status = 0 ∧ status ≠ 0 then wsTag d else w.tag
    kicks := match w.kicks with
      | (_ :: []) :: t => t
      | (_ :: ds) :: t => ds :: t
      | ks => ks }

/-- WS_DESC_COMPLETE (R196): the running descriptor completes; on STALE_SLAB the event is posted, and with STALE_STOP
every slot halts and the pan is stopped by force. -/
def execWsDescComplete (site : SiteId) (s : State) : Result :=
  let k := site.key
  let a := s.site k
  .next (match a.ws.phase, a.ws.cur with
    | some (.finished st), some d =>
      let s := s.updSite k (fun a => { a with ws := a.ws.complete d st })
      if st = 6 then
        let s := s.post 4 1 0 ukSite k [(wsTag d).toNat, wsAddr d]
        if a.ws.staleStop then
          let s := s.updSite k (fun a => a.haltAll true)
          match s.panOf k with
          | some p => s.panForceStop p
          | none => s
        else s
      else s
    | _, _ => s)

end Sys2Proof.Machine
end

