-- ==== Sys2Proof/Machine/Dma.lean ====
section
/-! DEFINITION. Machine/Dma.lean: the DMA engines: the checks of a descriptor, and the run of its requests (R39–R45,
R155, R230). -/

namespace Sys2Proof.Machine

/-! ## Checks at the push (R40–R42) -/

def dmaRead : Nat := 0
def dmaWrite : Nat := 1
def dmaPut : Nat := 2
def dmaGather : Nat := 3
def dmaAtomic : Nat := 4

/-- The reserved bits of a descriptor are zero (R39). -/
def dReservedOk (b : BitVec 256) : Bool :=
  dField b 0 55 1 == 0 && dField b 1 23 9 == 0 && dField b 1 52 12 == 0 && dField b 2 48 16 == 0 && dField b 3 23 9 == 0

/-- Every field lies in its range; an update engine has no PUT (R272). -/
def dFieldOk (k : Nat) (b : BitVec 256) : Bool :=
  let op := dOp b
  dReservedOk b && decide (op ≤ 4) && decide (1 ≤ dRowBytes b)
    && (op == dmaAtomic || dAop b == 0) && (op == dmaGather || dIndexLimit b == 0)
    && (op != dmaAtomic || (dRows b == 1 && dRowBytes b == 64 && decide (dAop b ≤ 8)))
    && (op != dmaGather || decide (dRowBytes b ≤ 512))
    && (op != dmaPut || (dRemote b / 2 ^ 42 == 0 && decide (k < 65536)))

/-- The alignments of R40. -/
def dAlignOk (b : BitVec 256) : Bool :=
  let op := dOp b
  decide (dLocal b % 4 = 0) && decide (dLocalStride b % 4 = 0) &&
  (if op = dmaRead ∨ op = dmaWrite then
     decide (dRemote b % 64 = 0) && decide (dRowBytes b % 64 = 0) && decide (dRemoteStride b % 64 = 0)
   else if op = dmaAtomic then decide (dRemote b % 64 = 0)
   else if op = dmaGather then decide (dRowBytes b % 64 = 0)
   else decide (dRowBytes b % 4 = 0))

/-- Bytes of the local span from LOCAL_OFFSET on. -/
def dLocalSpan (b : BitVec 256) : Nat :=
  if dOp b = dmaGather then dRows b * dRowBytes b
  else if dOp b = dmaAtomic then 64
  else (dRows b - 1) * dLocalStride b + dRowBytes b

/-- WIN is in the slot's mask, and the local span, and the index list of a GATHER, lie in it. -/
def Site.dLocalOk (a : Site) (n : Fin 4) (b : BitVec 256) : Bool :=
  bit a.slots[n].winMask (dWin b).toNat && a.inWindow (dWin b) (dLocal b) (dLocalSpan b)
    && (dOp b != dmaGather || a.inWindow (dWin b) (dLocalStride b) (4 * dRows b))

/-- Address past the remote span. -/
def dRemoteEnd (b : BitVec 256) : Nat :=
  dRemote b + (if dOp b = dmaGather then dIndexLimit b - 1 else dRows b - 1) * dRemoteStride b + dRowBytes b

def dPutCol (b : BitVec 256) : Nat := bitsOf (dRemote b) 26 8
def dPutRow (b : BitVec 256) : Nat := bitsOf (dRemote b) 34 8

/-- The remote span lies in one enabled range; a PUT's target is a mesh position. -/
def Site.dRemoteOk (a : Site) (b : BitVec 256) : Bool :=
  if dOp b = dmaPut then decide (dPutRow b < 192) && decide (dPutCol b < 192)
  else (dOp b != dmaGather || decide (0 < dIndexLimit b))
    && a.inHbmRange (dRemote b) (dRemoteEnd b) (dOp b == dmaWrite || dOp b == dmaAtomic)

/-- The first reason to reject a descriptor of slot n of unit k, in the order of R42. -/
def Site.dmaReason (a : Site) (k : Nat) (n : Fin 4) (b : BitVec 256) : Option (BitVec 3) :=
  if !dFieldOk k b then some rejField
  else if !dAlignOk b then some rejAlign
  else if !a.dLocalOk n b then some rejLocal
  else if !a.dRemoteOk b then some rejRemote
  else none

/-- The rejection recorded in DMA.STAT_e. -/
def Site.dmaRejected (a : Site) (e : Fin 2) (r : BitVec 3) (b : BitVec 256) : Site :=
  { a with dma := a.dma.set e { a.dma[e] with reject := r, tag := BitVec.ofNat 8 (dTag b) } }

/-! ## The reduce aperture (R229, R230) -/

/-- First address of port complex p's block. -/
def pcBlock (p : Nat) : Nat := 0x000200000000 + p * 2 ^ 29

/-- The port complex and the aperture offset of an address in a reduce aperture. -/
def reduceAperture (addr : Nat) : Option (Nat × Nat) :=
  if 0x000200000000 ≤ addr ∧ addr < 0x000300000000 then
    let p := (addr - 0x000200000000) / 2 ^ 29
    let o := addr - pcBlock p
    if 0x08000000 ≤ o ∧ o < 0x10000000 then some (p, o - 0x08000000) else none
  else none

/-- The REDUCE packet of one request of a WRITE into a reduce aperture (R155, R230). -/
def State.reducePacket (s : State) (k p a : Nat) (bs : List Byte) (poison : Bool) : Packet :=
  let rfmt := bitsOf a 25 2
  let job := bitsOf a 13 12
  let slotAddr := bitsOf a 0 13
  let r := (Service.links (.pc (Fin.ofNat 8 p))).getD (slotAddr / 512 % 16) 0
  let (sr, sc, sp) := srcOf k (posRow r) (posCol r)
  { cls := .reduce, dport := 2, drow := posRow r, dcol := posCol r, srow := sr, scol := sc, sport := sp, poison := poison
    nf := (reduceElems rfmt bs).any (elemNonFinite rfmt), squash := (s.job p job).squash, ptype := ptReduce
    tag := BitVec.ofNat 12 job, addr := BitVec.ofNat 48 slotAddr, bytesM1 := BitVec.ofNat 10 (bs.length - 1)
    ext := reduceExt 1 rfmt 0, payload := bs }

/-! ## The site map (R141) -/

/-- Site position of a mesh position, by a router's copy of the site map. -/
def Router.toSite (r : Router) (row col : Nat) : Nat × Nat :=
  let w := 2 * (row / 96) + col / 96
  let y := row % 96
  let c := col % 96
  let x := [0, 1, 2, 3].foldl (fun x g =>
    let e := (Memory.get r.smap ((96 * w + y) * 4 + g)).toNat
    if 128 ≤ e ∧ e % 128 = c then 25 * g + 24 else x) (25 * (c / 24) + c % 24)
  (96 * (w / 2) + y, 100 * (w % 2) + x)

/-! ## Requests (R40–R45) -/

/-- Reads that a DMA engine has outstanding: at most 128 (R44). -/
def Site.dmaOutstanding (a : Site) (e : Fin 2) : Nat :=
  a.reqs.countP (fun r => r.ptype == ptReadReq && (match r.owner with | .dma e' _ => e' == e | _ => false))

/-- The descriptor whose requests an engine issues next. -/
def Site.dmaCurrent (a : Site) (e : Fin 2) : Option QEntry :=
  a.queues[dmaQueue e].find? (fun x => x.phase == .queued || x.phase == .running)

/-- Remote and local byte address of byte o of row i, the index of a GATHER apart. -/
def dRemoteAt (b : BitVec 256) (i o : Nat) : Nat := dRemote b + i * dRemoteStride b + o
def Site.dLocalAt (a : Site) (b : BitVec 256) (i o : Nat) : Nat := a.winBase (dWin b) + dLocal b + i * dLocalStride b + o

/-- Bytes of the request that starts at byte o of a row, which does not cross a 512-byte boundary of the remote address. -/
def dChunk (b : BitVec 256) (remote o : Nat) : Nat := min (dRowBytes b - o) (512 - remote % 512)

/-- The entry after a request of len bytes at its place: the next place, or all issued. -/
def QEntry.issuedBytes (x : QEntry) (len : Nat) : QEntry :=
  if x.off + len < dRowBytes x.bits then { x with phase := .running, off := x.off + len }
  else if x.row + 1 < dRows x.bits then { x with phase := .running, row := x.row + 1, off := 0 }
  else { x with phase := .drainWait }

/-- The entry with a request issued, which waits for its answer or not. -/
def Site.dmaIssued (a : Site) (e : Fin 2) (id len : Nat) (waits : Bool) : Site :=
  a.updEntry (dmaQueue e) id (fun x => { (x.issuedBytes len) with waiting := x.waiting + b2n waits })

/-- One read request of a READ or GATHER. Reads of a reduce aperture are answered with POISON there (R230). -/
def State.dmaReadAt (s : State) (k : Nat) (e : Fin 2) (x : QEntry) (remote dst len : Nat) (nomerge : Bool) : State :=
  (s.updSite k (fun a => a.dmaIssued e x.id len true)).sendRequest k
    { owner := .dma e x.id, ptype := ptReadReq, addr := remote, len := len, dst := dst, nomerge := nomerge }

/-- A word with an uncorrectable error lies in the bytes that a request reads. -/
def Site.badIn (a : Site) (addr len : Nat) : Bool := (a.spad.bad addr len).isSome

/-- DMA_READ (R40, R44): one request of a READ. -/
def State.dmaReadStep (s : State) (k : Nat) (e : Fin 2) (x : QEntry) : State :=
  let a := s.site k
  let r := dRemoteAt x.bits x.row x.off
  if a.dmaOutstanding e < 128 then s.dmaReadAt k e x r (a.dLocalAt x.bits x.row x.off) (dChunk x.bits r x.off) false
  else s

/-- The router by which a packet of a unit enters the mesh has room for it, so that it leaves the local port at once. -/
def State.mayEnter (s : State) (k : Nat) (p : Packet) : Bool :=
  if k < 65536 then (s.site k).rt.mayEnter .loc p
  else (s.site (pickLink (Service.links (.pc (Fin.ofNat 8 ((k - 65536) / 16)))) (p.drow + p.dcol))).rt.mayEnter .service p

/-- DMA_WRITE (R40, R155): one WRITE of the bytes, or one posted REDUCE packet into a reduce aperture, which is sent when the router has
room for it, so that a descriptor all of whose packets are sent has none left at the local port (R35, DEDUCED 160). -/
def State.dmaWriteStep (s : State) (k : Nat) (e : Fin 2) (x : QEntry) : State :=
  let a := s.site k
  let r := dRemoteAt x.bits x.row x.off
  let src := a.dLocalAt x.bits x.row x.off
  let len := dChunk x.bits r x.off
  let bs := a.bytes src len
  let poison := a.badIn src len
  match reduceAperture r with
  | some (p, o) =>
    let q := s.reducePacket k p o bs poison
    if s.mayEnter k q then
      s.carryOut k (src, len) (fun s => (s.updSite k (fun a => a.dmaIssued e x.id len false)).sendFrom k q)
    else s
  | none =>
    s.carryOut k (src, len) (fun s => (s.updSite k (fun a => a.dmaIssued e x.id len true)).sendRequest k
        { owner := .dma e x.id, ptype := ptWrite, addr := r, len := len, dst := 0, payload := bs, poison := poison })

/-- DMA_PUT (R41, R44, R141): one PUT packet, its target translated by the local port's site map. It does not cross a 512-byte
boundary of the remote offset; ADDR names the window and offset. An offset past 2^23 lies outside any window, and the request
completes so without a packet (DEDUCED 33). -/
def State.dmaPutStep (s : State) (k : Nat) (e : Fin 2) (x : QEntry) : State :=
  let a := s.site k
  let off := bitsOf (dRemote x.bits) 0 23 + x.row * dRemoteStride x.bits + x.off
  let src := a.dLocalAt x.bits x.row x.off
  let len := dChunk x.bits off x.off
  s.carryOut k (src, len) (fun s =>
    let s := s.updSite k (fun a => a.dmaIssued e x.id len true)
    if 2 ^ 23 < off + len then s.updSite k (fun a => a.account (.dma e x.id) 2 [])
    else s.sendRequest k
      { owner := .dma e x.id, ptype := ptPut, addr := bitsOf (dRemote x.bits) 23 3 * 2 ^ 23 + off, len := len
        payload := a.bytes src len, poison := a.badIn src len, dest := some (a.rt.toSite (dPutRow x.bits) (dPutCol x.bits)) })

/-- DMA_GATHER (R40, R43): one request of an indexed row, or a row of zeros for an index at or above the limit. -/
def State.dmaGatherStep (s : State) (k : Nat) (e : Fin 2) (x : QEntry) : State :=
  let a := s.site k
  let idxAddr := a.winBase (dWin x.bits) + dLocalStride x.bits + 4 * x.row
  let idx := leNat (a.bytes idxAddr 4)
  let dst := a.winBase (dWin x.bits) + dLocal x.bits + x.row * dRowBytes x.bits
  s.readRuns k [(idxAddr, 4)] (fun s =>
    if dIndexLimit x.bits ≤ idx then
      (s.updSite k (fun a => { (a.dmaIssued e x.id (dRowBytes x.bits) false) with
        dma := a.dma.set e { a.dma[e] with indexSkips := satAdd a.dma[e].indexSkips 1 } })).writeRun k
        dst (List.replicate (dRowBytes x.bits) 0)
    else
      let r := dRemoteAt x.bits idx x.off
      if a.dmaOutstanding e < 128 then s.dmaReadAt k e x r (dst + x.off) (dChunk x.bits r x.off) true else s)

/-- DMA_ATOMIC (R40, R181): the one request of an ATOMIC. -/
def State.dmaAtomicStep (s : State) (k : Nat) (e : Fin 2) (x : QEntry) : State :=
  let a := s.site k
  let src := a.dLocalAt x.bits 0 0
  s.readRuns k [(src, 64)] (fun s =>
    (s.updSite k (fun a => a.dmaIssued e x.id 64 true)).sendRequest k
      { owner := .dma e x.id, ptype := ptAtomicReq, addr := dRemote x.bits, len := 64, dst := src, payload := a.bytes src 64
        poison := a.badIn src 64, aop := BitVec.ofNat 4 (dAop x.bits) })

/-- One request of the descriptor an engine is on, when its operation is op. -/
def State.dmaStep (s : State) (k : Nat) (e : Fin 2) (op : Nat) (f : QEntry → State) : State :=
  match (s.site k).dmaCurrent e with
  | some x => if dOp x.bits = op ∧ (s.freeTag k).isSome then f x else s
  | none => s

def execDmaRead (core : CoreId) (engine : Fin 2) (s : State) : Result :=
  .next (s.dmaStep core.key engine dmaRead (fun x => s.dmaReadStep core.key engine x))
def execDmaWrite (core : CoreId) (engine : Fin 2) (s : State) : Result :=
  .next (s.dmaStep core.key engine dmaWrite (fun x => s.dmaWriteStep core.key engine x))
def execDmaPut (core : CoreId) (engine : Fin 2) (s : State) : Result :=
  .next (s.dmaStep core.key engine dmaPut (fun x => s.dmaPutStep core.key engine x))
def execDmaGather (core : CoreId) (engine : Fin 2) (s : State) : Result :=
  .next (s.dmaStep core.key engine dmaGather (fun x => s.dmaGatherStep core.key engine x))
def execDmaAtomic (core : CoreId) (engine : Fin 2) (s : State) : Result :=
  .next (s.dmaStep core.key engine dmaAtomic (fun x => s.dmaAtomicStep core.key engine x))

/-! ## Completion (R45) -/

/-- The first non-OK status and its TAG are kept in DMA.STAT_e. -/
def DmaEng.record (d : DmaEng) (status : BitVec 3) (tag : Nat) : DmaEng :=
  if d.status = 0 ∧ status ≠ 0 then { d with status := status, tag := BitVec.ofNat 8 tag } else d

/-- A descriptor all of whose requests have been answered. -/
def Site.dmaReady (a : Site) (e : Fin 2) : Option QEntry :=
  a.queues[dmaQueue e].find? (fun x => x.phase == .drainWait && x.waiting == 0)

/-- DMA_COMPLETION (R45): a non-OK status is recorded and, with ERR_FAULT, charged to the pushing slot; the descriptor
has run either way. -/
def execDmaCompletion (core : CoreId) (engine : Fin 2) (s : State) : Result :=
  let k := core.key
  .next (match (s.site k).dmaReady engine with
    | none => s
    | some x =>
      let s := s.updSite k (fun a => { (a.updEntry (dmaQueue engine) x.id (fun y => { y with phase := .ran })) with
        dma := a.dma.set engine (a.dma[engine].record x.dmaStatus (dTag x.bits)) })
      if x.dmaStatus ≠ 0 ∧ (s.site k).dma[engine].errFault then s.taskFault k x.slot fcDmaError true x.pc else s)

end Sys2Proof.Machine
end

