-- ==== Sys2Proof/Machine/Ctl.lean ====
section
/-! DEFINITION. Machine/Ctl.lean: the control instructions, their fetch and issue, and the starting and stopping of task
slots (R25–R31, R35, R38, R51, R480). -/

namespace Sys2Proof.Machine

/-! ## Encodings (R28–R30, R480) -/

/-- The instructions of R29 and R480. -/
inductive CtlOp where
  | add | sub | and | or | xor | shl | shr | sar | slt | sltu | mul | mulh
  | addi | andi | ori | xori | slti | shi | lui | luih | load | store
  | beq | bne | blt | bge | bltu | bgeu | jal | jr
  | qpush | qload | wait | sqpop | sqcnt | csrr | csrw | yield | halt
  deriving DecidableEq, Repr

/-- The operation that func selects for opcode 0x00 (R480). -/
def funcOp (f : Nat) : Option CtlOp :=
  match f with
  | 0 => some .add
  | 1 => some .sub
  | 2 => some .and
  | 3 => some .or
  | 4 => some .xor
  | 5 => some .shl
  | 6 => some .shr
  | 7 => some .sar
  | 8 => some .slt
  | 9 => some .sltu
  | 10 => some .mul
  | 11 => some .mulh
  | _ => none

/-- Reserved bits [23:21] and [15:6] of the Q format are zero (R29). -/
def qReservedOk (w : W32) : Bool := fld w 21 3 == 0 && fld w 6 10 == 0

/-- The instruction of a word; none for an unassigned opcode or a reserved encoding (R29). -/
def ctlDecode (w : W32) : Option CtlOp :=
  match ctlOpcode w with
  | 0x00 => funcOp (ctlFunc w)
  | 0x10 => some .addi
  | 0x11 => some .andi
  | 0x12 => some .ori
  | 0x13 => some .xori
  | 0x14 => some .slti
  | 0x15 => if fld w 7 9 = 0 then some .shi else none
  | 0x16 => some .lui
  | 0x17 => some .luih
  | 0x18 => some .load
  | 0x19 => some .load
  | 0x1a => some .load
  | 0x1b => some .load
  | 0x1c => some .store
  | 0x1d => some .store
  | 0x1e => some .store
  | 0x1f => some .store
  | 0x20 => some .beq
  | 0x21 => some .bne
  | 0x22 => some .blt
  | 0x23 => some .bge
  | 0x24 => some .bltu
  | 0x25 => some .bgeu
  | 0x26 => some .jal
  | 0x27 => some .jr
  | 0x28 => if qReservedOk w then some .qpush else none
  | 0x29 => if qReservedOk w then some .qload else none
  | 0x2a => some .wait
  | 0x2c => some .sqpop
  | 0x2d => some .sqcnt
  | 0x30 => some .csrr
  | 0x31 => some .csrw
  | 0x34 => some .yield
  | 0x35 => some .halt
  | _ => none

/-- imm16 sign-extended and zero-extended. -/
def immS (w : W32) : W64 := (ctlImm w).signExtend 64
def immZ (w : W32) : W64 := (ctlImm w).setWidth 64

/-! ## Fetch and issue (R25–R27) -/

/-- A slot that may issue: READY, and not in the middle of a stop. -/
def Slot.mayIssue (x : Slot) : Bool := x.st == .ready && !x.stopping

/-- The slot whose turn it is: the first that may issue, starting with the slot after the one that issued last (R26). -/
def Site.turn (a : Site) : Option (Fin 4) :=
  [a.lastIssued + 1, a.lastIssued + 2, a.lastIssued + 3, a.lastIssued].find? (fun n => a.slots[n].mayIssue)

/-- The line of 64 bytes that holds the word at a slot's PC: its physical address, and its bytes up to the home window's bound
(R27). -/
def Site.lineAt (a : Site) (n : Fin 4) : Nat := a.homeAddr n (a.slots[n].pc.toNat / 64 * 64)
def Site.lineLen (a : Site) (n : Fin 4) : Nat := min 64 (a.winBound (a.homeOf n) - a.lineAt n)

/-- The line that a slot's next instruction lies in: the one held, or else the one that a fetch reads now. -/
def Site.lineOf (a : Site) (n : Fin 4) : Nat × List Byte :=
  match a.slots[n].line with
  | some l => if l.1 = a.lineAt n then l else (a.lineAt n, a.bytes (a.lineAt n) (a.lineLen n))
  | none => (a.lineAt n, a.bytes (a.lineAt n) (a.lineLen n))

/-- The scratchpad bytes that the fetch of a slot's next instruction reads: none where its line is held. -/
def Site.fetchRanges (a : Site) (n : Fin 4) : List (Nat × Nat) :=
  if a.slots[n].line.any (fun l => l.1 == a.lineAt n) then [] else [(a.lineAt n, a.lineLen n)]

/-- The word at a slot's PC; none where it crosses the home window's bound (R27). -/
def Site.fetch (a : Site) (n : Fin 4) : Option W32 :=
  let pc := a.slots[n].pc.toNat
  if a.inWindow (a.homeOf n) pc 4 then some (BitVec.ofNat 32 (leNat (((a.lineOf n).2.drop (pc % 64)).take 4))) else none

/-- The slot holds the line of its PC, and is recorded as the one that issued last (R26, R27). -/
def Site.issued (a : Site) (n : Fin 4) : Site :=
  { (a.updSlot n (fun x => { x with line := some (a.lineOf n) })) with lastIssued := n }

/-- A task fault of the instruction at a slot's PC. -/
def State.instrFault (s : State) (k : Nat) (n : Fin 4) (code : Nat) : State := s.taskFault k n code false (s.slot k n).pc

/-- Slot n of unit k issues one instruction when it is its turn: it is fetched at the PC, and body acts when it is the instruction
named. A fetch outside the home window faults, and so does an unassigned or reserved word (R26, R27, R29). -/
def State.issue (s : State) (k : Nat) (n : Fin 4) (op : CtlOp) (body : W32 → State → State) : State :=
  let a := s.site k
  if a.turn = some n then
    match a.fetch n with
    | none => (s.updSite k (fun a => { a with lastIssued := n })).instrFault k n fcWindow
    | some w =>
      match ctlDecode w with
      | none => s.readChecked k (a.fetchRanges n) (fun s => (s.updSite k (fun a => a.issued n)).instrFault k n fcIllegal)
      | some o =>
        if o = op then s.readChecked k (a.fetchRanges n) (fun s => body w (s.updSite k (fun a => a.issued n)))
        else s
  else s

/-- The slot goes on with the instruction after this one, after f. -/
def Slot.next (x : Slot) (f : Slot → Slot) : Slot := let y := f x; { y with pc := x.pc + 4 }

/-- An instruction whose whole effect is on its slot's registers and PC. -/
def State.issueSlot (s : State) (k : Nat) (n : Fin 4) (op : CtlOp) (f : W32 → Slot → Slot) : State :=
  s.issue k n op (fun w s => s.updSlot k n (f w))

/-! ## Integer register class (R480) -/

/-- The RR instruction that writes g of its two sources. -/
def rrInstr (g : W64 → W64 → W64) (w : W32) (x : Slot) : Slot :=
  x.next (fun x => x.setReg (ctlRd w) (g (x.reg (ctlRs1 w)) (x.reg (ctlRs2 w))))

/-- The count of a shift: bits [5:0]. -/
def shiftCount (v : W64) : Nat := v.toNat % 64

def opAdd (a b : W64) : W64 := a + b
def opSub (a b : W64) : W64 := a - b
def opAnd (a b : W64) : W64 := a &&& b
def opOr (a b : W64) : W64 := a ||| b
def opXor (a b : W64) : W64 := a ^^^ b
def opShl (a b : W64) : W64 := a <<< shiftCount b
def opShr (a b : W64) : W64 := a >>> shiftCount b
def opSar (a b : W64) : W64 := a.sshiftRight (shiftCount b)
def opSlt (a b : W64) : W64 := if a.toInt < b.toInt then 1 else 0
def opSltu (a b : W64) : W64 := if a.toNat < b.toNat then 1 else 0
def opMul (a b : W64) : W64 := a * b
def opMulh (a b : W64) : W64 := BitVec.ofInt 64 (a.toInt * b.toInt / 2 ^ 64)

def execAdd (core : CoreId) (slot : Fin 4) (s : State) : Result := .next (s.issueSlot core.key slot .add (rrInstr opAdd))
def execSub (core : CoreId) (slot : Fin 4) (s : State) : Result := .next (s.issueSlot core.key slot .sub (rrInstr opSub))
def execAnd (core : CoreId) (slot : Fin 4) (s : State) : Result := .next (s.issueSlot core.key slot .and (rrInstr opAnd))
def execOr (core : CoreId) (slot : Fin 4) (s : State) : Result := .next (s.issueSlot core.key slot .or (rrInstr opOr))
def execXor (core : CoreId) (slot : Fin 4) (s : State) : Result := .next (s.issueSlot core.key slot .xor (rrInstr opXor))
def execShl (core : CoreId) (slot : Fin 4) (s : State) : Result := .next (s.issueSlot core.key slot .shl (rrInstr opShl))
def execShr (core : CoreId) (slot : Fin 4) (s : State) : Result := .next (s.issueSlot core.key slot .shr (rrInstr opShr))
def execSar (core : CoreId) (slot : Fin 4) (s : State) : Result := .next (s.issueSlot core.key slot .sar (rrInstr opSar))
def execSlt (core : CoreId) (slot : Fin 4) (s : State) : Result := .next (s.issueSlot core.key slot .slt (rrInstr opSlt))
def execSltu (core : CoreId) (slot : Fin 4) (s : State) : Result := .next (s.issueSlot core.key slot .sltu (rrInstr opSltu))
def execMul (core : CoreId) (slot : Fin 4) (s : State) : Result := .next (s.issueSlot core.key slot .mul (rrInstr opMul))
def execMulh (core : CoreId) (slot : Fin 4) (s : State) : Result := .next (s.issueSlot core.key slot .mulh (rrInstr opMulh))

/-! ## Integer immediate and constant classes (R29) -/

/-- The RI instruction that writes g of its source and the instruction word. -/
def riInstr (g : W64 → W32 → W64) (w : W32) (x : Slot) : Slot :=
  x.next (fun x => x.setReg (ctlRd w) (g (x.reg (ctlRs1 w)) w))

def opAddi (a : W64) (w : W32) : W64 := a + immS w
def opAndi (a : W64) (w : W32) : W64 := a &&& immZ w
def opOri (a : W64) (w : W32) : W64 := a ||| immZ w
def opXori (a : W64) (w : W32) : W64 := a ^^^ immZ w
def opSlti (a : W64) (w : W32) : W64 := if a.toInt < (immS w).toInt then 1 else 0

/-- SHI: left when imm16[6] is 0, logically right when it is 1. -/
def opShi (a : W64) (w : W32) : W64 :=
  if bit w 6 then a >>> (fld w 0 6).toNat else a <<< (fld w 0 6).toNat

def execAddi (core : CoreId) (slot : Fin 4) (s : State) : Result := .next (s.issueSlot core.key slot .addi (riInstr opAddi))
def execAndi (core : CoreId) (slot : Fin 4) (s : State) : Result := .next (s.issueSlot core.key slot .andi (riInstr opAndi))
def execOri (core : CoreId) (slot : Fin 4) (s : State) : Result := .next (s.issueSlot core.key slot .ori (riInstr opOri))
def execXori (core : CoreId) (slot : Fin 4) (s : State) : Result := .next (s.issueSlot core.key slot .xori (riInstr opXori))
def execSlti (core : CoreId) (slot : Fin 4) (s : State) : Result := .next (s.issueSlot core.key slot .slti (riInstr opSlti))
def execShi (core : CoreId) (slot : Fin 4) (s : State) : Result := .next (s.issueSlot core.key slot .shi (riInstr opShi))

/-- LUI sets rd[31:16] and clears the other bits; LUIH sets rd[63:48] and keeps the other bits. -/
def luiInstr (w : W32) (x : Slot) : Slot := x.next (fun x => x.setReg (ctlRd w) (BitVec.ofNat 64 ((ctlImm w).toNat * 2 ^ 16)))
def luihInstr (w : W32) (x : Slot) : Slot :=
  x.next (fun x => x.setReg (ctlRd w) (ctlImm w ++ (x.reg (ctlRd w)).setWidth 48))

def execLui (core : CoreId) (slot : Fin 4) (s : State) : Result := .next (s.issueSlot core.key slot .lui luiInstr)
def execLuih (core : CoreId) (slot : Fin 4) (s : State) : Result := .next (s.issueSlot core.key slot .luih luihInstr)

/-! ## Loads and stores (R25, R29, R30) -/

/-- Bytes of a load or store: 1, 2, 4 or 8 by the opcode's low two bits. -/
def memBytes (w : W32) : Nat := 2 ^ (ctlOpcode w % 4)

/-- Window offset of a load or store: S[rs1] + imm16, signed. -/
def Slot.memOff (x : Slot) (w : W32) : Nat := (x.reg (ctlRs1 w) + immS w).toNat

/-- The alignment check, and then the window check, of an access in the home window (R30). -/
def Site.homeAccess (a : Site) (n : Fin 4) (off len align : Nat) : Option Nat :=
  if off % align ≠ 0 then some fcMisaligned
  else if !a.inWindow (a.homeOf n) off len then some fcWindow
  else none

/-- LOAD: zero-extended. -/
def State.load (s : State) (k : Nat) (n : Fin 4) (w : W32) : State :=
  let a := s.site k
  let off := a.slots[n].memOff w
  let len := memBytes w
  match a.homeAccess n off len len with
  | some code => s.instrFault k n code
  | none =>
    let v : W64 := BitVec.ofNat 64 (leNat (a.bytes (a.homeAddr n off) len))
    s.readChecked k [(a.homeAddr n off, len)] (fun s => s.updSlot k n (fun x => x.next (fun x => x.setReg (ctlRd w) v)))

/-- STORE of the low bytes of S[rd]. -/
def State.store (s : State) (k : Nat) (n : Fin 4) (w : W32) : State :=
  let a := s.site k
  let off := a.slots[n].memOff w
  let len := memBytes w
  match a.homeAccess n off len len with
  | some code => s.instrFault k n code
  | none =>
    (s.updSlot k n (fun x => x.next id)).writeChecked k
      [[(a.homeAddr n off, leBytes len (a.slots[n].reg (ctlRd w)).toNat)]]

def execLoad (core : CoreId) (slot : Fin 4) (s : State) : Result :=
  .next (s.issue core.key slot .load (fun w s => s.load core.key slot w))
def execStore (core : CoreId) (slot : Fin 4) (s : State) : Result :=
  .next (s.issue core.key slot .store (fun w s => s.store core.key slot w))

/-! ## Branches and jumps (R29, R480) -/

/-- A branch: its target counts words from its own address. -/
def branchInstr (g : W64 → W64 → Bool) (w : W32) (x : Slot) : Slot :=
  if g (x.reg (ctlBr1 w)) (x.reg (ctlBr2 w)) then { x with pc := x.pc + 4 * immS w } else x.next id

def condEq (a b : W64) : Bool := a == b
def condNe (a b : W64) : Bool := a != b
def condLt (a b : W64) : Bool := decide (a.toInt < b.toInt)
def condGe (a b : W64) : Bool := decide (b.toInt ≤ a.toInt)
def condLtu (a b : W64) : Bool := decide (a.toNat < b.toNat)
def condGeu (a b : W64) : Bool := decide (b.toNat ≤ a.toNat)

def execBeq (core : CoreId) (slot : Fin 4) (s : State) : Result := .next (s.issueSlot core.key slot .beq (branchInstr condEq))
def execBne (core : CoreId) (slot : Fin 4) (s : State) : Result := .next (s.issueSlot core.key slot .bne (branchInstr condNe))
def execBlt (core : CoreId) (slot : Fin 4) (s : State) : Result := .next (s.issueSlot core.key slot .blt (branchInstr condLt))
def execBge (core : CoreId) (slot : Fin 4) (s : State) : Result := .next (s.issueSlot core.key slot .bge (branchInstr condGe))
def execBltu (core : CoreId) (slot : Fin 4) (s : State) : Result := .next (s.issueSlot core.key slot .bltu (branchInstr condLtu))
def execBgeu (core : CoreId) (slot : Fin 4) (s : State) : Result := .next (s.issueSlot core.key slot .bgeu (branchInstr condGeu))

/-- JAL: S31 takes the JAL's own address + 4. -/
def jalInstr (w : W32) (x : Slot) : Slot :=
  { (x.setReg 31 (x.pc + 4)) with pc := x.pc + 4 * (ctlOff26 w).signExtend 64 }

def execJal (core : CoreId) (slot : Fin 4) (s : State) : Result := .next (s.issueSlot core.key slot .jal jalInstr)

/-- JR: a misaligned target faults at the JR. -/
def State.jr (s : State) (k : Nat) (n : Fin 4) (w : W32) : State :=
  let t := (s.slot k n).reg (ctlRs1 w)
  if t.toNat % 4 ≠ 0 then s.instrFault k n fcMisaligned else s.updSlot k n (fun x => { x with pc := t })

def execJr (core : CoreId) (slot : Fin 4) (s : State) : Result :=
  .next (s.issue core.key slot .jr (fun w s => s.jr core.key slot w))

/-! ## Waiting, summaries, yielding and halting (R29, R35, R38) -/

/-- A counter has reached a target: the difference, as a signed 32-bit number, is zero or more (R35). -/
def reached (count : W32) (target : W64) : Bool := decide (0 ≤ (count - target.setWidth 32).toInt)

/-- WAIT: q is rd[1:0]. -/
def State.waitInstr (s : State) (k : Nat) (n : Fin 4) (w : W32) : State :=
  let a := s.site k
  let q : BitVec 2 := (ctlRd w).setWidth 2
  let t := a.slots[n].reg (ctlRs1 w)
  if reached a.qdone[q.toNat] t then s.updSlot k n (fun x => x.next id)
  else s.updSlot k n (fun x => { x with st := .blocked, block := .count q t })

def execWait (core : CoreId) (slot : Fin 4) (s : State) : Result :=
  .next (s.issue core.key slot .wait (fun w s => s.waitInstr core.key slot w))

/-- A blocked slot goes on after the instruction that blocked it, after f. -/
def Slot.unblock (x : Slot) (f : Slot → Slot) : Slot := { (x.next f) with st := .ready, block := .nothing }

/-- WAIT_RELEASE (R35). -/
def execWaitRelease (core : CoreId) (slot : Fin 4) (s : State) : Result :=
  let a := s.site core.key
  let x := a.slots[slot]
  .next (match x.st, x.block with
    | .blocked, .count q t =>
      if !x.stopping && reached a.qdone[q.toNat] t then s.updSlot core.key slot (fun x => x.unblock id) else s
    | _, _ => s)

/-- The oldest summary entry popped to a register (R37, R38). -/
def Slot.popTo (x : Slot) (rd : BitVec 5) : Slot :=
  match x.summaries with
  | v :: t => { x with summaries := t }.setReg rd v
  | [] => x

/-- SQPOP: it blocks while an entry is in flight and none is queued, and faults with neither (R38). -/
def State.sqpop (s : State) (k : Nat) (n : Fin 4) (w : W32) : State :=
  let a := s.site k
  if a.slots[n].summaries ≠ [] then s.updSlot k n (fun x => x.next (fun x => x.popTo (ctlRd w)))
  else if a.inFlight n ≠ 0 then s.updSlot k n (fun x => { x with st := .blocked, block := .summary (ctlRd w) })
  else s.instrFault k n fcSqUnderrun

def execSqpop (core : CoreId) (slot : Fin 4) (s : State) : Result :=
  .next (s.issue core.key slot .sqpop (fun w s => s.sqpop core.key slot w))

/-- SQPOP_RESUME (R38): the entry that a blocked SQPOP waits for has arrived; or it will not come, since a fault stop had its summary
discarded (R49), and the SQPOP finds neither an entry queued nor one in flight (DEDUCED 161). -/
def execSqpopResume (core : CoreId) (slot : Fin 4) (s : State) : Result :=
  let x := s.slot core.key slot
  .next (match x.st, x.block with
    | .blocked, .summary rd =>
      if x.stopping then s
      else if x.summaries ≠ [] then s.updSlot core.key slot (fun x => x.unblock (fun x => x.popTo rd))
      else if (s.site core.key).inFlight slot = 0 then s.instrFault core.key slot fcSqUnderrun
      else s
    | _, _ => s)

/-- SQCNT. -/
def sqcntInstr (w : W32) (x : Slot) : Slot :=
  x.next (fun x => x.setReg (ctlRd w) (BitVec.ofNat 64 x.summaries.length))

def execSqcnt (core : CoreId) (slot : Fin 4) (s : State) : Result := .next (s.issueSlot core.key slot .sqcnt sqcntInstr)

def execYield (core : CoreId) (slot : Fin 4) (s : State) : Result :=
  .next (s.issueSlot core.key slot .yield (fun _ x => x.next id))

/-- HALT: the slot enters HALTED, its PC after the HALT (DEDUCED 32). -/
def haltInstr (_w : W32) (x : Slot) : Slot := { (x.next id) with st := .halted, panHalted := false }

def execHalt (core : CoreId) (slot : Fin 4) (s : State) : Result := .next (s.issueSlot core.key slot .halt haltInstr)

/-! ## Starting and stopping slots (R46, R50, R51) -/

/-- A slot in which START takes effect, and a TASK_PC may be written. -/
def Slot.quiet (x : Slot) : Bool := x.st == .idle || x.st == .halted || x.st == .faulted

/-- START: the fault record is cleared and the slot is READY at its PC. -/
def Slot.start (x : Slot) : Slot :=
  if x.quiet then
    { x with st := .ready, faultCode := 0, faultCommand := false, faultPc := 0, block := .nothing, panHalted := false, line := none }
  else x

/-- The unit has the slot, and its logic is powered: an update engine has slot 0 alone (R252, R272). An array's slot starts only
where the array lies in a configured pan, and once the clear of its scratchpad is done (R114, R200). -/
def State.slotPowered (s : State) (k : Nat) (n : Fin 4) : Bool :=
  (if k < 65536 then (s.panOf k).isSome else decide (n = 0)) && !(s.site k).fenced && !(s.site k).parked && !(s.site k).spad.clearing

/-- TASK_START (R46, R51). -/
def execTaskStart (core : CoreId) (slot : Fin 4) (s : State) : Result :=
  .next (if s.slotPowered core.key slot then s.updSlot core.key slot Slot.start else s)

/-- TASK_STOP (R51). -/
def execTaskStop (core : CoreId) (slot : Fin 4) (s : State) : Result :=
  .next (s.updSite core.key (fun a => a.stopSlot slot false))

/-- HALT_ALL (R46, R51). -/
def execHaltAll (core : CoreId) (s : State) : Result := .next (s.updSite core.key (fun a => a.haltAll false))

/-- SLOT_STOP_DONE (R51). -/
def execSlotStopDone (core : CoreId) (slot : Fin 4) (s : State) : Result :=
  .next (s.updSite core.key (fun a => a.settleStop slot))

end Sys2Proof.Machine
end

