-- ==== Sys2Proof/Machine/Isl.lean ====
section
/-! DEFINITION. Machine/Isl.lean: clock islands, the caps on them, and the oscillator mesh (R389–R396, R401). -/

namespace Sys2Proof.Machine

/-- Every site of the module. -/
def allSites : List Nat :=
  (List.range 4).flatMap (fun w => (List.range 96).flatMap (fun y => (List.range 100).map (fun x => siteKey w y x)))

/-- MODULE.PWR_CAP.EFFECTIVE_KW: the lowest of CAP_KW, the feed limit of R383 and the coolant limit of R395. -/
def Power.effectiveKw (p : Power) : Nat :=
  min p.capKw.toNat (min (if p.feedLimit then 105 else 120) (if p.coolantLimit then 30 else 120))

/-- MODULE.PWR_CAP.FACTOR: k in units of 1/65,536, in 16 bits. -/
def Power.factor (p : Power) : Nat := min 65535 (65536 * p.kNum / p.kDen)

/-- The minimum voltage in mV at a frequency in MHz (R390). -/
def minVoltage (mhz : Nat) : Nat :=
  if mhz ≤ 800 then 550 else if mhz ≤ 1400 then 650 else if mhz ≤ 1800 then 720 else if mhz ≤ 2000 then 780 else 850

/-- Supply voltage: the table's, plus VOFF in 5 mV steps, clamped to 0.50 to 0.90 V (R390). -/
def supplyVoltage (mhz : Nat) (voff : BitVec 6) : Nat :=
  (max 500 (min 900 ((minVoltage mhz : Int) + 5 * voff.toInt))).toNat

/-- The effective frequency in whole MHz: the lowest of FREQ_MHZ and the caps, and at least 250 MHz (R390, R396). -/
def Isl.effective (i : Isl) (kNum kDen : Nat) : Nat :=
  max 250 (min i.freq.toNat (min (i.tcap / 20) (i.freq.toNat * kNum / kDen)))

/-- The thermal cap after 100 µs (R396), in units of 1/20 MHz. -/
def Isl.nextCap (i : Isl) : Nat :=
  let f := i.freq.toNat
  if 95 < i.celsius.toNat then max 5000 (i.tcap - f)
  else if i.celsius.toNat < 92 then min (20 * f) (i.tcap + f)
  else i.tcap

/-- The island at its effective frequency, with the voltage, CAPPED and THROTTLE that follow (R390, R395, R401). -/
def Isl.retune (i : Isl) (kNum kDen : Nat) : Isl :=
  let e := i.effective kNum kDen
  { i with freqNow := BitVec.ofNat 12 e, millivolt := BitVec.ofNat 12 (supplyVoltage e i.voff)
           capped := decide (e < i.freq.toNat), throttle := decide (i.tcap < 20 * i.freq.toNat) }

/-- The island of a site runs. -/
def Isl.runs (i : Isl) : Bool := i.state == 1 || i.state == 2

/-- Site k retuned after f, with the FREQ trace record when its effective frequency changes (R459). -/
def State.retune (s : State) (k : Nat) (f : Isl → Isl) : State :=
  let old := (s.site k).isl
  let new := if old.runs then (f old).retune s.power.kNum s.power.kDen else f old
  if new = old then s
  else
    let s := s.updSite k (fun a => { a with isl := new })
    if new.freqNow = old.freqNow then s
    else s.trace k (some 4) 5 0xff (BitVec.ofNat 128 (new.freqNow.toNat + old.freqNow.toNat * 2 ^ 16))

/-- A write of ISL.CFG (R391, R401): a FREQ_MHZ outside 250–2,200 is ignored. The caps stand as they are until the next
update, and the effective frequency stays the lowest of them (DEDUCED 39). -/
def State.islCfgWrite (s : State) (k : Nat) (mhz : BitVec 12) (voff : BitVec 6) : State :=
  s.retune k (fun i => { i with voff := voff, freq := if 250 ≤ mhz.toNat ∧ mhz.toNat ≤ 2200 then mhz else i.freq })

/-- ISL_FREQ_WRITE (R391). -/
def execIslFreqWrite (site : SiteId) (mhz : BitVec 12) (voff : BitVec 6) (s : State) : Result :=
  .next (s.islCfgWrite site.key mhz voff)

/-- k after 100 µs (R396), from the input power in units of 100 W. -/
def Power.nextFactor (p : Power) (hw : Nat) : Power :=
  let cap := 10 * p.effectiveKw
  if cap < hw then { p with kNum := p.kNum * cap, kDen := p.kDen * hw }
  else
    let n := 64 * p.kNum + p.kDen
    let d := 64 * p.kDen
    if d ≤ n then { p with kNum := 1, kDen := 1 } else { p with kNum := n, kDen := d }

/-- CAP_UPDATE (R396): every 100 µs, with the input power in units of 100 W and the lowest feed voltage in units of 0.01 V. -/
def execCapUpdate (powerHw voltCv : BitVec 16) (s : State) : Result :=
  let p := { s.power with powerHw := powerHw, voltCv := voltCv }
  let s := { s with power := p.nextFactor powerHw.toNat }
  .next (allSites.foldl (fun s k => s.retune k (fun i => if i.runs then { i with tcap := i.nextCap } else i)) s)

/-- OSC_LOCK_CHANGE (R393): an oscillator comes within, or leaves, ±0.1 % of 4.0 GHz. A loss is posted. An oscillator that is off, or
that is cut off from every injection site, does not lock. -/
def execOscLockChange (site : SiteId) (locked : Bool) (s : State) : Result :=
  let k := site.key
  .next (if (s.site k).isl.locked && !locked then s.clockLoss k
    else if locked && (s.site k).forwards && s.clocked k then s.updSite k (fun a => { a with isl := { a.isl with locked := true } })
    else s)

end Sys2Proof.Machine
end

