-- ==== Sys2Proof/Machine/Local.lean ====
section
/-! DEFINITION. Machine/Local.lean: the noise source, the scratchpad's housekeeping, and the liveness check of a site
(R52, R107, R114, R130, R131). -/

namespace Sys2Proof.Machine

/-! ## Noise source (R130, R131) -/

/-- A 64-bit seed extended to 128 bits by repetition. -/
def repeat64 (v : W64) : BitVec 128 := v ++ v

/-- Both streams loaded from a seed; a seed of zero is replaced (R131). -/
def Noise.seed (n : Noise) (v : W64) : Noise :=
  let v := if v = 0 then 0x5a5a5a5a5a5a5a5a else v
  { n with s0 := repeat64 v, s1 := repeat64 (~~~v), autoOff := true }

/-- Both streams reseeded from the entropy sampler, whose output is free (R130). After a failure of the repetition
test the generators keep running without reseeding. -/
def State.reseed (s : State) (k : Nat) : State :=
  if (s.site k).noise.healthFail then s
  else
    let (a, s) := s.draw
    let (b, s) := s.draw
    let (c, s) := s.draw
    let (d, s) := s.draw
    s.updSite k (fun x => { x with noise := { x.noise with s0 := a ++ b, s1 := c ++ d } })

/-- A write of ISL.NOISE_CTL.RESEED: both streams reseeded, and automatic reseeding resumes (R131). -/
def State.noiseReseed (s : State) (k : Nat) : State :=
  (s.reseed k).updSite k (fun x => { x with noise := { x.noise with autoOff := false } })

/-- NOISE_RESEED (R131). -/
def execNoiseReseed (site : SiteId) (s : State) : Result := .next (s.noiseReseed site.key)

/-- NOISE_SEED (R131): an 8-byte write of ISL.NOISE_SEED. -/
def execNoiseSeed (site : SiteId) (seed : W64) (s : State) : Result :=
  .next (s.updSite site.key (fun a => { a with noise := a.noise.seed seed }))

/-- NOISE_AUTO_RESEED (R130): 2^20 island cycles have passed. -/
def execNoiseAutoReseed (site : SiteId) (s : State) : Result :=
  .next (if (s.site site.key).noise.autoOff then s else s.reseed site.key)

/-- NOISE_HEALTH_FAIL (R130): the repetition test of the entropy sampler fails. -/
def execNoiseHealthFail (site : SiteId) (s : State) : Result :=
  .next (s.updSite site.key (fun a => { a with noise := { a.noise with healthFail := true } }))

/-! ## Scratchpad (R107, R114) -/

/-- A grant of one port among requesters that have held a ready request for so many cycles each (R107): it is a grant by age,
and counted, where one of them has waited AGE cycles. -/
def Spad.grantAged (m : Spad) (waits : List Nat) : Spad :=
  if waits.any (fun w => decide (m.age.toNat ≤ w)) then { m with agePromote := satAdd m.agePromote 1 } else m

/-- The unit with key k is one of the module: a site of a wafer, or an update engine. -/
def unitExists (k : Nat) : Bool :=
  if k < 65536 then decide (siteY k < 96) && decide (siteX k < 100) else decide (k < 65536 + 128)

/-- A unit's own memories have power. -/
def State.unitPowered (s : State) (k : Nat) : Bool :=
  unitExists k && (if k < 65536 then (s.site k).rt.state == 2 && !(s.site k).parked && !(s.site k).fenced
    else !(s.pc ((k - 65536) / 16)).off && !(s.pc ((k - 65536) / 16)).fenced)

/-- Some requester of a unit's scratchpad ports may have a ready request (R106): its control core, its engines and streamer, or the local
port. -/
def Site.asksPorts (a : Site) : Bool :=
  a.slots.toList.any (fun x => x.st == .ready || x.st == .blocked) || !a.enginesIdle || !a.streamerIdle || !a.reqs.isEmpty || !a.arrived.isEmpty

/-- SPAD_AGE_GRANT (R107): a port of a powered scratchpad grants one of the requesters that wait, with the cycles that each has
waited. Where no requester can have a request, nothing waits and nothing is counted. -/
def execSpadAgeGrant (g : SpadGrant) (s : State) : Result :=
  .next (if s.unitPowered g.core.key && (s.site g.core.key).asksPorts then
      s.updSite g.core.key (fun a => { a with spad := a.spad.grantAged g.waits })
    else s)

/-- Byte a lies in an enabled window that is marked resident. -/
def Spad.residentAt (m : Spad) (a : Nat) : Bool :=
  m.win.toList.any (fun w => w.enable && w.resident && decide (w.base.toNat * 4096 ≤ a) && decide (a < w.bound.toNat * 4096))

/-- The clear of R114: every byte outside the resident windows is zero with valid check bits. -/
def Spad.clear (m : Spad) : Spad :=
  { m with mem := m.mem.filter (fun c => m.residentAt c.1), badWords := m.badWords.filter (fun w => m.residentAt (4 * w))
           softWords := m.softWords.filter (fun w => m.residentAt (4 * w)), clearing := true }

/-- SCRATCHPAD_CLEAR_DONE (R114): the clear has reached its end. -/
def execScratchpadClearDone (site : SiteId) (s : State) : Result :=
  .next (s.updSite site.key (fun a => { a with spad := { a.spad with clearing := false } }))

/-! ## Liveness (R52, R419) -/

/-- LIVENESS_LOST (R52): no liveness flit has come from the neighbour at a mesh port of a router for 64 µs. The
neighbour is powered and unparked, so the paths disagree before its own event is posted (R419). -/
def execLivenessLost (site : SiteId) (port : RPort) (s : State) : Result :=
  let k := site.key
  let r := (s.site k).rt
  .next (match neighbour k port with
    | none => s
    | some j =>
      if (s.site k).forwards && (s.site j).forwards && bit r.liveOn (portIdx port) && !bit r.liveIn (portIdx port) then
        let s := s.updRouter k (fun r => { r with liveLost := putBit r.liveLost (portIdx port) true })
        s.hwFault j 0 fcLiveness 3 [k]
      else s)

end Sys2Proof.Machine
end

