-- ==== Sys2Proof/Machine/Trace.lean ====
section
/-! DEFINITION. Machine/Trace.lean: trace records and their ring, sync markers, and the debug path to accumulators
(R457–R466). -/

namespace Sys2Proof.Machine

/-! ## Records (R458–R460) -/

/-- The 32 bytes of a record of unit k. -/
def TraceRec.bytes (r : TraceRec) (k : Nat) : List Byte :=
  [r.ty, r.slot] ++ leBytes 2 r.seq.toNat ++ leBytes 4 k ++ leBytes 8 r.cycle.toNat ++ leBytes 16 r.payload.toNat

/-- A write of TRC.MARK by a slot, or by the host: a MARK record. -/
def State.trcMark (s : State) (k : Nat) (slot : Option (Fin 4)) (v : W32) : State :=
  s.trace k (some 0) 1 (match slot with | some n => BitVec.ofNat 8 n.val | none => 0xff) (payload20 v.toNat 0)

/-- TRC_MARK (R459, R465). -/
def execTrcMark (site : SiteId) (slot : Option (Fin 4)) (value : W32) (s : State) : Result :=
  .next (s.trcMark site.key slot value)

/-- BASE and BOUND enclose at least 64 bytes within the populated range of one stack (R465). -/
def Trc.ringOk (t : Trc) : Bool := decide (t.base.toNat + 64 ≤ t.bound.toNat) && inOneStack t.base.toNat t.bound.toNat

/-- A write of TRC.CTL.ENABLE: a 1 without a ring is ignored; a 1 sets NEXT to BASE (R465). -/
def Trc.setEnable (t : Trc) (b : Bool) : Trc :=
  if b then (if t.ringOk then { t with enable := true, next := t.base } else t) else { t with enable := false }

/-- TRC_ENABLE_WRITE (R465): a write of TRC.CTL. -/
def execTrcEnableWrite (site : SiteId) (enable mode : Bool) (src : BitVec 5) (s : State) : Result :=
  .next (s.updSite site.key (fun a => { a with trc := { (a.trc.setEnable enable) with mode := mode, src := src } }))

/-- One line of two records leaves the FIFO for the ring; at the ring's end the trace wraps or stops (R460). -/
def Trc.lineOut (t : Trc) : Trc :=
  let next := t.next + 64
  let t := { t with fifo := t.fifo.drop 2, next := next }
  if next.toNat + 64 ≤ t.bound.toNat then t
  else if t.mode then { t with enable := false, full := true }
  else { t with next := t.base, wrapped := true }

/-- A line can be written: n records stand in the FIFO and the ring has room for a line. -/
def Trc.lineReady (t : Trc) (n : Nat) : Bool :=
  decide (n ≤ t.fifo.length) && t.ringOk && decide (t.next.toNat + 64 ≤ t.bound.toNat)

/-- The oldest records of a FIFO that holds n or more, at most two, sent as a WRITE of one line; without a free TAG they stay. -/
def State.traceLines (s : State) (k n : Nat) : State :=
  let t := (s.site k).trc
  if t.lineReady n && (s.freeTag k).isSome then
    let rs := t.fifo.take 2
    (s.updSite k (fun a => { a with trc := a.trc.lineOut })).sendRequest k
      { owner := .trace rs.length, ptype := ptWrite, addr := t.next.toNat, len := 64
        payload := rs.flatMap (fun r => r.bytes k) ++ List.replicate (64 - 32 * rs.length) 0 }
  else s

/-- A line of two records written when two stand in the FIFO (R460). -/
def State.traceLine (s : State) (k : Nat) : State := s.traceLines k 2

/-- TRACE_LINE_WRITE (R460). -/
def execTraceLineWrite (site : SiteId) (s : State) : Result := .next (s.traceLine site.key)

/-- SYNC_MARKER (R461): the RMC's marker reaches every powered site, and each that traces records it. -/
def execSyncMarker (s : State) : Result :=
  let (t, s) := s.rmcNow
  let s := { s with trcSync := { s.trcSync with last := s.trcSync.last + 1 } }
  let n := s.trcSync.last
  .next (s.sites.foldl (fun (s : State) e =>
    if e.1 < 65536 && (s.site e.1).forwards then
      s.trace e.1 none 6 0xff (BitVec.ofNat 128 (n.toNat + t.toNat * 2 ^ 64))
    else s) s)

/-! ## The debug path (R462) -/

/-- The debug path is open in FACTORY and OWNED, and in RETURNED with DEBUG_OPEN bit 1. -/
def Sec.debugPath (c : Sec) : Bool := c.lc == 0 || c.lc == 1 || (c.lc == 3 && bit c.debugOpen 1)

/-- A debug access is made: the path is open, every slot quiet and every engine idle. -/
def State.debugOk (s : State) (k : Nat) : Bool := s.sec.debugPath && (s.site k).slotsQuiet && (s.site k).enginesIdle

/-- Number of the accumulator element of column 2 × PAIR that DBG_SEL names. -/
def Trc.debugElem (t : Trc) : Nat := 4096 * t.tile.toNat + 64 * t.row.toNat + 2 * t.pair.toNat

/-- The pair of elements that DBG_SEL names. -/
def Site.debugPair (a : Site) : W64 :=
  let e := a.trc.debugElem
  (Sparse.get 0 a.mx.acc (e + 1) : W32) ++ (Sparse.get 0 a.mx.acc e : W32)

/-- An access that is refused. -/
def State.debugDeny (s : State) (k : Nat) : State := s.updSite k (fun a => { a with trc := { a.trc with denied := true } })

/-- A read of TRC.DBG_DATA. -/
def State.debugRead (s : State) (k : Nat) : W64 × State :=
  if s.debugOk k then ((s.site k).debugPair, s) else (0, s.debugDeny k)

/-- A write of element i (0 or 1) of the pair. -/
def State.debugWrite (s : State) (k i : Nat) (v : W32) : State :=
  if s.debugOk k then
    s.updSite k (fun a => { a with mx := { a.mx with acc := Sparse.write 0 a.mx.acc (a.trc.debugElem + i) [v] } })
  else s.debugDeny k

/-- Control address of the CSR block of the unit with key k (R22, R171, R271). -/
def csrBase (k : Nat) : Nat :=
  if k < 65536 then 0x001000000000 + siteW k * 2 ^ 30 + siteY k * 2 ^ 23 + siteX k * 2 ^ 16
  else 0x000200000000 + (k - 65536) / 16 * 2 ^ 29 + 0x03000000 + (k - 65536) % 16 * 0x10000

/-- DBG_DATA_READ (R462). -/
def execDbgDataRead (site : SiteId) (s : State) : Result :=
  let (v, s) := s.debugRead site.key
  .next (s.emit (.regRead (csrBase site.key + 0x9048) v))

/-- DBG_DATA_WRITE (R462). -/
def execDbgDataWrite (site : SiteId) (value : W64) (s : State) : Result :=
  let k := site.key
  .next ((s.debugWrite k 0 (value.setWidth 32)).debugWrite k 1 (fld value 32 32))

end Sys2Proof.Machine
end

