-- ==== Sys2Proof/Machine/Ue.lean ====
section
/-! DEFINITION. Machine/Ue.lean: the update engines of the port complexes: layer entries, schedules, tasks, barriers and
releases (R252–R272). -/

namespace Sys2Proof.Machine

/-! ## Layer entries (R255, R256, R265) -/

def State.layer (s : State) (q n : Nat) : LayerEntry := Tbl.get (fun _ => {}) (s.pc q).ue.layers n
def State.updUe (s : State) (q : Nat) (f : UeCtl → UeCtl) : State := s.updPc q (fun c => { c with ue := f c.ue })
def State.updLayer (s : State) (q n : Nat) (f : LayerEntry → LayerEntry) : State :=
  s.updUe q (fun u => { u with layers := Tbl.set u.layers n (f (Tbl.get (fun _ => {}) u.layers n)) })

def LayerEntry.fld (x : LayerEntry) (w lo len : Nat) : Nat := bitsOf (vget 0 x.w w).toNat lo len

def LayerEntry.valid (x : LayerEntry) : Bool := x.fld 0 0 1 == 1
def LayerEntry.arrays (x : LayerEntry) : Bool := x.fld 0 1 1 == 1
def LayerEntry.shards (x : LayerEntry) : Nat := x.fld 0 2 4 + 1
def LayerEntry.group (x : LayerEntry) : Nat := x.fld 0 6 10
def LayerEntry.job (x : LayerEntry) : Nat := x.fld 0 16 12
def LayerEntry.touchLog2 (x : LayerEntry) : Nat := x.fld 0 32 5
def LayerEntry.elemOffset (x : LayerEntry) : Nat := x.fld 1 0 36
def LayerEntry.n (x : LayerEntry) : Nat := x.fld 2 0 36
def LayerEntry.slabM1 (x : LayerEntry) : Nat := x.fld 2 36 14
def LayerEntry.stateBase (x : LayerEntry) : Nat := x.fld 3 0 48
def LayerEntry.touchAddr (x : LayerEntry) : Nat := x.fld 4 0 48
def LayerEntry.maskAddr (x : LayerEntry) : Nat := x.fld 5 0 48
def LayerEntry.scaleRec (x : LayerEntry) : Nat := x.fld 6 0 48
def LayerEntry.versionAddr (x : LayerEntry) : Nat := x.fld 7 0 48
def LayerEntry.prog (x : LayerEntry) : Nat := x.fld 8 0 23
def LayerEntry.step (x : LayerEntry) : Nat := x.fld 9 0 32
def LayerEntry.applied (x : LayerEntry) : Nat := x.fld 9 32 32
def LayerEntry.skips (x : LayerEntry) : Nat := x.fld 10 0 32
def LayerEntry.arg (x : LayerEntry) : W64 := vget 0 x.w 11

/-- Bits of a word that a write sets (R255). -/
def layerMask (w : Nat) : W64 :=
  match w with
  | 0 => 0x1f0fffffff
  | 1 => 0xfffffffff
  | 2 => 0x3ffffffffffff
  | 3 | 4 | 5 | 6 | 7 => 0xffffffffffff
  | 8 => 0x7fffff
  | 9 | 11 => 0xffffffffffffffff
  | 10 => 0xffffffff
  | _ => 0

/-- U: touched units of the tensor (R265). -/
def LayerEntry.units (x : LayerEntry) : Nat := ceilDiv x.n (2 ^ x.touchLog2)

/-- Bytes of the state region of an entry (R265). -/
def LayerEntry.regionBytes (x : LayerEntry) : Nat :=
  let np := roundUp x.n 256
  let up := if x.touchAddr = 0 then 0 else roundUp x.units 16
  let sb := 512 * (x.slabM1 + 1)
  roundUp (8 * np + 4 * up) 512 + sb * ceilDiv x.n (sb - 64)

/-- A run of bytes lies within the populated range of one stack. -/
def inStack (a n : Nat) : Bool :=
  decide (0 < n) && hbmPopulated a && hbmPopulated (a + n - 1) && decide (stackOf a = stackOf (a + n - 1))

/-- Engines that UE.CTL enables. -/
def UeCtl.enabled (u : UeCtl) : Nat := popcount u.engines

/-- No rule of R256 refuses the entry. -/
def LayerEntry.ok (x : LayerEntry) (engines : Nat) : Bool :=
  decide (12 ≤ x.touchLog2) && decide (x.touchLog2 ≤ 28) && decide (1 ≤ x.n) && x.stateBase % 512 == 0 && x.touchAddr % 64 == 0
    && x.maskAddr % 64 == 0 && x.versionAddr % 64 == 0 && x.prog % 4 == 0 && decide (x.shards ≤ engines)
    && (!x.arrays || x.shards == 1) && (x.touchAddr == 0 || x.versionAddr != 0) && inStack x.stateBase x.regionBytes

/-- A write of a word of a layer entry (R255, R256). -/
def State.layerWrite (s : State) (q n w : Nat) (v : W64) : State :=
  let x := s.layer q n
  let refuse : State := s.updUe q (fun u => { u with entryRefused := true })
  if 12 ≤ w then s
  else if (if w = 0 then x.st ≠ 0 else x.valid) then refuse
  else
    let old := vget 0 x.w w
    let y := { x with w := vset x.w w ((old &&& ~~~(layerMask w)) ||| (v &&& layerMask w)) }
    if w = 0 ∧ y.valid = true ∧ y.ok (s.pc q).ue.enabled = false then refuse else s.updLayer q n (fun _ => y)

/-- LAYER_ENTRY_WRITE (R255, R256). -/
def execLayerEntryWrite (pc : Fin 8) (entry : BitVec 12) (word : Fin 16) (value : W64) (s : State) : Result :=
  .next (s.layerWrite pc.val entry.toNat word.val value)

/-- A word of a layer entry as it reads: STATE and LAST_CODE stand in words 0 and 10. -/
def LayerEntry.read (x : LayerEntry) (w : Nat) : W64 :=
  match w with
  | 0 => vget 0 x.w 0 ||| BitVec.ofNat 64 (x.st.toNat * 2 ^ 37)
  | 10 => vget 0 x.w 10 ||| BitVec.ofNat 64 (x.lastCode.toNat * 2 ^ 32)
  | _ => vget 0 x.w w

/-- A HELD job whose tasks have been made and all released goes on to its next round, unless UE.CTL.ENABLE = 0 holds it (R258, R262). -/
def State.leaveHeld (s : State) (q j : Nat) : State :=
  let x := s.job q j
  if (s.pc q).ue.enable ∧ x.st = .held ∧ x.tasked = true ∧ x.awaiting = [] then s.nextRound q j else s

/-- A write of UE.CTL: ignored where it leaves fewer engines than a VALID entry needs (R256). Setting ENABLE lets go the jobs that
only its being 0 held in HELD (R258). -/
def State.ueCtlWrite (s : State) (q : Nat) (enable : Bool) (engines : BitVec 16) : State :=
  if (s.pc q).ue.layers.any (fun e => e.2.valid && decide (popcount engines < e.2.shards)) then s
  else (s.pc q).red.jobs.foldl (fun s e => s.leaveHeld q e.1) (s.updUe q (fun u => { u with enable := enable, engines := engines }))

/-! ## Schedules (R259) -/

/-- (STEP, LR, WD, USER) of the points of a group, up to the first that is unused. -/
def schedPoints : Nat → List Byte → List (Nat × W32 × W32 × W32)
  | 0, _ => []
  | n + 1, bs =>
    let st := leNat (bs.take 4)
    let w (i : Nat) : W32 := BitVec.ofNat 32 (bytesAt bs i 4)
    if st = 0xffffffff then [] else (st, w 4, w 8, w 12) :: schedPoints n (bs.drop 16)

/-- The quotient a / b of two whole numbers rounded to FP32, for a below b. -/
def f32Ratio (a b : Nat) : W32 :=
  let q := a * 2 ^ 64 / b
  toF32 (.fin false (2 * q + (if a * 2 ^ 64 % b = 0 then 0 else 1)) (-65))

/-- One value at step s, v taking it from a point. -/
def schedValue (ps : List (Nat × W32 × W32 × W32)) (v : W32 × W32 × W32 → W32) (s : Nat) : W32 :=
  match ps.head?, ps.getLast? with
  | some a, some z =>
    if s ≤ a.1 then v a.2
    else if z.1 ≤ s then v z.2
    else
      let i := (ps.takeWhile (fun p => decide (p.1 ≤ s))).length - 1
      match ps[i]?, ps[i + 1]? with
      | some p, some r =>
        let d := f32Add (v r.2) (v p.2 ^^^ 0x80000000)
        f32Fma (f32Ratio (s - p.1) (r.1 - p.1)) d (v p.2)
      | _, _ => v z.2
  | _, _ => 0

/-- The bytes of HBM from addr on, read in blocks that do not cross a 512-byte boundary. -/
def State.readRun (s : State) (addr : Nat) : Nat → State × List Byte
  | 0 => (s, [])
  | n + 1 =>
    let (s, a) := s.hbmRead addr 512
    let (s, r) := s.readRun (addr + 512) n
    (s, a.bytes ++ r)

/-- LR, WD and USER of a group at a step; an empty schedule gives 0 and sets SCHED_EMPTY. -/
def State.schedule (s : State) (q group step : Nat) : State × W32 × W32 × W32 :=
  let (s, bs) := s.readRun ((s.pc q).ue.schedBase.toNat + 1024 * group) 2
  let ps := schedPoints 64 bs
  let s := if ps.isEmpty then s.updUe q (fun u => { u with schedEmpty := true }) else s
  (s, schedValue ps (fun v => v.1) step, schedValue ps (fun v => v.2.1) step, schedValue ps (fun v => v.2.2) step)

/-! ## Queueing (R257, R258) -/

/-- The flags of the round's pass records, ORed: NF, ABORT, CHECK_FAIL. -/
def State.recordFlags (s : State) (x : Job) : State × Bool × Bool × Bool :=
  (List.range x.passes).foldl (fun (acc : State × Bool × Bool × Bool) n =>
    let (t, a) := acc.1.hbmRead (x.recordAddr n) 64
    let f := bytesAt a.bytes 0 1
    let bad := decide (bytesAt a.bytes 40 1 ≠ 1) || decide (bytesAt a.bytes 32 2 ≠ x.round.toNat)
    (t, acc.2.1 || f % 16 != 0, acc.2.2.1 || bit (BitVec.ofNat 8 f) 4 || bad, acc.2.2.2 || bit (BitVec.ofNat 8 f) 5)) (s, false, false, false)

/-- S12 of a task: the round's touched buffer. DEDUCED 33: the round is the entry's STEP. -/
def LayerEntry.touched (x : LayerEntry) : Nat :=
  if x.touchAddr = 0 then 0 else x.touchAddr + roundUp (ceilDiv x.units 8) 64 * (x.step % 2)

/-- The entry reaches past the job's result (R257). -/
def LayerEntry.pastEnd (e : LayerEntry) (x : Job) : Bool := decide (x.passes * x.slotBytes < (e.elemOffset + e.n) * x.elem)

/-- One VALID entry of a job: its schedule evaluated, then a task, an array update that waits for its release line, or a RANGE fault.
DESIGN CHOICE 129: of an entry still RUNNING or FAULTED from a round that CLOSE or ABORT ended, STATE stays until that work is released;
its task waits behind it, and the fault or the array update is entered at that release. -/
def State.queueEntry (s : State) (q n : Nat) (x : Job) (flags : Bool × Bool × Bool) : State :=
  let e := s.layer q n
  let frozen := bit (vget 0 (s.pc q).ue.freeze (e.group / 64)) (e.group % 64)
  let (s, lr, wd, user) := s.schedule q e.group e.step
  if e.pastEnd x then (if e.st = 0 then s.entryFault q 2 n 0 0 else s)
  else if e.arrays then (if e.st = 0 then s.updLayer q n (fun e => { e with st := 1 }) else s)
  else
    let t : Task := { entry := n, nf := flags.1, abort := flags.2.1, checkFail := flags.2.2, frozen := frozen, lr := lr, wd := wd, user := user
                      staging := BitVec.ofNat 64 (x.staging + e.elemOffset * x.elem), touched := BitVec.ofNat 64 e.touched }
    (if e.st = 0 then s.updLayer q n (fun e => { e with st := 1 }) else s).updUe q (fun u => { u with queue := u.queue ++ [t] })

/-- UE_TASKS_QUEUED (R257, R258): a job has entered HELD, or ABORTED with a pass record of the round written. -/
def execUeTasksQueued (pc : Fin 8) (job : Fin 4096) (s : State) : Result :=
  let q := pc.val
  let j := job.val
  let x := s.job q j
  .next (if (s.pc q).ue.enable ∧ x.tasked = false ∧ (x.st = .held ∨ (x.st = .aborted ∧ x.recorded = true)) then
      let es := ((s.pc q).ue.layers.filter (fun e => e.2.valid && e.2.job == j)).map (fun e => e.1)
      let (s, nf, ab, cf) := s.recordFlags x
      let s := s.updJob q j (fun x => { x with tasked := true, awaiting := es })
      if es.isEmpty then
        if x.st = .held then (s.updUe q (fun u => { u with noEntry := true })).leaveHeld q j else s
      else es.foldl (fun s n => s.queueEntry q n x (nf, ab, cf)) s
    else s)

/-! ## Starting (R260, R261) -/

/-- Key of engine e of port complex q. -/
def ueKey (q e : Nat) : Nat := 65536 + 16 * q + e

/-- The enabled engines of a port complex that run no shard, lowest first. -/
def State.idleEngines (s : State) (q : Nat) : List Nat :=
  (List.range 16).filter (fun e => bit (s.pc q).ue.engines e && !(s.site (ueKey q e)).ue.active)

/-- First element and count of shard i of S over N elements (R261). -/
def shardSpan (n shards i : Nat) : Nat × Nat :=
  let qs := ceilDiv n 4096
  let a := min n (4096 * (qs * i / shards))
  let b := min n (4096 * (qs * (i + 1) / shards))
  (a, b - a)

/-- The registers of an engine that starts a shard (R260). -/
def shardRegs (t : Task) (e : LayerEntry) (i : Nat) : Vector W64 32 :=
  let sp := shardSpan e.n e.shards i
  let w (n : Nat) : W64 := BitVec.ofNat 64 n
  let s1 := w (t.entry + i * 2 ^ 16 + (e.shards - 1) * 2 ^ 20 + b2n t.nf * 2 ^ 24 + b2n t.abort * 2 ^ 25 + b2n t.checkFail * 2 ^ 26 + b2n t.frozen * 2 ^ 27)
  #v[0, s1, w sp.1, w sp.2, t.lr.setWidth 64, t.wd.setWidth 64, t.user.setWidth 64, w e.step, w e.applied, t.staging, w e.stateBase, w e.n,
     t.touched, w e.maskAddr, w e.scaleRec, w e.versionAddr, w e.slabM1, e.arg, 0, 0, 0, 0, 0, 0, 0, 0, 0, 0, 0, 0, 0, 0]

/-- An engine starts shard i of a task. -/
def Site.startShard (a : Site) (t : Task) (e : LayerEntry) (i : Nat) : Site :=
  { (a.updSlot 0 (fun x => { x with
      st := .ready, regs := shardRegs t e i, pc := BitVec.ofNat 64 e.prog, block := .nothing, stopping := false, vl := 64, vlDone := 64
      faultCode := 0, faultCommand := false, faultPc := 0 })) with
    ue := { entry := BitVec.ofNat 12 t.entry, shard := BitVec.ofNat 4 i, active := true } }

/-- UE_TASK_START (R260): the head task starts when enough enabled engines are idle at once. DESIGN CHOICE 129: it waits while its
entry is not QUEUED, since work of an ended round still holds it. -/
def execUeTaskStart (pc : Fin 8) (s : State) : Result :=
  let q := pc.val
  .next (match (s.pc q).ue.queue with
    | [] => s
    | t :: rest =>
      let e := s.layer q t.entry
      let idle := s.idleEngines q
      if (s.pc q).ue.enable ∧ e.st = 1 ∧ e.shards ≤ idle.length then
        let s := (s.updUe q (fun u => { u with queue := rest })).updLayer q t.entry (fun e => { e with st := 2 })
        (List.range e.shards).foldl (fun s i => s.updSite (ueKey q (idle.getD i 0)) (fun a => a.startShard t e i)) s
      else s)

/-! ## Barriers and exchange (R262, R272) -/

/-- The engines that run the shards of engine k's task. -/
def State.taskMates (s : State) (k : Nat) : List Nat :=
  let q := (k - 65536) / 16
  ((List.range 16).map (ueKey q)).filter (fun k' => (s.site k').ue.active && (s.site k').ue.entry == (s.site k).ue.entry)

/-- UE.BARRIER as it reads: the least arrival count of the task's shards. -/
def State.barrierRead (s : State) (k : Nat) : Nat :=
  (s.taskMates k).foldl (fun m k' => min m (s.site k').ue.barrier.toNat) (s.site k).ue.barrier.toNat

/-- UE.XCHG_i_w as engine k reads it: exchange word w of shard i of its task. -/
def State.xchgRead (s : State) (k i w : Nat) : W64 :=
  match (s.taskMates k).find? (fun k' => (s.site k').ue.shard.toNat == i) with
  | some k' => vget 0 (s.site k').ue.xchg w
  | none => 0

/-- A write of UE.BARRIER. -/
def Site.barrierArrive (a : Site) : Site := { a with ue := { a.ue with barrier := a.ue.barrier + 1 } }

/-- UE_BARRIER (R262). -/
def execUeBarrier (pc : Fin 8) (e : Fin 16) (s : State) : Result := .next (s.updSite (ueKey pc.val e.val) Site.barrierArrive)

/-! ## Releasing (R262–R264, R270) -/

/-- The counters of an entry after a release with a code: STEP and the code's own count advance, but for code 0. -/
def LayerEntry.release (x : LayerEntry) (code : Nat) : LayerEntry :=
  let one (w : W64) (lo : Nat) : W64 :=
    let f := (Machine.fld w lo 32 + 1).setWidth 64 <<< lo
    (w &&& ~~~((0xffffffff : W64) <<< lo)) ||| f
  let w9 := vget 0 x.w 9
  let w9 := if code = 0 then w9 else one w9 0
  let w9 := if code = 1 then one w9 32 else w9
  let w10 := if code = 2 then one (vget 0 x.w 10) 0 else vget 0 x.w 10
  { x with w := vset (vset x.w 9 w9) 10 w10, lastCode := BitVec.ofNat 3 code, st := 0, orphan := false }

/-- What a later round asked of entry n while work of an ended round held it (DESIGN CHOICE 129). -/
def State.resumeEntry (s : State) (q n : Nat) : State :=
  let e := s.layer q n
  let x := s.job q e.job
  if x.awaiting.contains n then
    if e.pastEnd x then s.entryFault q 2 n 0 0 else s.updLayer q n (fun e => { e with st := 1 })
  else s

/-- Entry n released with a code: the counts of UE.COUNT, and the job it was awaited by goes on when it was the last. Work of a round
that CLOSE or ABORT ended has no effect on the job (R264). -/
def State.releaseEntry (s : State) (q n code : Nat) : State :=
  let j := (s.layer q n).job
  let orphan := (s.layer q n).orphan
  let s := (s.updLayer q n (fun e => e.release code)).updUe q (fun u => { u with
    tasks := satAdd u.tasks 1, skips := if code = 2 then satAdd u.skips 1 else u.skips
    noTouch := if code = 4 then satAdd u.noTouch 1 else u.noTouch })
  if orphan then s.resumeEntry q n
  else if (s.job q j).awaiting.contains n then (s.updJob q j (fun x => { x with awaiting := x.awaiting.filter (fun m => m != n) })).leaveHeld q j
  else s

/-- The engines of a task are idle again. -/
def State.freeEngines (s : State) (q n : Nat) : State :=
  (List.range 16).foldl (fun (s : State) e =>
    let u := (s.site (ueKey q e)).ue
    if u.active && u.entry.toNat == n then s.updSite (ueKey q e) (fun a => { a with ue := { a.ue with active := false } }) else s) s

/-- A write of UE.RELEASE by engine k with a code of R262; a second write in one task is ignored. -/
def State.ueRelease (s : State) (k : Nat) (code : BitVec 3) : State :=
  let u := (s.site k).ue
  let q := (k - 65536) / 16
  if u.active ∧ u.released = none ∧ 1 ≤ code.toNat ∧ code.toNat ≤ 4 then
    let s := s.updSite k (fun a => { a with ue := { a.ue with released := some (code.setWidth 8) } })
    let mates := s.taskMates k
    if mates.all (fun k' => (s.site k').ue.released.isSome) then
      let c := ((mates.find? (fun k' => (s.site k').ue.shard == 0)).bind (fun k' => (s.site k').ue.released)).getD 0
      (s.freeEngines q u.entry.toNat).releaseEntry q u.entry.toNat c.toNat
    else s
  else s

/-- UE_RELEASE (R262). -/
def execUeRelease (pc : Fin 8) (e : Fin 16) (code : BitVec 3) (s : State) : Result := .next (s.ueRelease (ueKey pc.val e.val) code)

/-- UE_RELEASE_LINE (R270): an array's WRITE to a release line: acknowledged, and it releases an array update that waits. -/
def execUeReleaseLine (pc : Fin 8) (p : Packet) (s : State) : Result :=
  let q := pc.val
  let base := 0x000200000000 + q * 2 ^ 29 + 0x02080000
  let n := (p.addr.toNat - base) / 64
  .next (if (s.pc q).arrived.contains p ∧ p.ptype = ptWrite ∧ base ≤ p.addr.toNat ∧ n < 4096 then
      let s := s.updPc q (fun c => { c with arrived := c.arrived.erase p })
      let code := bytesAt p.payload 0 4
      let e := s.layer q n
      let s := if e.arrays ∧ e.st = 1 ∧ 1 ≤ code ∧ code ≤ 4 then s.releaseEntry q n code
        else s.updUe q (fun u => { u with releaseIgnored := true })
      s.sendService (.pc pc) (p.answer ptWriteAck stOk [] false)
    else s)

/-- ABANDON (R263): a FAULTED entry is released with code 0 and its engines are free. -/
def State.ueAbandon (s : State) (q n : Nat) : State :=
  if (s.layer q n).st = 3 then (s.freeEngines q n).releaseEntry q n 0 else s

/-- UE_ABANDON (R263). -/
def execUeAbandon (pc : Fin 8) (entry : BitVec 12) (s : State) : Result := .next (s.ueAbandon pc.val entry.toNat)

/-! ## The end of a job (R234, R264) -/

/-- CLOSE or ABORT of a job: its queued tasks are removed and their entries return to IDLE; what runs or has faulted will be released
without effect on the job (R264). -/
def State.dropTasks (s : State) (q j : Nat) : State :=
  let mine (n : Nat) : Bool := (s.layer q n).job == j
  let s := s.updUe q (fun u => { u with
    queue := u.queue.filter (fun t => !mine t.entry)
    layers := u.layers.map (fun e => (e.1, if !mine e.1 || e.2.st == 0 then e.2 else if e.2.st == 1 then { e.2 with st := 0 } else { e.2 with orphan := true })) })
  s.updJob q j (fun x => { x with awaiting := [] })

/-- CLOSE. -/
def State.redClose (s : State) (q j : Nat) : State × Nat :=
  let st := (s.job q j).st
  if st = .opened ∨ st = .held ∨ st = .aborted then ((s.dropTasks q j).freeJob q j, resOk) else (s, resState)

/-- ABORT: slot contents are dropped, and no further grant or packet is sent. -/
def State.redAbort (s : State) (q j : Nat) : State × Nat :=
  let st := (s.job q j).st
  if st = .running ∨ st = .held then
    (((s.dropTasks q j).dropCopies q j).updJob q j (fun x => { x with st := .aborted, chunks := [], grants := x.grants.map (fun g => { g with owed := 0 }) }), resOk)
  else (s, resState)

/-- RED_CLOSE (R234). -/
def execRedClose (pc : Fin 8) (job : Fin 4096) (s : State) : Result :=
  .next (s.redResult pc.val job.val (s.redClose pc.val job.val))

/-- RED_ABORT (R234). -/
def execRedAbort (pc : Fin 8) (job : Fin 4096) (s : State) : Result :=
  .next (s.redResult pc.val job.val (s.redAbort pc.val job.val))

end Sys2Proof.Machine
end

