-- ==== Sys2Proof/Machine/ArrayRegs.lean ====
section
/-! DEFINITION. Machine/ArrayRegs.lean: how registers are read and written by the access codes of their fields, and the
registers of an array's or an update engine's CSR block (R2–R4, R46, R79, R98, R116, R131, R168, R198, R226, R251, R272,
R401, R465, R479). -/

namespace Sys2Proof.Machine

/-! ## Fields and registers (R2, R479) -/

/-- The access codes of R2 that the register tables use. -/
inductive Access where
  | ro | rw | wo | w1c | rc
  deriving DecidableEq, Repr

/-- A field of a register: its place, its access code, its value, and what a write (RW, WO), a 1 written (W1C) or a read
(RC) does. For W1C and RC, `put` takes the mask of the bits cleared. -/
structure RegField where
  lo : Nat
  len : Nat
  acc : Access
  get : State → Nat
  put : Nat → State → State

/-- A register: its fields, what a read does first, whether a write is taken, and what a write that is not taken does. -/
structure Reg where
  fields : List RegField
  before : State → State := id
  may : State → Bool := fun _ => true
  refused : State → State := id

/-- The part of a 64-bit register that an access covers (R345, R479). -/
inductive Half where
  | whole | low | high
  deriving DecidableEq, Repr

def Half.lo : Half → Nat
  | .high => 32
  | _ => 0

def Half.len : Half → Nat
  | .whole => 64
  | _ => 32

/-- Mask, within a field, of the bits that an access covers. -/
def RegField.cover (f : RegField) (h : Half) : Nat :=
  (List.range f.len).foldl (fun m i => if h.lo ≤ f.lo + i ∧ f.lo + i < h.lo + h.len then m + 2 ^ i else m) 0

/-- Bits of the field that value v, as written to the covered part, brings. -/
def RegField.bitsIn (f : RegField) (h : Half) (v : W64) : Nat :=
  bitsOf (v.toNat * 2 ^ h.lo) f.lo f.len &&& f.cover h

/-- The effect of a write on one field (R2, R479). -/
def RegField.write (f : RegField) (h : Half) (v : W64) (s : State) : State :=
  let m := f.cover h
  let b := f.bitsIn h v
  match f.acc with
  | .ro => s
  | .rc => s
  | .rw => if m = 0 then s else f.put (b + (f.get s % 2 ^ f.len - (f.get s % 2 ^ f.len &&& m))) s
  | .wo => if m + 1 = 2 ^ f.len then f.put b s else s
  | .w1c => if b = 0 then s else f.put b s

/-- The write of a register. -/
def Reg.write (r : Reg) (h : Half) (v : W64) (s : State) : State :=
  if r.may s then r.fields.foldl (fun s f => f.write h v s) s else r.refused s

/-- The whole value of a register. -/
def Reg.value (r : Reg) (s : State) : Nat :=
  (r.fields.map (fun f => if f.acc = .wo then 0 else f.get s % 2 ^ f.len * 2 ^ f.lo)).sum

/-- The read of a register: the value of the covered part, with its RC fields cleared (R2, R3). -/
def Reg.read (r : Reg) (h : Half) (s : State) : W64 × State :=
  let s := r.before s
  (BitVec.ofNat 64 (bitsOf (r.value s) h.lo h.len),
   r.fields.foldl (fun s f => if f.acc = .rc ∧ f.cover h ≠ 0 then f.put (f.cover h) s else s) s)

/-- A register with the given fields. -/
def reg (fs : List RegField) : Reg := { fields := fs }

def ro (lo len : Nat) (get : State → Nat) : RegField := ⟨lo, len, .ro, get, fun _ s => s⟩
def rw (lo len : Nat) (get : State → Nat) (put : Nat → State → State) : RegField := ⟨lo, len, .rw, get, put⟩
def wo (lo len : Nat) (put : Nat → State → State) : RegField := ⟨lo, len, .wo, fun _ => 0, put⟩
def w1c (lo len : Nat) (get : State → Nat) (put : Nat → State → State) : RegField := ⟨lo, len, .w1c, get, put⟩
def rc (lo len : Nat) (get : State → Nat) (put : Nat → State → State) : RegField := ⟨lo, len, .rc, get, put⟩

/-- The bits of x that are not in the mask m. -/
def clearBits (x m : Nat) : Nat := x - (x &&& m)

/-- A field whose W1C clears only on all ones: STATUS and REJECT of DMA.STAT_e and WS.STAT. -/
def w1all (lo : Nat) (get : State → Nat) (clear : State → State) : RegField :=
  w1c lo 3 get (fun m s => if m = 7 then clear s else s)

/-- A one-bit W1C field. -/
def w1bit (lo : Nat) (get : State → Bool) (clear : State → State) : RegField := w1c lo 1 (fun s => b2n (get s)) (fun _ s => clear s)

/-! ## ARRAY (R46) -/

/-- SLOT_STATE of R46. -/
def SlotState.code : SlotState → Nat
  | .idle => 0
  | .ready => 1
  | .blocked => 2
  | .halted => 3
  | .faulted => 4

/-- A value of each of the four slots, len bits apiece. -/
def perSlot (len : Nat) (f : Fin 4 → Nat) : Nat :=
  f 0 + f 1 * 2 ^ len + f 2 * 2 ^ (2 * len) + f 3 * 2 ^ (3 * len)

/-- Fields of a site's own state. -/
def sro (k lo len : Nat) (g : Site → Nat) : RegField := ro lo len (fun s => g (s.site k))
def srw (k lo len : Nat) (g : Site → Nat) (p : Nat → Site → Site) : RegField :=
  rw lo len (fun s => g (s.site k)) (fun v s => s.updSite k (p v))
def sw1 (k lo : Nat) (g : Site → Bool) (p : Site → Site) : RegField := w1bit lo (fun s => g (s.site k)) (fun s => s.updSite k p)
def src (k lo len : Nat) (g : Site → Nat) (p : Site → Site) : RegField :=
  rc lo len (fun s => g (s.site k)) (fun _ s => s.updSite k p)

/-- ARRAY.ID: an update engine's fields are per engine, and the spec does not give them (log entry 40). -/
def arrayId (k : Nat) : W64 :=
  if k < 65536 then BitVec.ofNat 64 (siteX k + siteY k * 2 ^ 8 + siteW k * 2 ^ 16 + b2n (isSpare k) * 2 ^ 18) else Config.ueId k

/-- A window or range register of unit k: written under R112. -/
def guarded (k : Nat) (fs : List RegField) : Reg :=
  { fields := fs
    may := fun s => (s.site k).windowsWritable
    refused := fun s => s.updSite k (fun a => { a with spad := { a.spad with writeRefused := true } }) }

/-- f applied to HBM range n. -/
def Site.updHbm (a : Site) (n : Nat) (f : HbmRange → HbmRange) : Site := { a with hbm := vset a.hbm n (f (vget {} a.hbm n)) }

/-- Fields of an HBM_BASE word, for any holder of ranges. -/
def hbmBaseFields (get : State → HbmRange) (upd : (HbmRange → HbmRange) → State → State) : List RegField :=
  [rw 0 1 (fun s => b2n (get s).enable) (fun v => upd (fun r => { r with enable := v == 1 })),
   rw 1 1 (fun s => b2n (get s).writeEn) (fun v => upd (fun r => { r with writeEn := v == 1 })),
   rw 20 28 (fun s => (get s).base.toNat) (fun v => upd (fun r => { r with base := BitVec.ofNat 28 v }))]

/-- Fields of an HBM_BOUND word. -/
def hbmBoundFields (get : State → HbmRange) (upd : (HbmRange → HbmRange) → State → State) : List RegField :=
  [rw 20 28 (fun s => (get s).bound.toNat) (fun v => upd (fun r => { r with bound := BitVec.ofNat 28 v }))]

/-- Registers of the ARRAY block. -/
def arrayBlock (k off : Nat) : Option Reg :=
  if off = 0 then some (reg [ro 0 64 (fun _ => (arrayId k).toNat)])
  else if off = 8 then
    (if k < 65536 then some (reg [sro k 0 7 (fun a => a.lcol.toNat), sro k 8 7 (fun a => a.lrow.toNat), sro k 16 1 (fun a => b2n a.mapValid)])
     else none)
  else if off = 0x10 then some (reg [
    srw k 0 1 (fun a => b2n a.faultStop) (fun v a => { a with faultStop := v == 1 }),
    wo 1 1 (fun v s => if v = 1 then s.updSite k (fun a => a.haltAll false) else s),
    srw k 8 8 (fun a => a.wdog.toNat) (fun v a => if 20 ≤ v ∧ v ≤ 40 then { a with wdog := BitVec.ofNat 8 v } else a)])
  else if off = 0x18 then some (reg [
    sro k 0 12 (fun a => perSlot 3 (fun n => a.slots[n].st.code)), sro k 12 1 (fun a => b2n a.enginesIdle),
    sro k 13 1 (fun a => b2n a.fenced), sro k 14 1 (fun a => b2n a.parked)])
  else if off = 0x20 then some (reg [
    w1c 0 16 (fun s => (s.site k).pending.toNat)
      (fun m s => s.updSite k (fun a => { a with pending := BitVec.ofNat 16 (clearBits a.pending.toNat m) })),
    sro k 16 8 (fun a => a.firstCode.toNat), sro k 24 2 (fun a => a.firstSlot.toNat)])
  else if 0x40 ≤ off ∧ off < 0xc0 then
    let n := (off - 0x40) / 16
    let get (s : State) : HbmRange := vget {} (s.site k).hbm n
    let upd (f : HbmRange → HbmRange) (s : State) : State := s.updSite k (fun a => a.updHbm n f)
    some (guarded k (if off % 16 = 0 then hbmBaseFields get upd else hbmBoundFields get upd))
  else none

/-! ## CC (R46, R226, R251) -/

/-- A write of CC.TASK_CTL_n.START and STOP: with both set it acts on neither (R51). -/
def State.taskCtl (s : State) (k : Nat) (n : Fin 4) (v : Nat) : State :=
  if v = 2 then s.updSite k (fun a => a.stopSlot n false)
  else if v = 1 ∧ s.slotPowered k n = true then s.updSlot k n Slot.start
  else s

/-- A field of slot n. -/
def slotRw (k : Nat) (n : Fin 4) (lo len : Nat) (g : Slot → Nat) (p : Nat → Slot → Slot) : RegField :=
  rw lo len (fun s => g (s.slot k n)) (fun v s => s.updSlot k n (p v))

/-- The registers of slot n. -/
def slotRegs (k : Nat) (n : Fin 4) (off : Nat) : Option Reg :=
  if off = 0 then some (reg [
    wo 0 2 (fun v s => s.taskCtl k n v),
    slotRw k n 2 1 (fun x => b2n x.autostart) (fun v x => { x with autostart := v == 1 }),
    slotRw k n 3 3 (fun x => x.homeWin.toNat) (fun v x => { x with homeWin := BitVec.ofNat 3 v }),
    slotRw k n 8 8 (fun x => x.winMask.toNat) (fun v x => { x with winMask := BitVec.ofNat 8 v })])
  else if off = 8 then some (reg [
    slotRw k n 2 21 (fun x => x.pc.toNat / 4) (fun v x => if x.quiet then { x with pc := BitVec.ofNat 64 (4 * v) } else x)])
  else if off = 0x10 then some (reg [
    ro 0 8 (fun s => (s.slot k n).faultCode.toNat), ro 8 1 (fun s => b2n (s.slot k n).faultCommand),
    ro 32 23 (fun s => (s.slot k n).faultPc.toNat)])
  else none

/-- A write of CC.SQ_QUOTA. -/
def Site.quotaWrite (a : Site) (v : Nat) : Site :=
  let q (n : Fin 4) : Nat := bitsOf v (6 * n.val) 6
  if q 0 + q 1 + q 2 + q 3 ≤ 32 ∧ a.slots.toList.all (fun x => x.st == .idle || x.st == .halted) = true then
    { a with slots := Vector.ofFn (fun n => { a.slots[n] with quota := BitVec.ofNat 6 (q n) }) }
  else a

/-- The summary, completion, tempo and grant registers. -/
def ccRegs (k off : Nat) : Option Reg :=
  if off = 0x2000 then some (reg [
    sro k 0 24 (fun a => perSlot 6 (fun n => a.slots[n].summaries.length)), sro k 24 24 (fun a => perSlot 6 (fun n => a.inFlight n))])
  else if off = 0x2008 then some (reg [srw k 0 24 (fun a => perSlot 6 (fun n => a.slots[n].quota.toNat)) (fun v a => a.quotaWrite v)])
  else if 0x2100 ≤ off ∧ off < 0x2120 then some (reg [sro k 0 32 (fun a => (vget 0 a.qdone ((off - 0x2100) / 8)).toNat)])
  else if 65536 ≤ k then none
  else if off = 0x2200 then some (reg [
    srw k 0 32 (fun a => a.tempo.current.toNat) (fun v a => a.tempoWrite (BitVec.ofNat 32 v)),
    wo 32 4 (fun v s => s.updSite k (fun a => a.tempoEnd (BitVec.ofNat 4 v))),
    sro k 36 4 (fun a => a.tempo.arrived.toNat), sro k 40 1 (fun a => b2n a.tempo.forced)])
  else if off = 0x2208 then some (reg [sro k 0 4 (fun a => a.tempo.slots.toNat), sro k 32 32 (fun a => a.tempo.period.toNat)])
  else if off = 0x2210 then some (reg [
    sro k 0 32 (fun a => a.tempo.target.toNat), sro k 32 1 (fun a => b2n a.tempo.armed), sro k 33 1 (fun a => b2n a.tempo.valid),
    sro k 34 1 (fun a => b2n a.tempo.atBoundary)])
  else if 0x2300 ≤ off ∧ off < 0x2340 then
    let n := (off - 0x2300) / 8
    let upd (f : RGrant → RGrant) (a : Site) : Site := { a with rgrant := vset a.rgrant n { f (vget {} a.rgrant n) with granted := 0 } }
    some (reg [
      srw k 0 12 (fun a => (vget {} a.rgrant n).job.toNat) (fun v => upd (fun r => { r with job := BitVec.ofNat 12 v })),
      srw k 12 3 (fun a => (vget {} a.rgrant n).pc.toNat) (fun v => upd (fun r => { r with pc := BitVec.ofNat 3 v })),
      srw k 15 1 (fun a => b2n (vget {} a.rgrant n).en) (fun v => upd (fun r => { r with en := v == 1 })),
      sro k 16 32 (fun a => (vget {} a.rgrant n).granted.toNat)])
  else if off = 0x2340 then some (reg [src k 0 16 (fun a => a.rgrantMiss.toNat) (fun a => { a with rgrantMiss := 0 })])
  else none

/-! ## DMA and weight streamer (R46, R198) -/

/-- f applied to DMA engine e. -/
def Site.updDma (a : Site) (e : Fin 2) (f : DmaEng → DmaEng) : Site := { a with dma := a.dma.set e (f a.dma[e]) }

/-- Reads of DMA engine e that are outstanding. -/
def Site.dmaReads (a : Site) (e : Fin 2) : Nat :=
  a.reqs.countP (fun r => (match r.owner with | .dma e' _ => e' == e | _ => false) && r.ptype == ptReadReq)

/-- The registers of DMA engine e. -/
def dmaRegs (k : Nat) (e : Fin 2) (off : Nat) : Option Reg :=
  if off = 0 then some (reg [srw k 0 1 (fun a => b2n a.dma[e].errFault) (fun v a => a.updDma e (fun d => { d with errFault := v == 1 }))])
  else if off = 8 then some (reg [
    sro k 0 8 (fun a => a.dmaReads e),
    w1all 8 (fun s => (s.site k).dma[e].status.toNat) (fun s => s.updSite k (fun a => a.updDma e (fun d => { d with status := 0 }))),
    w1all 11 (fun s => (s.site k).dma[e].reject.toNat) (fun s => s.updSite k (fun a => a.updDma e (fun d => { d with reject := 0 }))),
    sro k 16 8 (fun a => a.dma[e].tag.toNat),
    src k 32 32 (fun a => a.dma[e].indexSkips.toNat) (fun a => a.updDma e (fun d => { d with indexSkips := 0 }))])
  else none

/-- Reads of the streamer that are outstanding. -/
def Site.wsReads (a : Site) : Nat := a.reqs.countP (fun r => match r.owner with | .streamer _ _ => true | _ => false)

def Site.updWs (a : Site) (f : Ws → Ws) : Site := { a with ws := f a.ws }

/-- The registers of the weight streamer, WS.KICK apart. -/
def wsRegs (k off : Nat) : Option Reg :=
  if off = 0x3208 then some (reg [
    srw k 0 1 (fun a => b2n a.ws.staleStop) (fun v a => a.updWs (fun w => { w with staleStop := v == 1 })),
    srw k 8 16 (fun a => a.ws.retryDelay.toNat) (fun v a => a.updWs (fun w => { w with retryDelay := BitVec.ofNat 16 v }))])
  else if off = 0x3210 then some (reg [
    sro k 0 8 (fun a => a.wsReads),
    w1all 8 (fun s => (s.site k).ws.status.toNat) (fun s => s.updSite k (fun a => a.updWs (fun w => { w with status := 0 }))),
    w1all 11 (fun s => (s.site k).ws.reject.toNat) (fun s => s.updSite k (fun a => a.updWs (fun w => { w with reject := 0 }))),
    sro k 14 3 (fun a => a.ws.kicks.length), sro k 24 8 (fun a => a.ws.tag.toNat),
    src k 32 16 (fun a => a.ws.refetches.toNat) (fun a => a.updWs (fun w => { w with refetches := 0 }))])
  else if off = 0x3218 then some (reg [sro k 0 32 (fun a => a.ws.done.toNat)])
  else none

/-! ## SPW (R116) -/

def Site.updWin (a : Site) (n : Nat) (f : Window → Window) : Site :=
  { a with spad := { a.spad with win := vset a.spad.win n (f (vget {} a.spad.win n)) } }

def Site.updSpad (a : Site) (f : Spad → Spad) : Site := { a with spad := f a.spad }

/-- Registers of the SPW block. -/
def spwRegs (k off : Nat) : Option Reg :=
  if off < 0x80 then
    let n := off / 16
    if off % 16 = 0 then some (guarded k [
      srw k 0 1 (fun a => b2n (vget {} a.spad.win n).enable) (fun v a => a.updWin n (fun w => { w with enable := v == 1 })),
      sro k 1 1 (fun a => b2n (vget {} a.spad.win n).resident),
      srw k 2 1 (fun a => b2n (vget {} a.spad.win n).remoteEn) (fun v a => a.updWin n (fun w => { w with remoteEn := v == 1 })),
      srw k 12 11 (fun a => (vget {} a.spad.win n).base.toNat) (fun v a => a.updWin n (fun w => { w with base := BitVec.ofNat 11 v }))])
    else some (guarded k [
      srw k 12 12 (fun a => (vget {} a.spad.win n).bound.toNat)
        (fun v a => if v ≤ (if k < 65536 then 0x800 else 0x200) then a.updWin n (fun w => { w with bound := BitVec.ofNat 12 v }) else a)])
  else if off = 0x100 then some (reg [
    srw k 0 8 (fun a => a.spad.age.toNat) (fun v a => if 4 ≤ v then a.updSpad (fun m => { m with age := BitVec.ofNat 8 v }) else a)])
  else if off = 0x108 then some (reg [
    sw1 k 0 (fun a => a.spad.writeRefused) (fun a => a.updSpad (fun m => { m with writeRefused := false })),
    sro k 1 1 (fun a => b2n a.spad.clearing), sro k 2 1 (fun a => b2n a.spad.retained)])
  else if off = 0x110 then some (reg [
    src k 0 16 (fun a => a.spad.corrected.toNat) (fun a => a.updSpad (fun m => { m with corrected := 0 })),
    sw1 k 16 (fun a => a.spad.ue) (fun a => a.updSpad (fun m => { m with ue := false })),
    sro k 32 23 (fun a => a.spad.ueAddr.toNat)])
  else if off = 0x118 then some (reg [src k 0 32 (fun a => a.spad.conflict.toNat) (fun a => a.updSpad (fun m => { m with conflict := 0 }))])
  else if off = 0x120 then
    some (reg [src k 0 32 (fun a => a.spad.agePromote.toNat) (fun a => a.updSpad (fun m => { m with agePromote := 0 }))])
  else none

/-! ## MX and VX (R79, R98) -/

def Site.updMx (a : Site) (f : Mx → Mx) : Site := { a with mx := f a.mx }
def Site.updVx (a : Site) (f : Vx → Vx) : Site := { a with vx := f a.vx }

/-- f applied to a fused-output descriptor. -/
def Site.updFod (a : Site) (n : Nat) (f : Fod → Fod) : Site := a.updMx (fun m => { m with fod := vset m.fod n (f (vget {} m.fod n)) })

/-- An entry that its engine has started and that is not complete. -/
def QEntry.runs (e : QEntry) : Bool := e.phase == .running || e.phase == .drainWait || e.phase == .ran

/-- Registers of the MX block. DESIGN CHOICE 150: MX.STAT.CUR_ACC keeps the tile of the last MMA, DRAIN or ZERO while no command or an
LDTAB runs; the spec gives it for the tile of the running command alone. -/
def mxRegs (k off : Nat) : Option Reg :=
  if off = 0 then some (reg [
    sro k 0 1 (fun a => b2n a.mx.accMode),
    srw k 1 1 (fun a => b2n a.mx.ieeeOvfAllow) (fun v a => a.updMx (fun m => { m with ieeeOvfAllow := v == 1 })),
    srw k 2 1 (fun a => b2n a.mx.intSat) (fun v a => a.updMx (fun m => { m with intSat := v == 1 }))])
  else if off = 8 then some (reg [
    sro k 0 1 (fun a => b2n (a.queues[(0 : Fin 4)].any QEntry.runs)),
    sro k 1 1 (fun a => b2n (a.queues[(0 : Fin 4)].any (fun e => e.runs && e.phase != .running && mxDrains e.bits))),
    sro k 2 6 (fun a => a.mx.curAcc.toNat),
    sw1 k 8 (fun a => a.mx.nan) (fun a => a.updMx (fun m => { m with nan := false })),
    sw1 k 9 (fun a => a.mx.inf) (fun a => a.updMx (fun m => { m with inf := false })),
    sw1 k 10 (fun a => a.mx.sat) (fun a => a.updMx (fun m => { m with sat := false })),
    sw1 k 11 (fun a => a.mx.intWrap) (fun a => a.updMx (fun m => { m with intWrap := false }))])
  else if off = 0x10 then some (reg [sro k 0 64 (fun a => a.mx.accType.toNat)])
  else if 0x40 ≤ off ∧ off < 0x80 then
    let n := (off - 0x40) / 8
    let upd (f : Amax → Amax) (a : Site) : Site := a.updMx (fun m => { m with amax := vset m.amax n (f (vget {} m.amax n)) })
    some (reg [src k 0 32 (fun a => (vget {} a.mx.amax n).value.toNat) (upd (fun x => { x with value := 0 })),
               src k 32 1 (fun a => b2n (vget {} a.mx.amax n).nan) (upd (fun x => { x with nan := false }))])
  else if 0x100 ≤ off ∧ off < 0x500 then
    let n := (off - 0x100) / 32
    match (off - 0x100) % 32 with
    | 0 => some (reg [srw k 0 49 (fun a => (vget {} a.mx.fod n).w0.toNat) (fun v a => a.updFod n (fun d => { d with w0 := BitVec.ofNat 64 v }))])
    | 8 => some (reg [srw k 0 34 (fun a => (vget {} a.mx.fod n).w1.toNat) (fun v a => a.updFod n (fun d => { d with w1 := BitVec.ofNat 64 v }))])
    | 16 => some (reg [srw k 0 48 (fun a => (vget {} a.mx.fod n).w2.toNat) (fun v a => a.updFod n (fun d => { d with w2 := BitVec.ofNat 64 v }))])
    | _ => none
  else none

/-- Registers of the VX block. -/
def vxRegs (k off : Nat) : Option Reg :=
  if off = 0 then some (reg [
    srw k 0 1 (fun a => b2n a.vx.ieeeOvfAllow) (fun v a => a.updVx (fun x => { x with ieeeOvfAllow := v == 1 }))])
  else if off = 8 then some (reg [
    w1c 0 7 (fun s => (s.site k).vx.vstat.toNat)
      (fun m s => s.updSite k (fun a => a.updVx (fun x => { x with vstat := BitVec.ofNat 8 (clearBits x.vstat.toNat m) }))),
    sro k 16 1 (fun a => b2n (a.queues[(1 : Fin 4)].any QEntry.runs)), sro k 17 1 (fun a => b2n a.tileBusy)])
  else if 0x10 ≤ off ∧ off < 0x30 then
    let n : Fin 4 := Fin.ofNat 4 ((off - 0x10) / 8)
    some (reg [ro 0 7 (fun s => (s.slot k n).vlDone.toNat)])
  else if off = 0x30 then some (reg [src k 0 32 (fun a => a.vx.permCount.toNat) (fun a => a.updVx (fun x => { x with permCount := 0 }))])
  else none

/-! ## RT (R168) -/

def Site.updRt (a : Site) (f : Router → Router) : Site := { a with rt := f a.rt }

/-- The blocked mesh ports of a router, as RT.PORT shows them: a port at the module's outer edge is not among them, since no
condition of R152 holds of it. -/
def State.blockedMask (s : State) (k : Nat) : Nat :=
  let f (p : RPort) : Nat := b2n ((neighbour k p).isSome && s.blocked k p)
  f .n + 2 * f .e + 4 * f .s + 8 * f .w

/-- A write of RT.WRR: ignored where a weight would be zero. -/
def Router.wrrWrite (r : Router) (v : Nat) : Router :=
  let w (i : Nat) : BitVec 4 := BitVec.ofNat 4 (bitsOf v (4 * i) 4)
  if w 0 = 0 ∨ w 1 = 0 ∨ w 2 = 0 ∨ w 3 = 0 then r else { r with wSluice := w 0, wControl := w 1, wReduce := w 2, wBulk := w 3 }

/-- Registers of the RT block. -/
def rtRegs (k off : Nat) : Option Reg :=
  if off = 0 then some (reg [
    sro k 0 2 (fun a => a.rt.state.toNat),
    srw k 2 1 (fun a => b2n a.rt.combineEn) (fun v a => a.updRt (fun r => { r with combineEn := v == 1 })),
    srw k 8 8 (fun a => a.rt.combineHold.toNat) (fun v a => a.updRt (fun r => { r with combineHold := BitVec.ofNat 8 v }))])
  else if off = 8 then some (reg [
    srw k 0 16 (fun a => a.rt.wSluice.toNat + 16 * a.rt.wControl.toNat + 256 * a.rt.wReduce.toNat + 4096 * a.rt.wBulk.toNat)
      (fun v a => a.updRt (fun r => r.wrrWrite v))])
  else if off = 0x10 then some (reg [
    srw k 0 16 (fun a => a.rt.age.toNat) (fun v a => if 256 ≤ v then a.updRt (fun r => { r with age := BitVec.ofNat 16 v }) else a)])
  else if off = 0x18 then some (reg [
    ro 0 4 (fun s => s.blockedMask k),
    w1c 4 4 (fun s => (s.site k).rt.liveLost.toNat)
      (fun m s => s.updSite k (fun a => a.updRt (fun r => { r with liveLost := BitVec.ofNat 4 (clearBits r.liveLost.toNat m) }))),
    ro 8 1 (fun _ => b2n (hasEdge k)), ro 9 1 (fun _ => b2n (serviceAt k).isSome)])
  else if off = 0x20 then some (reg [
    ro 0 1 (fun _ => 1),
    ⟨1, 15, .rw, fun s => (s.site k).rt.plans.toNat / 2,
      fun v s => s.updSite k (fun a => a.updRt (fun r => { r with planWritten := BitVec.ofNat 16 (2 * v) }))⟩])
  else if off = 0x28 then some (reg [src k 0 32 (fun a => a.rt.combined.toNat) (fun a => a.updRt (fun r => { r with combined := 0 }))])
  else if off = 0x30 then some (reg [src k 0 32 (fun a => a.rt.unrolls.toNat) (fun a => a.updRt (fun r => { r with unrolls := 0 }))])
  else if off = 0x38 then some (reg [
    src k 0 16 (fun a => a.rt.dropSluice.toNat) (fun a => a.updRt (fun r => { r with dropSluice := 0 })),
    src k 16 16 (fun a => a.rt.dropReduce.toNat) (fun a => a.updRt (fun r => { r with dropReduce := 0 })),
    src k 32 16 (fun a => a.rt.dropConverted.toNat) (fun a => a.updRt (fun r => { r with dropConverted := 0 }))])
  else if off = 0x40 then some (reg [src k 0 32 (fun a => a.rt.agePromote.toNat) (fun a => a.updRt (fun r => { r with agePromote := 0 }))])
  else if off = 0x48 then some (reg [
    src k 0 16 (fun a => a.rt.corrected.toNat) (fun a => a.updRt (fun r => { r with corrected := 0 })),
    sw1 k 16 (fun a => a.rt.ue) (fun a => a.updRt (fun r => { r with ue := false }))])
  else if 0x100 ≤ off ∧ off < 0x300 then
    some (reg [sro k 0 53 (fun a => (Tbl.get (fun _ => (0 : Detour)) a.rt.detour ((off - 0x100) / 8)).toNat)])
  else if 0x800 ≤ off ∧ off < 0xe00 then some (reg [sro k 0 64 (fun a => leNat (Memory.read a.rt.smap (off - 0x800) 8))])
  else none

/-! ## ISL and TRC (R131, R401, R465) -/

def Site.updNoise (a : Site) (f : Noise → Noise) : Site := { a with noise := f a.noise }
def Site.updTrc (a : Site) (f : Trc → Trc) : Site := { a with trc := f a.trc }

/-- Registers of the ISL block. -/
def islRegs (k off : Nat) : Option Reg :=
  if off = 0 then some (reg [
    rw 0 12 (fun s => (s.site k).isl.freq.toNat) (fun v s => s.islCfgWrite k (BitVec.ofNat 12 v) (s.site k).isl.voff),
    rw 16 6 (fun s => (s.site k).isl.voff.toNat) (fun v s => s.islCfgWrite k (s.site k).isl.freq (BitVec.ofNat 6 v))])
  else if off = 8 then some (reg [
    sro k 0 12 (fun a => a.isl.freqNow.toNat), sro k 12 10 (fun a => a.isl.millivolt.toNat), sro k 22 3 (fun a => a.isl.state.toNat),
    sro k 25 4 (fun a => a.isl.coupled.toNat), sro k 29 1 (fun a => b2n a.isl.locked), sro k 30 1 (fun a => b2n a.isl.capped)])
  else if off = 0x10 then some (reg [
    sro k 0 8 (fun a => a.isl.celsius.toNat), src k 8 8 (fun a => a.isl.maxC.toNat) (fun a => { a with isl := { a.isl with maxC := 0 } }),
    sro k 16 1 (fun a => b2n a.isl.throttle)])
  else if off = 0x200 then some (reg [
    wo 0 1 (fun v s => if v = 1 then s.noiseReseed k else s), sro k 1 1 (fun a => b2n a.noise.autoOff)])
  else if off = 0x208 then some (reg [wo 0 64 (fun v s => s.updSite k (fun a => a.updNoise (fun n => n.seed (BitVec.ofNat 64 v))))])
  else if off = 0x210 then some (reg [sw1 k 0 (fun a => a.noise.healthFail) (fun a => a.updNoise (fun n => { n with healthFail := false }))])
  else none

/-- A write of a TRC base or bound is ignored while ENABLE is 1. -/
def Trc.setAddr (t : Trc) (bound : Bool) (v : Nat) : Trc :=
  if t.enable then t
  else if bound then { t with bound := BitVec.ofNat 48 (64 * v) } else { t with base := BitVec.ofNat 48 (64 * v) }

/-- Registers of the TRC block; who is the slot that writes, or none for the host. -/
def trcRegs (who : Option (Fin 4)) (k off : Nat) : Option Reg :=
  if off = 0 then some (reg [
    srw k 1 1 (fun a => b2n a.trc.mode) (fun v a => a.updTrc (fun t => { t with mode := v == 1 })),
    srw k 8 5 (fun a => a.trc.src.toNat) (fun v a => a.updTrc (fun t => { t with src := BitVec.ofNat 5 v })),
    srw k 0 1 (fun a => b2n a.trc.enable) (fun v a => a.updTrc (fun t => t.setEnable (v == 1)))])
  else if off = 8 then some (reg [srw k 6 42 (fun a => a.trc.base.toNat / 64) (fun v a => a.updTrc (fun t => t.setAddr false v))])
  else if off = 0x10 then some (reg [srw k 6 42 (fun a => a.trc.bound.toNat / 64) (fun v a => a.updTrc (fun t => t.setAddr true v))])
  else if off = 0x18 then some (reg [
    sro k 0 48 (fun a => a.trc.next.toNat), sw1 k 48 (fun a => a.trc.wrapped) (fun a => a.updTrc (fun t => { t with wrapped := false }))])
  else if off = 0x20 then some (reg [
    src k 0 32 (fun a => a.trc.dropped.toNat) (fun a => a.updTrc (fun t => { t with dropped := 0 })),
    sw1 k 32 (fun a => a.trc.full) (fun a => a.updTrc (fun t => { t with full := false }))])
  else if off = 0x28 then some (reg [wo 0 32 (fun v s => s.trcMark k who (BitVec.ofNat 32 v))])
  else if off = 0x30 then some { fields := [sro k 0 64 (fun a => a.trc.cycle.toNat)], before := fun s => (s.cycleNow k).2 }
  else if off = 0x40 then some (reg [
    srw k 0 6 (fun a => a.trc.tile.toNat) (fun v a => a.updTrc (fun t => { t with tile := BitVec.ofNat 6 v })),
    srw k 6 6 (fun a => a.trc.row.toNat) (fun v a => a.updTrc (fun t => { t with row := BitVec.ofNat 6 v })),
    srw k 12 5 (fun a => a.trc.pair.toNat) (fun v a => a.updTrc (fun t => { t with pair := BitVec.ofNat 5 v })),
    sw1 k 32 (fun a => a.trc.denied) (fun a => a.updTrc (fun t => { t with denied := false }))])
  else if off = 0x48 then some {
    fields := [rw 0 32 (fun s => if s.debugOk k then (s.site k).debugPair.toNat % 2 ^ 32 else 0) (fun v s => s.debugWrite k 0 (BitVec.ofNat 32 v)),
               rw 32 32 (fun s => if s.debugOk k then (s.site k).debugPair.toNat / 2 ^ 32 else 0) (fun v s => s.debugWrite k 1 (BitVec.ofNat 32 v))]
    before := fun s => (s.debugRead k).2 }
  else none

/-! ## UE (R272) -/

/-- Registers of the UE block of engine k. -/
def ueRegs (k off : Nat) : Option Reg :=
  if off = 0 then some (reg [
    sro k 0 12 (fun a => a.ue.entry.toNat), sro k 12 4 (fun a => a.ue.shard.toNat), sro k 16 1 (fun a => b2n a.ue.active)])
  else if off = 8 then some (reg [rw 0 16 (fun s => s.barrierRead k) (fun _ s => s.updSite k Site.barrierArrive)])
  else if off = 0x10 then some (reg [wo 0 3 (fun v s => s.ueRelease k (BitVec.ofNat 3 v))])
  else if 0x100 ≤ off ∧ off < 0x140 then
    let w := (off - 0x100) / 8
    some (reg [srw k 0 64 (fun a => (vget 0 a.ue.xchg w).toNat)
      (fun v a => { a with ue := { a.ue with xchg := vset a.ue.xchg w (BitVec.ofNat 64 v) } })])
  else if 0x200 ≤ off ∧ off < 0x600 then
    some (reg [ro 0 64 (fun s => (s.xchgRead k ((off - 0x200) / 64) ((off - 0x200) % 64 / 8)).toNat)])
  else none

/-! ## A CSR block (R46, R272) -/

/-- The register at an 8-byte aligned offset of unit k's CSR block; none where the offset is reserved. Who is the slot that
accesses it, or none for an access from outside. -/
def csrReg (who : Option (Fin 4)) (k off : Nat) : Option Reg :=
  let ue := decide (65536 ≤ k)
  match off / 0x1000 with
  | 0 => arrayBlock k off
  | 1 => if off < 0x1100 then slotRegs k (Fin.ofNat 4 ((off - 0x1000) / 0x40)) ((off - 0x1000) % 0x40) else none
  | 2 => ccRegs k off
  | 3 => if off < 0x3100 then dmaRegs k 0 (off - 0x3000) else if off < 0x3200 then dmaRegs k 1 (off - 0x3100)
         else if ue then none else wsRegs k off
  | 4 => spwRegs k (off - 0x4000)
  | 5 => if ue then none else mxRegs k (off - 0x5000)
  | 6 => vxRegs k (off - 0x6000)
  | 7 => if ue then none else rtRegs k (off - 0x7000)
  | 8 => if ue then none else islRegs k (off - 0x8000)
  | 9 => if ue then none else trcRegs who k (off - 0x9000)
  | 10 => if ue then ueRegs k (off - 0xa000) else none
  | _ => none

/-- A read of a register that may be reserved: a reserved offset returns zero (R4). -/
def Reg.readAt (r : Option Reg) (h : Half) (s : State) : W64 × State :=
  match r with
  | some r => r.read h s
  | none => (0, s)

/-- A write of a register that may be reserved: a reserved offset ignores it (R4). -/
def Reg.writeAt (r : Option Reg) (h : Half) (v : W64) (s : State) : State :=
  match r with
  | some r => r.write h v s
  | none => s

/-! ## CSRR and CSRW (R29) -/

/-- Address of a CSRR or CSRW within its own CSR block. -/
def csrOffset (w : W32) : Nat := (ctlImm w).toNat

/-- CSRR by slot n of unit k. -/
def State.csrr (s : State) (k : Nat) (n : Fin 4) (w : W32) : State :=
  if csrOffset w % 8 ≠ 0 then s.instrFault k n fcMisaligned
  else
    let (v, s) := Reg.readAt (csrReg (some n) k (csrOffset w)) .whole s
    s.updSlot k n (fun x => x.next (fun x => x.setReg (ctlRd w) v))

/-- The slot goes on after an instruction, unless the instruction itself stopped it. -/
def Slot.stepOver (x : Slot) : Slot := if x.st = .faulted then x else x.next id

/-- CSRW by slot n of unit k; a write of WS.KICK is that of R194. -/
def State.csrw (s : State) (k : Nat) (n : Fin 4) (w : W32) : State :=
  let off := csrOffset w
  let x := s.slot k n
  let v := x.reg (ctlRs1 w)
  if off % 8 ≠ 0 then s.instrFault k n fcMisaligned
  else
    let s := if off = 0x3200 ∧ k < 65536 then s.wsKick k n v x.pc else Reg.writeAt (csrReg (some n) k off) .whole v s
    s.updSlot k n Slot.stepOver

/-- CSRR (R29). -/
def execCsrr (core : CoreId) (slot : Fin 4) (s : State) : Result :=
  .next (s.issue core.key slot .csrr (fun w s => s.csrr core.key slot w))

/-- CSRW (R29). -/
def execCsrw (core : CoreId) (slot : Fin 4) (s : State) : Result :=
  .next (s.issue core.key slot .csrw (fun w s => s.csrw core.key slot w))

end Sys2Proof.Machine
end

