-- ==== Sys2Proof/Machine/Acu.lean ====
section
/-! DEFINITION. Machine/Acu.lean: the activation codec units: runs, blocks, records and their checks (R215–R228). -/

namespace Sys2Proof.Machine

/-! ## Units (R215) -/

/-- ACU k: that of host port k for k = 0–3, that of port complex k − 4 for k = 4–11. -/
def State.acu (s : State) (k : Nat) : Acu := if k < 4 then (s.hp k).acu else (s.pc (k - 4)).acu

def State.updAcu (s : State) (k : Nat) (f : Acu → Acu) : State :=
  if k < 4 then s.updHp k (fun h => { h with acu := f h.acu }) else s.updPc (k - 4) (fun c => { c with acu := f c.acu })

/-- The mesh endpoint of an ACU. -/
def acuNode (k : Nat) : Node := if k < 4 then .host (Fin.ofNat 4 k) else .pc (Fin.ofNat 8 (k - 4))

/-! ## Sets (R216, R227) -/

/-- Word j of a set. -/
def Acu.setWord (a : Acu) (n j : Nat) : W64 := vget 0 (Tbl.get (fun _ => Vector.replicate 4 0) a.sets n) j

def Acu.setField (a : Acu) (n j lo len : Nat) : Nat := bitsOf (a.setWord n j).toNat lo len

def Acu.hostBase (a : Acu) (n : Nat) : Nat := a.setField n 0 0 64
def Acu.fbBase (a : Acu) (n : Nat) : Nat := a.setField n 1 0 48
def Acu.hostCodec (a : Acu) (n : Nat) : Nat := a.setField n 1 48 4
def Acu.fbCodec (a : Acu) (n : Nat) : Nat := a.setField n 1 52 4
def Acu.inFmt (a : Acu) (n : Nat) : Nat := a.setField n 1 56 4
def Acu.setValid (a : Acu) (n : Nat) : Bool := a.setField n 1 63 1 == 1
def Acu.hostStride (a : Acu) (n : Nat) : Nat := a.setField n 2 0 32
def Acu.fbStride (a : Acu) (n : Nat) : Nat := a.setField n 2 32 32
def Acu.row0 (a : Acu) (n : Nat) : Nat := a.setField n 3 0 8
def Acu.col0 (a : Acu) (n : Nat) : Nat := a.setField n 3 8 8
def Acu.rowsM1 (a : Acu) (n : Nat) : Nat := a.setField n 3 16 8
def Acu.colsM1 (a : Acu) (n : Nat) : Nat := a.setField n 3 24 8
def Acu.blocksM1 (a : Acu) (n : Nat) : Nat := a.setField n 3 32 8
def Acu.fbSlot (a : Acu) (n : Nat) : Nat := a.setField n 3 40 8

/-! ## Requests (R216) -/

/-- The logical mesh position of a site position, by a copy of the site map; none where the site holds no array. -/
def meshOf (smap : Mem) (srow scol : Nat) : Option (Nat × Nat) :=
  let w := 2 * (srow / 96) + scol / 100
  let y := srow % 96
  let x := scol % 100
  let entry (g : Nat) : Nat := (Memory.get smap ((96 * w + y) * 4 + g)).toNat
  let pos (c : Nat) : Nat × Nat := (96 * (w / 2) + y, 96 * (w % 2) + c)
  if x % 25 = 24 then (if 128 ≤ entry (x / 25) then some (pos (entry (x / 25) % 128)) else none)
  else
    let c := 24 * (x / 25) + x % 25
    if [0, 1, 2, 3].any (fun g => 128 ≤ entry g && entry g % 128 == c) then none else some (pos c)

/-- A request of an array, decoded: its set, index, block, offset in the block, and the array's mesh position. -/
structure AcuReq where
  set : Nat
  index : Nat
  block : Nat
  off : Nat
  row : Nat
  col : Nat
  deriving DecidableEq, Repr

/-- The request of a packet, when the ACU accepts it (R216). -/
def State.acuReq (s : State) (k : Nat) (p : Packet) : Option AcuReq :=
  let a := s.acu k
  match acuOffset k p.addr.toNat, (if p.sport = 0 then meshOf s.smap p.srow p.scol else none) with
  | some o, some (r, c) =>
    let n := bitsOf o 20 8
    if a.enable && a.setValid n && decide (a.row0 n ≤ r) && decide (r ≤ a.row0 n + a.rowsM1 n)
        && decide (a.col0 n ≤ c) && decide (c ≤ a.col0 n + a.colsM1 n) && decide (bitsOf o 12 8 ≤ a.blocksM1 n) then
      some ⟨n, (r - a.row0 n) * (a.colsM1 n + 1) + (c - a.col0 n), bitsOf o 12 8, bitsOf o 0 12, r, c⟩
    else none
  | _, _ => none

/-- Numbers of a run and of a block. -/
def runNo (set index : Nat) : Nat := set * 65536 + index
def blockNo (set index block : Nat) : Nat := runNo set index * 256 + block

def AcuReq.run (q : AcuReq) : Nat := runNo q.set q.index
def AcuReq.no (q : AcuReq) : Nat := blockNo q.set q.index q.block
def AcuBlock.no (b : AcuBlock) : Nat := blockNo b.set b.index b.block
def AcuDecoded.no (b : AcuDecoded) : Nat := blockNo b.set b.index b.block

/-! ## Codecs (R219) -/

/-- Bytes of an element of IN_FMT. -/
def inWidth (fmt : Nat) : Nat := if fmt = 0 then 4 else if fmt = 1 then 2 else 1

/-- The elements of a block, exact. -/
def blockElems (fmt : Nat) (bs : List Byte) : List Fp :=
  (List.range (4096 / inWidth fmt)).map (fun i => (formatOf fmt).decode (bytesAt bs (inWidth fmt * i) (inWidth fmt)))

/-- A list cut in groups of n. -/
def groups {α : Type} (n : Nat) (l : List α) : List (List α) :=
  (List.range (ceilDiv l.length n)).map (fun i => (l.drop (n * i)).take n)

/-- Two nibbles a byte, the lower element in the low nibble. -/
def nibbles (l : List Nat) : List Byte := (groups 2 l).map (fun g => BitVec.ofNat 8 (g.getD 0 0 + 16 * g.getD 1 0))

/-- The elements of a block as an MX payload: the element bytes, and then one scale byte for 32 elements. The order of the
two is DEDUCED from R56 (log entry 35). -/
def mxPayload (code : Nat) (fmt : Nat) (bs : List Byte) : List Byte :=
  let blocks := (groups 32 (blockElems fmt bs)).map (fun g => mxBlock code g (List.replicate 32 .nearest))
  let elems := blocks.flatMap (fun b => b.2.1)
  (if code = 9 then nibbles elems else elems.map (BitVec.ofNat 8)) ++ blocks.map (fun b => BitVec.ofNat 8 b.1)

/-- The bytes of elements in IN_FMT, rounded to nearest even and saturated. -/
def elemsIn (fmt : Nat) (vs : List Fp) : List Byte :=
  vs.flatMap (fun v => leBytes (inWidth fmt) (if fmt = 0 then (toF32 v).toNat else ((formatOf fmt).narrow .nearest false v).1))

/-- The block that an MX payload stands for. -/
def mxUnpack (code : Nat) (fmt : Nat) (bs : List Byte) : List Byte :=
  let n := 4096 / inWidth fmt
  let eb := if code = 9 then n / 2 else n
  let raw (i : Nat) : Nat := if code = 9 then bytesAt bs (i / 2) 1 / 16 ^ (i % 2) % 16 else bytesAt bs i 1
  elemsIn fmt ((List.range n).map (fun i => mxDecode code (raw i) (bytesAt bs (eb + i / 32) 1)))

/-- The codec written and the payload of a block. PACK that would not shrink is written RAW. -/
def acuEncode (codec fmt : Nat) (bs : List Byte) : Nat × List Byte :=
  match codec with
  | 1 => let z := Config.packBytes bs; if z.length ≤ 4095 then (1, z) else (0, bs)
  | 2 => (2, mxPayload 5 fmt bs)
  | 3 => (3, mxPayload 9 fmt bs)
  | _ => (0, bs)

/-- The block that a payload stands for, with what the ACU last packed for it. -/
def acuDecode (codec fmt : Nat) (packed : Option (List Byte × List Byte)) (z : List Byte) : List Byte :=
  match codec with
  | 1 => match packed with
    | some (y, d) => if y = z then d else (Config.unpackBytes z ++ List.replicate 4096 0).take 4096
    | none => (Config.unpackBytes z ++ List.replicate 4096 0).take 4096
  | 2 => mxUnpack 5 fmt z
  | 3 => mxUnpack 9 fmt z
  | _ => z

/-- Bytes of the largest payload of a codec for IN_FMT; none where the pair is not allowed (R219). -/
def maxPayload (codec fmt : Nat) : Option Nat :=
  if !(fmt == 0 || fmt == 1 || fmt == 3 || fmt == 4) then none
  else match codec with
    | 0 => some 4096
    | 1 => some 4096
    | 2 => if fmt = 0 then some 1056 else if fmt = 1 then some 2112 else none
    | 3 => if fmt = 1 then some 1088 else if fmt = 3 ∨ fmt = 4 then some 2176 else none
    | _ => none

/-! ## Records (R219, R220) -/

/-- Bytes 8–63 of a record's header, and the payload. -/
def recordBody (set codec row col block fmt : Nat) (z : List Byte) : List Byte :=
  [BitVec.ofNat 8 set, BitVec.ofNat 8 codec] ++ leBytes 2 z.length
    ++ [BitVec.ofNat 8 row, BitVec.ofNat 8 col, BitVec.ofNat 8 block, BitVec.ofNat 8 fmt] ++ List.replicate 48 0 ++ z

/-- A record: the checksum, and what it covers. -/
def recordBytes (body : List Byte) : List Byte := leBytes 8 (crc64 body).toNat ++ body

/-- Address of a record by its location. -/
def Acu.recordAddr (a : Acu) (set index block : Nat) (fallback : Bool) : Nat :=
  if fallback then a.fbBase set + index * a.fbStride set + block * 64 * a.fbSlot set
  else a.hostBase set + index * a.hostStride set + block * 4160

/-- Record bytes that wait for the host port (R218). -/
def Acu.backlog (a : Acu) : Nat :=
  (a.staging.map (fun b => if b.complete && !b.fallback then b.record.length else 0)).sum

/-! ## Writes (R217, R218) -/

/-- The run that a first write to block 0 begins, where it begins one. -/
def Acu.beginRun (a : Acu) (k : Nat) (q : AcuReq) : Acu :=
  let old : Option AcuRun := (a.runs.find? (fun e => e.1 == q.run)).map (fun e => e.2)
  if q.block = 0 ∧ (old.map (fun r => r.block0Done)).getD true then
    let fb := decide (4 ≤ k) || (a.fbEn && (a.fbForce || decide (a.fbHi.toNat * 2 ^ 20 < a.backlog)))
    { a with runs := Tbl.set a.runs q.run { fallback := fb }, fbRuns := if fb then satAdd a.fbRuns 1 else a.fbRuns }
  else a

/-- The location of a run; before any run, the one that R218 fixes for the ACU. -/
def Acu.location (a : Acu) (k run : Nat) : Bool := (Tbl.get (fun _ => { fallback := decide (4 ≤ k) }) a.runs run : AcuRun).fallback

/-- An assembly of the block is in staging. -/
def AcuBlock.assembles (b : AcuBlock) (no : Nat) : Bool := b.no == no && !b.complete

/-- The block with lines written. -/
def AcuBlock.put (b : AcuBlock) (off : Nat) (bs : List Byte) : AcuBlock :=
  { b with data := Memory.write b.data off bs
           lines := (List.range (bs.length / 64)).foldl (fun w i => putBit w (off / 64 + i) true) b.lines }

/-- A complete block encoded into its record and queued for its destination. -/
def Acu.completeBlock (a : Acu) (k no : Nat) : Acu :=
  match a.staging.find? (fun b => b.assembles no) with
  | none => a
  | some b =>
    if b.lines ≠ BitVec.allOnes 64 then a
    else
      let run := runNo b.set b.index
      let fb := a.location k run
      let data := Memory.read b.data 0 4096
      let fmt := a.inFmt b.set
      let (codec, z) := acuEncode (if fb then a.fbCodec b.set else a.hostCodec b.set) fmt data
      let rec_ := recordBytes (recordBody b.set codec b.row b.col b.block fmt z)
      { a with
        staging := updFirst (fun b => b.assembles no) (fun b => { b with complete := true, record := rec_, fallback := fb,
                                                                          dest := a.recordAddr b.set b.index b.block fb }) a.staging
        packed := if codec = 1 then Tbl.set a.packed no (z, data) else a.packed
        runs := if b.block = 0 then Tbl.set a.runs run { (Tbl.get (fun _ => { fallback := fb }) a.runs run : AcuRun) with block0Done := true }
          else a.runs }

/-- Lines written to a block: an assembly is begun where none is in progress, and what was decoded of it is dropped. -/
def Acu.writeLines (a : Acu) (k : Nat) (q : AcuReq) (bs : List Byte) : Acu :=
  let a := a.beginRun k q
  let a :=
    if a.staging.any (fun b => b.assembles q.no) then a
    else { a with
      staging := a.staging ++ [{ set := q.set, index := q.index, block := q.block, row := q.row, col := q.col }]
      decoded := a.decoded.filter (fun d => d.no != q.no)
      fetched := a.fetched.filter (fun n => n != q.no) }
  let a := { a with staging := updFirst (fun b => b.assembles q.no) (fun b => b.put q.off bs) a.staging }
  a.completeBlock k q.no

/-- ACU_WRITE (R216, R217, R225): a WRITE to the aperture, which waits while staging is full. -/
def execAcuWrite (acu : Fin 12) (p : Packet) (s : State) : Result :=
  let k := acu.val
  let n := acuNode k
  .next (
    if !((s.arrivedAt n).contains p && p.ptype == ptWrite && (acuOffset k p.addr.toNat).isSome) then s
    else match s.acuReq k p with
      | none => (s.takeAt n p).sendNode n (p.answer ptWriteAck stOutOfWindow [] false)
      | some q =>
        if p.poison then (s.takeAt n p).sendNode n (p.answer ptWriteAck stPoison [] false)
        else if 524288 < (s.acu k).stagedLines + p.payload.length / 64 then s
        else ((s.takeAt n p).updAcu k (fun a => a.writeLines k q p.payload)).sendNode n (p.answer ptWriteAck stOk [] false))

/-! ## Records sent (R217–R219) -/

/-- Bytes written to HBM in requests of at most 512 bytes; the first status that is not OK. -/
def State.hbmPut (s : State) (addr : Nat) (bs : List Byte) : State × BitVec 4 :=
  (List.range (ceilDiv bs.length 512)).foldl (fun (s, st) i =>
    let (s, st') := s.hbmWrite (addr + 512 * i) ((bs.drop (512 * i)).take 512)
    (s, if st = stOk then st' else st)) (s, stOk)

/-- Bytes read from HBM in requests of at most 512 bytes, and whether any was poisoned or not answered. -/
def State.hbmGet (s : State) (addr len : Nat) : State × List Byte × Bool :=
  (List.range (ceilDiv len 512)).foldl (fun (s, bs, bad) i =>
    let (s, r) := s.hbmRead (addr + 512 * i) (min 512 (len - 512 * i))
    (s, bs ++ r.bytes, bad || r.poison || r.status != stOk)) (s, [], false)

/-- The runs into which multiples of a block size cut n bytes at an address: offset and length. -/
def cut (block addr n : Nat) : List (Nat × Nat) :=
  if n = 0 then []
  else (List.range ((addr + n - 1) / block - addr / block + 1)).map (fun i =>
    let lo := max addr (block * (addr / block + i))
    (lo - addr, min (addr + n) (block * (addr / block + i + 1)) - lo))

/-- The largest payload and the largest read request of a port, in bytes (R342). -/
def HostPort.payloadMax (h : HostPort) : Nat := 128 * 2 ^ h.maxPayload.toNat
def HostPort.readMax (h : HostPort) : Nat := 128 * 2 ^ h.maxRead.toNat

/-- Bytes written to host memory, in writes of at most Max_Payload_Size each. -/
def State.hostStore (s : State) (k addr : Nat) (bs : List Byte) : State :=
  (cut (s.hp k).payloadMax addr bs.length).foldl (fun s e =>
    s.emit (.hostWrite (Fin.ofNat 4 k) (BitVec.ofNat 64 (addr + e.1)) ((bs.drop e.1).take e.2))) s

/-- A record padded to whole lines with bytes that R220 leaves open. -/
def State.padLine (s : State) (bs : List Byte) : List Byte × State :=
  let (z, s) := s.freeBytes (roundUp bs.length 64 - bs.length)
  (bs ++ z, s)

/-- ACU_RECORD_SENT (R217, R218): the oldest record that waits for its destination is written at the address that its set gave when
the block was complete (R219), and leaves staging. -/
def execAcuRecordSent (acu : Fin 12) (fallback : Bool) (s : State) : Result :=
  let k := acu.val
  let a := s.acu k
  .next (match a.staging.find? (fun b => b.complete && b.fallback == fallback) with
    | none => s
    | some b =>
      let gone (s : State) : State := s.updAcu k (fun a => { a with staging := a.staging.erase b })
      if fallback then
        let (bs, s) := s.padLine b.record
        gone (s.hbmPut b.dest bs).1
      else if (s.hp k).up then gone (s.hostStore k b.dest b.record)
      else s)

/-! ## Reads (R221, R222) -/

/-- The reads of a block that wait. -/
def State.acuWaiters (s : State) (k no : Nat) : List Packet :=
  (s.acu k).waiting.filter (fun p => ((s.acuReq k p).map (fun q => q.no)) == some no)

/-- A read answered with the bytes of its block. -/
def State.acuServe (s : State) (k : Nat) (p : Packet) (q : AcuReq) (data : List Byte) : State :=
  s.sendNode (acuNode k) (p.answer ptReadRsp stOk ((data.drop q.off).take (p.bytesM1.toNat + 1)) false)

/-- A read answered with POISON. -/
def State.acuPoison (s : State) (k : Nat) (p : Packet) : State :=
  s.sendNode (acuNode k) (p.answer ptReadRsp stOk (List.replicate (p.bytesM1.toNat + 1) 0) true)

/-- ACU.STAT as a word. -/
def Acu.statWord (a : Acu) : W64 :=
  BitVec.ofNat 64 (b2n a.corrupt + 2 * b2n a.setRefused + a.firstSet.toNat * 2 ^ 8 + a.firstRow.toNat * 2 ^ 16
    + a.firstCol.toNat * 2 ^ 24 + a.firstBlock.toNat * 2 ^ 32 + a.reason.toNat * 2 ^ 40)

/-- The first SPILL_CORRUPT since CORRUPT was clear is recorded. -/
def Acu.recordCorrupt (a : Acu) (q : AcuReq) (reason : Nat) : Acu :=
  let a := { a with corrupts := satAdd a.corrupts 1 }
  if a.corrupt then a
  else { a with corrupt := true, firstSet := BitVec.ofNat 8 q.set, firstRow := BitVec.ofNat 8 q.row, firstCol := BitVec.ofNat 8 q.col
                firstBlock := BitVec.ofNat 8 q.block, reason := BitVec.ofNat 3 reason }

/-- SPILL_CORRUPT (R222): recorded, reported, every waiting read of the block answered with POISON, and the owning pan
stopped by force. -/
def State.spillCorrupt (s : State) (k : Nat) (q : AcuReq) (reason : Nat) : State :=
  let ws := s.acuWaiters k q.no
  let s := s.updAcu k (fun a => { (a.recordCorrupt q reason) with waiting := a.waiting.filter (fun p => !ws.contains p) })
  let s := ws.foldl (fun s p => s.acuPoison k p) s
  let s := s.post 5 2 0 (if k < 4 then ukHost else ukPc) (if k < 4 then k else k - 4) [k, (s.acu k).statWord.toNat]
  match s.panAt q.row q.col with
  | some n => s.panForceStop n
  | none => s

/-- A decoded block read: the piece is marked, and a block whose eight pieces have been read leaves the buffer. -/
def Acu.readPiece (a : Acu) (q : AcuReq) : Acu :=
  match a.decoded.find? (fun d => d.no == q.no) with
  | none => a
  | some d =>
    let d := { d with pieces := putBit d.pieces (q.off / 512) true }
    let rest := a.decoded.filter (fun e => e.no != q.no)
    { a with decoded := if d.pieces = 0xff then rest else rest ++ [d] }

/-- Free tags for reads of host memory, of the command engine or of the port's ACU (R349). -/
def HostPort.freeTag (h : HostPort) (forAcu : Bool) : Option Nat :=
  ((List.range 512).map (fun i => i + if forAcu then 512 else 0)).find? (fun t => h.reqs.all (fun r => r.tag != t))

/-- A read of host memory sent; none where no tag is free. -/
def State.hostRead (s : State) (k : Nat) (forAcu : Bool) (o : HostReqOwner) (addr len : Nat) : Option State :=
  ((s.hp k).freeTag forAcu).map (fun t =>
    (s.updHp k (fun h => { h with reqs := h.reqs ++ [⟨t, o⟩] })).emit (.hostRead (Fin.ofNat 4 k) t (BitVec.ofNat 64 addr) len))

/-- Reads of n bytes of host memory for the ACU, none longer than Max_Read_Request_Size (R342); none where the tags do not suffice. -/
def State.hostReads (s : State) (k : Nat) (o : HostReqOwner) (addr n : Nat) : Option State :=
  (cut (s.hp k).readMax addr n).foldl (fun r e => r.bind (fun s => s.hostRead k true o (addr + e.1) e.2)) (some s)

/-- The fetch of a block's record begun for its first waiting read: from host memory, the requests that its 4,160 bytes need; from the
fallback region, nothing is sent before ACU_RECORD_FETCHED (log entry 20). None where no request of the port is free. -/
def State.acuFetch (s : State) (k : Nat) (q : AcuReq) (p : Packet) : Option State :=
  let a := s.acu k
  let again := a.fetched.contains q.no
  let wait (s : State) : State := s.updAcu k (fun a =>
    { a with waiting := a.waiting ++ [p], fetched := if again then a.fetched else q.no :: a.fetched
             refetch := if again then satAdd a.refetch 1 else a.refetch })
  if a.location k q.run then some (wait s)
  else if (s.hp k).up then
    let addr := a.recordAddr q.set q.index q.block false
    (s.hostReads k (.acu q.no) addr 4160).map wait
  else some ((s.updAcu k (fun a => { a with waiting := a.waiting ++ [p] })).spillCorrupt k q 4)

/-- The block as it was last completed in staging. -/
def Acu.staged (a : Acu) (no : Nat) : Option AcuBlock := a.staging.reverse.find? (fun b => b.no == no && b.complete)

/-- Why a read of a block fails before its record is looked at (R222): 3 no complete block or no run, 4 the host port was reset after
its run began (R224). -/
def Acu.readReason (a : Acu) (q : AcuReq) : Option Nat :=
  if !(a.runs.any (fun e => e.1 == q.run)) || (a.staging.any (fun b => b.assembles q.no) && (a.staged q.no).isNone) then some 3
  else if (Tbl.get (fun _ => {}) a.runs q.run : AcuRun).lost then some 4
  else none

/-- A read that is accepted: from staging, the decode buffer, or the record (R221, R222). -/
def State.acuReadReq (s : State) (k : Nat) (p : Packet) (q : AcuReq) : Option State :=
  let a := s.acu k
  let wait (s : State) : State := s.updAcu k (fun a => { a with waiting := a.waiting ++ [p] })
  match a.readReason q with
  | some r => some ((wait s).spillCorrupt k q r)
  | none =>
    match a.staged q.no with
    | some b => some (s.acuServe k p q (Memory.read b.data 0 4096))
    | none =>
      match a.decoded.find? (fun d => d.no == q.no) with
      | some d => some ((s.updAcu k (fun a => a.readPiece q)).acuServe k p q d.data)
      | none => if (s.acuWaiters k q.no) ≠ [] then some (wait s) else s.acuFetch k q p

/-- ACU_READ (R216, R221, R225): a READ_REQ to the aperture. -/
def execAcuRead (acu : Fin 12) (p : Packet) (s : State) : Result :=
  let k := acu.val
  let n := acuNode k
  .next (
    if !((s.arrivedAt n).contains p && p.ptype == ptReadReq && (acuOffset k p.addr.toNat).isSome) then s
    else match s.acuReq k p with
      | none => (s.takeAt n p).acuPoison k p
      | some q =>
        if 4096 ≤ (s.acu k).waiting.length then s
        else ((s.takeAt n p).acuReadReq k p q).getD s)

/-! ## Records fetched (R222) -/

/-- The codec of a record is allowed for its region (R219, R222). -/
def codecOk (fallback : Bool) (codec : Nat) : Bool := decide (codec ≤ if fallback then 3 else 1)

/-- The first reason to refuse a fetched record, by its bytes: 1 checksum, 2 identity. -/
def Acu.recordReason (a : Acu) (q : AcuReq) (fallback : Bool) (bs : List Byte) : Option Nat :=
  let n := bytesAt bs 10 2
  if 64 + n > bs.length ∨ bytesAt bs 0 8 ≠ (crc64 ((bs.drop 8).take (56 + n))).toNat then some 1
  else if bytesAt bs 8 1 = q.set ∧ bytesAt bs 12 1 = q.row ∧ bytesAt bs 13 1 = q.col ∧ bytesAt bs 14 1 = q.block
      ∧ bytesAt bs 15 1 = a.inFmt q.set ∧ codecOk fallback (bytesAt bs 9 1) = true then none
  else some 2

/-- The block of a checked record, put in the decode buffer; the least recently used goes when it is full. -/
def Acu.takeRecord (a : Acu) (q : AcuReq) (bs : List Byte) : Acu :=
  let z := (bs.drop 64).take (bytesAt bs 10 2)
  let packed := (a.packed.find? (fun e => e.1 == q.no)).map (fun e => e.2)
  let d : AcuDecoded := { set := q.set, index := q.index, block := q.block, data := acuDecode (bytesAt bs 9 1) (a.inFmt q.set) packed z }
  { a with decoded := (if 2048 ≤ a.decoded.length then a.decoded.drop 1 else a.decoded) ++ [d] }

/-- The reads that waited for a block served from the decode buffer. -/
def State.acuServeWaiters (s : State) (k no : Nat) : State :=
  let ws := s.acuWaiters k no
  let s := s.updAcu k (fun a => { a with waiting := a.waiting.filter (fun p => !ws.contains p) })
  ws.foldl (fun s p =>
    match s.acuReq k p with
    | some q => (s.acuReadReq k p q).getD (s.acuPoison k p)
    | none => s.acuPoison k p) s

/-- A record's bytes, or none for a read that failed, for the waiting reads of its block. -/
def State.acuFetched (s : State) (k : Nat) (q : AcuReq) (fallback : Bool) (bs : Option (List Byte)) : State :=
  match bs with
  | none => s.spillCorrupt k q (if fallback then 1 else 4)
  | some bs =>
    match (s.acu k).recordReason q fallback bs with
    | some r => s.spillCorrupt k q r
    | none => (s.updAcu k (fun a => a.takeRecord q bs)).acuServeWaiters k q.no

/-- The request of the first waiting read of a block. -/
def State.acuWaitReq (s : State) (k no : Nat) : Option AcuReq := (s.acuWaiters k no).head?.bind (fun p => s.acuReq k p)

/-- ACU_RECORD_FETCHED (R222): the record of a block that reads wait for has arrived: from host memory, as the bytes that
the host's completion carries; from the fallback region, as HBM holds them. -/
def execAcuRecordFetched (acu : Fin 12) (block : Nat) (data : List Byte) (s : State) : Result :=
  let k := acu.val
  .next (match s.acuWaitReq k block with
    | none => s
    | some q =>
      let a := s.acu k
      if a.location k q.run then
        let (s, bs, bad) := s.hbmGet (a.recordAddr q.set q.index q.block true) (64 * a.fbSlot q.set)
        s.acuFetched k q true (if bad then none else some bs)
      else if (s.hp k).reqs.any (fun r => r.owner == .acu block) then
        (s.updHp k (fun h => { h with reqs := h.reqs.filter (fun r => r.owner != .acu block) })).acuFetched k q false (some data)
      else s)

/-! ## Sets written (R227, R228) -/

/-- Writable bits of word j of a set. -/
def acuSetMask (j : Nat) : W64 :=
  match j with
  | 1 => 0x8fffffffffffffff
  | 3 => 0x0000ffffffffffff
  | _ => 0xffffffffffffffff

/-- The rules that a set must meet for VALID (R228). -/
def Acu.setOk (a : Acu) (k n : Nat) : Bool :=
  let fmt := a.inFmt n
  decide (a.hostCodec n ≤ 1) && (maxPayload (a.hostCodec n) fmt).isSome && decide (a.hostBase n % 4096 = 0)
    && decide (a.fbBase n % 512 = 0) && decide (a.hostStride n % 64 = 0) && decide (4160 * (a.blocksM1 n + 1) ≤ a.hostStride n)
    && decide (a.fbStride n % 64 = 0) && decide (64 * a.fbSlot n * (a.blocksM1 n + 1) ≤ a.fbStride n)
    && decide (a.row0 n + a.rowsM1 n ≤ 191) && decide (a.col0 n + a.colsM1 n ≤ 191)
    && (match maxPayload (a.fbCodec n) fmt with | some m => decide (64 + m ≤ 64 * a.fbSlot n) | none => false)
    && (decide (k < 4) || a.hostBase n == 0)

/-- The set's word replaced. -/
def Acu.putWord (a : Acu) (n j : Nat) (v : W64) : Acu :=
  { a with sets := Tbl.set a.sets n (vset (Tbl.get (fun _ => Vector.replicate 4 0) a.sets n) j (v &&& acuSetMask j)) }

/-- What a set's runs, blocks and reads hold is dropped. -/
def Acu.clearSet (a : Acu) (n : Nat) : Acu :=
  { a with staging := a.staging.filter (fun b => b.set != n), decoded := a.decoded.filter (fun d => d.set != n)
           runs := a.runs.filter (fun e => e.1 / 65536 != n), fetched := a.fetched.filter (fun b => b / 16777216 != n)
           packed := a.packed.filter (fun e => e.1 / 16777216 != n) }

/-- A set that becomes VALID has no run yet (R222), and nothing decoded or fetched under its earlier words is served (R223). Its records
that still wait stay in staging until they are written out (R217). -/
def Acu.freshSet (a : Acu) (n : Nat) : Acu :=
  { a with decoded := a.decoded.filter (fun d => d.set != n), runs := a.runs.filter (fun e => e.1 / 65536 != n)
           fetched := a.fetched.filter (fun b => b / 16777216 != n) }

/-- A write of word j of set n of ACU k (R228). -/
def Acu.writeSet (a : Acu) (k n j : Nat) (v : W64) : Acu :=
  if a.setValid n then (if j = 1 ∧ bit v 63 = false then a.putWord n j v else a)
  else if j = 1 ∧ bit v 63 = true then
    let b := a.putWord n j v
    if b.setOk k n then b.freshSet n else { a with setRefused := true }
  else a.putWord n j v

/-- The waiting reads that the ACU no longer accepts are answered as R216 gives. -/
def State.acuSweep (s : State) (k : Nat) : State :=
  let ws := (s.acu k).waiting.filter (fun p => (s.acuReq k p).isNone)
  ws.foldl (fun s p => s.acuPoison k p) (s.updAcu k (fun a => { a with waiting := a.waiting.filter (fun p => !ws.contains p) }))

/-- A write of a set's word by any writer. -/
def State.acuSetWrite (s : State) (k n j : Nat) (v : W64) : State := (s.updAcu k (fun a => a.writeSet k n j v)).acuSweep k

/-- ACU_SET_WRITE (R228). -/
def execAcuSetWrite (acu : Fin 12) (set : Fin 256) (word : Fin 4) (value : W64) (s : State) : Result :=
  .next (s.acuSetWrite acu.val set.val word.val value)

end Sys2Proof.Machine
end

