-- ==== Sys2Proof/Machine/Disp.lean ====
section
/-! DEFINITION. Machine/Disp.lean: the dispatch engines: windows and send channels, and the dispatch of tokens to experts
and of their results back (R285, R293–R307). -/

namespace Sys2Proof.Machine

def State.updDisp (s : State) (q : Nat) (f : Disp → Disp) : State := s.updPc q (fun c => { c with disp := f c.disp })

/-! ## Requests (R285, R293) -/

/-- A TAG that no request of the engine uses. -/
def Disp.freeTag (d : Disp) : BitVec 16 :=
  (((List.range (d.reqs.length + 1)).map (fun i => d.nextTag + BitVec.ofNat 16 i)).find? (fun t =>
    d.reqs.all (fun r => r.tag != t))).getD d.nextTag

/-- A request sent with its answer's space reserved. -/
def State.fabRequest (s : State) (q : Nat) (p : FabPkt) (chan : Nat) (mesh : Option Packet) : State :=
  let t := (s.pc q).disp.freeTag
  (s.updDisp q (fun d => { d with nextTag := t + 1, reqs := d.reqs ++ [{ tag := t, ty := p.ty, chan := chan, mesh := mesh }] })).fabSend q
    { p with tag := t }

/-- The status with which the array's WRITE is answered, and the channel's counters (R297). -/
def Chan.answered (c : Chan) (st : BitVec 8) : Chan :=
  if st = 4 then { c with closed := satAdd c.closed 1 } else if st = 2 then { c with range := satAdd c.range 1 } else c

/-- WINDOW_CLOSED is answered as OUT_OF_WINDOW; every other status passes (R297). -/
def wackStatus (st : BitVec 8) : BitVec 4 := if st = 4 then stOutOfWindow else st.setWidth 4

/-- A request completed with a status. -/
def State.fabComplete (s : State) (q : Nat) (r : FabReq) (st : BitVec 8) : State :=
  let s := s.updDisp q (fun d => { d with reqs := d.reqs.erase r })
  match r.mesh with
  | some p =>
    (s.updDisp q (fun d => { d with chans := Tbl.set d.chans r.chan ((Tbl.get (fun _ => {}) d.chans r.chan).answered st) })).sendNode
      (.pc (Fin.ofNat 8 q)) (p.answer ptWriteAck (wackStatus st) [] false)
  | none => s

/-- The request that an answer of type ty belongs to. -/
def Disp.reqFor (d : Disp) (ty : BitVec 8) (tag : BitVec 16) : Option FabReq :=
  d.reqs.find? (fun r => r.tag == tag && fabAnswer r.ty == some ty)

/-- An answer delivered to port complex q: its request completes; a late answer is discarded, which DISP.STAT counts (R293). -/
def State.fabAnswered (s : State) (q : Nat) (p : FabPkt) : State :=
  match s.takeFab q p with
  | none => s
  | some s =>
    match (s.pc q).disp.reqFor p.ty p.tag with
    | some r => s.fabComplete q r p.status
    | none => s.countDiscard q

/-- ANSWER_TIMEOUT (R293): a request has waited FAB.CFG.ANSWER, and completes with TARGET_OFF. -/
def execAnswerTimeout (pc : Fin 8) (tag : BitVec 16) (s : State) : Result :=
  .next (match (s.pc pc.val).disp.reqs.find? (fun r => r.tag == tag) with
    | some r => s.fabComplete pc.val r 1
    | none => s)

/-- WACK_ARRIVE (R297). -/
def execWackArrive (pc : Fin 8) (p : FabPkt) (s : State) : Result := .next (if p.ty = ftWack then s.fabAnswered pc.val p else s)

/-- TACK_ARRIVE (R304, R305): a TACK or RACK. -/
def execTackArrive (pc : Fin 8) (p : FabPkt) (s : State) : Result :=
  .next (if p.ty = ftTack ∨ p.ty = ftRack then s.fabAnswered pc.val p else s)

/-- CTRL_PACKET_ARRIVE (R165, R284, R285): a CTRL is accepted into the control inbox and answered with a CACK, BUSY when the inbox is
full; a CACK is taken. -/
def execCtrlPacketArrive (pc : Fin 8) (p : FabPkt) (s : State) : Result :=
  .next (if p.ty = ftCtrl then
      match s.takeFab pc.val p with
      | some s =>
        if (s.pc pc.val).disp.ctrl.length < inboxCap then
          (s.updDisp pc.val (fun d => { d with ctrl := d.ctrl ++ [p] })).fabSend pc.val (p.answerTo s.ownAddr ftCack 0)
        else s.fabSend pc.val (p.answerTo s.ownAddr ftCack 5)
      | none => s
    else if p.ty = ftCack then s.fabAnswered pc.val p
    else s)

/-! ## Windows (R294, R295) -/

def Disp.win (d : Disp) (n : Nat) : Win := Tbl.get (fun _ => {}) d.wins n
def Disp.updWin (d : Disp) (n : Nat) (f : Win → Win) : Disp := { d with wins := Tbl.set d.wins n (f (d.win n)) }

/-- DISP.WIN_CMD.BUSY: a CLOSE waits for COMMITTED to reach zero. -/
def Disp.winBusy (d : Disp) : Bool := d.wins.any (fun e => e.2.st == .closing)

/-- A write of DISP.WIN_CMD with OP OPEN or CLOSE: ignored while BUSY, refused in the wrong state. -/
def Disp.winCmd (d : Disp) (n op : Nat) : Disp :=
  if d.winBusy then d
  else match op with
    | 1 => if (d.win n).st = .closed then d.updWin n (fun w => { w with st := .opened }) else { d with winRefused := true }
    | 2 => if (d.win n).st = .opened then d.updWin n (fun w => { w with st := .closing }) else { d with winRefused := true }
    | _ => d

/-- WIN_OPEN (R294). -/
def execWinOpen (pc : Fin 8) (window : Fin 1024) (s : State) : Result := .next (s.updDisp pc.val (fun d => d.winCmd window.val 1))

/-- WIN_CLOSE (R294). -/
def execWinClose (pc : Fin 8) (window : Fin 1024) (s : State) : Result := .next (s.updDisp pc.val (fun d => d.winCmd window.val 2))

/-- WIN_CLOSED (R294). -/
def execWinClosed (pc : Fin 8) (window : Fin 1024) (s : State) : Result :=
  .next (s.updDisp pc.val (fun d => if (d.win window.val).st = .closing ∧ (d.win window.val).committed = 0 then
    d.updWin window.val (fun w => { w with st := .closed }) else d))

/-- WINDOW, EPOCH and OFFSET of a WWRITE (R283). -/
def wwWindow (p : FabPkt) : Nat := bitsOf p.specific.toNat 0 16
def wwEpoch (p : FabPkt) : W32 := fld p.specific 16 32
def wwOffset (p : FabPkt) : Nat := bitsOf p.specific.toNat 48 48

/-- A WWRITE checked and written whole: its status (R295). Its writes are acknowledged within the command (log entry 20),
so that COMMITTED is back at its value when it ends. -/
def State.wwrite (s : State) (q : Nat) (p : FabPkt) : State × BitVec 4 :=
  let n := wwWindow p
  let w := (s.pc q).disp.win n
  let refuse (st : BitVec 4) : State × BitVec 4 :=
    (s.updDisp q (fun d => d.updWin n (fun w => { w with refused := satAdd w.refused 1 })), st)
  if 1024 ≤ n ∨ w.st ≠ .opened ∨ wwEpoch p ≠ w.epoch then refuse stWindowClosed
  else if wwOffset p % 64 ≠ 0 ∨ w.size.toNat < wwOffset p + p.body.length ∨ p.body.length % 64 ≠ 0 then refuse stOutOfWindow
  else
    (List.range (ceilDiv p.body.length 512)).foldl (fun (s, st) i =>
      let (s, st') := s.hbmWrite (w.base.toNat + wwOffset p + 512 * i) ((p.body.drop (512 * i)).take 512) p.poison
      (s, if st = stOk then st' else st)) (s, stOk)

/-- WWRITE (R295): a WWRITE delivered to a port complex. -/
def execWwrite (pc : Fin 8) (p : FabPkt) (s : State) : Result :=
  .next (if p.ty = ftWwrite then
      match s.takeFab pc.val p with
      | some s =>
        let (s, st) := s.wwrite pc.val p
        s.fabSend pc.val (p.answerTo s.ownAddr ftWack (st.setWidth 8))
      | none => s
    else s)

/-! ## Send channels (R296) -/

def Disp.chan (d : Disp) (n : Nat) : Chan := Tbl.get (fun _ => {}) d.chans n
def Chan.field (c : Chan) (w lo len : Nat) : Nat := bitsOf (vget 0 c.w w).toNat lo len

/-- Channel and offset of an address in the send aperture of port complex q. -/
def sendAperture (q addr : Nat) : Option (Nat × Nat) :=
  let b := 0x000200000000 + q * 2 ^ 29 + 0x06000000
  if b ≤ addr ∧ addr < b + 0x02000000 then some ((addr - b) / 2 ^ 17, (addr - b) % 2 ^ 17) else none

/-- The array's INDEX in a channel's rectangle. -/
def State.chanIndex (s : State) (c : Chan) (p : Packet) : Option Nat :=
  match (if p.sport = 0 then meshOf s.smap p.srow p.scol else none) with
  | none => none
  | some (r, k) =>
    let r0 := c.field 3 32 8
    let k0 := c.field 3 40 8
    if r0 ≤ r ∧ r ≤ r0 + c.field 3 48 8 ∧ k0 ≤ k ∧ k ≤ k0 + c.field 3 56 8 then
      some ((r - r0) * (c.field 3 56 8 + 1) + (k - k0))
    else none

/-- SPECIFIC of a WWRITE. -/
def wwSpecific (window : Nat) (epoch : Nat) (offset : Nat) : BitVec 96 :=
  BitVec.ofNat 96 (window + epoch * 2 ^ 16 + offset % 2 ^ 48 * 2 ^ 48)

/-- A read of an aperture that has no contents: OUT_OF_WINDOW while DISP.CTL.ENABLE is 0, else POISON (R296, R312). -/
def State.apertureRead (s : State) (pc : Fin 8) (p : Packet) : State :=
  let n : Node := .pc pc
  let st := if (s.pc pc.val).disp.enable then stOk else stOutOfWindow
  (s.takeAt n p).sendNode n (p.answer ptReadRsp st (List.replicate (p.bytesM1.toNat + 1) 0) (st == stOk))

/-- SEND_CHANNEL_WRITE (R296, R312): a WRITE to the send aperture becomes a WWRITE, or is refused; a read is answered POISON. -/
def execSendChannelWrite (pc : Fin 8) (p : Packet) (s : State) : Result :=
  let q := pc.val
  let n : Node := .pc pc
  let act (e : Nat × Nat) : State :=
    if !(s.arrivedAt n).contains p then s
    else if p.ptype = ptReadReq then s.apertureRead pc p
    else if p.ptype ≠ ptWrite then s
    else
      let t := s.takeAt n p
      let c := (t.pc q).disp.chan e.1
      match (if (t.pc q).disp.enable && bit (vget 0 c.w 0) 42 then t.chanIndex c p else none) with
      | none => t.sendNode n (p.answer ptWriteAck stOutOfWindow [] false)
      | some i =>
        t.fabRequest q { ty := ftWwrite, dpc := BitVec.ofNat 3 q, spc := 0, dst := (vget 0 c.w 0).setWidth 32, src := 0, poison := p.poison
                         specific := wwSpecific (c.field 0 32 10) (c.field 1 0 32) (c.field 2 0 48 + i * c.field 3 0 32 + e.2)
                         body := p.payload } e.1 (some p)
  .next ((sendAperture q p.addr.toNat).elim s act)

/-! ## Layer entries (R300, R301) -/

/-- A dispatch layer's entry, read from HBM. -/
structure DispLayer where
  bytes : List Byte
  deriving DecidableEq, Repr

def DispLayer.at_ (d : DispLayer) (i n : Nat) : Nat := bytesAt d.bytes i n
def DispLayer.valid (d : DispLayer) : Bool := d.at_ 0 1 % 2 == 1
def DispLayer.bf16 (d : DispLayer) : Bool := d.at_ 0 1 / 2 % 2 == 1
def DispLayer.backward (d : DispLayer) : Bool := d.at_ 0 1 / 4 % 2 == 1
def DispLayer.fwdLayer (d : DispLayer) : Nat := d.at_ 2 2
def DispLayer.cap (d : DispLayer) : Nat := d.at_ 4 2
def DispLayer.didx (d : DispLayer) : Nat := d.at_ 6 2
def DispLayer.sources (d : DispLayer) : Nat := d.at_ 8 2
def DispLayer.homes (d : DispLayer) : Nat := d.at_ 10 2
def DispLayer.experts (d : DispLayer) : Nat := d.at_ 12 2
def DispLayer.tokenLines (d : DispLayer) : Nat := d.at_ 14 2
def DispLayer.resultLines (d : DispLayer) : Nat := d.at_ 16 2
def DispLayer.endExpect (d : DispLayer) : Nat := d.at_ 18 2
def DispLayer.srcBase (d : DispLayer) : Nat := d.at_ 24 8
def DispLayer.expTable (d : DispLayer) : Nat := d.at_ 32 8
def DispLayer.logBase (d : DispLayer) : Nat := d.at_ 40 8
def DispLayer.slotmapBase (d : DispLayer) : Nat := d.at_ 48 8
def DispLayer.combBase (d : DispLayer) : Nat := d.at_ 56 8
def DispLayer.sourceMap (d : DispLayer) : Nat := d.at_ 64 8
def DispLayer.homeMap (d : DispLayer) : Nat := d.at_ 72 8
def DispLayer.statusAddr (d : DispLayer) : Nat := d.at_ 80 8
def DispLayer.touchAddr (d : DispLayer) : Nat := d.at_ 88 8
def DispLayer.tb (d : DispLayer) : Nat := d.at_ 96 4

/-- Bytes of a slot's combine lines (R301). -/
def DispLayer.cb (d : DispLayer) : Nat := 64 * d.resultLines * (1 + b2n d.bf16)

/-- n bytes of HBM at an address, whole lines read. -/
def State.hbmField (s : State) (addr n : Nat) : State × Nat :=
  let lo := addr / 64 * 64
  let (s, bs, _) := s.hbmGet lo (roundUp (addr + n - lo) 64)
  (s, bytesAt bs (addr - lo) n)

/-- A field written by reading its lines, merging, and writing them back (R302). -/
def State.hbmMerge (s : State) (addr : Nat) (bs : List Byte) : State :=
  let lo := addr / 64 * 64
  let (s, old, _) := s.hbmGet lo (roundUp (addr + bs.length - lo) 64)
  (s.hbmPut lo (old.take (addr - lo) ++ bs ++ old.drop (addr - lo + bs.length))).1

/-- The entry of dispatch layer l of port complex q. -/
def State.dispLayer (s : State) (q l : Nat) : State × DispLayer :=
  let (s, bs, _) := s.hbmGet ((s.pc q).disp.layerBase.toNat + 128 * l) 128
  (s, ⟨bs⟩)

/-- A field of expert e's entry. -/
def State.expertField (s : State) (d : DispLayer) (e off n : Nat) : State × Nat := s.hbmField (d.expTable + 64 * e + off) n

/-! ## Segments and packets (R299) -/

/-- The header of a segment. -/
def segHeader (expert n source line lines : Nat) : List Byte :=
  leBytes 2 expert ++ leBytes 2 n ++ leBytes 2 source ++ leBytes 2 line ++ leBytes 2 lines ++ List.replicate 6 0

/-- SPECIFIC of a TOKEN or RESULT. -/
def tokSpecific (step layer segments : Nat) (end_ : Bool) : BitVec 96 :=
  BitVec.ofNat 96 (step % 2 ^ 32 + layer * 2 ^ 32 + segments * 2 ^ 48 + b2n end_ * 2 ^ 64)

def tokStep (p : FabPkt) : W32 := fld p.specific 0 32
def tokLayer (p : FabPkt) : Nat := bitsOf p.specific.toNat 32 16
def tokSegments (p : FabPkt) : Nat := bitsOf p.specific.toNat 48 16
def tokEnd (p : FabPkt) : Bool := bit p.specific 64

/-- A TOKEN or RESULT packet sent to a module. -/
def State.sendTok (s : State) (q : Nat) (ty : BitVec 8) (dst step : W32) (layer segments : Nat) (end_ : Bool) (body : List Byte) : State :=
  s.fabRequest q { ty := ty, dpc := BitVec.ofNat 3 q, spc := 0, dst := dst, src := 0
                   specific := tokSpecific step.toNat layer segments end_, body := body } 0 none

/-- Lines cut into pieces by the room left in packets of at most 4,064 bytes: the packets that fill up, and the last,
open one. -/
def packLines (expert n source : Nat) : Nat → Nat → List Byte → SegPack → List SegPack → SegPack × List SegPack
  | 0, _, _, cur, done => (cur, done)
  | fuel + 1, line, bs, cur, done =>
    if bs.isEmpty then (cur, done)
    else
      let room := (4064 - cur.bytes.length - 16) / 64
      if 4064 < cur.bytes.length + 80 then packLines expert n source fuel line bs { cur with bytes := [], count := 0 } (done ++ [cur])
      else
        let k := min room (bs.length / 64)
        packLines expert n source fuel (line + k) (bs.drop (64 * k))
          { cur with bytes := cur.bytes ++ segHeader expert n source line k ++ bs.take (64 * k), count := cur.count + 1 } done

/-- A vector packed for one destination. -/
def SegPack.add (c : SegPack) (expert n source : Nat) (bs : List Byte) : SegPack × List SegPack :=
  packLines expert n source (2 * (bs.length / 64) + 2) 0 bs c []

/-! ## The origin (R303, R305, R306) -/

def State.origin (s : State) (q l : Nat) : OriginLayer := Tbl.get (fun _ => {}) (s.pc q).disp.origin l
def State.updOrigin (s : State) (q l : Nat) (f : OriginLayer → OriginLayer) : State :=
  s.updDisp q (fun d => { d with origin := Tbl.set d.origin l (f (Tbl.get (fun _ => {}) d.origin l)) })

/-- A vector packed into a layer's segments for a module; the packets that are full are sent. -/
def State.originSend (s : State) (q l : Nat) (dst : W32) (expert n source : Nat) (bs : List Byte) : State :=
  let o := s.origin q l
  let cur := (o.packs.find? (fun c => c.dst == dst)).getD { dst := dst }
  let (open_, full) := cur.add expert n source bs
  let s := full.foldl (fun s c => s.sendTok q ftToken dst o.cur l c.count false c.bytes) s
  s.updOrigin q l (fun o => { o with packs := o.packs.filter (fun c => c.dst != dst) ++ [open_] })

/-- The segments packed so far are sent. -/
def State.flushPacks (s : State) (q l : Nat) : State :=
  let o := s.origin q l
  let s := o.packs.foldl (fun s c => if c.count = 0 then s else s.sendTok q ftToken c.dst o.cur l c.count false c.bytes) s
  s.updOrigin q l (fun o => { o with packs := [] })

/-- When every END has come and every token has returned, the status line is written (R305). -/
def State.originFinish (s : State) (q l : Nat) (d : DispLayer) : State :=
  let o := s.origin q l
  if o.ends = d.endExpect ∧ o.returned = o.sent then
    let s := s.hbmMerge (d.statusAddr + 8) (leBytes 4 o.sent.toNat ++ leBytes 4 o.dropped.toNat ++ leBytes 4 o.returned.toNat)
    s.hbmMerge (d.statusAddr + 4) (leBytes 4 o.cur.toNat)
  else s

/-- Fields of a route line (R298). -/
def rlKind (bs : List Byte) : Nat := bytesAt bs 0 1
def rlK (bs : List Byte) : Nat := bytesAt bs 1 1
def rlSlot (bs : List Byte) : Nat := bytesAt bs 4 4
def rlStep (bs : List Byte) : W32 := BitVec.ofNat 32 (bytesAt bs 8 4)
def rlCount (bs : List Byte) : Nat := bytesAt bs 12 2
def rlExpert (bs : List Byte) (k : Nat) : Nat := bytesAt bs (16 + 2 * k) 2
def rlGate (bs : List Byte) (k : Nat) : Nat := bytesAt bs (24 + 4 * k) 4

/-- A choice of a TOKEN line: its slot-map pair, and the state after it (R303). -/
def State.tokenChoice (s : State) (q l : Nat) (d : DispLayer) (bs : List Byte) (vec : List Byte) (k : Nat) : State × (Nat × Nat) :=
  let e := rlExpert bs k
  let o := s.origin q l
  let n := Tbl.get (fun _ => 0) o.counts e
  if e = 0xffff then (s, (0xffff, 0xffff))
  else if n = d.cap then
    ((s.updOrigin q l (fun o => { o with dropped := o.dropped + 1 })).updDisp q (fun x => { x with dropped := satAdd x.dropped 1 }), (e, 0xffff))
  else
    let s := s.hbmMerge (d.logBase + 16 * (e * d.cap + n)) (leBytes 4 (rlSlot bs) ++ [BitVec.ofNat 8 k, 0, 0, 0] ++ leBytes 4 (rlGate bs k) ++ [0, 0, 0, 0])
    let s := s.updOrigin q l (fun o => { o with counts := Tbl.set o.counts e (n + 1), sent := o.sent + 1 })
    let (s, home) := s.expertField d e 0 4
    (s.originSend q l (BitVec.ofNat 32 home) e n d.didx vec, (e, n))

/-- Bytes of a slot-map entry. -/
def pairBytes (ps : List (Nat × Nat)) : List Byte :=
  ((ps ++ List.replicate 4 (0xffff, 0xffff)).take 4).flatMap (fun (p : Nat × Nat) => leBytes 2 p.1 ++ leBytes 2 p.2)

/-- The step that a TOKEN line opens at the origin (R303). -/
def State.originStep (s : State) (q l : Nat) (step : W32) : State :=
  if (s.origin q l).cur.toNat < step.toNat then
    (s.flushPacks q l).updOrigin q l (fun o =>
      { o with cur := step, counts := [], ends := 0, sent := 0, dropped := 0, returned := 0, combining := [] })
  else s

/-- A TOKEN line of a forward layer (R303). -/
def State.tokenForward (s : State) (q l : Nat) (d : DispLayer) (bs vec : List Byte) : State :=
  let (s, ps) := (List.range (min 4 (rlK bs))).foldl (fun (s, ps) k =>
    let (s, p) := s.tokenChoice q l d bs vec k
    (s, ps ++ [p])) (s, [])
  s.hbmMerge (d.slotmapBase + 16 * rlSlot bs) (pairBytes ps)

/-- A TOKEN line of a backward layer: the gradient of the slot goes to each expert that its forward slot map records (R306). -/
def State.tokenBackward (s : State) (q l : Nat) (d : DispLayer) (bs vec : List Byte) : State :=
  let (s, f) := s.dispLayer q d.fwdLayer
  let (s, m) := s.hbmField (f.slotmapBase + 16 * rlSlot bs) 16
  (List.range 4).foldl (fun s k =>
    let e := bitsOf m (32 * k) 16
    let n := bitsOf m (32 * k + 16) 16
    if n = 0xffff then s
    else
      let s := s.updOrigin q l (fun o => { o with sent := o.sent + 1 })
      let (s, home) := s.expertField d e 0 4
      s.originSend q l (BitVec.ofNat 32 home) e n d.didx vec) s

/-- A TOKEN line (R303, R306). -/
def State.tokenLine (s : State) (q l : Nat) (bs : List Byte) : State :=
  if (rlStep bs).toNat < (s.origin q l).cur.toNat then s.updDisp q (fun d => { d with stale := satAdd d.stale 1 })
  else
    let (s, d) := s.dispLayer q l
    let s := s.originStep q l (rlStep bs)
    let s := (s.hbmPut (d.combBase + d.cb * rlSlot bs) (List.replicate d.cb 0)).1
    let (s, vec, _) := s.hbmGet (d.srcBase + 64 * d.tokenLines * rlSlot bs) (64 * d.tokenLines)
    if d.backward then s.tokenBackward q l d bs vec else s.tokenForward q l d bs vec

/-- An END line: at END_EXPECT, every home hears of it (R303). -/
def State.endLine (s : State) (q l : Nat) (bs : List Byte) : State :=
  let s := s.updOrigin q l (fun o => { o with ends := o.ends + 1 })
  let (s, d) := s.dispLayer q l
  if (s.origin q l).ends = d.endExpect then
    let s := s.flushPacks q l
    let s := (List.range d.homes).foldl (fun s i =>
      let (s, a) := s.hbmField (d.homeMap + 4 * i) 4
      s.sendTok q ftToken (BitVec.ofNat 32 a) (rlStep bs) l 0 true []) s
    s.originFinish q l d
  else s

/-! ## The home (R304, R305) -/

def State.home (s : State) (q l : Nat) : HomeLayer := Tbl.get (fun _ => {}) (s.pc q).disp.home l
def State.updHome (s : State) (q l : Nat) (f : HomeLayer → HomeLayer) : State :=
  s.updDisp q (fun d => { d with home := Tbl.set d.home l (f (Tbl.get (fun _ => {}) d.home l)) })

def HomeLayer.count (h : HomeLayer) (e source : Nat) : Nat := Tbl.get (fun _ => 0) h.counts (e * 65536 + source)

/-- A RETURN line: the results of inbox slots that hold a token go back to their sources (R305). -/
def State.returnLine (s : State) (q l : Nat) (bs : List Byte) : State :=
  let (s, d) := s.dispLayer q l
  let e := rlExpert bs 0
  let (s, base) := s.expertField d e 16 8
  let (s, packs) := (List.range (rlCount bs)).foldl (fun (s, packs) i =>
    let i := rlSlot bs + i
    let src := i / d.cap
    if i % d.cap < (s.home q l).count e src then
      let (s, dst) := s.hbmField (d.sourceMap + 4 * src) 4
      let (s, vec, _) := s.hbmGet (base + 64 * d.resultLines * i) (64 * d.resultLines)
      let cur : SegPack := (packs.find? (fun (c : SegPack) => c.dst.toNat == dst)).getD { dst := BitVec.ofNat 32 dst }
      let (open_, full) := cur.add e (i % d.cap) src vec
      let s := full.foldl (fun s c => s.sendTok q ftResult c.dst (rlStep bs) l c.count false c.bytes) s
      (s, packs.filter (fun c => c.dst.toNat != dst) ++ [open_])
    else (s, packs)) (s, [])
  packs.foldl (fun s c => if c.count = 0 then s else s.sendTok q ftResult c.dst (rlStep bs) l c.count false c.bytes) s

/-- A segment read from a body: expert, N, SOURCE, LINE, LINES and its lines. -/
structure Seg where
  expert : Nat
  n : Nat
  source : Nat
  line : Nat
  lines : Nat
  data : List Byte

/-- The segments of a body. -/
def parseSegs : Nat → List Byte → List Seg
  | 0, _ => []
  | k + 1, bs =>
    let n := bytesAt bs 8 2
    ⟨bytesAt bs 0 2, bytesAt bs 2 2, bytesAt bs 4 2, bytesAt bs 6 2, n, (bs.drop 16).take (64 * n)⟩ :: parseSegs k (bs.drop (16 + 64 * n))

def State.countBad (s : State) (q : Nat) : State := s.updDisp q (fun d => { d with bad := satAdd d.bad 1 })

/-- The step that a TOKEN opens at the home (R304). -/
def State.homeStep (s : State) (q l : Nat) (d : DispLayer) (step : W32) : State :=
  if (s.home q l).cur.toNat < step.toNat then
    let s := s.updHome q l (fun _ => { cur := step })
    (s.hbmPut (d.touchAddr + d.tb * (step.toNat % 2)) (List.replicate d.tb 0)).1
  else s

/-- Bits lo to lo + n - 1 of a touched buffer set (R302). -/
def State.touchBits (s : State) (base lo n : Nat) : State :=
  if n = 0 then s
  else
    let b := lo / 8
    let k := (lo + n - 1) / 8 - b + 1
    let (s, v) := s.hbmField (base + b) k
    s.hbmMerge (base + b) (leBytes k (v ||| (2 ^ n - 1) * 2 ^ (lo % 8)))

/-- A segment of a TOKEN at the home (R304). -/
def State.tokenSeg (s : State) (q l : Nat) (d : DispLayer) (step src : W32) (poison : Bool) (g : Seg) : State :=
  let (s, a) := s.hbmField (d.sourceMap + 4 * g.source) 4
  let (s, home) := s.expertField d g.expert 0 4
  if a ≠ src.toNat ∨ home ≠ s.ownAddr.toNat ∨ d.cap ≤ g.n ∨ d.tokenLines < g.line + g.lines then s.countBad q
  else
    let s := if g.line = 0 then
        let s := s.updHome q l (fun h =>
          { h with counts := Tbl.set h.counts (g.expert * 65536 + g.source) (h.count g.expert g.source + 1) })
        let (s, lo) := s.expertField d g.expert 32 4
        let (s, n) := s.expertField d g.expert 36 4
        s.touchBits (d.touchAddr + d.tb * (step.toNat % 2)) lo n
      else s
    let (s, base) := s.expertField d g.expert 8 8
    let addr := base + 64 * (d.tokenLines * (g.source * d.cap + g.n) + g.line)
    (List.range (ceilDiv g.data.length 512)).foldl (fun s i =>
      (s.hbmWrite (addr + 512 * i) ((g.data.drop (512 * i)).take 512) poison).1) s

/-- Every local count written (R304). -/
def State.writeCounts (s : State) (q l : Nat) (d : DispLayer) : State :=
  (List.range d.experts).foldl (fun s e =>
    let (s, home) := s.expertField d e 0 4
    if home = s.ownAddr.toNat then
      let (s, base) := s.expertField d e 24 8
      (List.range d.sources).foldl (fun s i => s.hbmMerge (base + 4 * i) (leBytes 4 ((s.home q l).count e i))) s
    else s) s

/-- A TOKEN packet at the home (R304). -/
def State.tokenPacket (s : State) (q : Nat) (p : FabPkt) : State :=
  let l := tokLayer p
  let step := tokStep p
  let (s, d) := s.dispLayer q l
  let s := s.homeStep q l d step
  let s := (parseSegs (tokSegments p) p.body).foldl (fun s g => s.tokenSeg q l d step p.src p.poison g) s
  let s := s.fabSend q (p.answerTo s.ownAddr ftTack 0)
  let s := if tokEnd p then s.updHome q l (fun h => { h with ended := h.ended + 1 }) else s
  if (s.home q l).ended = d.sources then (s.writeCounts q l d).hbmMerge d.statusAddr (leBytes 4 step.toNat) else s

/-- TOKEN_ARRIVE (R304, R312): discarded while DISP.CTL.ENABLE is 0. -/
def execTokenArrive (pc : Fin 8) (p : FabPkt) (s : State) : Result :=
  .next (if p.ty = ftToken then
      match s.takeFab pc.val p with
      | some s => if (s.pc pc.val).disp.enable then s.tokenPacket pc.val p else s
      | none => s
    else s)

/-! ## Results at the origin (R305, R306) -/

/-- An atomic of a line of HBM, where its stack serves it. -/
def State.hbmAtomic (s : State) (addr aop : Nat) (operand : List Byte) : State :=
  if hbmPopulated addr && (s.stack (stackOf addr)).serves (stackOff addr) then
    (s.applyAtomic (stackOf addr) (stackOff addr / 64) aop operand).1
  else s

/-- The elements of a result line in FP32, multiplied by GATE, as lines of the combine region. -/
def gateLines (bf16 : Bool) (gate : W32) (bs : List Byte) : List Byte :=
  let w := if bf16 then 2 else 4
  (List.range (bs.length / w)).flatMap (fun i =>
    let x := bytesAt bs (w * i) w
    let v : W32 := if bf16 then toF32 (fmtBf16.decode x) else BitVec.ofNat 32 x
    leBytes 4 (f32Mul v gate).toNat)

/-- A segment of a RESULT at the origin: combined with the recorded GATE of its choice. -/
def State.resultSeg (s : State) (q l : Nat) (d f : DispLayer) (g : Seg) : State :=
  let (s, e) := s.hbmField (f.logBase + 16 * (g.expert * f.cap + g.n)) 16
  let slot := bitsOf e 0 32
  let choice := bitsOf e 32 8
  let gate : W32 := BitVec.ofNat 32 (bitsOf e 64 32)
  let lines := gateLines d.bf16 gate g.data
  let base := d.combBase + d.cb * slot + 64 * g.line * (1 + b2n d.bf16)
  let s := (List.range (lines.length / 64)).foldl (fun s i => s.hbmAtomic (base + 64 * i) 1 ((lines.drop (64 * i)).take 64)) s
  s.updOrigin q l (fun o =>
    let key := slot * 4 + choice
    let n := Tbl.get (fun _ => 0) o.combining key + g.lines
    if n < d.resultLines then { o with combining := Tbl.set o.combining key n }
    else { o with combining := o.combining.filter (fun c => c.1 != key), returned := o.returned + 1 })

/-- A RESULT packet at the origin (R305). -/
def State.resultPacket (s : State) (q : Nat) (p : FabPkt) : State :=
  let l := tokLayer p
  let (s, d) := s.dispLayer q l
  let (s, f) := if d.backward then s.dispLayer q d.fwdLayer else (s, d)
  let s := (parseSegs (tokSegments p) p.body).foldl (fun s g => s.resultSeg q l d f g) s
  (s.fabSend q (p.answerTo s.ownAddr ftRack 0)).originFinish q l d

/-- RESULT_ARRIVE (R305). -/
def execResultArrive (pc : Fin 8) (p : FabPkt) (s : State) : Result :=
  .next (if p.ty = ftResult then
      match s.takeFab pc.val p with
      | some s => if (s.pc pc.val).disp.enable then s.resultPacket pc.val p else s
      | none => s
    else s)

/-! ## Route lines (R298) -/

/-- Layer of an address in the route aperture of port complex q. -/
def routeAperture (q addr : Nat) : Option Nat :=
  let b := 0x000200000000 + q * 2 ^ 29 + 0x05000000
  if b ≤ addr ∧ addr < b + 0x01000000 then some ((addr - b) / 2 ^ 12) else none

/-- Lines of a packet that have been handled. -/
def Disp.handled (d : Disp) (p : Packet) : Nat := ((d.routing.find? (fun r => r.1 == p)).map (fun r => r.2)).getD 0

/-- One more line of a packet handled; the packet is acknowledged after its last line. -/
def State.lineDone (s : State) (q : Nat) (p : Packet) : State :=
  let k := (s.pc q).disp.handled p + 1
  let s := s.updDisp q (fun d => { d with routing := d.routing.filter (fun r => r.1 != p) })
  if p.payload.length ≤ 64 * k then
    (s.takeAt (.pc (Fin.ofNat 8 q)) p).sendNode (.pc (Fin.ofNat 8 q)) (p.answer ptWriteAck stOk [] false)
  else s.updDisp q (fun d => { d with routing := d.routing ++ [(p, k)] })

/-- The next line of a packet to the route aperture, when it is of a kind: f handles it. A line of a reserved KIND, or of a
layer that is not VALID (DESIGN CHOICE 36), is counted in DISP.STAT.BAD. A read of the route aperture holds no line: it is answered as
one of the send aperture (DESIGN CHOICE 133). -/
def State.routeLine (s : State) (pc : Fin 8) (p : Packet) (kind : Nat) (f : Nat → List Byte → State → State) : State :=
  let q := pc.val
  let n : Node := .pc pc
  let act (l : Nat) : State :=
    if !(s.arrivedAt n).contains p then s
    else if p.ptype = ptReadReq then s.apertureRead pc p
    else if p.ptype ≠ ptWrite then s
    else if !(s.pc q).disp.enable then
      ((s.updDisp q (fun d => { d with routing := d.routing.filter (fun r => r.1 != p) })).takeAt n p).sendNode n
        (p.answer ptWriteAck stOutOfWindow [] false)
    else
      let bs := (p.payload.drop (64 * (s.pc q).disp.handled p)).take 64
      if rlKind bs = 0 ∨ 3 < rlKind bs then (s.countBad q).lineDone q p
      else if rlKind bs ≠ kind then s
      else
        let r := s.dispLayer q l
        if r.2.valid then (f l bs r.1).lineDone q p else (r.1.countBad q).lineDone q p
  (routeAperture q p.addr.toNat).elim s act

/-- ROUTE_TOKEN (R303). -/
def execRouteToken (pc : Fin 8) (p : Packet) (s : State) : Result :=
  .next (s.routeLine pc p 1 (fun l bs s => s.tokenLine pc.val l bs))

/-- ROUTE_END (R303). -/
def execRouteEnd (pc : Fin 8) (p : Packet) (s : State) : Result := .next (s.routeLine pc p 2 (fun l bs s => s.endLine pc.val l bs))

/-- ROUTE_RETURN (R305). -/
def execRouteReturn (pc : Fin 8) (p : Packet) (s : State) : Result := .next (s.routeLine pc p 3 (fun l bs s => s.returnLine pc.val l bs))

end Sys2Proof.Machine
end

