-- ==== Sys2Proof/Machine/Sha.lean ====
section
/-! DEFINITION. Machine/Sha.lean: SHA-512, and the check of an RSASSA-PSS signature under RSA-4096 (R372). -/

namespace Sys2Proof.Machine

/-! ## SHA-512. PRESUMED 37: as FIPS 180-4 gives it; the spec names the algorithm only. -/

/-- The first n primes. -/
def primesTo (bound n : Nat) : List Nat :=
  ((List.range bound).filter (fun p => decide (2 ≤ p) && (List.range p).all (fun d => decide (d < 2) || p % d != 0))).take n

/-- The first 64 bits of the fraction of the n-th root of a prime below 2^(3n). -/
def rootBits (n p : Nat) : W64 := BitVec.ofNat 64 (intRoot n (p * 2 ^ (64 * n)) 67 0)

/-- The initial hash value: square roots of the first eight primes. -/
def shaInit : List W64 := (primesTo 20 8).map (rootBits 2)

/-- The round constants: cube roots of the first eighty primes. -/
def shaK : List W64 := (primesTo 410 80).map (rootBits 3)

/-- Big-endian value of bytes, and the n big-endian bytes of a number. -/
def beNat (bs : List Byte) : Nat := bs.foldl (fun v b => 256 * v + b.toNat) 0
def beBytes (n v : Nat) : List Byte := (leBytes n v).reverse

def shaS0 (x : W64) : W64 := x.rotateRight 1 ^^^ x.rotateRight 8 ^^^ (x >>> 7)
def shaS1 (x : W64) : W64 := x.rotateRight 19 ^^^ x.rotateRight 61 ^^^ (x >>> 6)
def shaB0 (x : W64) : W64 := x.rotateRight 28 ^^^ x.rotateRight 34 ^^^ x.rotateRight 39
def shaB1 (x : W64) : W64 := x.rotateRight 14 ^^^ x.rotateRight 18 ^^^ x.rotateRight 41

/-- The message schedule of a block of 128 bytes. -/
def shaSchedule (bs : List Byte) : Array W64 :=
  (List.range 64).foldl (fun (w : Array W64) i =>
      w.push (shaS1 (w.getD (i + 14) 0) + w.getD (i + 9) 0 + shaS0 (w.getD (i + 1) 0) + w.getD i 0))
    ((List.range 16).map (fun i => BitVec.ofNat 64 (beNat ((bs.drop (8 * i)).take 8)))).toArray

/-- One round on the eight working variables. -/
def shaRound (v : Array W64) (k w : W64) : Array W64 :=
  let a := v.getD 0 0
  let b := v.getD 1 0
  let c := v.getD 2 0
  let e := v.getD 4 0
  let f := v.getD 5 0
  let g := v.getD 6 0
  let t1 := v.getD 7 0 + shaB1 e + ((e &&& f) ^^^ (~~~e &&& g)) + k + w
  let t2 := shaB0 a + ((a &&& b) ^^^ (a &&& c) ^^^ (b &&& c))
  #[t1 + t2, a, b, c, v.getD 3 0 + t1, e, f, g]

/-- The compression of one block. -/
def shaBlock (h : List W64) (bs : List Byte) : List W64 :=
  let w := shaSchedule bs
  let v := (shaK.zip w.toList).foldl (fun v e => shaRound v e.1 e.2) h.toArray
  (h.zip v.toList).map (fun p => p.1 + p.2)

/-- A message padded to whole blocks. -/
def shaPad (bs : List Byte) : List Byte :=
  bs ++ [0x80] ++ List.replicate ((239 - bs.length % 128) % 128) 0 ++ beBytes 16 (8 * bs.length)

/-- The SHA-512 digest of bytes. -/
def sha512 (bs : List Byte) : List Byte :=
  let m := shaPad bs
  let h := (List.range (m.length / 128)).foldl (fun h i => shaBlock h ((m.drop (128 * i)).take 128)) shaInit
  h.flatMap (fun w => beBytes 8 w.toNat)

def xorBytes (a b : List Byte) : List Byte := (a.zip b).map (fun p => p.1 ^^^ p.2)

/-- HMAC with SHA-512, whose blocks are 128 bytes, under a key of at most one block. PRESUMED 37: as RFC 2104 gives it. -/
def hmacSha512 (key msg : List Byte) : List Byte :=
  let k := key ++ List.replicate (128 - key.length) 0
  sha512 (xorBytes k (List.replicate 128 0x5c) ++ sha512 (xorBytes k (List.replicate 128 0x36) ++ msg))

/-! ## RSASSA-PSS. PRESUMED 37: as RFC 8017 gives it, with the parameters of R372. -/

/-- b^e modulo n, for an exponent of up to bits bits. -/
def powMod (n : Nat) : Nat → Nat → Nat → Nat
  | 0, _, _ => 1 % n
  | bits + 1, b, e => (if e % 2 = 1 then b else 1) * powMod n bits (b * b % n) (e / 2) % n

/-- MGF1 with SHA-512: len bytes from a seed. -/
def mgf1 (seed : List Byte) (len : Nat) : List Byte :=
  ((List.range ((len + 63) / 64)).flatMap (fun i => sha512 (seed ++ beBytes 4 i))).take len

/-- EMSA-PSS verification of an encoded message of 512 bytes and 4,095 bits, with a salt of 64 bytes. -/
def pssVerify (mHash em : List Byte) : Bool :=
  let maskedDb := em.take 447
  let h := (em.drop 447).take 64
  let db := (xorBytes maskedDb (mgf1 h 447)).zipIdx.map (fun p => if p.2 = 0 then p.1 &&& 0x7f else p.1)
  em.drop 511 == [0xbc] && (maskedDb.headD 0) &&& 0x80 == 0
    && db.take 383 == List.replicate 382 0 ++ [1]
    && sha512 (List.replicate 8 0 ++ mHash ++ db.drop 383) == h

/-- A 512-byte signature over a message under a public key: modulus and exponent as big-endian numbers. -/
def rsaVerify (modulus exponent : Nat) (msg sig : List Byte) : Bool :=
  decide (sig.length = 512) && decide (beNat sig < modulus)
    && pssVerify (sha512 msg) (beBytes 512 (powMod modulus 4096 (beNat sig) exponent))

end Sys2Proof.Machine
end

