-- ==== Sys2Proof/Machine/Store.lean ====
section
/-! DEFINITION. Machine/Store.lean: the context store: request lines, the medium's upkeep, harvests, and the commands of a
bay (R314–R339). -/

namespace Sys2Proof.Machine

/-! ## Bay states and counters (R337, R339) -/

def bayEmpty : BitVec 3 := 0
def bayOff : BitVec 3 := 1
def bayMounting : BitVec 3 := 2
def bayOnline : BitVec 3 := 3
def bayReadOnly : BitVec 3 := 4
def bayUnmounting : BitVec 3 := 5
def baySanitizing : BitVec 3 := 6
def bayFailed : BitVec 3 := 7

/-- Results of STORE.CMD_STAT. -/
def srState : BitVec 3 := 1
def srField : BitVec 3 := 2
def srSpace : BitVec 3 := 3
def srSanitize : BitVec 3 := 4
def srMedia : BitVec 3 := 5

/-- STORE.CMD operations. -/
def scFormat : BitVec 4 := 1
def scMount : BitVec 4 := 2
def scUnmount : BitVec 4 := 3
def scCommit : BitVec 4 := 5
def scTrim : BitVec 4 := 8

/-- Events of STORE.STAT by bit number. -/
def stReject : Nat := 0
def stUncorrectable : Nat := 1
def stUnwritten : Nat := 2
def stMismatch : Nat := 3
def stSanitize : Nat := 4

/-- An event recorded in STORE.STAT; FIRST holds the first since all were clear. -/
def Bay.record (b : Bay) (i : Nat) : Bay :=
  { b with stat := putBit b.stat i true, statFirst := if b.stat = 0 then BitVec.ofNat 3 i else b.statFirst }

/-- f applied to the cartridge of a bay. -/
def Bay.updCart (b : Bay) (f : Cart → Cart) : Bay := { b with cart := b.cart.map f }

/-! ## Blocks (R314, R315, R326, R327) -/

/-- The channel and the plane of a block (R327; DESIGN CHOICE 38: how blocks are numbered over the 64 channels). -/
def chanOf (b : Nat) : Nat := b % 64
def planeOf (b : Nat) : Nat := b / 64 % Config.cartPlanes

def Cart.blk (c : Cart) (b : Nat) : NandBlock := Tbl.get (fun _ => { erases := c.base }) c.blocks b
def Cart.updBlk (c : Cart) (b : Nat) (f : NandBlock → NandBlock) : Cart := { c with blocks := Tbl.set c.blocks b (f (c.blk b)) }

/-- A block holds data. -/
def Cart.holds (c : Cart) (b : Nat) : Bool := c.pages.any (fun e => e.2.blk == b)

/-- Blocks that have been used. -/
def Cart.known (c : Cart) : List Nat := c.blocks.map (fun (e : Nat × NandBlock) => e.1)

/-- A block is neither retired nor one reported bad at manufacture (R326). -/
def Cart.inService (c : Cart) (b : Nat) : Bool := !(c.blk b).retired && !Config.factoryBad c.serial b

/-- The first block of a kind that was never used, if the cartridge has one. -/
def Cart.fresh (c : Cart) (at_ : Nat → Bool) : Option Nat :=
  (List.range Config.cartBlocks).find? (fun b => at_ b && !c.known.contains b && c.inService b)

/-- Free blocks in service of a kind. -/
def Cart.freeAt (c : Cart) (at_ : Nat → Bool) : List Nat :=
  (c.known.filter (fun b => at_ b && c.inService b && !c.holds b)) ++ (c.fresh at_).toList

/-- The element of a list with the least measure. -/
def leastBy (f : Nat → Nat) : List Nat → Option Nat
  | [] => none
  | b :: bs => some (bs.foldl (fun m x => if f x < f m then x else m) b)

/-- The free block of a channel and plane with the lowest erase count (R327), or of any where that one has none. A page is given a block
of its own (DESIGN CHOICE 38). -/
def Cart.allocate (c : Cart) (channel plane : Nat) : Option Nat :=
  (leastBy (fun b => (c.blk b).erases) (c.freeAt (fun b => chanOf b == channel && planeOf b == plane))).or
    (leastBy (fun b => (c.blk b).erases) (c.freeAt (fun _ => true)))

/-- PCT_USED: the average erase count as a percentage of the rated cycles, at most 255 (R315). -/
def Cart.pctUsed (c : Cart) : BitVec 8 :=
  let total := (c.blocks.map (fun (e : Nat × NandBlock) => e.2.erases)).sum + c.base * (Config.cartBlocks - c.blocks.length)
  BitVec.ofNat 8 (min 255 (100 * total / (Config.cartBlocks * Config.ratedCycles)))

/-- Blocks left in the spare pool, which replaces retired ones (R326). -/
def Cart.spares (c : Cart) : Nat := Config.spareBlocks c.serial - c.blocks.countP (fun e => e.2.retired)

/-- SPARE_PCT: the spare pool as a percentage of raw capacity; below 1 % the cartridge is worn (R326, R339). -/
def Cart.sparePct (c : Cart) : BitVec 8 := BitVec.ofNat 8 (min 255 (100 * c.spares / Config.cartBlocks))
def Cart.worn (c : Cart) : Bool := decide (100 * c.spares < Config.cartBlocks)

/-- The state in which a mounted cartridge serves (R326, R337). -/
def Cart.servingState (c : Cart) : BitVec 3 := if c.worn then bayReadOnly else bayOnline

/-- A value of the bay's cartridge, and what an empty bay reads. -/
def Bay.ofCart {α : Type} (b : Bay) (d : α) (f : Cart → α) : α := (b.cart.map f).getD d

/-- STORE.STATE (R339); its cartridge fields are 0 without a cartridge. -/
def Bay.stateWord (b : Bay) : W64 :=
  BitVec.ofNat 64 (b.st.toNat + 8 * b2n (b.ofCart false (fun c => c.sanitizing)) + b.celsius.toNat * 2 ^ 8
    + (b.ofCart 0 (fun c => c.pctUsed)).toNat * 2 ^ 16 + (b.ofCart 0 (fun c => c.sparePct)).toNat * 2 ^ 24
    + (b.ofCart 0 (fun c => c.progress)).toNat * 2 ^ 32)

/-- CARTRIDGE_WORN, CARTRIDGE_HOT or CARTRIDGE_FAILED of bay n, with STORE.STATE (R418). -/
def State.postBay (s : State) (n sev : Nat) : State := s.post 0x0f sev 0 ukBay n [(s.bay n).stateWord.toNat]

/-- The bytes of a store key (R438): the first 32 of HMAC-SHA-512, under the secret, over "ITB-STORE" and the module serial. -/
def StoreKey.bytes (k : StoreKey) : List Byte :=
  (hmacSha512 (Config.secretBytes k.secret) ([0x49, 0x54, 0x42, 0x2d, 0x53, 0x54, 0x4f, 0x52, 0x45] ++ leBytes 8 k.serial.toNat)).take 32

/-- The store key under which the module wraps media keys: of the owner secret, or of the transient one (R438). -/
def Sec.storeKey (c : Sec) : Option StoreKey :=
  (if c.lc = 1 ∨ c.lc = 2 then c.ownerSecret else if c.lc = 0 ∨ c.lc = 3 then some c.transientSecret else none).map
    (fun n => { secret := n, serial := Config.serial })

/-! ## Pages (R318, R319) -/

/-- Number of a page: of slot j for NS 1, else j = 0. -/
def pageNo (ns slot page : Nat) : Nat := (ns * 16 + slot) * 2 ^ 32 + page

/-- The first slot, own slots before mirror slots, that holds a generation in a state. -/
def Cart.slotIn (c : Cart) (gen : W32) (st : BitVec 3) : Option Nat :=
  (List.range 16).find? (fun i => let x := vget {} c.slots i; x.gen == gen && x.st == st)

/-- The slot of a generation that a line or command names: to be written, an OPEN one; to be read, any slot that is not FREE (R321): an
OPEN one first, then COMMITTED, FAILED, RECLAIMING (DESIGN CHOICE 137: the order). -/
def Cart.slotOf (c : Cart) (gen : W32) (writes : Bool) : Option Nat :=
  if writes then c.slotIn gen 1 else (((c.slotIn gen 1).or (c.slotIn gen 2)).or (c.slotIn gen 4)).or (c.slotIn gen 3)

/-- Pages of a namespace, and of each slot of NS 1. -/
def Cart.nsPages (c : Cart) (ns : Nat) : Nat := (vget 0 c.ns ns).toNat

/-- The slot part of a page's number. -/
def Cart.slotFor (c : Cart) (ns : Nat) (gen : W32) (writes : Bool) : Option Nat :=
  if ns = 1 then c.slotOf gen writes else some 0

/-- The header of a page as its bytes 8–63. -/
def StorePage.headerBody (p : StorePage) : List Byte :=
  [BitVec.ofNat 8 p.ns, p.fmt] ++ leBytes 2 p.tokens.toNat ++ leBytes 4 p.sequence.toNat ++ leBytes 4 p.block.toNat
    ++ leBytes 2 p.layer.toNat ++ [0, 0] ++ leBytes 4 p.gen.toNat ++ leBytes 8 p.page ++ List.replicate 28 0

def pageBytes : Nat := 2097152

/-- The CRC of a page, and its 64-byte header (R319). -/
def StorePage.crc (p : StorePage) : W64 := crc64 (p.headerBody ++ Memory.read p.data 0 pageBytes)
def StorePage.header (p : StorePage) : List Byte := leBytes 8 p.crc.toNat ++ p.headerBody

/-! ## Pages in blocks (R323, R326–R328) -/

/-- A block that no longer holds data is erased. -/
def Cart.eraseBlk (c : Cart) (b : Nat) : Cart :=
  if c.holds b then c else c.updBlk b (fun x => { x with erases := x.erases + 1, age := 0, since := 0, soft := 0 })

/-- A page removed. -/
def Cart.dropPage (c : Cart) (n : Nat) : Cart :=
  match c.pages.find? (fun e => e.1 == n) with
  | some e => ({ c with pages := c.pages.filter (fun x => x.1 != n) }).eraseBlk e.2.blk
  | none => c

/-- A page written, into a block allocated for it in a channel and plane. -/
def Cart.putPage (c : Cart) (n : Nat) (p : StorePage) (channel plane : Nat) : Cart :=
  let c := c.dropPage n
  let b := (c.allocate channel plane).getD 0
  let c := { c with pages := Tbl.set c.pages n { p with blk := b } }
  c.updBlk b (fun x => { x with age := 0, since := 0 })

/-- The pages of a block moved to another (R323, R326–R328): age and SINCE are zero there. -/
def Cart.moveTo (c : Cart) (b t : Nat) : Cart :=
  let c := { c with pages := c.pages.map (fun (e : Nat × StorePage) => if e.2.blk = b then (e.1, { e.2 with blk := t }) else e) }
  (c.updBlk t (fun x => { x with age := 0, since := 0, soft := 0 })).eraseBlk b

/-- A block relocated by the controller; counted in STORE.COUNT.RELOCATED. -/
def Bay.relocateTo (b : Bay) (blk : Nat) (t : Option Nat) : Bay :=
  match t with
  | some t => { (b.updCart (fun c => c.moveTo blk t)) with relocated := satAdd b.relocated 1 }
  | none => b

def Bay.relocate (b : Bay) (blk : Nat) : Bay := b.relocateTo blk (b.cart.bind (fun c => c.allocate (chanOf blk) (planeOf blk)))

/-- A block retired, replaced from the spare pool, and its valid pages relocated. When the pool falls below 1 % the bay is READ_ONLY
(R326). -/
def State.retireBlock (s : State) (n blk : Nat) : State :=
  let was := (s.bay n).ofCart false Cart.worn
  let s := s.updBay n (fun b => (b.updCart (fun c => c.updBlk blk (fun x => { x with retired := true }))).relocate blk)
  if (s.bay n).ofCart false Cart.worn = true ∧ was = false then
    (s.updBay n (fun b => if b.st = bayOnline then { b with st := bayReadOnly } else b)).postBay n 1
  else s

/-! ## The protected write buffer (R314, R322, R330, R338) -/

/-- Pages that the buffer holds: 256 MiB. -/
def bufferPages : Nat := 128

/-- The numbers of buffered pages that the cartridge still has. -/
def Bay.settle (b : Bay) : Bay := { b with buffer := b.buffer.filter (fun n => b.ofCart false (fun c => c.pages.any (fun e => e.1 == n))) }

/-- A page leaves the buffer for NAND. Whether the erase or the program of its block fails is a free value; a block that fails is
retired (R326). -/
def State.program (s : State) (n no : Nat) : State :=
  let (v, s) := s.draw
  let s := s.updBay n (fun b => { b with buffer := b.buffer.filter (fun m => m != no) })
  match (s.bay n).cart.bind (fun c => c.pages.find? (fun e => e.1 == no)) with
  | some e => if bit v 0 then s.retireBlock n e.2.blk else s
  | none => s

/-- A page enters the buffer; the oldest leaves it when it is full. -/
def State.bufferPage (s : State) (n no : Nat) : State :=
  let s := s.updBay n (fun b => { b with buffer := b.buffer.filter (fun m => m != no) ++ [no] })
  match (s.bay n).buffer with
  | old :: _ => if bufferPages < (s.bay n).buffer.length then s.program n old else s
  | [] => s

/-- The whole buffer written to NAND. -/
def State.flushBuffer (s : State) (n : Nat) : State := (s.bay n).buffer.foldl (fun s no => s.program n no) s

/-! ## Request lines (R320–R323) -/

/-- A request line's fields. -/
def slField (bs : List Byte) (i n : Nat) : Nat := bytesAt bs i n

/-- A span lies in one enabled range, with WRITE_EN where HBM is written (R321). -/
def Bay.inDst (b : Bay) (lo hi : Nat) (write : Bool) : Bool :=
  b.dst.toList.any (fun r => r.enable && (!write || r.writeEn) && decide (r.base.toNat * 2 ^ 20 ≤ lo) && decide (hi ≤ r.bound.toNat * 2 ^ 20))

/-- The checks of a line (R321). -/
def Bay.lineOk (b : Bay) (bs : List Byte) : Bool :=
  let op := slField bs 0 1
  let ns := slField bs 1 1
  let n := slField bs 2 2 + 1
  let gen : W32 := BitVec.ofNat 32 (slField bs 4 4)
  let page := slField bs 8 8
  let hbm := slField bs 16 8
  let hdr := slField bs 24 8
  match b.cart with
  | none => false
  | some c =>
    (op == 1 || op == 2) && decide (ns ≤ 2) && decide (n ≤ 16) && slField bs 46 18 == 0
      && (ns == 1 || gen == 0) && (op == 1 || hdr == 0) && decide (hbm % 512 = 0) && decide (hdr % 64 = 0)
      && decide (0 < c.nsPages ns) && decide (page + n ≤ c.nsPages ns)
      && (c.slotFor ns gen (op == 2)).isSome
      && b.inDst hbm (hbm + pageBytes * n) (op == 1) && (hdr == 0 || b.inDst hdr (hdr + 64 * n) true)

/-- The accepted line of 64 bytes. -/
def Bay.mkLine (b : Bay) (p : Packet) (bs : List Byte) : StoreLine :=
  let gen : W32 := BitVec.ofNat 32 (slField bs 4 4)
  { order := b.nextOrder, pkt := p, write := slField bs 0 1 == 2, ns := slField bs 1 1
    slot := (b.cart.bind (fun c => c.slotFor (slField bs 1 1) gen (slField bs 0 1 == 2))).getD 0, count := slField bs 2 2 + 1
    gen := gen, page := slField bs 8 8, hbm := slField bs 16 8, hdr := slField bs 24 8
    sequence := BitVec.ofNat 32 (slField bs 32 4), block := BitVec.ofNat 32 (slField bs 36 4), layer := BitVec.ofNat 16 (slField bs 40 2)
    tokens := BitVec.ofNat 16 (slField bs 42 2), fmt := BitVec.ofNat 8 (slField bs 44 1), step := slField bs 45 1 }

def Bay.setPkt (b : Bay) (x : StorePkt) : Bay := { b with pkts := b.pkts.filter (fun y => y.pkt != x.pkt) ++ [x] }

/-- The first status of a packet's lines, in line order, that is not OK. -/
def StorePkt.status (x : StorePkt) : BitVec 4 :=
  let n := x.pkt.payload.length / 64
  ((List.range n).findSome? (fun i => (x.results.find? (fun r => r.1 == i && r.2 != stOk)).map (fun r => r.2))).getD stOk

/-- A packet all of whose lines have finished is answered (R322). -/
def State.answerPkt (s : State) (n : Nat) (p : Packet) : State :=
  let x := (s.bay n).pktOf p
  if x.pkt.payload.length / 64 ≤ x.results.length then
    let s := s.updBay n (fun b => { b with pkts := b.pkts.filter (fun y => y.pkt != p) })
    (s.takeAt (.store (Fin.ofNat 16 n)) p).sendNode (.store (Fin.ofNat 16 n)) (p.answer ptWriteAck x.status [] false)
  else s

/-- Line i of a packet finished with a status. -/
def State.finishLine (s : State) (n : Nat) (p : Packet) (i : Nat) (st : BitVec 4) : State :=
  (s.updBay n (fun b => let x := b.pktOf p; b.setPkt { x with results := x.results ++ [(i, st)] })).answerPkt n p

/-- The status that a bay gives a line before it looks at its pages, if it refuses it (R321). -/
def Bay.refusal (b : Bay) (bs : List Byte) : Option (Bay × BitVec 4) :=
  if b.st = baySanitizing then some (b.record stSanitize, stTargetOff)
  else if b.st ≠ bayOnline ∧ ¬(b.st = bayReadOnly ∧ slField bs 0 1 ≠ 2) then some (b, stTargetOff)
  else if !b.lineOk bs then some (b.record stReject, stOutOfWindow)
  else none

/-- The first packet of lines that has arrived and has lines not taken yet: lines are taken in the order in which they arrived (R323). -/
def Bay.isFirst (b : Bay) (n : Nat) (p : Packet) : Bool :=
  b.arrived.find? (fun q => q.ptype == ptWrite && storeAperture n q.addr.toNat && decide (64 * (b.pktOf q).lines < q.payload.length)) == some p

/-- The next line of a packet taken, when it is a READ or a WRITE as named; any other OP is refused by either (R321). -/
def State.storeLine (s : State) (bay : Fin 16) (p : Packet) (write : Bool) : State :=
  let n := bay.val
  let b := s.bay n
  let x := b.pktOf p
  let i := x.lines
  let bs := (p.payload.drop (64 * i)).take 64
  let op := slField bs 0 1
  if !(b.isFirst n p && p.ptype == ptWrite && storeAperture n p.addr.toNat && decide (64 * i < p.payload.length)) then s
  else if (op = 1 ∧ write = true) ∨ (op = 2 ∧ write = false) then s
  else if 1024 ≤ b.lines.length then s
  else
    let s := s.updBay n (fun b => b.setPkt { x with lines := i + 1 })
    match b.refusal bs with
    | some (b', st) => (s.updBay n (fun c => { c with stat := b'.stat, statFirst := b'.statFirst })).finishLine n p i st
    | none => s.updBay n (fun b => { b with lines := b.lines ++ [b.mkLine p bs], nextOrder := b.nextOrder + 1 })

/-- STORE_READ (R320–R322). -/
def execStoreRead (bay : Fin 16) (p : Packet) (s : State) : Result := .next (s.storeLine bay p false)

/-- STORE_WRITE (R320–R322). -/
def execStoreWrite (bay : Fin 16) (p : Packet) (s : State) : Result := .next (s.storeLine bay p true)

/-- Number of page k of a line. -/
def StoreLine.pageAt (l : StoreLine) (k : Nat) : Nat := pageNo l.ns l.slot (l.page + k)

/-- Pages that a line has still to move. -/
def StoreLine.toMove (l : StoreLine) : List Nat := (List.range (l.count - l.done)).map (fun k => l.pageAt (l.done + k))

/-- A TRIM that runs covers a page. -/
def Bay.trimCovers (b : Bay) (no : Nat) : Bool :=
  b.cmd == scTrim && (let ns := (vget 0 b.cmdArgs 0).toNat
    let lo := pageNo ns 0 (vget 0 b.cmdArgs 1).toNat
    decide (lo ≤ no) && decide (no < lo + (vget 0 b.cmdArgs 2).toNat))

/-- The line may move its next page: no earlier line, and no earlier TRIM, has that page before it (R323). -/
def Bay.lineMay (b : Bay) (l : StoreLine) : Bool :=
  let no := l.pageAt l.done
  b.lines.all (fun m => decide (l.order ≤ m.order) || !m.toMove.contains no)
    && !(decide (b.cmdOrder ≤ l.order) && b.trimCovers no)

/-- The header check of a READ (R322). -/
def StoreLine.matches (l : StoreLine) (p : StorePage) (k : Nat) : Bool :=
  l.sequence == 0xffffffff
    || (p.sequence == l.sequence && p.layer == l.layer && p.block == l.block + BitVec.ofNat 32 (k * l.step) && p.tokens == l.tokens && p.fmt == l.fmt)

/-- The line with one page more done and a status of that page. -/
def StoreLine.advance (l : StoreLine) (st : BitVec 4) : StoreLine :=
  { l with done := l.done + 1, status := if l.status = stOk then st else l.status }

/-- Why a page of a READ is delivered poisoned: the event of STORE.STAT. A page of another generation than the line's stands in a slot
that has been taken since: the line's own page has no header (DESIGN CHOICE 137). -/
def StoreLine.failure (l : StoreLine) (p : Option StorePage) (uncorrectable : Bool) : Option Nat :=
  match p with
  | none => some stUnwritten
  | some p =>
    if p.lost || (l.ns == 1 && p.gen != l.gen) then some stUnwritten
    else if p.bad || uncorrectable then some stUncorrectable else if l.matches p l.done then none else some stMismatch

/-- A page of a READ delivered to HBM, whole or poisoned. -/
def State.readPage (s : State) (n : Nat) (l : StoreLine) (no : Nat) (uncorrectable : Bool) : State × BitVec 4 :=
  let p := ((s.bay n).cart.bind (fun c => c.pages.find? (fun e => e.1 == no))).map (fun e => e.2)
  let addr := l.hbm + pageBytes * l.done
  match p, l.failure p uncorrectable with
  | some p, none =>
    let r := s.hbmPut addr (Memory.read p.data 0 pageBytes)
    (if l.hdr = 0 then r.1 else (r.1.hbmPut (l.hdr + 64 * l.done) p.header).1, r.2)
  | _, e =>
    let s := (List.range 4096).foldl (fun s i => (s.hbmWrite (addr + 512 * i) (List.replicate 512 0) true).1) s
    (s.updBay n (fun b => { (b.record (e.getD stUncorrectable)) with poisoned := satAdd b.poisoned 1 }), stPoison)

/-- The next page that a line writes, with its header, of the bytes read from HBM. -/
def StoreLine.nextPage (l : StoreLine) (bs : List Byte) (bad : Bool) : StorePage :=
  { ns := l.ns, fmt := l.fmt, tokens := l.tokens, sequence := l.sequence, block := l.block + BitVec.ofNat 32 (l.done * l.step)
    layer := l.layer, gen := if l.ns = 1 then l.gen else 0, page := l.page + l.done, data := Memory.write [] 0 bs, bad := bad }

/-- A page enters the write buffer and its place, unless its line's generation has gone. -/
def State.keepPage (s : State) (n : Nat) (l : StoreLine) (no : Nat) (p : StorePage) : State :=
  let (v, s) := s.draw
  if (s.bay n).ofCart false (fun c => l.ns == 1 && (vget {} c.slots l.slot).gen != l.gen) then s
  else (s.updBay n (fun b => b.updCart (fun c => c.putPage no p (bitsOf v.toNat 0 6) (bitsOf v.toNat 6 32 % Config.cartPlanes)))).bufferPage n no

/-- A page of a WRITE read from HBM into the protected write buffer; the channel and plane of its block are the controller's choice, a
free value. One whose bytes arrive poisoned reads as POISON. A slot that another generation has taken keeps its pages (DESIGN CHOICE
137). -/
def State.writePage (s : State) (n : Nat) (l : StoreLine) (no : Nat) : State × BitVec 4 :=
  let r := s.hbmGet (l.hbm + pageBytes * l.done) pageBytes
  (r.1.keepPage n l no (l.nextPage r.2.1 r.2.2), stOk)

/-- The marks of a page's read on its cartridge: retry levels that became the first of their dies, and the block's count
of reads in succession that needed soft decoding (R325, R326). An uncorrectable page reads as POISON from then on. -/
def Cart.readMarks (c : Cart) (no : Nat) (p : StorePage) (levels : List (Nat × Nat)) (soft uncorrectable : Bool) : Cart :=
  let live := levels.foldl (fun t l => Tbl.set t l.1 l.2) c.retryLive
  let blk : NandBlock := c.blk p.blk
  let c := { c with retryLive := live }
  let c := c.updBlk p.blk (fun _ => { blk with soft := if soft then blk.soft + 1 else 0 })
  if uncorrectable then { c with pages := Tbl.set c.pages no { p with bad := true } } else c

/-- What the medium showed as a page was read (R325, R326): dies and the retry levels that succeeded, soft decoding, and
an uncorrectable codeword, which retires the block. -/
def State.mediumRead (s : State) (n no : Nat) (levels : List (Nat × Nat)) (soft uncorrectable : Bool) : State :=
  match (s.bay n).cart.bind (fun (c : Cart) => c.pages.find? (fun e => e.1 == no)) with
  | none => s
  | some e =>
    let s := s.updBay n (fun b => { (b.updCart (fun c => c.readMarks no e.2 levels soft uncorrectable)) with
      retries := satAdd b.retries levels.length })
    let worn := ((s.bay n).cart.map (fun (c : Cart) => decide (2 ≤ (c.blk e.2.blk).soft))).getD false
    if uncorrectable || worn then s.retireBlock n e.2.blk else s

/-- The place of a line in its packet. -/
def Bay.lineIndex (b : Bay) (l : StoreLine) : Nat :=
  let x := b.pktOf l.pkt
  let before := (b.lines.filter (fun m => m.pkt == l.pkt && decide (m.order < l.order))).length
  ((List.range x.lines).filter (fun i => !(x.results.any (fun r => r.1 == i)))).getD before 0

/-- STORE_PAGE_DONE (R322, R325, R326): the next page of a pending line is moved. The operands after it say what the medium
showed: they are the environment's. -/
def execStorePageDone (bay : Fin 16) (line : Nat) (levels : List (Nat × Nat)) (soft uncorrectable : Bool) (s : State) : Result :=
  let n := bay.val
  let b := s.bay n
  .next (match b.cart, b.lines.find? (fun l => l.order == line) with
    | some _, some l =>
      if !b.lineMay l then s
      else
        let no := l.pageAt l.done
        let (s, st) := if l.write then s.writePage n l no else (s.mediumRead n no levels soft uncorrectable).readPage n l no uncorrectable
        let l' := l.advance st
        if l'.done < l.count then s.updBay n (fun b => { b with lines := b.lines.map (fun m => if m.order = line then l' else m) })
        else
          let i := b.lineIndex l
          (s.updBay n (fun b => { b with lines := b.lines.filter (fun m => m.order != line) })).finishLine n l.pkt i l'.status
    | _, _ => s)

/-- Every pending line answered with a status. -/
def State.abortLines (s : State) (n : Nat) (st : BitVec 4) : State :=
  (s.bay n).lines.foldl (fun s l =>
    let i := (s.bay n).lineIndex l
    (s.updBay n (fun b => { b with lines := b.lines.filter (fun m => m.order != l.order) })).finishLine n l.pkt i st) s

/-! ## Commands (R331–R339) -/

/-- A command that ends at once with a result. -/
def Bay.done (b : Bay) (r : BitVec 3) : Bay := { b with result := r }

/-- A command that runs. -/
def Bay.start (b : Bay) (op : BitVec 4) : Bay := { b with cmd := op, cmdArgs := b.args, cmdOrder := b.nextOrder, result := 0 }

/-- A write of STORE.CMD: ignored while BUSY, and where the store controller has no power, as in RETIRED (R444); while a sanitize is on,
every command but UNMOUNT fails (R336, R339). -/
def State.storeCmd (s : State) (n : Nat) (unmount : Bool) (f : State → State) : State :=
  let b := s.bay n
  if b.cmd ≠ 0 ∨ b.off = true ∨ b.fenced = true then s
  else if !unmount && (b.cart.map (fun (c : Cart) => c.sanitizing)).getD false then s.updBay n (fun b => b.done srSanitize)
  else f s

/-- A crypto-erase: the media key is replaced by a new one, and nothing written before can be read (R316). -/
def State.cryptoErase (s : State) (n : Nat) : State :=
  let key := s.freeNext
  let wrap := s.sec.storeKey
  let (_, s) := s.draw
  s.updBay n (fun b => { (b.updCart (fun c =>
    { c with mediaKey := key, wrappedBy := wrap, pages := [], slots := Vector.replicate 16 {} })) with buffer := [] })

/-- The bay was switched off for heat and is not cool again (R329). -/
def Bay.tooHot (b : Bay) : Bool := b.heatOff && decide (65 < b.celsius.toNat)

/-- FORMAT (R318, R329, R337): of a cartridge that is present and not mounted, and cool again after a shutdown for heat. Its first step
is the crypto-erase, and the cartridge has no metadata until it ends (R411). -/
def execFormat (bay : Fin 16) (s : State) : Result :=
  let n := bay.val
  .next (s.storeCmd n false (fun s =>
    let b := s.bay n
    if b.st ≠ bayOff ∨ b.tooHot = true then s.updBay n (fun b => b.done srState)
    else if 45776367 < b.args[0].toNat + 16 * b.args[1].toNat + b.args[2].toNat then s.updBay n (fun b => b.done srSpace)
    else (s.cryptoErase n).updBay n (fun b =>
      { ((b.start scFormat).updCart (fun c => { c with metadata := false, ns := Vector.replicate 3 0 })) with heatOff := false, dark := false })))

/-- A cartridge may be mounted: present, with metadata, and cool again after a shutdown for heat (R329, R337). -/
def Bay.mountResult (b : Bay) : BitVec 3 :=
  if b.st ≠ bayOff ∨ b.tooHot = true then srState
  else if (b.cart.map (fun (c : Cart) => c.metadata)).getD false then 0 else srMedia

/-- The mounting of a bay begun. -/
def Bay.beginMount (b : Bay) : Bay := { (b.start scMount) with st := bayMounting, heatOff := false, dark := false }

/-- MOUNT (R337). -/
def execMount (bay : Fin 16) (s : State) : Result :=
  let n := bay.val
  .next (s.storeCmd n false (fun s =>
    let r := (s.bay n).mountResult
    s.updBay n (fun b => if r = 0 then b.beginMount else b.done r)))

/-- An unmount begun, by command or by force: lines queued go on, new ones are refused. With SANITIZE_ACTIVE the bay still reports
SANITIZING (R336). -/
def Bay.beginUnmount (b : Bay) : Bay :=
  { (b.start scUnmount) with st := if b.ofCart false (fun c => c.sanitizing) then baySanitizing else bayUnmounting }

/-- UNMOUNT (R338). -/
def execUnmount (bay : Fin 16) (s : State) : Result :=
  let n := bay.val
  .next (s.storeCmd n true (fun s => s.updBay n (fun b =>
    if b.st = bayOnline ∨ b.st = bayReadOnly ∨ b.st = baySanitizing then b.beginUnmount else b.done srState)))

/-- The pages of a slot dropped. -/
def Cart.dropSlotPages (c : Cart) (i : Nat) : Cart :=
  (c.pages.filter (fun e => e.1 / 2 ^ 32 == 16 + i)).foldl (fun c e => c.dropPage e.1) c

/-- The slots of one side: own, or mirror. -/
def sideSlots (mirror : Bool) : List Nat := (List.range 8).map (fun i => i + if mirror then 8 else 0)

/-- The slot that a HARVEST_OPEN takes: a free one, or on the own side that of the lowest committed generation (R331). -/
def Cart.openSlot (c : Cart) (mirror : Bool) : Option Nat :=
  let free := (sideSlots mirror).find? (fun i => (vget {} c.slots i).st == 0)
  if mirror then free
  else free.or (leastBy (fun i => (vget {} c.slots i).gen.toNat) ((sideSlots false).filter (fun i => (vget {} c.slots i).st == 2)))

/-- GEN may be opened: on the own side it exceeds every GEN there (R331); in a mirror slot it is new. -/
def Cart.genOk (c : Cart) (mirror : Bool) (gen : W32) : Bool :=
  (sideSlots mirror).all (fun i => let x := vget {} c.slots i
    x.st == 0 || (if mirror then x.gen != gen else decide (x.gen.toNat < gen.toNat)))

/-- The mirror slots hold generations of at most one SOURCE, dropped ones apart (R335). -/
def Cart.sourceOk (c : Cart) (source : W32) : Bool :=
  (sideSlots true).all (fun i => let x := vget {} c.slots i; x.st == 0 || x.st == 3 || x.source == source)

/-- HARVEST_OPEN (R331, R335). -/
def execHarvestOpen (bay : Fin 16) (s : State) : Result :=
  let n := bay.val
  .next (s.storeCmd n false (fun s => s.updBay n (fun b =>
    match b.cart with
    | none => b.done srState
    | some c =>
      let gen : W32 := b.args[0].setWidth 32
      let mirror := bit b.args[1] 0
      let source : W32 := fld b.args[1] 32 32
      if b.st ≠ bayOnline ∨ (mirror = true ∧ c.sourceOk source = false) then b.done srState
      else if 2 ^ 32 ≤ b.args[0].toNat ∨ c.genOk mirror gen = false then b.done srField
      else match c.openSlot mirror with
        | none => b.done srSpace
        | some i => { (b.updCart (fun c =>
            let c := c.dropSlotPages i
            { c with slots := vset c.slots i { gen := gen, st := 1, source := if mirror then source else 0 } })).settle with result := 0 })))

/-- HARVEST_COMMIT (R332): of an OPEN generation; it is committed once every line of it is answered. -/
def execHarvestCommit (bay : Fin 16) (s : State) : Result :=
  let n := bay.val
  .next (s.storeCmd n false (fun s => s.updBay n (fun b =>
    if b.st ≠ bayOnline ∨ (b.cart.bind (fun c => c.slotOf (b.args[0].setWidth 32) true)).isNone then b.done srState
    else if b.args[1].toNat % 64 ≠ 0 ∨ 2 ^ 32 ≤ b.args[0].toNat then b.done srField
    else b.start scCommit)))

/-- HARVEST_DROP (R333): the generation's slot is RECLAIMING, and RECLAIM_DONE takes its pages. -/
def execHarvestDrop (bay : Fin 16) (s : State) : Result :=
  let n := bay.val
  .next (s.storeCmd n false (fun s => s.updBay n (fun b =>
    match b.cart with
    | none => b.done srState
    | some c =>
      if b.st ≠ bayOnline then b.done srState
      else match (sideSlots (bit b.args[1] 0)).find? (fun i => let x := vget {} c.slots i
          x.gen.toNat == b.args[0].toNat && (x.st == 1 || x.st == 2 || x.st == 4)) with
        | none => b.done srField
        | some i => { (b.updCart (fun c =>
            { c with slots := vset c.slots i { vget {} c.slots i with st := 3 } })) with result := 0 })))

/-- RECLAIM_DONE (R323, R331): a RECLAIMING slot has given its pages back, the lines that named it before having passed. -/
def execReclaimDone (bay : Fin 16) (slot : Fin 16) (s : State) : Result :=
  .next (s.updBay bay.val (fun b =>
    if b.lines.any (fun l => l.ns == 1 && l.slot == slot.val) then b
    else (b.updCart (fun c =>
      if (c.slots[slot]).st = 3 then { (c.dropSlotPages slot.val) with slots := c.slots.set slot {} } else c)).settle))

/-- SANITIZE (R336): in any state with a cartridge present. -/
def execSanitize (bay : Fin 16) (s : State) : Result :=
  let n := bay.val
  .next (s.storeCmd n false (fun s =>
    if (s.bay n).cart.isNone then s.updBay n (fun b => b.done srState)
    else
      let s := (s.abortLines n stTargetOff).cryptoErase n
      s.updBay n (fun b => { (b.updCart (fun c => { c with sanitizing := true, progress := 0 })) with
        st := baySanitizing, erasing := true, dark := false, result := 0 })))

/-- TRIM (R323, R339): of pages of NS 0 or 2. -/
def execTrim (bay : Fin 16) (s : State) : Result :=
  let n := bay.val
  .next (s.storeCmd n false (fun s => s.updBay n (fun b =>
    match b.cart with
    | none => b.done srState
    | some c =>
      let ns := b.args[0].toNat
      if b.st ≠ bayOnline then b.done srState
      else if ¬(ns = 0 ∨ ns = 2) ∨ c.nsPages ns < b.args[1].toNat + b.args[2].toNat then b.done srField
      else b.start scTrim)))

/-- Every block of a cartridge erased. -/
def Cart.eraseAll (c : Cart) : Cart :=
  { c with
    base := c.base + 1
    blocks := c.blocks.map (fun (e : Nat × NandBlock) => (e.1, { e.2 with erases := e.2.erases + 1, age := 0, since := 0, soft := 0 })) }

/-- The metadata that a FORMAT writes, and the erase of every block, which retires those that its full scrub, the n-th, finds bad
(R337). -/
def Cart.format (c : Cart) (args : Vector W64 3) (n : Nat) : Cart :=
  let c := (Config.formatDefects n).foldl (fun (c : Cart) b => c.updBlk b (fun x => { x with retired := true })) c.eraseAll
  { c with metadata := true, ns := args.map (fun a => a.setWidth 32), retrySaved := [], retryLive := [], unmountTime := none }

/-- The unpowered interval added at a mount: from the unmount record, or 2,190 h without one (R328). Units as NandBlock. -/
def mountAge (now : W64) (t : Option W64) : Nat :=
  match t with
  | some t => (now - t).toNat * 2 ^ 32 / 60000000
  | none => 2190 * 60 * 2 ^ 32

/-- A committed slot's record stands: its CRC, and headers for pages 0 to PAGES − 1 (R333). -/
def Cart.recordOk (c : Cart) (i : Nat) : Bool :=
  let r := (vget {} c.slots i).record
  bytesAt r 504 8 == (crc64 (r.take 504)).toNat
    && (List.range (bytesAt r 12 4)).all (fun k => c.pages.any (fun e => e.1 == pageNo 1 i k && !e.2.lost))

/-- The slots at a mount: a failed check gives FAILED, and an OPEN slot is RECLAIMING (R333). -/
def Cart.mountSlots (c : Cart) : Cart :=
  (List.range 16).foldl (fun c i =>
    let x := vget {} c.slots i
    if x.st = 1 then { c with slots := vset c.slots i { x with st := 3 } }
    else if x.st = 2 ∧ c.recordOk i = false then { c with slots := vset c.slots i { x with st := 4 } }
    else c) c

/-- A mount finished: FAILED where the media key does not unwrap; else R325, R328 and R333 applied (R337). -/
def State.mountDone (s : State) (n : Nat) : State :=
  match (s.bay n).cart with
  | none => s.updBay n (fun b => { b with cmd := 0 })
  | some c =>
    if c.wrappedBy.isNone ∨ c.wrappedBy ≠ s.sec.storeKey then
      (s.updBay n (fun b => { b with st := bayFailed, cmd := 0, result := srMedia })).postBay n 2
    else
      let (now, s) := s.rmcNow
      let d := mountAge now c.unmountTime
      s.updBay n (fun b => { (b.updCart (fun c =>
          { c with retryLive := c.retrySaved
                   blocks := c.blocks.map (fun (e : Nat × NandBlock) => (e.1, { e.2 with age := e.2.age + d, since := e.2.since + d })) }.mountSlots)) with
        st := if c.sanitizing then baySanitizing else c.servingState, cmd := 0, result := 0 })

/-- An unmount finished: buffer, metadata, retry tables and unmount record are saved and the bay is off (R338). With SANITIZE_ACTIVE it
still reports SANITIZING, and the erase stands still (R336). -/
def State.unmountDone (s : State) (n : Nat) : State :=
  let (now, s) := (s.flushBuffer n).rmcNow
  s.updBay n (fun b => { (b.updCart (fun c => { c with retrySaved := c.retryLive, unmountTime := some now })) with
    st := if b.ofCart false (fun c => c.sanitizing) then baySanitizing else if b.cart.isSome then bayOff else bayEmpty
    erasing := false, dark := true, cmd := 0, result := 0 })

/-- A sanitize's erase finished: the cartridge has no metadata (R336). -/
def Cart.sanitized (c : Cart) : Cart :=
  { c.eraseAll with sanitizing := false, metadata := false, progress := 0, ns := Vector.replicate 3 0, unmountTime := none, wrappedBy := none }

/-- A TRIM may be applied: every line that arrived before it has passed its pages (R323). -/
def Bay.trimReady (b : Bay) : Bool :=
  b.lines.all (fun l => decide (b.cmdOrder ≤ l.order) || l.toMove.all (fun no => !b.trimCovers no))

/-- STORE_CMD_DONE (R336–R338): the long command of a bay, or the erase of its sanitize, finishes. -/
def execStoreCmdDone (bay : Fin 16) (s : State) : Result :=
  let n := bay.val
  let b := s.bay n
  .next (
    if b.cmd = scFormat then
      let k := s.freeNext
      let was := b.ofCart false Cart.worn
      let s := (s.draw.2).updBay n (fun b =>
        let b := b.updCart (fun c => c.format b.cmdArgs k)
        { b with st := b.ofCart b.st Cart.servingState, cmd := 0, result := 0 })
      if (s.bay n).ofCart false Cart.worn && !was then s.postBay n 1 else s
    else if b.cmd = scMount then s.mountDone n
    else if b.cmd = scUnmount then (if b.lines = [] then s.unmountDone n else s)
    else if b.cmd = scTrim then
      (if b.trimReady then s.updBay n (fun b => { (b.updCart (fun c =>
          (c.pages.filter (fun e => b.trimCovers e.1)).foldl (fun c e => c.dropPage e.1) c)).settle with cmd := 0, result := 0 })
       else s)
    else if b.cmd = 0 ∧ b.st = baySanitizing ∧ b.erasing = true then
      s.updBay n (fun b => { (b.updCart Cart.sanitized) with st := bayOff, erasing := false })
    else s)

/-- The record of a generation filled in (R332). -/
def Cart.fillRecord (c : Cart) (i : Nat) (bs : List Byte) : List Byte :=
  let ps := c.pages.filter (fun e => e.1 / 2 ^ 32 == 16 + i)
  let r := bs.take 12 ++ leBytes 4 ps.length ++ (bs.drop 16).take 16 ++ sha512 (ps.flatMap (fun e => leBytes 8 e.2.crc.toNat))
    ++ (bs.drop 96).take 408
  r ++ leBytes 8 (crc64 r).toNat

/-- A WRITE packet of request lines has a line of a generation. -/
def namesGen (p : Packet) (gen : W32) : Bool :=
  (List.range (p.payload.length / 64)).any (fun i =>
    let bs := (p.payload.drop (64 * i)).take 64
    slField bs 1 1 == 1 && slField bs 4 4 == gen.toNat)

/-- A line of a generation is still to be answered: it is in hand, or its packet has arrived and has no answer yet (R332, step 1). -/
def Bay.linesOpen (b : Bay) (n : Nat) (gen : W32) : Bool :=
  b.lines.any (fun l => l.ns == 1 && l.gen == gen)
    || b.arrived.any (fun p => p.ptype == ptWrite && storeAperture n p.addr.toNat && namesGen p gen)

/-- HARVEST_COMMIT_DONE (R332): every line of the generation has been answered, and its record is written. -/
def execHarvestCommitDone (bay : Fin 16) (s : State) : Result :=
  let n := bay.val
  let b := s.bay n
  let gen : W32 := b.cmdArgs[0].setWidth 32
  .next (
    if b.cmd ≠ scCommit ∨ b.linesOpen n gen = true then s
    else
      let (s, bs, bad) := s.hbmGet b.cmdArgs[1].toNat 512
      s.updBay n (fun b =>
        if bad then { b with cmd := 0, result := srMedia }
        else { (b.updCart (fun c => match c.slotOf gen true with
            | none => c
            | some i => { c with slots := vset c.slots i { vget {} c.slots i with st := 2, record := c.fillRecord i bs } })) with
          cmd := 0, result := 0 }))

/-! ## Insertion and removal (R337, R338) -/

/-- A cartridge that comes from elsewhere: whether it has metadata and is being sanitized are free values, and its media key is wrapped
under another module's store key, with which it does not mount here (R316, R336, R438). -/
def foreignCart (serial : W32) (v : W64) (key : Nat) : Cart :=
  { serial := serial, metadata := bit v 0 || bit v 1, sanitizing := bit v 1, wrappedBy := if bit v 0 || bit v 1 then some { secret := key + 1, serial := v } else none }

/-- CARTRIDGE_INSERT (R329, R336, R337): the bay is powered and reads the cartridge's identity, and mounts it when AUTOMOUNT allows and
the bay was not switched off for heat. A bay without power, as every bay in RETIRED (R444), only holds it. A serial number that was taken out of a bay comes back with what it held. -/
def execCartridgeInsert (bay : Fin 16) (serial : W32) (s : State) : Result :=
  let n := bay.val
  .next (if (s.bay n).cart.isSome then s
    else
      let key := s.freeNext
      let (v, s) := s.draw
      let c := (s.shelf.find? (fun c => c.serial == serial)).getD (foreignCart serial v key)
      let s := { s with shelf := s.shelf.filter (fun c => c.serial != serial) }
      s.updBay n (fun b =>
        let b := { b with cart := some c, st := if c.sanitizing then baySanitizing else bayOff, hot := 0, dark := b.off || b.fenced }
        if b.off || b.fenced then b
        else if c.sanitizing then { b with erasing := true }
        else if b.automount && c.metadata && !b.heatOff then b.beginMount else b))

/-- Page no lost with the buffer: it has no valid header, and is counted in STORE.COUNT.LOST (R338). -/
def Bay.losePage (b : Bay) (no : Nat) : Bay :=
  { (b.updCart (fun c => { c with pages := c.pages.map (fun (e : Nat × StorePage) => if e.1 = no then (e.1, { e.2 with lost := true }) else e) })) with
    lostPages := satAdd b.lostPages 1 }

/-- The pages of the protected buffer lost or kept: which of them had reached NAND is open, a free value for each (R338). -/
def State.loseBuffered (s : State) (n : Nat) : State :=
  ((s.bay n).buffer.foldl (fun s no =>
    let (v, s) := s.draw
    if bit v 0 then s.updBay n (fun b => b.losePage no) else s) s).updBay n (fun b => { b with buffer := [] })

/-- CARTRIDGE_REMOVE (R338): the bay is EMPTY. Lines still queued are answered TARGET_OFF. -/
def execCartridgeRemove (bay : Fin 16) (s : State) : Result :=
  let n := bay.val
  .next (
    let s := (s.abortLines n stTargetOff).loseBuffered n
    match (s.bay n).cart with
    | none => s
    | some c => { s with shelf := c :: s.shelf }.updBay n (fun b => { b with cart := none, st := bayEmpty, cmd := 0, hot := 0, erasing := false, dark := true }))

/-! ## Upkeep (R325, R327–R329) -/

/-- A bay whose cartridge is powered and serves or is being unmounted. -/
def Bay.mounted (b : Bay) : Bool := b.st == bayOnline || b.st == bayReadOnly || b.st == bayUnmounting

/-- The sample shows the cartridge too hot: above 80 °C for 60 samples, or 85 °C once (R329). -/
def Bay.overheated (b : Bay) : Bool := decide (60 ≤ b.hot) || decide (85 ≤ b.celsius.toNat)

/-- The shutdown for heat (R329): a mounted cartridge, or one being erased, is unmounted; a MOUNT or FORMAT that runs ends in OFF with
STATE (DESIGN CHOICE 139), and the bay is switched off; a bay that unmounts goes on. None in a bay that has no power, or that already
unmounts for heat. -/
def Bay.heatShutdown (b : Bay) : Option Bay :=
  if b.cmd = scMount ∨ b.cmd = scFormat then some { b with st := bayOff, cmd := 0, result := srState, heatOff := true, dark := true }
  else if b.cmd = scUnmount then (if b.heatOff then none else some { b with heatOff := true })
  else if b.st = bayOnline ∨ b.st = bayReadOnly ∨ (b.st = baySanitizing ∧ b.erasing = true) then some { b.beginUnmount with heatOff := true }
  else none

/-- The erase of a sanitize goes on for the second since the last sample: by at least what 30 minutes ask, and by how much is a free value
(R336; DESIGN CHOICE 138). -/
def Bay.eraseOn (b : Bay) (v : W64) : Bay :=
  if b.st = baySanitizing ∧ b.erasing = true then
    b.updCart (fun c => { c with progress := BitVec.ofNat 16 (min 65535 (c.progress.toNat + 37 + (fld v 0 16).toNat)) })
  else b

/-- CARTRIDGE_TEMP_SAMPLE (R329, R336): every second. -/
def execCartridgeTempSample (bay : Fin 16) (celsius : BitVec 8) (s : State) : Result :=
  let n := bay.val
  .next (if (s.bay n).cart.isNone then s
    else
      let (v, s) := s.draw
      let s := s.updBay n (fun b => { (b.eraseOn v) with celsius := celsius, hot := if 80 < celsius.toNat then b.hot + 1 else 0 })
      let b := s.bay n
      if b.overheated then
        match b.heatShutdown with
        | some b' => (s.updBay n (fun _ => b')).postBay n 2
        | none => s
      else s)

/-- The stress factor 2^((T - 40) / 10) at T °C in units of 2^-32, rounded down (R328; DESIGN CHOICE 38: the units of AGE): its tenth
power in them is 2^(280 + T). -/
def stress (t : Nat) : Nat := intRoot 10 (2 ^ (280 + t)) 64 0

/-- SCRUB_AGE_TICK (R328): every 60 s the blocks that hold data age, while the bay has power; a mount adds the time without (DEDUCED
140). -/
def execScrubAgeTick (bay : Fin 16) (s : State) : Result :=
  .next (s.updBay bay.val (fun b =>
    let k := stress b.celsius.toNat
    if !b.mounted then b else b.updCart (fun c => { c with blocks := c.blocks.map (fun (e : Nat × NandBlock) =>
      if c.holds e.1 then (e.1, { e.2 with age := e.2.age + k, since := e.2.since + k }) else e) })))

/-- Hours in the units of NandBlock. -/
def hours (h : Nat) : Nat := h * 60 * 2 ^ 32

/-- The block of a list with the greatest measure. -/
def greatestBy (f : Nat → Nat) : List Nat → Option Nat
  | [] => none
  | b :: bs => some (bs.foldl (fun m x => if f m < f x then x else m) b)

/-- The block that the scrubber takes: past REFRESH_AGE_H, that of the greatest AGE; else that of the greatest SINCE. -/
def Bay.scrubBlock (b : Bay) (c : Cart) : Option (Nat × Bool) :=
  let held := c.known.filter (fun x => c.holds x)
  match greatestBy (fun x => (c.blk x).age) held with
  | none => none
  | some x =>
    if hours b.refreshAgeH.toNat ≤ (c.blk x).age then some (x, true)
    else (greatestBy (fun x => (c.blk x).since) held).map (fun x => (x, false))

/-- The pages of a block read as POISON until they are rewritten or trimmed, and it is retired (R326). -/
def State.failBlock (s : State) (n x : Nat) : State :=
  (s.updBay n (fun b => b.updCart (fun c => { c with
    pages := c.pages.map (fun (e : Nat × StorePage) => if e.2.blk = x then (e.1, { e.2 with bad := true }) else e) }))).retireBlock n x

/-- The soft-decode count of a block after a check: checks in succession that needed soft decoding (R326). -/
def NandBlock.checked (x : NandBlock) (soft : Bool) : NandBlock := { x with soft := if soft then x.soft + 1 else 0 }

/-- The samples of block x have been read (R326, R328): it is retired where one was uncorrectable, or where this is its second check in
succession that needed soft decoding; relocated past REFRESH_PCT or where one needed level 3 or more, as soft decoding does. -/
def State.scrubbed (s : State) (n x : Nat) (percent : BitVec 8) (f : ScrubFinding) : State :=
  let s := s.updBay n (fun b => b.updCart (fun c => c.updBlk x (fun y => y.checked f.soft)))
  if f.uncorrectable then s.failBlock n x
  else if 2 ≤ (s.bay n).ofCart 0 (fun c => (c.blk x).soft) then s.retireBlock n x
  else if (s.bay n).refreshPct.toNat ≤ percent.toNat || f.level3 || f.soft then s.updBay n (fun b => b.relocate x)
  else s.updBay n (fun b => b.updCart (fun c => c.updBlk x (fun y => { y with since := 0 })))

/-- SCRUB_BLOCK (R326, R328): the block that is due is relocated, or its samples are read. What the samples showed are operands: the
largest corrected count as a percentage, and what the hardest of them needed. -/
def execScrubBlock (bay : Fin 16) (percent : BitVec 8) (hard : ScrubFinding) (s : State) : Result :=
  let n := bay.val
  let b := s.bay n
  .next (if ¬(b.st = bayOnline ∨ b.st = bayReadOnly) then s
    else match b.cart with
      | none => s
      | some c =>
        match b.scrubBlock c with
        | none => s
        | some (x, aged) =>
          if aged then s.updBay n (fun b => b.relocate x)
          else if hours b.checkH.toNat ≤ (c.blk x).since then s.scrubbed n x percent hard
          else s)

/-- The free blocks in the highest eighth of the free blocks' erase counts (R327). -/
def Cart.wornFree (c : Cart) : List Nat :=
  let free := c.freeAt (fun _ => true)
  free.filter (fun b => decide (8 * free.countP (fun x => decide ((c.blk b).erases < (c.blk x).erases)) < free.length))

/-- The highest erase count of any block in service. -/
def Cart.mostErased (c : Cart) : Nat := (c.known.filter c.inService).foldl (fun m x => max m (c.blk x).erases) c.base

/-- WEAR_LEVEL (R327): while the bay serves, the least erased block that holds data is moved when the spread is too wide. Which block of
the highest eighth it is moved into is a free value. -/
def execWearLevel (bay : Fin 16) (s : State) : Result :=
  let n := bay.val
  let (v, t) := s.draw
  .next (match (s.bay n).cart with
    | none => s
    | some c =>
      if !(s.bay n).mounted then s
      else match leastBy (fun x => (c.blk x).erases) (c.known.filter (fun x => c.holds x)) with
        | some lo =>
          if (s.bay n).wlSpread.toNat < c.mostErased - (c.blk lo).erases then
            t.updBay n (fun b => b.relocateTo lo c.wornFree[v.toNat % c.wornFree.length]?)
          else s
        | none => s)

/-- RETRY_TABLE_SAVE (R325). -/
def execRetryTableSave (bay : Fin 16) (s : State) : Result :=
  .next (s.updBay bay.val (fun b => if b.st = bayOnline ∨ b.st = bayReadOnly then
    b.updCart (fun c => { c with retrySaved := c.retryLive }) else b))

end Sys2Proof.Machine
end

