-- ==== Sys2Proof/Machine/Domain.lean ====
section
/-! DEFINITION. Machine/Domain.lean: power domains switched on and off, and the clean state of a site that is reconfigured or
reset (R374, R386, R410, R420). -/

namespace Sys2Proof.Machine

/-! ## Domains switched off (R386, R420) -/

/-- A site's domain switched off: RT.CFG.STATE and ISL.STAT.STATE read off, and its neighbours' couplings toward it are gated. -/
def State.siteOff (s : State) (k : Nat) : State := (s.updSite k (fun a => a.powerOff k 0 0)).isolate k

/-- A stack whose domain is switched off without drain: contents and controller state are lost (R188, R384). -/
def Stack.cut (a : Stack) : Stack :=
  { ({} : Stack) with banks := Vector.replicate 8 .off, stackState := 2, celsius := a.celsius, fenced := a.fenced }

def State.stackCut (s : State) (st : Nat) : State := s.updStack st Stack.cut

/-- A port complex's domain switched off, with its update engines and its ports. What waited to cross to it is lost, and the space it
held elsewhere is free. -/
def State.pcOff (s : State) (q : Nat) : State :=
  let lost := (s.pc q).disp.xout.queue
  let s := s.updPc q (fun c => { ({} : Pc) with off := true, fenced := c.fenced })
  let s := (List.range 16).foldl (fun (s : State) e => s.setSite (ueKey q e) (Site.reset (ueKey q e))) s
  let s := (List.range 12).foldl (fun (s : State) i =>
    (s.linkDown (12 * q + i) .down).updPort (12 * q + i) (fun p => { p with out := {}, rx := [] })) s
  lost.foldl (fun s t => s.release q t.hold t.pkt.flits) s

/-- What a cartridge keeps when its controller stops: buffer and journal reach NAND on hold-up (R330), and a FORMAT that had not
finished leaves METADATA 0 (R411). -/
def Bay.hold (b : Bay) : Bay :=
  { (b.updCart (fun c => { c with metadata := c.metadata && b.cmd != scFormat })) with buffer := [] }

/-- A bay's domain switched off: its store controller and cartridge lose power after their hold-up (R330). -/
def Bay.cut (b : Bay) : Bay :=
  { (b.hold) with
    off := true, dark := true, erasing := false, cmd := 0, lines := [], pkts := [], arrived := [], ctrlInbox := []
    st := if b.cart.isSome then (if b.ofCart false (fun c => c.sanitizing) then baySanitizing else bayOff) else bayEmpty }

def State.bayCut (s : State) (n : Nat) : State := s.updBay n Bay.cut

/-- The coupling of a site toward a mesh port enabled or gated. -/
def Site.couplePort (a : Site) (p : RPort) (b : Bool) : Site := { a with isl := { a.isl with coupled := putBit a.isl.coupled (portIdx p) b } }

/-- The sites with a port that crosses seam bridge m, and that port (R144). -/
def bridgePorts (m : Nat) : List (Nat × RPort) :=
  if m < 2 then (List.range 96).flatMap (fun y => [(siteKey (2 * m) y 99, .e), (siteKey (2 * m + 1) y 0, .w)])
  else (List.range 100).flatMap (fun x => [(siteKey (m - 2) 95 x, .s), (siteKey m 0 x, .n)])

/-- A seam bridge's domain switched off: it couples the oscillators that face each other across it no longer (R389). -/
def State.bridgeOff (s : State) (m : Nat) : State :=
  (bridgePorts m).foldl (fun (s : State) e => s.updSite e.1 (fun a => a.couplePort e.2 false)) { s with seamOff := putBit s.seamOff m true }

/-! ## Domains switched on -/

/-- A site powered again: on, holding a logical array or router-only, and not yet coupled. -/
def Site.powerOn (a : Site) : Site :=
  { a with rt := { a.rt with state := if a.mapValid then 2 else 1 }, isl := { a.isl with state := 1, coupled := 0 } }

/-- The coupling over a mesh port of a site is gated: toward a site that is off, parked or fenced, or over a bridge that is off (R389,
R397, R420). At an outer edge nothing gates it. -/
def State.decoupled (s : State) (k : Nat) (p : RPort) : Bool :=
  ((neighbour k p).map (fun j => !(s.site j).forwards)).getD false || ((seamOf k p).map (fun m => bit s.seamOff m)).getD false

/-- A site's couplings restored, on both sides of each link, where they are not gated (R393, R400). -/
def State.couple (s : State) (k : Nat) : State :=
  meshPorts.foldl (fun (s : State) p =>
    if s.decoupled k p then s
    else
      let s := s.updSite k (fun a => a.couplePort p true)
      match neighbour k p with
      | some j => s.updSite j (fun a => a.couplePort (portOpp p) true)
      | none => s) s

/-- The oscillators of sites that were powered lock where they can (R400, step 2). -/
def State.lockClocks (s : State) (ks : List Nat) : State :=
  s.updSites ks (fun k a => { a with isl := { a.isl with locked := s.clocked k } })

/-- A site's domain switched on: its generators are seeded (R130), and its count restarts, with a FREQ record of old frequency 0 (R457,
R459). -/
def State.siteOn (s : State) (k : Nat) : State :=
  (((s.updSite k Site.powerOn).couple k).reseed k).retune k id

/-! ## A site made clean (R63, R69, R81, R114, R131, R374, R406, R410) -/

/-- A slot in IDLE. Its registers are those of reset: the spec does not say what they hold (DESIGN CHOICE 43). -/
def Slot.clean (x : Slot) : Slot := { autostart := x.autostart, homeWin := x.homeWin, winMask := x.winMask, quota := x.quota }

/-- The matrix engine with tiles zero and FP32, tables clear and flags 0. -/
def Mx.clean (m : Mx) : Mx :=
  { m with nan := false, inf := false, sat := false, intWrap := false, curAcc := 0, accType := 0, amax := Vector.replicate 8 {}
           acc := [], tables := [] }

/-- The weight streamer without kicks; a late answer finds another number. -/
def Ws.clean (w : Ws) : Ws :=
  { w with status := 0, reject := 0, refetches := 0, kicks := [], phase := none, retried := false, next := 0, waiting := 0, gen := w.gen + 1 }

/-- A DMA engine's sticky fields at 0. -/
def DmaEng.clean (d : DmaEng) : DmaEng := { d with status := 0, reject := 0, indexSkips := 0 }

/-- A request whose answer is absorbed (R406). That of trace records is not: records that could not be written are counted (R460). -/
def Req.absorbed (r : Req) : Req :=
  match r.owner with
  | .trace _ => r
  | _ => { r with owner := .discard }

/-- A site with every slot IDLE, engines empty, and its RC and W1C fields 0. No window is resident until the image marks it
(R114). Its router and island are not touched; answers to requests sent before are absorbed. -/
def Site.clean (a : Site) : Site :=
  { a with
    pending := 0, slots := a.slots.map Slot.clean, queues := Vector.replicate 4 [], dma := a.dma.map DmaEng.clean
    reqs := a.reqs.map Req.absorbed
    spad := { a.spad with writeRefused := false, corrected := 0, ue := false, conflict := 0, agePromote := 0
                          win := a.spad.win.map (fun w => { w with resident := false }) }
    mx := a.mx.clean, vx := { ieeeOvfAllow := a.vx.ieeeOvfAllow }
    noise := { a.noise with autoOff := false, healthFail := false }
    ws := a.ws.clean, rgrantMiss := 0
    trc := { a.trc with dropped := 0, full := false, denied := false } }

/-- A site that a load reconfigures: the fields that only an expert writes and that no section sets are as at reset (R377). -/
def Site.basic (a : Site) (k : Nat) : Site :=
  { a with spad := { a.spad with age := 32 }, ws := { a.ws with retryDelay := 4096 }, vx := { a.vx with ieeeOvfAllow := false }
           wdog := 26, slots := Vector.ofFn (fun n => { a.slots[n] with quota := (Site.reset k).slots[n].quota })
           mx := { a.mx with ieeeOvfAllow := false, intSat := false, fod := (Site.reset k).mx.fod } }

end Sys2Proof.Machine
end

