-- ==== Sys2Proof/Machine/ImageFile.lean ====
section
/-! DEFINITION. Machine/ImageFile.lean: image objects: their header, section table and sections, the rules they obey, and the
route audit (R153, R203, R362–R368, R372, R422). -/

namespace Sys2Proof.Machine

/-! ## Header and section table (R362–R364) -/

/-- A section of an image: type, pan, and its bytes. -/
structure ImgSection where
  ty : Nat
  pan : Nat
  bytes : List Byte
  deriving DecidableEq, Repr

/-- Bytes i to i + n of an object are zero. -/
def zeroAt (b : List Byte) (i n : Nat) : Bool := bytesAt b i n == 0

def imgKind (b : List Byte) : Nat := bytesAt b 6 1
def imgPan (b : List Byte) : Nat := bytesAt b 10 2
def imgSections (b : List Byte) : Nat := bytesAt b 12 4
def imgId (b : List Byte) : W64 := BitVec.ofNat 64 (bytesAt b 16 8)
def imgBaseId (b : List Byte) : W64 := BitVec.ofNat 64 (bytesAt b 24 8)
def imgSigned (b : List Byte) : Nat := bytesAt b 32 8
def imgTable (b : List Byte) : Nat := bytesAt b 40 8

/-- The section that entry i of the table names. -/
def imgSection (b : List Byte) (i : Nat) : ImgSection :=
  let e := imgTable b + 32 * i
  { ty := bytesAt b e 2, pan := bytesAt b (e + 2) 2, bytes := (b.drop (bytesAt b (e + 8) 8)).take (bytesAt b (e + 16) 8) }

def imgAll (b : List Byte) : List ImgSection := (List.range (imgSections b)).map (imgSection b)

/-- The sections of a type for a pan, in the order of the table, and the first of them. -/
def imgEach (b : List Byte) (ty pan : Nat) : List (List Byte) :=
  ((imgAll b).filter (fun x => x.ty == ty && x.pan == pan)).map (fun x => x.bytes)
def imgFind (b : List Byte) (ty pan : Nat) : Option (List Byte) := (imgEach b ty pan).head?

/-- What the sections of a type for a pan set, taken together in the order of the table. -/
def imgJoin {α : Type} (parse : List Byte → Option (List α)) (b : List Byte) (ty pan : Nat) : List α :=
  (imgEach b ty pan).flatMap (fun x => (parse x).getD [])

/-- No pan, in a header or a section table. -/
def noPan : Nat := 0xffff

/-- The header obeys R362, for a load of the kind and pan named. -/
def headerOk (b : List Byte) (isPartial : Bool) (pan : Nat) : Bool :=
  bytesAt b 0 4 == 0x314d5747 && bytesAt b 4 2 == 1 && imgKind b == b2n isPartial && bit (BitVec.ofNat 8 (bytesAt b 7 1)) (Config.rev.toNat - 1)
    && bytesAt b 8 2 == 0x4060 && imgPan b == (if isPartial then pan else noPan) && decide (1 ≤ imgSections b)
    && decide (imgSections b ≤ 4096) && imgId b != 0 && (isPartial || imgBaseId b == 0) && decide (imgSigned b % 64 = 0)
    && decide (imgTable b % 64 = 0) && decide (256 ≤ imgTable b) && decide (imgTable b + 32 * imgSections b ≤ imgSigned b)
    && zeroAt b 56 200

/-- Entry i of the section table obeys R363 and R364. -/
def entryOk (b : List Byte) (isPartial : Bool) (i : Nat) : Bool :=
  let e := imgTable b + 32 * i
  let ty := bytesAt b e 2
  let pan := bytesAt b (e + 2) 2
  decide (1 ≤ ty) && decide (ty ≤ 0x0b) && zeroAt b (e + 4) 4 && zeroAt b (e + 24) 8 && decide (bytesAt b (e + 8) 8 % 64 = 0)
    && decide (bytesAt b (e + 8) 8 + bytesAt b (e + 16) 8 ≤ imgSigned b)
    && (if isPartial then pan == imgPan b && !([4, 6, 0x0b].contains ty)
        else if 7 ≤ ty ∧ ty ≤ 0x0a then decide (pan < 1024) else pan == noPan)

/-- How many sections of a type an image has. -/
def imgCount (b : List Byte) (ty : Nat) : Nat := (imgAll b).countP (fun x => x.ty == ty)

/-- The sections that must be there once (R364). -/
def countsOk (b : List Byte) (isPartial : Bool) : Bool :=
  if isPartial then imgCount b 1 == 1 else [1, 2, 3, 4, 5, 6].all (fun t => imgCount b t == 1)

/-! ## Pans (R365–R368) -/

/-- A pan entry. -/
structure PanEntry where
  pan : Nat
  accMode : Bool
  autostart : Bool
  row0 : Nat
  rowsM1 : Nat
  col0 : Nat
  colsM1 : Nat
  detourFirst : Nat
  detourCount : Nat
  deriving DecidableEq, Repr

/-- Pan entry i of a PAN_MAP section. -/
def panEntry (b : List Byte) (i : Nat) : PanEntry :=
  let e := 16 * i
  let flags : Byte := b.getD (e + 2) 0
  { pan := bytesAt b e 2, accMode := bit flags 0, autostart := bit flags 1, row0 := bytesAt b (e + 3) 1, rowsM1 := bytesAt b (e + 4) 1
    col0 := bytesAt b (e + 5) 1, colsM1 := bytesAt b (e + 6) 1, detourFirst := bytesAt b (e + 7) 1, detourCount := bytesAt b (e + 8) 1 }

def panEntries (b : List Byte) : List PanEntry := (List.range (b.length / 16)).map (panEntry b)

/-- The pan entries of an image. -/
def imgPans (b : List Byte) : List PanEntry :=
  match (imgAll b).find? (fun x => x.ty == 1) with
  | some x => panEntries x.bytes
  | none => []

/-- The columns of a pan on a wafer's side, when it has any: first and last logical column. -/
def PanEntry.columnsOn (p : PanEntry) (side : Nat) : Option (Nat × Nat) :=
  let lo := max p.col0 (96 * side)
  let hi := min (p.col0 + p.colsM1) (96 * side + 95)
  if lo ≤ hi then some (lo - 96 * side, hi - 96 * side) else none

/-- A site's router is in the footprint of a pan (R367). -/
def PanEntry.footprint (p : PanEntry) (k : Nat) : Bool :=
  let r := 96 * (siteW k / 2) + siteY k
  decide (p.row0 ≤ r) && decide (r ≤ p.row0 + p.rowsM1)
    && (match p.columnsOn (siteW k % 2) with
        | none => false
        | some (lo, hi) => decide (25 * (lo / 24) ≤ siteX k) && decide (siteX k ≤ 25 * (hi / 24) + 24))

/-- A mesh position lies in a pan's rectangle. -/
def PanEntry.holds (p : PanEntry) (r c : Nat) : Bool :=
  decide (p.row0 ≤ r) && decide (r ≤ p.row0 + p.rowsM1) && decide (p.col0 ≤ c) && decide (c ≤ p.col0 + p.colsM1)

/-- The rectangles of two pans do not overlap (R366). -/
def PanEntry.apart (p q : PanEntry) : Bool :=
  decide (p.row0 + p.rowsM1 < q.row0) || decide (q.row0 + q.rowsM1 < p.row0) || decide (p.col0 + p.colsM1 < q.col0)
    || decide (q.col0 + q.colsM1 < p.col0)

/-- The detour ranges of two pans do not overlap; one without entries overlaps none. -/
def PanEntry.detoursApart (p q : PanEntry) : Bool :=
  p.detourCount == 0 || q.detourCount == 0 || decide (p.detourFirst + p.detourCount ≤ q.detourFirst) || decide (q.detourFirst + q.detourCount ≤ p.detourFirst)

/-- A pan entry's own rules (R365, R366). -/
def panEntryOk (b : List Byte) (i : Nat) : Bool :=
  let p := panEntry b i
  decide (p.pan < 1024) && decide (bytesAt b (16 * i + 2) 1 < 4) && decide (p.row0 + p.rowsM1 < 192) && decide (p.col0 + p.colsM1 < 192)
    && decide (p.detourFirst < 64) && decide (p.detourFirst + p.detourCount ≤ 64) && zeroAt b (16 * i + 9) 7

/-- The pan entries of a section, taken together (R366, R367). -/
def pansApart : List PanEntry → Bool
  | [] => true
  | p :: ps => ps.all (fun q => p.pan != q.pan && p.apart q
      && (p.detoursApart q || allSites.all (fun k => !(p.footprint k && q.footprint k)))) && pansApart ps

/-- A PAN_MAP section obeys its rules. -/
def panMapOk (b : List Byte) : Bool :=
  decide (b.length % 16 = 0) && (List.range (b.length / 16)).all (panEntryOk b) && pansApart (panEntries b)

/-- The pan as the active whole image configured it. -/
def Pan.entry (p : Pan) (n : Nat) : PanEntry :=
  { pan := n, accMode := p.accMode, autostart := p.autostart, row0 := p.row0.toNat, rowsM1 := p.rowsM1.toNat, col0 := p.col0.toNat
    colsM1 := p.colsM1.toNat, detourFirst := p.detourFirst.toNat, detourCount := p.detourCount.toNat }

/-! ## Tempo schedules (R203, R204) -/

def tempoPeriod (b : List Byte) : Nat := bytesAt b 0 4
def tempoWindow (b : List Byte) : Nat := bytesAt b 4 1
def tempoSlots (b : List Byte) : Nat := bytesAt b 5 1
def tempoOffset (b : List Byte) : Nat := bytesAt b 8 4

/-- A tempo schedule obeys its field rules. -/
def tempoOk (b : List Byte) : Bool :=
  decide (1 ≤ tempoPeriod b) && decide (tempoPeriod b ≤ 65536) && decide (tempoWindow b < 8) && decide (tempoSlots b < 16) && zeroAt b 6 2
    && decide (tempoOffset b % 16 = 0) && zeroAt b 12 4 && b.length == 16 + 16 * tempoPeriod b
    && (List.range (tempoPeriod b)).all (fun i => decide (bytesAt b (16 + 16 * i + 8) 1 < 16) && zeroAt b (16 + 16 * i + 9) 3)

/-- Register words that WINDOWS sections set mark a window resident: the last of them that sets its base (R204). -/
def marksResident (ws : List (Nat × W64)) (n : Nat) : Bool :=
  (((ws.filter (fun e => e.1 == 0x4000 + 16 * n)).getLast?).map (fun e => bit e.2 1)).getD false

/-! ## Promotion plans (R422) -/

/-- Patch list of count entries at an offset of the section. -/
def patchList (b : List Byte) (offset count : Nat) : List Patch :=
  (List.range count).map (fun i => ⟨bytesAt b (offset + 4 * i) 1, bytesAt b (offset + 4 * i + 1) 1, BitVec.ofNat 16 (bytesAt b (offset + 4 * i + 2) 2)⟩)

/-- Place of a site's plan in the section's order. -/
def planIndex (k : Nat) : Nat := (siteW k * 96 + siteY k) * 100 + siteX k

/-- The plan of a site. -/
def parseSitePlan (b : List Byte) (k : Nat) : SitePlan :=
  let e := 16 + 16 * planIndex k
  { cands := (List.range (bytesAt b (e + 2) 1 % 8)).map (fun i => Fin.ofNat 4 (bytesAt b (e + 10 + i) 1))
    patches := patchList b (bytesAt b (e + 4) 4) (bytesAt b (e + 8) 2) }

/-- The patch list of a wafer. -/
def parseWaferPlan (b : List Byte) (w : Nat) : List Patch :=
  let e := 16 + 16 * (38400 + w)
  patchList b (bytesAt b (e + 4) 4) (bytesAt b (e + 8) 2)

/-- A patch list lies in the section, with every router in the module. -/
def patchesOk (b : List Byte) (offset count : Nat) : Bool :=
  decide (offset + 4 * count ≤ b.length) && (patchList b offset count).all (fun p => decide (p.row < 192) && decide (p.col < 200))

/-- A PROMOTION section obeys its field rules. -/
def promotionOk (b : List Byte) : Bool :=
  decide (16 + 16 * 38404 ≤ b.length)
    && allSites.all (fun k =>
      let e := 16 + 16 * planIndex k
      bytesAt b e 2 == k && decide (bytesAt b (e + 2) 1 ≤ 4) && zeroAt b (e + 3) 1 && zeroAt b (e + 14) 2
        && (List.range 4).all (fun i => decide (bytesAt b (e + 10 + i) 1 < 4)) && patchesOk b (bytesAt b (e + 4) 4) (bytesAt b (e + 8) 2))
    && (List.range 4).all (fun w =>
      let e := 16 + 16 * (38400 + w)
      bytesAt b e 1 == w && patchesOk b (bytesAt b (e + 4) 4) (bytesAt b (e + 8) 2))

/-! ## Site maps (R141, R168) -/

/-- The entries of the site map that a partial image carries: those of the spare sites in the pan's footprint, in order. -/
def PanEntry.mapEntries (p : PanEntry) : List Nat :=
  (List.range 1536).filter (fun i => p.footprint (siteKey (i / 384) (i / 4 % 96) (25 * (i % 4) + 24)))

/-- A SITE_MAP section's bytes, as pairs of entry and value. -/
def siteMapWrites (b : List Byte) (isPartial : Bool) (p : Option PanEntry) : List (Nat × Byte) :=
  if isPartial then (match p with | some p => p.mapEntries.zip b | none => []) else (List.range 1536).zip b

/-- Length and columns of a SITE_MAP section. -/
def siteMapOk (b : List Byte) (isPartial : Bool) (p : Option PanEntry) : Bool :=
  b.length == (if isPartial then (match p with | some p => p.mapEntries.length | none => 0) else 1536)
    && b.all (fun e => decide (e.toNat % 128 < 96))

/-! ## The rules of the sections (R364) -/

/-- The registers that a section of each kind may set: WINDOWS, and FOD. -/
def windowReg (off : Nat) : Bool :=
  (decide (0x4000 ≤ off) && decide (off < 0x4080)) || (decide (0x40 ≤ off) && decide (off < 0xc0))
    || (decide (0x1000 ≤ off) && decide (off < 0x1100) && decide (off % 0x40 < 0x10)) || off == 0x2008 || off == 0x10
def fodReg (off : Nat) : Bool := off == 0x5000 || (decide (0x5100 ≤ off) && decide (off < 0x5500))

/-- One section obeys its field rules. In a partial image, routes lie in the pan's footprint and detour range (R368). -/
def sectionOk (b : List Byte) (isPartial : Bool) (x : ImgSection) : Bool :=
  let p := if isPartial then (imgPans b).head? else none
  match x.ty with
  | 1 => panMapOk x.bytes
  | 2 => match Config.imgRoutes x.bytes with
    | none => false
    | some rs => rs.all (fun r => decide (r.row < 192) && decide (r.col < 200) && r.entries.all (fun e => decide (e.1 < 64))
        && (match p with
            | none => true
            | some p => p.footprint (siteAt r.row r.col)
                && r.entries.all (fun e => decide (p.detourFirst ≤ e.1) && decide (e.1 < p.detourFirst + p.detourCount))))
  | 3 => siteMapOk x.bytes isPartial p
  | 4 => promotionOk x.bytes
  | 5 => (Config.imgIsland x.bytes).isSome
  | 6 => (Config.imgPower x.bytes).isSome
  | 7 => match Config.imgWindows x.bytes with
    | none => false
    | some ws => ws.all (fun e => windowReg e.1)
  | 8 => match Config.imgProgram x.bytes with
    | none => false
    | some bs => decide ((imgJoin Config.imgProgram b 8 x.pan).length ≤ 4) && bs.all (fun e => decide (e.slot < 4))
  | 9 => tempoOk x.bytes && marksResident (imgJoin Config.imgWindows b 7 x.pan) (tempoWindow x.bytes)
  | 10 => match Config.imgFod x.bytes with
    | none => false
    | some f => f.regs.all (fun e => fodReg e.1) && f.tables.all (fun t => decide (t.1 < 2) && t.2.length == 528)
  | 11 => (Config.imgUpdate x.bytes).isSome
  | _ => false

/-- Every pan that a section configures is in the PAN_MAP. -/
def pansListed (b : List Byte) : Bool := (imgAll b).all (fun x => x.pan == noPan || (imgPans b).any (fun p => p.pan == x.pan))

/-- The image obeys R362 to R368, R204 and its field rules, apart from what depends on the module's state. -/
def imageOk (b : List Byte) (isPartial : Bool) (pan : Nat) : Bool :=
  headerOk b isPartial pan && (List.range (imgSections b)).all (entryOk b isPartial) && countsOk b isPartial
    && (imgAll b).all (sectionOk b isPartial) && pansListed b && (!isPartial || (imgPans b).length == 1)

/-! ## The signature (R372, R437) -/

/-- Digest of a key: SHA-512 of its modulus and exponent (R436). -/
def keyDigest (modulus exponent : Nat) : List Byte := sha512 (beBytes 512 modulus ++ beBytes 4 exponent)

/-- The owner key's modulus and exponent. -/
def ownerModulus (k : List Byte) : Nat := beNat (k.take 512)
def ownerExponent (k : List Byte) : Nat := beNat ((k.drop 512).take 4)

/-- A key: modulus and exponent. -/
abbrev PubKey := Nat × Nat

/-- The keys of a kind whose slots are not revoked. -/
def vendorKeys (modulus : Nat → Nat) (revoked : BitVec 4) : List PubKey :=
  ((List.range 4).filter (fun i => !bit revoked i)).map (fun i => (modulus i, 65537))

/-- The keys that images are accepted from in the current life-cycle state (R437, R444). -/
def Sec.imageKeys (c : Sec) : List PubKey :=
  if c.lc = 0 ∨ c.lc = 3 then vendorKeys Config.vendorSvcModulus c.svcRevoked
  else if c.lc = 1 ∨ c.lc = 2 then (match c.ownerKey with | some k => [(ownerModulus k, ownerExponent k)] | none => [])
  else []

/-- A signature over a message, under the key of the digest among those accepted. The module accepts only exponent 65,537. -/
def signedBy (keys : List PubKey) (digest msg sig : List Byte) : Bool :=
  keys.any (fun k => k.2 == 65537 && keyDigest k.1 k.2 == digest && rsaVerify k.1 k.2 msg sig)

/-- The signature block at SIGNED_BYTES of an image verifies. -/
def imgSignatureOk (keys : List PubKey) (b : List Byte) : Bool :=
  let n := imgSigned b
  signedBy keys ((b.drop n).take 64) (b.take n) ((b.drop (n + 64)).take 512)

/-! ## The route audit (R153) -/

/-- Mesh outputs by number: N, E, S, W. -/
def meshOuts : List Nat := [0, 1, 2, 3]

/-- Outputs that default routing allows a packet that entered by a mesh port. -/
def defaultOuts (i : RPort) : List Nat :=
  match i with
  | .w => [1, 0, 2]
  | .e => [3, 0, 2]
  | .n => [2]
  | .s => [0]
  | _ => meshOuts

/-- A node of the audit: router, mesh output and lane of a directed link. -/
abbrev AuditNode := Nat × Nat × Nat

/-- A detour entry takes a packet of class c and lane l that entered by port i. -/
def detourTakes (d : Detour) (i : RPort) (c l : Nat) : Bool :=
  bit d 52 && bit d (32 + inBit i) && bit d (39 + c) && ((fld d 43 2).toNat == 0 || (fld d 43 2).toNat == l + 1)

/-- The nodes that a packet at a node may wait for, under route tables. -/
def auditNext (tables : Nat → Tbl Detour) (c : Nat) (n : AuditNode) : List AuditNode :=
  match neighbour n.1 (outPort n.2.1) with
  | none => []
  | some r =>
    let i := portOpp (outPort n.2.1)
    let l := n.2.2
    let detours := ((tables r).filter (fun e => detourTakes e.2 i c l)).map (fun e => ((fld e.2 45 2).toNat, if bit e.2 47 then 1 else l))
    let defaults := (defaultOuts i).map (fun o => (o, l))
    let unrolled := if c = 0 ∧ l = 0 then meshOuts.map (fun o => (o, 1)) else []
    ((detours ++ defaults ++ unrolled).filter (fun e => (neighbour r (outPort e.1)).isSome)).map (fun e => (r, e.1, e.2))

/-- Every node of a class. -/
def auditNodes : List AuditNode :=
  allSites.flatMap (fun k => meshOuts.flatMap (fun o => if (neighbour k (outPort o)).isSome then [(k, o, 0), (k, o, 1)] else []))

/-- Nodes reached from a set in at most so many steps. -/
def auditReach (next : AuditNode → List AuditNode) : Nat → List AuditNode → List AuditNode
  | 0, seen => seen
  | n + 1, seen =>
    let new := (seen.flatMap next).filter (fun x => !seen.contains x)
    if new.isEmpty then seen else auditReach next n (seen ++ new.eraseDups)

/-- A node lies on a cycle. -/
def onCycle (next : AuditNode → List AuditNode) (n : AuditNode) : Bool :=
  (auditReach next auditNodes.length (next n)).contains n

/-- The nodes of class c that lie on cycles. -/
def auditCycles (tables : Nat → Tbl Detour) (c : Nat) : List AuditNode := auditNodes.filter (onCycle (auditNext tables c))

/-- The audit: none when it passes, else the class that fails first with its nodes on cycles. -/
def routeAudit (tables : Nat → Tbl Detour) : Option (Nat × List AuditNode) :=
  [0, 1, 2, 3].findSome? (fun c => let ns := auditCycles tables c; if ns.isEmpty then none else some (c, ns))

end Sys2Proof.Machine
end

