-- ==== Sys2Proof/Machine/Image.lean ====
section
/-! DEFINITION. Machine/Image.lean: loading an image: staging, verification, the route audit, application and completion, and
the reset of a host port, which can interrupt a load (R359, R369–R381, R387, R411). -/

namespace Sys2Proof.Machine

/-! ## The staging area (R369) -/

/-- Bytes of HBM as the loader reads them back. -/
def State.peek (s : State) (addr len : Nat) : List Byte := (s.hbmGet addr len).2.1

/-- The bytes of a copy. -/
def State.copyBytes (s : State) (c : ImgCopy) : List Byte := s.peek c.addr c.bytes

/-- The active copies. -/
def Images.copies (i : Images) : List ImgCopy := i.whole.toList ++ i.partials.map (fun e => e.2)

/-- The copy from which pan n was last configured: its partial image, else the whole one. -/
def Images.copyOf (i : Images) (n : Nat) : Option ImgCopy := ((i.partials.find? (fun e => e.1 == n)).map (fun e => e.2)).or i.whole

/-- The first place in the staging area for an object: its start, or the end of an active copy (DESIGN CHOICE 44). -/
def Images.place (i : Images) (bytes : Nat) : Option Nat :=
  let lo := i.stageBase.toNat * 2 ^ 20
  let hi := i.stageBound.toNat * 2 ^ 20
  (lo :: i.copies.map (fun c => roundUp (c.addr + c.bytes) 512)).find? (fun a =>
    decide (lo ≤ a) && decide (a + bytes ≤ hi) && i.copies.all (fun c => decide (a + bytes ≤ c.addr) || decide (c.addr + c.bytes ≤ a)))

/-- Bytes written by the loader in requests of at most 512 bytes. Requests move whole lines, so what stands beside the bytes in their first
and last line is written back with them. -/
def State.loaderPut (s : State) (addr : Nat) (bs : List Byte) : State :=
  let lo := addr % 64
  let n := lo + bs.length
  let all := s.peek (addr - lo) lo ++ bs ++ s.peek (addr + bs.length) (roundUp n 64 - n)
  (List.range (ceilDiv all.length 512)).foldl (fun s i => (s.hbmStore (addr - lo + 512 * i) ((all.drop (512 * i)).take 512)).1) s

/-! ## Command completion and the order of loads (R352, R370, R371) -/

def scOk : BitVec 8 := 0
def scTargetOff : BitVec 8 := 1
def scOutOfWindow : BitVec 8 := 2
def scPoison : BitVec 8 := 3
def scBusy : BitVec 8 := 5
def scInvalidOpcode : BitVec 8 := 0x10
def scInvalidField : BitVec 8 := 0x11
def scAborted : BitVec 8 := 0x12
def scTimeout : BitVec 8 := 0x13
def scHostReadFailed : BitVec 8 := 0x14
def scRouteAuditFail : BitVec 8 := 0x20
def scSignatureFail : BitVec 8 := 0x21

/-- Queue pair q of port k. -/
def State.hq (s : State) (k q : Nat) : HostQueue := Tbl.get (fun _ => {}) (s.hp k).queues q
def State.updHq (s : State) (k q : Nat) (f : HostQueue → HostQueue) : State :=
  s.updHp k (fun h => { h with queues := Tbl.set h.queues q (f (Tbl.get (fun _ => {}) h.queues q)) })

/-- The running command of a queue: the first fetched and not completed. -/
def HostQueue.updFront (q : HostQueue) (f : HostCmd → HostCmd) : HostQueue :=
  match q.cmds with
  | c :: cs => { q with cmds := f c :: cs }
  | [] => q

/-- The running command of a queue finished with a status and a result. -/
def State.finishCmd (s : State) (k q : Nat) (status : BitVec 8) (result : W64) : State :=
  s.updHq k q (fun x => x.updFront (fun c => if c.phase = .running then { c with phase := .finished status result } else c))

/-- n bytes of host memory at an address, cut to what one read may ask for: Max_Read_Request_Size, within a 4 KiB page (R342). -/
def HostPort.readLen (h : HostPort) (addr n : Nat) : Nat := min n (min h.readMax (4096 - addr % 4096))

/-- Host bytes of a load's object: the next read is issued, one at a time. -/
def State.loadRead (s : State) (l : ImgLoad) : State :=
  let n := (s.hp l.port).readLen (l.src + l.copied) (l.bytes - l.copied)
  (s.hostRead l.port false (.image l.number l.copied n) (l.src + l.copied) n).getD s

/-- MODULE.IMAGE_STAT shows the load in progress. Its PAN is that of the last partial load (R380). -/
def Images.show (i : Images) (l : ImgLoad) (status : BitVec 2) : Images :=
  { i with status := status, step := BitVec.ofNat 3 (min 7 l.step), pan := if l.isPartial then BitVec.ofNat 10 l.pan else i.pan
           isPartial := l.isPartial }

/-- The load in progress changed. -/
def State.updLoad (s : State) (f : ImgLoad → ImgLoad) : State :=
  match s.images.loads with
  | l :: ls => { s with images := { (s.images.show (f l) 1) with loads := f l :: ls } }
  | [] => s

/-- Image loads are answered BUSY: before READY, while an erase is pending, and after the module has switched off (R412, R429, R450). -/
def State.loadsBusy (s : State) : Bool := !s.power.ready || s.sec.erasePending || s.power.lockout

/-- The load in progress has ended, and its command with it; the next one starts. -/
def State.endLoad (s : State) (code : BitVec 8) : State :=
  match s.images.loads with
  | l :: ls =>
    let s := s.finishCmd l.port l.queue code 0
    { s with images := { (s.images.show l (if code = 0 then 2 else 3)) with code := code, loads := ls } }
  | [] => s

/-- The first load of the list started: check 1 of R371, which for a host's object waits for its header unless no SIGNED_BYTES can match, and
a copy from the host begun. A load that fails at once ends; a firmware switch-over in progress is waited for (R448). -/
def State.startLoad (s : State) : State :=
  match s.images.loads with
  | [] => s
  | l :: _ =>
    if l.step ≠ 0 then s
    else if s.loadsBusy then (s.updLoad (fun l => { l with step := 1 })).endLoad scBusy
    else if s.fault.fw.any (fun e => e.2.st == 1 || e.2.st == 2) then s
    else
      let fits := if l.fromHbm then l.bytes = imgSigned (s.peek l.src 512) + 1024 else 1024 ≤ l.bytes
      match s.images.place l.bytes with
      | none => (s.updLoad (fun l => { l with step := 1 })).endLoad scInvalidField
      | some a =>
        if ¬fits then (s.updLoad (fun l => { l with step := 1 })).endLoad scInvalidField
        else
          let s := s.updLoad (fun l => { l with step := if l.fromHbm then 2 else 1, stage := a })
          if l.fromHbm then s else s.loadRead l

/-- Loads that wait are started until one is in progress. -/
def State.startLoads (s : State) : State := s.images.loads.foldl (fun s _ => s.startLoad) s

/-- The load in progress ended with a status, and the next one started. -/
def State.closeLoad (s : State) (code : BitVec 8) : State := (s.endLoad code).startLoads

/-- A load that fails at a step of R371. -/
def State.failLoad (s : State) (step : Nat) (code : BitVec 8) : State :=
  (s.updLoad (fun l => { l with step := step })).closeLoad code

/-- IMAGE_LOAD's command started: it waits for the loads before it. -/
def State.queueLoad (s : State) (k q : Nat) (c : HostCmd) : State :=
  let l : ImgLoad :=
    { number := s.images.nextLoad, port := k, queue := q, src := c.arg0.toNat, bytes := c.arg1.toNat, fromHbm := bit c.arg2 0
      isPartial := bit c.arg2 1, pan := c.arg3.toNat % 1024 }
  { s with images := { s.images with loads := s.images.loads ++ [l], nextLoad := l.number + 1 } }.startLoads

/-! ## Verification (R371–R373) -/

/-- A map of byte numbers to bytes with some of them rewritten. -/
def overlay (m : Mem) (ws : List (Nat × Byte)) (i : Nat) : Byte := ((ws.find? (fun e => e.1 == i)).map (fun e => e.2)).getD (Memory.get m i)

/-- The entries that an image's SITE_MAP sections set. -/
def imgMapWrites (b : List Byte) (isPartial : Bool) (n : Nat) : List (Nat × Byte) :=
  (imgEach b 3 n).flatMap (fun x => siteMapWrites x isPartial (imgPans b).head?)

/-- The arrays of a partial image's pan, by mesh position, with the sites that hold them under its site map. -/
def State.imgSites (s : State) (b : List Byte) (p : PanEntry) : List ((Nat × Nat) × Nat) :=
  let m := overlay s.smap (imgMapWrites b true p.pan)
  (List.range (p.rowsM1 + 1)).flatMap (fun i => (List.range (p.colsM1 + 1)).map (fun j =>
    let r := p.row0 + i
    let c := p.col0 + j
    ((r, c), mapSite m (2 * (r / 96) + c / 96) (r % 96) (c % 96))))

/-- The entry of pan n in the active whole image's PAN_MAP. -/
def State.wholeEntry (s : State) (n : Nat) : Option PanEntry :=
  s.images.whole.bind (fun c => (imgPans (s.copyBytes c)).find? (fun p => p.pan == n))

/-- A partial image keeps its pan's configuration as the active whole image has it, and its site map places the pan's arrays where they
are (R368, R371, R426). -/
def State.partialOk (s : State) (b : List Byte) (n : Nat) : Bool :=
  match (imgPans b).head?, s.wholeEntry n with
  | some p, some old =>
    imgBaseId b == s.images.active && { p with autostart := old.autostart } == old
      && (s.imgSites b p).all (fun e => some e.2 == s.siteOfMesh e.1.1 e.1.2)
  | _, _ => false

/-- The preconditions of R373. -/
def State.loadReady (s : State) (b : List Byte) (isPartial : Bool) (n : Nat) : Bool :=
  if isPartial then
    (s.pan n).st == .stopped
      && (((imgPans b).head?.map (fun p => s.imgSites b p)).getD []).all (fun e => !(s.site e.2).parked && !(s.site e.2).fenced)
  else
    s.pans.all (fun e => e.2.st == .stopped || e.2.st == .unconfigured)
      && s.pcs.all (fun e => e.2.red.jobs.all (fun j => j.2.st == .closed) && e.2.disp.wins.all (fun w => w.2.st != .opened))
      && (List.range 128).all (fun e => !(s.site (65536 + e)).ue.active)

/-- The object copied from HBM into staging; false where a byte was poisoned. -/
def State.stageCopy (s : State) (l : ImgLoad) : State × Bool :=
  if l.fromHbm then
    let (s, bs, bad) := s.hbmGet l.src l.bytes
    (s.loaderPut l.stage bs, !bad)
  else (s, true)

/-- Checks 3 and 4 of the copy in staging. -/
def State.verifyCopy (s : State) (l : ImgLoad) : State :=
  let b := s.peek l.stage l.bytes
  if !imgSignatureOk s.sec.imageKeys b then s.failLoad 3 scSignatureFail
  else if !(imageOk b l.isPartial l.pan && (!l.isPartial || s.partialOk b l.pan)) then s.failLoad 4 scInvalidField
  else s.updLoad (fun l => { l with step := 5, hash := sha512 (b.take (imgSigned b)) })

/-- A promotion is in progress: one that stopped after its step 2 is not (R424, R426). -/
def State.promotes (s : State) : Bool := s.fault.promos.any (fun p => p.released)

/-- Step 5 of the load in progress, and the audit begun. A promotion in progress holds the load here (R426). -/
def State.loadStep5 (s : State) : State :=
  match s.images.loads with
  | l :: _ =>
    if l.step ≠ 5 ∨ s.promotes = true then s
    else if !s.loadReady (s.peek l.stage l.bytes) l.isPartial l.pan then s.failLoad 5 scBusy
    else
      let s := s.updLoad (fun l => { l with step := 6 })
      { s with images := { s.images with audit := 3 } }
  | [] => s

/-- IMAGE_STAGED (R369, R371): the object stands in staging, read once. Checks 2 to 5, and the audit begun. -/
def execImageStaged (s : State) : Result :=
  .next (match s.images.loads with
    | l :: _ =>
      if l.step = 2 ∧ (l.fromHbm = true ∨ l.bytes ≤ l.copied) then
        let (s, ok) := s.stageCopy l
        if !ok then s.failLoad 2 scPoison
        else if l.bytes ≠ imgSigned (s.peek l.stage 512) + 1024 then s.failLoad 1 scInvalidField
        else (s.verifyCopy l).loadStep5
      else s.loadStep5
    | [] => s)

/-! ## The audit (R153, R154, R169) -/

/-- The routes that an image's ROUTES section gives. -/
def imgRoutesOf (b : List Byte) (pan : Nat) : List Config.ImgRoute :=
  imgJoin Config.imgRoutes b 2 pan

/-- The pan that a partial image's sections name, or none. -/
def imgScope (isPartial : Bool) (pan : Nat) : Nat := if isPartial then pan else noPan

/-- The detour table of a router as it would stand after the load (R153, R368). A whole image leaves that of a parked site (R399). -/
def State.tablesAfter (s : State) (b : List Byte) (isPartial : Bool) (pan : Nat) (k : Nat) : Tbl Detour :=
  let a := s.site k
  let p := (imgPans b).head?
  let base := match isPartial, p with
    | true, some p => if p.footprint k then a.rt.detour.filter (fun e => !(decide (p.detourFirst ≤ e.1) && decide (e.1 < p.detourFirst + p.detourCount)))
        else a.rt.detour
    | _, _ => a.rt.detour
  if a.parked && !isPartial then a.rt.detour
  else ((imgRoutesOf b (imgScope isPartial pan)).filter (fun r => siteAt r.row r.col == k)).foldl (fun t r =>
    r.entries.foldl (fun t e => Tbl.set t e.1 (e.2.setWidth 53)) t) base

/-- MODULE.ROUTE_AUDIT of an audit that failed at a node. -/
def auditWord (c : Nat) (n : AuditNode) : BitVec 24 :=
  BitVec.ofNat 24 (2 + c * 2 ^ 2 + n.2.2 * 2 ^ 4 + n.2.1 * 2 ^ 5 + posRow n.1 * 2 ^ 8 + posCol n.1 * 2 ^ 16)

/-- The audit found no cycle. -/
def State.auditPass (s : State) : State :=
  let t := s.updLoad (fun l => { l with audited := true })
  { t with images := { t.images with audit := 1 } }

/-- The audit found the cycle of class c: which of its nodes is found first is a free value. -/
def State.auditFail (s : State) (r : Nat × List AuditNode) : State :=
  let t := s.draw
  { t.2 with images := { t.2.images with audit := auditWord r.1 (r.2.getD (t.1.toNat % r.2.length) (0, 0, 0)) } }.closeLoad scRouteAuditFail

/-- ROUTE_AUDIT_DONE (R154, R169). -/
def execRouteAuditDone (s : State) : Result :=
  .next (match s.images.loads with
    | l :: _ =>
      if l.step ≠ 6 ∨ l.audited = true then s
      else (routeAudit (s.tablesAfter (s.peek l.stage l.bytes) l.isPartial l.pan)).elim s.auditPass s.auditFail
    | [] => s)

/-! ## Application to one array (R374) -/

/-- What an image's sections say for the arrays of one pan. -/
structure PanConf where
  entry : PanEntry
  windows : List (Nat × W64)
  blobs : List Config.ImgBlob
  tempo : List (List Byte)
  fod : Config.ImgFod
  deriving DecidableEq, Repr

/-- The configuration of pan n in an image. -/
def panConf (b : List Byte) (n : Nat) : Option PanConf :=
  ((imgPans b).find? (fun p => p.pan == n)).map (fun p =>
    { entry := p
      windows := imgJoin Config.imgWindows b 7 n
      blobs := imgJoin Config.imgProgram b 8 n
      tempo := imgEach b 9 n
      fod := { regs := imgJoin (fun x => (Config.imgFod x).map (fun f => f.regs)) b 10 n
               tables := imgJoin (fun x => (Config.imgFod x).map (fun f => f.tables)) b 10 n } })

/-- A register word that a section sets: the writable fields as a write sets them, without actions, and SPW_BASE_n.RESIDENT (R376). -/
def State.imgWrite (s : State) (k off : Nat) (v : W64) : State :=
  let v' := if 0x1000 ≤ off ∧ off < 0x1100 ∧ off % 0x40 = 0 then v &&& ~~~3 else if off = 0x10 then v &&& ~~~2 else v
  let s := Reg.writeAt (csrReg none k off) .whole v' s
  if 0x4000 ≤ off ∧ off < 0x4080 ∧ off % 16 = 0 then
    s.updSite k (fun a => a.updWin ((off - 0x4000) / 16) (fun w => { w with resident := bit v 1 }))
  else s

/-- A program blob copied to its slot's home window. -/
def State.putBlob (s : State) (k : Nat) (e : Config.ImgBlob) : State :=
  s.updSite k (fun a => a.putRuns [[(a.homeAddr (Fin.ofNat 4 e.slot) e.offset, e.data)]])

/-- A tempo schedule in its window, with CC.TEMPO_CFG (R204). -/
def Site.putTempo (a : Site) (t : List Byte) : Site :=
  let addr := (vget {} a.spad.win (tempoWindow t)).base.toNat * 4096 + tempoOffset t
  { (a.putRuns [[(addr, t.drop 16)]]) with
    tempo := { a.tempo with slots := BitVec.ofNat 4 (tempoSlots t), period := BitVec.ofNat 32 (tempoPeriod t) } }

/-- The tempo schedules of an image; without one, no slot takes part in the tempo. -/
def Site.putTempos (a : Site) (ts : List (List Byte)) : Site :=
  ts.foldl Site.putTempo { a with tempo := { a.tempo with slots := 0, period := 0 } }

/-- The activation tables and ACC_MODE. -/
def Site.putFod (a : Site) (c : PanConf) : Site :=
  a.updMx (fun m => { m with accMode := c.entry.accMode
                             tables := c.fod.tables.foldl (fun t e => Sparse.write 0 t (1024 * e.1) e.2) m.tables })

/-- The tempo counter of a reconfigured array: at zero after a whole image; kept by a partial image; by a reset, ARRIVED is
cleared as well (R374, R405). -/
inductive TempoKeep where
  | zero | keep | keepNoArrived
  deriving DecidableEq, Repr

def Tempo.after (t : Tempo) : TempoKeep → Tempo
  | .zero => { t with current := 0, arrived := 0, forced := false, waitIds := [] }
  | .keep => { t with waitIds := [] }
  | .keepNoArrived => { t with arrived := 0, waitIds := [] }

/-- An array reconfigured (R374): clean, its windows set, its scratchpad cleared outside the resident windows, then programs,
tempo entries and the rest; the generators are seeded anew. -/
def State.reconfig (s : State) (k : Nat) (c : PanConf) (t : TempoKeep) : State :=
  let s := s.updSite k (fun a => { a.clean with tempo := a.tempo.after t })
  let s := c.windows.foldl (fun s e => if windowReg e.1 then s.imgWrite k e.1 e.2 else s) s
  let s := s.updSite k (fun a => { a with spad := a.spad.clear })
  let s := c.blobs.foldl (fun s e => s.putBlob k e) s
  let s := s.updSite k (fun a => a.putTempos c.tempo)
  let s := c.fod.regs.foldl (fun s e => if fodReg e.1 then s.imgWrite k e.1 e.2 else s) s
  (s.updSite k (fun a => a.putFod c)).noiseReseed k

/-- ISL.CFG of site k as an image's ISLAND sections of a scope give it. -/
def State.putIsland (s : State) (b : List Byte) (scope k : Nat) : State :=
  ((imgJoin Config.imgIsland b 5 scope).filter (fun e => e.1 == k)).foldl (fun (s : State) e => s.islCfgWrite k (fld e.2 0 12) (fld e.2 16 6)) s

/-- ISL.CFG of site k from the active whole image, and then from the partial image of its pan (R376, R410). -/
def State.putIslands (s : State) (k : Nat) (pan : Option Nat) : State :=
  let s := match s.images.whole with
    | some c => s.putIsland (s.copyBytes c) noPan k
    | none => s
  match s.images.partials.find? (fun e => some e.1 == pan) with
  | some e => s.putIsland (s.copyBytes e.2) e.1 k
  | none => s

/-- The copy that configures pan n: none for a pan that is UNCONFIGURED (R369). -/
def State.copyOf (s : State) (n : Nat) : Option ImgCopy := if (s.pan n).st = .unconfigured then none else s.images.copyOf n

/-- A site without a configuration made clean, its scratchpad cleared. -/
def Site.bare (a : Site) : Site := { a.clean with spad := a.clean.spad.clear }

/-- A site reconfigured from the active copy of its pan, when there is one, with its island. -/
def State.reconfigActive (s : State) (k n : Nat) (t : TempoKeep) : State :=
  (match (s.copyOf n).bind (fun x => panConf (s.copyBytes x) n) with
    | some c => s.reconfig k c t
    | none => s.updSite k Site.bare).putIslands k (some n)

/-! ## Application of an image (R374, R387, R399) -/

/-- RT.SMAP bytes written in every router and in the other copies (R141); a whole image leaves those of parked sites (R399). -/
def State.writeMap (s : State) (whole : Bool) (ws : List (Nat × Byte)) : State :=
  let put (m : Mem) : Mem := ws.foldl (fun m e => Memory.write m e.1 [e.2]) m
  let s := s.updSites (allSites.filter (fun k => !(whole && (s.site k).parked))) (fun _ a => a.updRt (fun r => { r with smap := put r.smap }))
  { s with smap := put s.smap }

/-- ARRAY.MAP of a site as a site map places the logical arrays (R20, R46, R141). A site without one is router-only. -/
def Site.mapped (a : Site) (k : Nat) (m : Nat → Byte) : Site :=
  let w := siteW k
  let y := siteY k
  let e := m ((96 * w + y) * 4 + siteX k / 25)
  let col := if isSpare k then e.toNat % 128 else 24 * (siteX k / 25) + siteX k % 25
  let valid := if isSpare k then bit e 7 else mapSite m w y col == k
  { a with lrow := BitVec.ofNat 7 y, lcol := BitVec.ofNat 7 col, mapValid := valid
           rt := if a.forwards then { a.rt with state := if valid then 2 else 1 } else a.rt }

/-- The detours and plan bits of router k as an image's ROUTES sections leave them (R168, R368, R374). -/
def State.routed (s : State) (b : List Byte) (isPartial : Bool) (pan k : Nat) (r : Router) : Router :=
  { r with detour := s.tablesAfter b isPartial pan k
           planWritten := match ((imgRoutesOf b (imgScope isPartial pan)).filter (fun x => siteAt x.row x.col == k)).getLast? with
             | some x => x.plans
             | none => if isPartial then r.planWritten else 0 }

/-- A router that a whole image configures: the fields that only an expert writes are as at reset (R377). -/
def Router.basic (r : Router) : Router :=
  let z : Router := {}
  { r with combineEn := z.combineEn, combineHold := z.combineHold, wSluice := z.wSluice, wControl := z.wControl, wReduce := z.wReduce
           wBulk := z.wBulk, age := z.age }

/-- A router is one of an image: of its pan's footprint, or any that is not parked. -/
def State.routesTo (s : State) (b : List Byte) (isPartial : Bool) (k : Nat) : Bool :=
  if isPartial then ((imgPans b).head?.map (fun p => p.footprint k)).getD false else !(s.site k).parked

/-- Detours and plan bits written (R168, R368, R374). -/
def State.writeRoutes (s : State) (b : List Byte) (isPartial : Bool) (pan : Nat) : State :=
  s.updSites (allSites.filter (s.routesTo b isPartial)) (fun k a => a.updRt (fun r =>
    s.routed b isPartial pan k (if isPartial then r else r.basic)))

/-- A router's part of one active copy. -/
def State.putRoutes (s : State) (k : Nat) (isPartial : Bool) (pan : Nat) (c : ImgCopy) : State :=
  let b := s.copyBytes c
  if s.routesTo b isPartial k then s.updSite k (fun a => a.updRt (s.routed b isPartial pan k)) else s

/-- The router and the logical array of a site that was parked, from the active copies and the site map in force: a whole image that was
loaded meanwhile left them (R374, R399, R400). -/
def State.placeActive (s : State) (k : Nat) : State :=
  let s := match s.images.whole with
    | some c => s.putRoutes k false noPan c
    | none => s
  let s := s.images.partials.foldl (fun (s : State) e => s.putRoutes k true e.1 e.2) s
  s.updSite k (fun a => (a.updRt (fun r => { r with smap := s.smap })).mapped k (Memory.get s.smap))

/-- ISL.CFG of the sites that ISLAND lists; a whole image leaves parked sites (R399). -/
def State.writeIslands (s : State) (b : List Byte) (scope : Nat) : State :=
  (imgJoin Config.imgIsland b 5 scope).foldl (fun s e =>
    if scope = noPan ∧ (s.site e.1).parked = true then s else s.islCfgWrite e.1 (fld e.2 0 12) (fld e.2 16 6)) s

/-- A domain that the power plan keeps off (R387). A parked site and a fenced one stay as they are (R397, R399). -/
def State.domainOff (s : State) (kind index : Nat) : State :=
  match kind with
  | 0 => if (s.site index).parked || (s.site index).fenced then s else s.siteOff index
  | 1 => s.powerRequest index true 0 .off
  | 2 => s.pcOff index
  | 3 => s.updHp index (fun h => { h with off := true, up := false })
  | 4 => s.bayCut index
  | 5 => s.bridgeOff index
  | _ => s

/-- The bank state that a TARGET names. -/
def bankTarget (n : Nat) : BankState := if n = 1 then .retain else if n = 2 then .off else .on

/-- A bank's target in the power plan (R187, R376). The request for one bank of a stack whose domain is off is ignored (R190). DESIGN CHOICE
163: a plan that has every bank of such a stack ON is a request for ON of the whole stack. -/
def State.planBank (s : State) (plan : List (Nat × Nat × Nat)) (st bank target : Nat) : State :=
  if !(s.stack st).dark then s.powerRequest st false (Fin.ofNat 8 bank) (bankTarget target)
  else if bank = 7 ∧ (List.range 8).all (fun b => plan.contains (st, b, 0)) = true then s.rmcStackOn st
  else s

/-- The POWER section applied: domains off, with the clocks that this cuts off, bank states requested, park plans taken. -/
def State.applyPower (s : State) (p : Config.ImgPower) : State :=
  let s := (p.off.foldl (fun (s : State) e => s.domainOff e.1 e.2) s).clockCheck
  let s := p.banks.foldl (fun s e => s.planBank p.banks e.1 e.2.1 e.2.2) s
  let plans := p.parks.foldl (fun (t : Tbl (List Patch)) (e : Nat × List (Nat × Nat × BitVec 16)) =>
    Tbl.set t e.1 (e.2.map (fun x => (⟨x.1, x.2.1, x.2.2⟩ : Patch)))) []
  { s with power := { s.power with parkPlans := plans } }

/-- The blocks whose park plan is set: those parked, and one whose park is past step 4 (R397). -/
def Power.planned (p : Power) : List Nat :=
  p.parked.map (fun e => e.1) ++ (p.park.toList.filter (fun (x : ParkOp) => x.step == 4)).map (fun (x : ParkOp) => x.block)

/-- PROMOTION taken over, the counts of every plan bit cleared, and the new park plans of parked blocks and wafer plans of
fenced wafers applied (R399, R426; DEDUCED 45). Promotions that stopped after step 2 end: the new site map places every array. -/
def State.applyPlans (s : State) (b : List Byte) : State :=
  let x := (imgFind b 4 noPan).getD []
  let s := s.updSites allSites (fun _ a => a.updRt (fun r => { r with planCount := Vector.replicate 16 0 }))
  let s := { s with fault := { s.fault with
    promos := [], sitePlans := allSites.map (fun k => (k, parseSitePlan x k)), waferPlans := (List.range 4).map (fun w => (w, parseWaferPlan x w)) } }
  let s := s.power.planned.foldl (fun (s : State) b => s.applyPatches (Tbl.get (fun _ => []) s.power.parkPlans b) true) s
  (List.range 4).foldl (fun (s : State) w =>
    if bit s.fault.waferFenced w then s.applyPatches (Tbl.get (fun _ => []) s.fault.waferPlans w) true else s) s

/-- One update engine's part of an UPDATE section (R253). -/
def State.applyEngine (s : State) (k : Nat) (regs : List (Nat × W64)) (blobs : List Config.ImgBlob) : State :=
  let s := s.updSite k (fun a => { (a.basic k).clean with spad := { a.spad with mem := [], badWords := [], softWords := [], age := 32 } })
  let s := regs.foldl (fun s e => if windowReg e.1 then s.imgWrite k e.1 e.2 else s) s
  blobs.foldl (fun s e => s.putBlob k e) s

/-- The UPDATE section applied. -/
def State.applyUpdate (s : State) (us : List Config.ImgUpdate) : State :=
  us.foldl (fun s u =>
    let s := u.engines.foldl (fun s e => s.applyEngine (ueKey (u.pc % 8) (e.1 % 16)) e.2.1 e.2.2) s
    (s.ueCtlWrite (u.pc % 8) (bit u.ctl 0) (fld u.ctl 16 16)).updUe (u.pc % 8) (fun c => { c with schedBase := u.schedBase.setWidth 48 })) s

/-- The ACU sets whose rectangle meets a reconfigured pan are cleared, valid or not (R224). -/
def State.sweepSets (s : State) (ps : List PanEntry) : State :=
  (List.range 12).foldl (fun s k =>
    let a := s.acu k
    let hit := (a.sets.map (fun e => e.1)).filter (fun n => ps.any (fun p =>
      decide (a.row0 n ≤ p.row0 + p.rowsM1) && decide (p.row0 ≤ a.row0 n + a.rowsM1 n)
        && decide (a.col0 n ≤ p.col0 + p.colsM1) && decide (p.col0 ≤ a.col0 n + a.colsM1 n)))
    (hit.foldl (fun (s : State) n => s.updAcu k (fun a => (a.putWord n 1 (putBit (vget 0 (Tbl.get (fun _ => Vector.replicate 4 0) a.sets n) 1) 63 false)).clearSet n)) s).acuSweep k) s

/-- A pan takes its entry and is LOADING. -/
def Pan.configure (p : Pan) (e : PanEntry) : Pan :=
  { p with st := .loading, row0 := BitVec.ofNat 8 e.row0, rowsM1 := BitVec.ofNat 8 e.rowsM1, col0 := BitVec.ofNat 8 e.col0
           colsM1 := BitVec.ofNat 8 e.colsM1, detourFirst := BitVec.ofNat 6 e.detourFirst, detourCount := BitVec.ofNat 7 e.detourCount
           accMode := e.accMode, autostart := e.autostart }

/-- The pans of an image are configured and their arrays reconfigured. -/
def State.applyPans (s : State) (b : List Byte) (t : TempoKeep) : State :=
  (imgPans b).foldl (fun s p =>
    let s := s.updPan p.pan (fun x => x.configure p)
    match panConf b p.pan with
    | some c => ((s.panSites p.pan).filter (fun k => !(s.site k).parked && !(s.site k).fenced)).foldl (fun s k =>
        (s.updSite k (fun a => a.basic k)).reconfig k c t) s
    | none => s) s

/-- A whole image applied (R374). Every pan is UNCONFIGURED until the image's PAN_MAP configures it. -/
def State.applyWhole (s : State) (b : List Byte) : State :=
  let s := s.unconfigure (fun _ _ => true)
  let s := s.writeRoutes b false 0
  let s := s.writeMap true (imgMapWrites b false noPan)
  let s := s.updSites (allSites.filter (fun k => !(s.site k).parked)) (fun k a => a.mapped k (Memory.get s.smap))
  let s := match (imgFind b 6 noPan).bind Config.imgPower with
    | some p => s.applyPower p
    | none => s
  let s := s.applyPlans b
  let s := s.writeIslands b noPan
  let s := s.applyPans b .zero
  let s := s.applyUpdate (imgJoin Config.imgUpdate b 0x0b noPan)
  s.sweepSets (imgPans b)

/-- A partial image applied (R374). -/
def State.applyPartial (s : State) (b : List Byte) (n : Nat) : State :=
  let s := s.writeRoutes b true n
  let s := s.writeMap false (imgMapWrites b true n)
  let s := s.writeIslands b n
  (s.applyPans b .keep).sweepSets (imgPans b)

/-- IMAGE_APPLY (R373, R374): the audit has passed. Step 7 starts only while the preconditions still hold; a promotion that has
begun since holds the load as at step 5. -/
def execImageApply (s : State) : Result :=
  .next (match s.images.loads with
    | l :: _ =>
      let b := s.peek l.stage l.bytes
      if l.step ≠ 6 ∨ l.audited = false ∨ s.promotes = true then s
      else if !s.loadReady b l.isPartial l.pan then s.failLoad 5 scBusy
      else (if l.isPartial then s.applyPartial b l.pan else s.applyWhole b).updLoad (fun l => { l with step := 7 })
    | [] => s)

/-! ## Completion and failure (R374, R375, R443) -/

/-- The pans that a load has put in LOADING. -/
def State.loadingPans (s : State) : List Nat := (s.pans.filter (fun e => e.2.st == .loading)).map (fun e => e.1)

/-- Every array of every reconfigured pan has finished its clear. -/
def State.clearsDone (s : State) : Bool := s.loadingPans.all (fun n => (s.panSites n).all (fun k => !(s.site k).spad.clearing))

/-- A pan leaves LOADING: STOPPED, or started with AUTOSTART. -/
def State.panLoaded (s : State) (id : W64) (n : Nat) : State :=
  let s := s.updPan n (fun p => { p with st := .stopped, imageId := id, forcedStop := false, target := none })
  if (s.pan n).autostart && s.mayRun n then s.panStart n else s

/-- The active copies and measurements after a load (R369, R443). -/
def Images.complete (i : Images) (l : ImgLoad) (id : W64) : Images :=
  let c : ImgCopy := { addr := l.stage, bytes := l.bytes, id := id, hash := l.hash }
  if l.isPartial then
    { i with partials := Tbl.set i.partials l.pan c, chain := sha512 (i.chain ++ leBytes 2 l.pan ++ l.hash) }
  else { i with active := id, whole := some c, partials := [], chain := List.replicate 64 0 }

/-- IMAGE_LOAD_COMPLETE (R374). -/
def execImageLoadComplete (s : State) : Result :=
  .next (match s.images.loads with
    | l :: _ =>
      if l.step ≠ 7 ∨ s.clearsDone = false then s
      else if s.loadingPans = [] ∧ imgPans (s.peek l.stage l.bytes) ≠ [] then s.closeLoad scAborted
      else
        let id := imgId (s.peek l.stage 512)
        let s := { s with images := s.images.complete l id, rmc := if l.isPartial then s.rmc else { s.rmc with pdrImage := id } }
        let s := s.loadingPans.foldl (fun s n => s.panLoaded id n) s
        s.closeLoad scOk
    | [] => s)

/-- The load in progress is interrupted (R375, R411): before step 7 as a refusal; then, every pan it touches is UNCONFIGURED. -/
def State.abortLoad (s : State) : State :=
  match s.images.loads with
  | l :: _ =>
    let s := if l.step = 7 then s.unconfigure (fun _ p => p.st == .loading) else s
    s.closeLoad scAborted
  | [] => s

/-! ## Host port reset (R359, R410, R411) -/

/-- The loads that a port's commands had queued are dropped; one in progress is interrupted. -/
def State.dropLoads (s : State) (k : Nat) : State :=
  let s := { s with images := { s.images with loads := match s.images.loads with
    | l :: ls => l :: ls.filter (fun m => m.port != k)
    | [] => [] } }
  if (s.images.loads.head?.map (fun l => l.port == k)).getD false then s.abortLoad else s

/-- An ACU that loses its staging, decode buffer and backlog: its sets stay VALID, and reads of runs that had begun fail (R224). -/
def Acu.hostReset (a : Acu) : Acu :=
  { a with staging := [], decoded := [], fetched := [], packed := [], runs := a.runs.map (fun e => (e.1, { e.2 with lost := true })) }

/-- The reads that an ACU still waits for fail with reason 4 (R222, R224). -/
def State.acuLose (s : State) (k : Nat) : State :=
  let nos := (s.acu k).waiting.filterMap (fun p => (s.acuReq k p).map (fun q => q))
  let s := nos.foldl (fun s q => if s.acuWaiters k q.no = [] then s else s.spillCorrupt k q 4) s
  s.updAcu k Acu.hostReset

/-- Host port k reset (R359): its registers, queues, mappings and IDE stream are as at reset; ACU k keeps its sets, and the error
reporting registers are sticky (PRESUMED 8). -/
def State.hostPortReset (s : State) (k : Nat) : State :=
  let s := s.dropLoads k
  let s := s.acuLose k
  s.updHp k (fun h => { ({} : HostPort) with
    acu := h.acu, fenced := h.fenced, off := h.off, arrived := h.arrived, ctrlInbox := h.ctrlInbox
    aerStatus := h.aerStatus, aerMask := h.aerMask, aerSeverity := h.aerSeverity, aerCorStatus := h.aerCorStatus, aerCorMask := h.aerCorMask
    cableB := h.cableB })

/-- HOST_PORT_RESET (R359). -/
def execHostPortReset (port : Fin 4) (s : State) : Result := .next (s.hostPortReset port.val)

end Sys2Proof.Machine
end

