-- ==== Sys2Proof/Machine/Power.lean ====
section
/-! DEFINITION. Machine/Power.lean: input power, power stages, thermal and coolant limits, park and unpark, and the fencing of
a wafer (R382–R400, R428, R429, R433, R469). -/

namespace Sys2Proof.Machine

/-! ## Everything off (R384, R395, R404) -/

/-- A host port switched off, with its ACU. -/
def State.hostOff (s : State) (k : Nat) : State :=
  let s := s.dropLoads k
  s.updHp k (fun h => { ({} : HostPort) with off := true, fenced := h.fenced })

/-- The image load in progress and those that wait are interrupted. -/
def State.abortLoads (s : State) : State :=
  let s := { s with images := { s.images with loads := s.images.loads.take 1 } }
  s.abortLoad

/-- Step 1 of R384: every array site, stack, port complex, host port and seam bridge is switched off without drain. -/
def State.allOff (s : State) : State :=
  let s := s.abortLoads
  let s := (List.range 8).foldl (fun s q => s.pcOff q) s
  let s := (List.range 4).foldl (fun s k => s.hostOff k) s
  let sites := allSites.map (fun k => (k, (s.site k).powerOff k 0 0))
  let hbms := (List.range 192).map (fun st => (st, (s.stack st).cut))
  let power := { s.power with ready := false, dark := true, park := none, parkQueue := [] }
  { s with sites := sites, hbms := hbms, seamOff := 0xf, power := power }

/-! ## Feeds and power stages (R382, R383, R433, R435) -/

/-- Stages of feed f that deliver power. -/
def Power.stagesOf (p : Power) (f : Nat) : Nat := (List.range 5).countP (fun i => bit p.working (5 * f + i))

/-- Feed f is in range with four or more stages working: bit f of MODULE.PWR_STAT.FEEDS. -/
def Power.feedOk (p : Power) (f : Nat) : Bool := !bit p.feedOut f && decide (4 ≤ p.stagesOf f)

/-- The condition of R383. -/
def Power.short (p : Power) : Bool := (List.range 8).any (fun f => !p.feedOk f)

/-- A POWER_FEED or POWER_STAGE event: kind 7 or 6, with the volts and amperes of its unit. -/
def State.postFeed (s : State) (kind index volts amps : Nat) : State := s.post 0x12 1 1 kind index [index, volts, amps]

/-- The same where the command brings no sample: volts and amperes are free values. -/
def State.postUnsampled (s : State) (kind index : Nat) : State :=
  let (v, s) := s.draw
  let (a, s) := s.draw
  s.postFeed kind index (v.toNat % 65536) (a.toNat % 65536)

/-- The limit of R383 put in force or lifted, with a report when it comes into force. -/
def State.feedLimits (s : State) (report : State → State) : State :=
  let was := s.power.feedLimit
  let now := s.power.short
  let s := { s with power := { s.power with feedLimit := now } }
  if now && !was then report s else s

/-- The limit of R383 after a sample of a feed; POWER_FEED is posted when it comes into force. -/
def State.feedCheck (s : State) (feed volts amps : Nat) : State := s.feedLimits (fun s => s.postFeed ukFeed feed volts amps)

/-- The first feed that brings the limit of R383. -/
def Power.shortFeed (p : Power) : Nat := ((List.range 8).find? (fun f => !p.feedOk f)).getD 0

/-- The limit of R383 after what brings no sample of a feed. -/
def State.feedCheckAll (s : State) : State := s.feedLimits (fun s => s.postUnsampled ukFeed s.power.shortFeed)

/-- A feed outside its operating range, 50 to 64 V, in units of 0.01 V. -/
def feedOutOfRange (volts : BitVec 16) : Bool := decide (volts.toNat < 5000) || decide (6400 < volts.toNat)

/-- FEED_FAULT (R383): feed f has been sampled. -/
def execFeedFault (feed : Fin 8) (volts amps : BitVec 16) (s : State) : Result :=
  .next (
    let s := { s with power := { s.power with feedOut := putBit s.power.feedOut feed.val (feedOutOfRange volts) } }
    s.feedCheck feed.val volts.toNat amps.toNat)

/-- FEED_RESTORED (R383): every feed is back in range; the limit is lifted when each has four stages working. -/
def execFeedRestored (s : State) : Result :=
  .next { s with power := { s.power with feedOut := 0 } }.feedCheckAll

/-- Stage st starts, or stops, to deliver power. -/
def State.stageSet (s : State) (st : Nat) (b : Bool) : State :=
  { s with power := { s.power with working := putBit s.power.working st b
                                   removable := if b && s.power.removable == some st then none else s.power.removable } }

/-- A FENCE_CMD, FW_CMD or PSTAGE_CMD refused (R435). -/
def State.faultRefuse (s : State) : State := { s with fault := { s.fault with refused := true } }

/-- PSTAGE_OFFLINE (R433): refused unless the stage's feed keeps at least four working stages. -/
def execPstageOffline (stage : Fin 40) (s : State) : Result :=
  .next (
    let s' := s.stageSet stage.val false
    if 4 ≤ s'.power.stagesOf (stage.val / 5) then { s' with power := { s'.power with removable := some stage.val } }
    else s.faultRefuse)

/-- PSTAGE_ONLINE (R433). -/
def execPstageOnline (stage : Fin 40) (s : State) : Result := .next (s.stageSet stage.val true).feedCheckAll

/-- PSTAGE_INSERT (R433): an inserted stage soft-starts and shares load. -/
def execPstageInsert (stage : Fin 40) (s : State) : Result := .next (s.stageSet stage.val true).feedCheckAll

/-- PSTAGE_FAIL (R433): a stage fails, or is removed without the command, and R383 applies. -/
def execPstageFail (stage : Fin 40) (volts amps : BitVec 16) (s : State) : Result :=
  .next (((s.stageSet stage.val false).postFeed ukStage stage.val volts.toNat amps.toNat).feedCheck (stage.val / 5) volts.toNat amps.toNat)

/-- STAGE_TEMP_SAMPLE (R395): the stages above their rated temperature are switched off, and the cages whose optical module is
above its high alarm have their ports disabled. -/
def execStageTempSample (stages : BitVec 40) (cages : BitVec 48) (s : State) : Result :=
  .next (
    let hot := (List.range 40).filter (fun st => bit stages st && bit s.power.working st)
    let s := hot.foldl (fun (s : State) st => ((s.stageSet st false).postUnsampled ukStage st).feedCheckAll) s
    (List.range 48).foldl (fun (s : State) c =>
      if bit cages c then (s.portEnable (2 * c) false).portEnable (2 * c + 1) false else s) s)

/-! ## Coolant (R395, R468, R469) -/

/-- The coolant is outside the limits of R469. -/
def coolantBad (flow inlet outlet : BitVec 8) : Bool :=
  decide (flow.toNat < 130) || decide (45 < inlet.toNat) || decide (60 < outlet.toNat)

/-- The coolant lies within the recommended range, with the outlet at or below 55 °C. -/
def coolantGood (flow inlet outlet : BitVec 8) : Bool :=
  decide (150 ≤ flow.toNat) && decide (flow.toNat ≤ 220) && decide (18 ≤ inlet.toNat) && decide (inlet.toNat ≤ 40)
    && decide (outlet.toNat ≤ 55)

/-- COOLANT_SAMPLE (R394, R469): the cap of 30 kW comes into force, and ends after three good samples in succession. -/
def execCoolantSample (flow inlet outlet : BitVec 8) (s : State) : Result :=
  .next (
    let p := s.power
    let p := { p with coolant := #v[flow, inlet, outlet] }
    let p := if coolantBad flow inlet outlet then { p with coolantLimit := true, coolantGood := 0 }
      else if p.coolantLimit && coolantGood flow inlet outlet then
        (if 3 ≤ p.coolantGood + 1 then { p with coolantLimit := false, coolantGood := 0 } else { p with coolantGood := p.coolantGood + 1 })
      else { p with coolantGood := 0 }
    { s with power := p })

/-- COOLANT_SHUTDOWN (R395): the coolant condition has persisted for 5 s. -/
def execCoolantShutdown (s : State) : Result := .next (if s.power.coolantLimit then s.allOff else s)

/-! ## Loss of input (R382, R384) -/

/-- Every bay off after its hold-up. -/
def State.baysOff (s : State) : State := (List.range 16).foldl (fun (s : State) b => s.bayCut b) s

/-- An event that goes to the RMC's flash alone (R404, R418). -/
def State.flashOnly (s : State) (code sev path kind index : Nat) (detail : List Nat) : State :=
  let (t, s) := s.rmcNow
  let ev : Event := {
    code := BitVec.ofNat 16 code, severity := BitVec.ofNat 8 sev, path := BitVec.ofNat 8 path,
    kind := BitVec.ofNat 4 kind, index := BitVec.ofNat 28 index, seq := s.fault.seq, time := t, detail := detail }
  { s with fault := { s.fault with log := ev :: s.fault.log, seq := s.fault.seq + 1 } }

/-- The always-on domain goes: what the RMC had in hand ends, a module reset and a commanded wafer fence among it, and its firmware runs no
more until a power-on reset (R384, R403, R409). -/
def State.inputGone (s : State) (cause : BitVec 4) : State :=
  { s with power := { s.power with offCause := cause }, rmc := { s.rmc with runs := false }
           resets := { s.resets with waiting := false, busy := false, arrays := [] }
           sec := { s.sec with erasing := false }, fault := { s.fault with fencing := none } }

/-- INPUT_LOST (R384): every feed, in units of 0.01 V, is below 47 V. -/
def execInputLost (volts : Vector (BitVec 16) 8) (s : State) : Result :=
  .next (if volts.toList.all (fun v => decide (v.toNat < 4700)) then
      ((s.allOff.flashOnly 0x1b 3 1 ukRmc 0 (volts.toList.map (fun v => v.toNat))).baysOff).inputGone 1
    else s)

/-- OVERVOLTAGE_SHUTDOWN (R382): only the power-on reset at its end starts the module again (R403; DEDUCED 170). -/
def execOvervoltageShutdown (s : State) : Result := .next (s.allOff.baysOff.inputGone 2)

/-! ## Park (R397–R399) -/

/-- The 40 sites of power block j of wafer w, as 240 w + j (R386). -/
def blockSites (b : Nat) : List Nat :=
  let w := b / 240
  let j := b % 240
  (List.range 4).flatMap (fun i => (List.range 10).map (fun c => siteKey w (4 * (j / 10) + i) (10 * (j % 10) + c)))

/-- The power block of a site. -/
def blockOf (k : Nat) : Nat := 240 * siteW k + 10 * (siteY k / 4) + siteX k / 10

/-- A site takes part in its block's park: it is neither fenced nor off. -/
def Site.parks (a : Site) : Bool := !a.fenced && a.isl.state != 0

/-- The sites of a block that take part. -/
def State.parkSites (s : State) (b : Nat) : List Nat := (blockSites b).filter (fun k => (s.site k).parks)

/-- The pans that hold a logical array of a block. -/
def State.blockPans (s : State) (b : Nat) : List Nat := ((blockSites b).filterMap (fun k => s.panOf k)).eraseDups

/-- A block is parked, or its park runs or waits. -/
def Power.parkBusy (p : Power) (b : Nat) : Bool :=
  p.parked.any (fun e => e.1 == b) || (p.park.map (fun (x : ParkOp) => x.block == b)).getD false || p.parkQueue.contains b

/-- The RUNNING pans of a list stopped at their next tempo boundary. -/
def State.stopPans (s : State) (ns : List Nat) : State :=
  ns.foldl (fun (s : State) n => if (s.pan n).st = .running then s.panStop n else s) s

/-- Steps 1 and 2 of a park begun: the sites are PARKING and their pans stop. -/
def State.parkBegin (s : State) (b : Nat) : State :=
  let s := s.updSites (s.parkSites b) (fun _ a => { a with isl := { a.isl with state := 2 } })
  let s := { s with power := { s.power with park := some { block := b, step := 1 } } }
  s.stopPans (s.blockPans b)

/-- The next block that the thermal controller waits to park. -/
def State.parkNext (s : State) : State :=
  if s.power.park.isSome then s
  else match s.power.parkQueue with
    | [] => s
    | b :: bs => { s with power := { s.power with parkQueue := bs } }.parkBegin b

/-- A park that the thermal controller asks for: at its turn. -/
def State.parkThermal (s : State) (b : Nat) : State :=
  if s.power.parkBusy b then s
  else { s with power := { s.power with parkQueue := s.power.parkQueue ++ [b] } }.parkNext

/-- A refused PARK or UNPARK. -/
def State.parkRefuse (s : State) : State := { s with power := { s.power with refused := true } }

/-- MODULE.PARK_STAT.BUSY. -/
def Power.busy (p : Power) : Bool := p.park.isSome

/-- LAST_WAFER and LAST_BLOCK take a command's block. -/
def State.parkLast (s : State) (w : Fin 4) (j : BitVec 8) : State :=
  { s with power := { s.power with lastWafer := BitVec.ofNat 2 w.val, lastBlock := j } }

/-- PARK (R397, R399): a write of MODULE.PARK_CMD. A block that does not exist, that is parked or that parks is refused; for any other
block the write is ignored while BUSY (DEDUCED 166). -/
def execPark (wafer : Fin 4) (block : BitVec 8) (s : State) : Result :=
  let b := 240 * wafer.val + block.toNat
  .next (if 240 ≤ block.toNat then (if s.power.busy then s else (s.parkLast wafer block).parkRefuse)
    else if s.power.parkBusy b then (s.parkLast wafer block).parkRefuse
    else if s.power.busy then s
    else (s.parkLast wafer block).parkBegin b)

/-- A pan that holds step 2 of a park: it runs or stops, loads, or is in a promotion (R399, R426). -/
def State.holdsPark (s : State) (n : Nat) : Bool :=
  ((s.pan n).st != .stopped && (s.pan n).st != .unconfigured) || s.fault.promos.any (fun p => p.pan == n && p.released)

/-- Entries still queued in an array that a forced stop halted, 1 ms later (R397, R49). -/
def Site.dropForced (a : Site) : Site := if a.tempo.forced then { a with queues := a.queues.map faultStopQueue } else a

/-- PARK_BLOCK_IDLE (R397, steps 2 to 4): the pans have stopped and the block's engines are idle, so the park plan is set.
overdue: 1 ms has passed since a forced stop, so queued entries are discarded. -/
def execParkBlockIdle (overdue : Bool) (s : State) : Result :=
  .next (match s.power.park with
    | none => s
    | some x =>
      if x.step ≠ 1 then s
      else
        let ns := s.blockPans x.block
        let s := s.stopPans ns
        if ns.any (fun n => s.holdsPark n) then s
        else
          let s := if overdue then s.updSites (s.parkSites x.block) (fun _ a => a.dropForced) else s
          if (s.parkSites x.block).all (fun k => (s.site k).enginesIdle) then
            let s := s.applyPatches (Tbl.get (fun _ => []) s.power.parkPlans x.block) true
            { s with power := { s.power with park := some { x with step := 4 } } }
          else s)

/-- Packets in the input buffers of a router, and those that wait to enter them. -/
def Router.packets (r : Router) : Nat := (r.inbuf.map (fun e => e.2.length)).sum + (r.waits.map (fun e => e.2.length)).sum

/-- Packets that a site holds: those of its router, and those delivered at its local port that nothing has served yet. -/
def Site.packets (a : Site) : Nat := a.rt.packets + a.arrived.length

/-- Packets that the sites of a block hold. -/
def State.blockPackets (s : State) (b : Nat) : Nat := ((s.parkSites b).map (fun k => (s.site k).packets)).sum

/-- Step 6: liveness checks off on both sides, and the neighbours' ports toward a site blocked. -/
def State.parkLinks (s : State) (k : Nat) : State :=
  let s := s.updSite k (fun a => { a with rt := { a.rt with liveOn := 0 } })
  s.updNeighbours k (fun p a => { a with rt := { a.rt with liveOn := putBit a.rt.liveOn (portIdx p) false, closed := putBit a.rt.closed (portIdx p) true } })

/-- The trace of a site that is gated: its control registers stay, so that the FREQ record of the count's restart can come (R457, R459);
records not yet written are lost and counted (DESIGN CHOICE 168). -/
def Trc.gated (t : Trc) : Trc := { t with fifo := [], dropped := satAdd t.dropped t.fifo.length }

/-- Step 8 for one site: its scratchpad is retained when an enabled window is resident, else gated; other logic is gated. -/
def Site.park (a : Site) (k : Nat) : Site :=
  let keep := a.spad.win.toList.any (fun w => w.enable && w.resident)
  let b := a.powerOff k a.rt.state (if keep then 3 else 4)
  { b with parked := true, spad := if keep then { a.spad with retained := true } else b.spad, trc := a.trc.gated }

/-- Steps 6 to 8: the block is parked, and the next one that waits begins. -/
def State.parkEnd (s : State) (b : Nat) : State :=
  let ks := s.parkSites b
  let s := (ks.foldl (fun (s : State) k => ((s.parkLinks k).isolate k).updSite k (fun a => a.park k)) s).clockCheck
  let (now, s) := s.rmcNow
  let parked := Tbl.set s.power.parked b now
  let s := { s with power := { s.power with park := none, parked := parked } }
  s.parkNext

/-- PARK_ROUTERS_EMPTY (R397, steps 5 to 8). The pan reset that waited for the park goes on after it. -/
def State.parkEmpty (s : State) : State :=
  match s.power.park with
  | none => s
  | some x => if x.step = 4 ∧ s.blockPackets x.block = 0 then s.parkEnd x.block else s

/-- PARK_DRAIN_TIMEOUT (R397): packets still held are discarded, with DRAIN_FAULT, and the park goes on. -/
def State.parkTimeout (s : State) : State :=
  match s.power.park with
  | none => s
  | some x =>
    let n := s.blockPackets x.block
    if x.step = 4 ∧ n ≠ 0 then
      let s := { s with power := { s.power with drainFault := true } }
      let s := s.post 0x14 1 1 ukWafer (x.block / 240) [x.block / 240, x.block % 240, n]
      s.parkEnd x.block
    else s

/-! ## Unpark (R400) -/

/-- The CURRENT that the other arrays of pan n hold, for a site of it; its own where it is alone. -/
def State.othersCurrent (s : State) (n k : Nat) : W32 :=
  match (s.liveSites n).find? (fun j => j != k) with
  | some j => (s.site j).tempo.current
  | none => (s.site k).tempo.current

/-- A site that takes over a logical array receives the tempo of its pan's other arrays (R374). -/
def State.joinTempo (s : State) (k : Nat) : State :=
  match (s.panOf k).bind (fun n => (s.liveSites n).find? (fun j => j != k)) with
  | some j =>
    let t := (s.site j).tempo
    s.updSite k (fun a => { a with tempo := { a.tempo with current := t.current, arrived := t.arrived, forced := t.forced } })
  | none => s

/-- A site of pan n reconfigured from staging with the tempo that the pan's other arrays hold; without a pan, only cleared. -/
def State.rejoin (s : State) (k : Nat) : State :=
  match s.panOf k with
  | some n =>
    let cur := s.othersCurrent n k
    (s.updSite k (fun a => { a with tempo := { a.tempo with current := cur } })).reconfigActive k n .keepNoArrived
  | none => (s.updSite k Site.bare).putIslands k none

/-- A link between two sites that both forward is open, with its liveness checks on. -/
def State.openLinks (s : State) (k : Nat) : State :=
  meshPorts.foldl (fun (s : State) p => match neighbour k p with
    | none => s
    | some j =>
      if (s.site j).parked then s
      else
        let on := (s.site j).forwards
        let s := s.updSite k (fun a => { a with rt := { a.rt with closed := putBit a.rt.closed (portIdx p) false, liveOn := putBit a.rt.liveOn (portIdx p) on } })
        s.updSite j (fun a => { a with rt := { a.rt with closed := putBit a.rt.closed (portIdx (portOpp p)) false
                                                         liveOn := putBit a.rt.liveOn (portIdx (portOpp p)) on } })) s

/-- The sites around a block that are powered. -/
def State.around (s : State) (b : Nat) : List Nat :=
  (((blockSites b).flatMap (fun k => meshPorts.filterMap (fun p => neighbour k p))).filter (fun j => blockOf j != b && (s.site j).forwards)).eraseDups

/-- A site of an unparked block: powered, coupled, reconfigured. -/
def State.unparkSite (s : State) (k : Nat) : State :=
  let s := s.updSite k (fun a => { a with parked := false, spad := { a.spad with retained := false } })
  ((s.placeActive k).siteOn k).rejoin k

/-- UNPARK's steps. -/
def State.unpark (s : State) (b : Nat) : State :=
  let ks := (blockSites b).filter (fun k => (s.site k).parked)
  let s := (ks.foldl (fun (s : State) k => s.unparkSite k) s).lockClocks ks
  let s := ks.foldl (fun (s : State) k => s.openLinks k) s
  let s := s.applyPatches (Tbl.get (fun _ => []) s.power.parkPlans b) false
  { s with power := { s.power with parked := s.power.parked.filter (fun e => e.1 != b) } }

/-- UNPARK (R400): ignored while BUSY; refused unless the block has been parked for 1 s and every powered neighbour reads
85 °C or less. -/
def execUnpark (wafer : Fin 4) (block : BitVec 8) (s : State) : Result :=
  .next (if s.power.busy then s
    else
      let b := 240 * wafer.val + block.toNat
      let s := s.parkLast wafer block
      let (now, s) := s.rmcNow
      match s.power.parked.find? (fun e => e.1 == b) with
      | none => s.parkRefuse
      | some e =>
        if block.toNat < 240 ∧ 1000000 ≤ (now - e.2).toNat ∧ bit s.fault.waferFenced wafer.val = false
            ∧ (s.around b).all (fun j => decide ((s.site j).isl.celsius.toNat ≤ 85)) = true then s.unpark b
        else s.parkRefuse)

/-! ## Pan reset (R405) -/

/-- Trace records of a site written out before it is reset, the last line with one record where their number is odd (R460). -/
def State.flushTrace (s : State) (k : Nat) : State := (s.site k).trc.fifo.foldl (fun (s : State) _ => s.traceLines k 1) s

/-- A pan reset carried out (R405). -/
def State.panResetNow (s : State) (n : Nat) : State :=
  let s := s.panForceStop n
  let ks := (s.panSites n).filter (fun k => !(s.site k).parked && !(s.site k).fenced)
  let s := ks.foldl (fun (s : State) k => (s.flushTrace k).reconfigActive k n .keepNoArrived) s
  s.updPan n (fun p => { p with st := .stopped, target := none })

/-- A park of one of a pan's blocks is between its steps 1 and 8. -/
def State.parksPan (s : State) (n : Nat) : Bool :=
  match s.power.park with
  | some x => (s.blockPans x.block).contains n
  | none => false

/-- A pan that a reset is refused for. -/
def State.panUnresettable (s : State) (n : Nat) : Bool := (s.pan n).st == .unconfigured || (s.pan n).st == .loading

/-- A reset refused. -/
def State.resetRefuse (s : State) : State := { s with resets := { s.resets with refused := true } }

/-- A pan reset that waited for a park goes on; it is refused if the pan is UNCONFIGURED or LOADING by then. -/
def State.panResetGoOn (s : State) : State :=
  let n := s.resets.target.toNat
  if s.resets.busy ∧ s.resets.ty = 2 ∧ s.parksPan n = false then
    let s := { s with resets := { s.resets with busy := false } }
    if s.panUnresettable n then s.resetRefuse else s.panResetNow n
  else s

/-! ## Wafer fencing (R428, R429) -/

/-- The sites of a wafer. -/
def waferSites (w : Nat) : List Nat := (List.range 96).flatMap (fun y => (List.range 100).map (fun x => siteKey w y x))

/-- The seam bridges on a wafer's inner edges (R144). -/
def waferSeams (w : Nat) : List Nat := [w / 2, 2 + w % 2]

/-- The pans with an array on a wafer. -/
def State.waferPans (s : State) (w : Nat) : List Nat :=
  (s.pans.filter (fun (e : Nat × Pan) => e.2.st != .unconfigured && (s.panSites e.1).any (fun k => siteW k == w))).map (fun e => e.1)

/-- Every domain of a wafer switched off (R428, step 3). A park of one of its blocks ends with it. -/
def State.waferOff (s : State) (w : Nat) : State :=
  let s := (waferSites w).foldl (fun (s : State) k => if (s.site k).fenced then s else s.siteOff k) s
  let s := (List.range 48).foldl (fun (s : State) i => s.stackCut (48 * w + i)) s
  let s := ((s.pcOff (2 * w)).pcOff (2 * w + 1)).hostOff w
  let s := (List.range 4).foldl (fun (s : State) i => s.bayCut (4 * w + i)) s
  let s := ((waferSeams w).foldl (fun (s : State) m => s.bridgeOff m) s).clockCheck
  let mine (x : ParkOp) : Bool := x.block / 240 == w
  let park := s.power.park.filter (fun x => !mine x)
  let queue := s.power.parkQueue.filter (fun b => b / 240 != w)
  { s with power := { s.power with park := park, parkQueue := queue } }.parkNext.panResetGoOn

/-- A unit is retired (R421). -/
def State.retire (s : State) (no : Nat) : State :=
  { s with fault := { s.fault with retired := if s.fault.retired.contains no then s.fault.retired else no :: s.fault.retired } }

/-- Steps 3 to 5 of a wafer fence. The wafer is retired, so that it stays fenced across every reset (R429). CAUSE in DETAIL is 0
for a command and 1 for a trip: the spec gives it no coding. -/
def State.waferFence (s : State) (w cause : Nat) : State :=
  let s := s.waferOff w
  let s := s.applyPatches (Tbl.get (fun _ => []) s.fault.waferPlans w) true
  let s := s.retire (unitNo ukWafer w)
  let s := { s with fault := { s.fault with waferFenced := putBit s.fault.waferFenced w true, fencing := none } }
  s.post 0x18 3 1 ukWafer w [w, cause]

/-- A second wafer would be fenced: the whole module is switched off (R429). -/
def State.secondWafer (s : State) : State :=
  let s := s.allOff
  { s with power := { s.power with lockout := true }, fault := { s.fault with fencing := none } }

/-- A wafer trip (R395): a load in progress does not hold it, and the pans that crossed onto the wafer are stopped. -/
def State.waferTrip (s : State) (w k t : Nat) : State :=
  let s := { s with power := { s.power with trip := true } }
  let s := s.post 0x11 3 1 ukWafer w [w, k, t]
  if s.fault.waferFenced ≠ 0 ∨ (s.fault.fencing.map (fun (x : Nat × Bool) => x.1 != w)) = some true then s.secondWafer
  else
    let ns := s.waferPans w
    let s := if ns.any (fun n => (s.pan n).st == .loading) then s.abortLoad else s
    let s := ns.foldl (fun (s : State) n => s.panForceStop n) s
    s.waferFence w 1

/-! ## Site temperatures (R394, R395) -/

/-- A junction sample taken into ISL.TEMP. -/
def Isl.sample (i : Isl) (t : BitVec 8) : Isl :=
  { i with celsius := t, maxC := if i.maxC.toNat < t.toNat then t else i.maxC
           hot := if 100 < t.toNat then i.hot + 1 else 0, throttle := i.throttle || decide (95 < t.toNat) }

/-- SITE_TEMP_SAMPLE (R395): every 100 µs. Above 100 °C for 10 ms, or at 105 °C, the block is parked; at 115 °C the wafer
trips. -/
def execSiteTempSample (site : SiteId) (celsius : BitVec 8) (s : State) : Result :=
  let k := site.key
  let t := celsius.toNat
  .next (
    let s := s.updSite k (fun a => { a with isl := a.isl.sample celsius })
    let i := (s.site k).isl
    if 115 ≤ t ∧ bit s.fault.waferFenced (siteW k) = false then s.waferTrip (siteW k) k t
    else if (105 ≤ t ∨ 100 ≤ i.hot) ∧ (s.site k).parks = true ∧ s.power.parkBusy (blockOf k) = false then
      (s.post 0x10 2 1 ukSite k [blockOf k / 240, blockOf k % 240, t]).parkThermal (blockOf k)
    else s)

end Sys2Proof.Machine
end

