-- ==== Sys2Proof/Machine/Reset.lean ====
section
/-! DEFINITION. Machine/Reset.lean: power-on, module, pan, array, bay and fabric port resets, and what goes on when pans have
stopped and bays have unmounted (R388, R403–R415, R428). -/

namespace Sys2Proof.Machine

/-! ## Units as power-up leaves them (R388, R410) -/

/-- A bay switched on at power-up: its controller's registers are as at reset; a cartridge with metadata mounts (R337) unless the bay was
switched off for heat (R329), and one whose sanitize was interrupted resumes it (R336). -/
def Bay.boot (b : Bay) (retired : Bool) : Bay :=
  let n : Bay := { cart := b.hold.cart, heatOff := b.heatOff, dark := b.cart.isNone || b.heatOff
                   st := if b.cart.isSome then bayOff else bayEmpty }
  match n.cart with
  | none => n
  | some c =>
    if c.sanitizing then { n with st := baySanitizing, erasing := true, dark := false }
    else if c.metadata && !retired && !n.heatOff then n.beginMount else n

/-- A unit fenced without a record, as at power-up (R421). -/
def State.refence (s : State) (no : Nat) : State :=
  let kind := no / 268435456
  let i := no % 268435456
  match kind with
  | 0 => (s.updSite i (fun a => { (a.powerOff i 3 5) with fenced := true })).isolate i
  | 1 => s.updStack i (fun a => { a.cut with fenced := true })
  | 2 => s.pcOff i |>.updPc i (fun c => { c with fenced := true })
  | 3 => s.updHp i (fun h => { ({} : HostPort) with off := h.off, fenced := true })
  | 4 => s.updBay i (fun b => { b.cut with fenced := true })
  | 10 =>
    let s := s.waferOff i
    { s with fault := { s.fault with waferFenced := putBit s.fault.waferFenced i true } }
  | _ => s

/-! ## Firmware copies at start (R430, R439, R441) -/

/-- Firmware copy that a controller runs, as FW_STAT's ACTIVE. -/
def State.fwUnit (s : State) (n : Nat) : FwUnit := Tbl.get (fun _ => {}) s.fault.fw n

/-- Kind and index of a unit with firmware, by its FW_STAT index. -/
def fwKind (n : Nat) : Nat × Nat :=
  if n = 0 then (ukRmc, 0) else if n < 9 then (ukPc, n - 1) else if n < 25 then (ukBay, n - 9) else (ukStack, n - 25)

/-- UNIT_CLASS of a unit (R439). -/
def fwClass (n : Nat) : Nat := if n = 0 then 0 else if n < 9 then 1 else if n < 25 then 2 else 3

def State.updFw (s : State) (n : Nat) (f : FwUnit → FwUnit) : State :=
  { s with fault := { s.fault with fw := Tbl.set s.fault.fw n (f (s.fwUnit n)) } }

/-- FIRMWARE posted: the unit, its active copy, and a status. -/
def State.postFw (s : State) (n status : Nat) : State :=
  s.post 0x19 (if status = 0 then 0 else 1) 1 (fwKind n).1 (fwKind n).2 [n, b2n (s.fwUnit n).activeB, status]

/-- The active and the inactive copy. -/
def FwUnit.active (u : FwUnit) : FwCopy := if u.activeB then u.b else u.a
def FwUnit.inactive (u : FwUnit) : FwCopy := if u.activeB then u.a else u.b

/-- A copy verifies: it is usable, it meets its class's minimum SVN, and its key's slot is not revoked (R439). -/
def Sec.fwAllowed (c : Sec) (n : Nat) (x : FwCopy) : Bool :=
  x.usable && decide ((vget 0 c.svn (fwClass n)).toNat ≤ x.svn.toNat) && !bit c.fwRevoked x.slot.toNat

/-- The copy that a unit's boot picks, true for B (R441): the active one, then the other if that fails; none when neither verifies. -/
def Sec.bootCopy (c : Sec) (n : Nat) (u : FwUnit) : Option Bool :=
  if c.fwAllowed n u.active then some u.activeB else if c.fwAllowed n u.inactive then some !u.activeB else none

/-- A unit that boots from a copy. -/
def FwUnit.boot (u : FwUnit) (b : Bool) : FwUnit := if b = u.activeB then u else { u with activeB := b, inactiveOk := false }

/-- A controller's copies verified before its domain leaves reset (R441). When neither verifies the domain stays off, and FIRMWARE is posted
with status 2. -/
def State.bootUnit (s : State) (n : Nat) : State :=
  match s.sec.bootCopy n (s.fwUnit n) with
  | some b => s.updFw n (fun u => u.boot b)
  | none =>
    let i := (fwKind n).2
    (match fwClass n with
      | 1 => s.pcOff i
      | 2 => s.bayCut i
      | _ => s.stackCut i).postFw n 2

/-- Every controller's copies verified. -/
def State.bootUnits (s : State) : State := (List.range 216).foldl (fun s n => s.bootUnit (n + 1)) s

/-- The domains powered again by R388, from step 2: everything a reset of every unit gives, with what is kept by R410. A unit
that is retired is fenced again before step 8; other fences end (R421; DEDUCED 47). Every scratchpad is being cleared and every stack is being
initialised (steps 5 and 7). The noise generators are seeded anew (R130). The optical modules stay in their cages (R432). A
controller whose firmware does not verify stays off (R441). In RETIRED no domain is powered (R444). A DEBUG_UNLOCK ends (R446), and telemetry totals are zero (R455). -/
def State.powerUp (s : State) : State :=
  let bays := s.bays.map (fun (e : Nat × Bay) => (e.1, e.2.boot (s.sec.lc == 4)))
  let fault := { s.fault with promos := [], sitePlans := [], waferPlans := [], dead := [], waferFenced := 0, fencing := none, fencedUnits := [] }
  let power := { s.power with ready := false, dark := false, park := none, parkQueue := [], parked := [], parkPlans := [] }
  let resets := { s.resets with busy := false, waiting := false, arrays := [] }
  let rmc := { s.rmc with beats := [], scan := none, retest := [], totals := [] }
  let hbms := (List.range 192).map (fun st => (st, ({ ({} : Stack).cut with initing := true } : Stack)))
  let ports := s.ports.map (fun (e : Nat × Port) => (e.1, ({ optics := e.2.optics } : Port)))
  let t : State := {
    pending := s.pending, freeNext := s.freeNext, bays := bays, shelf := s.shelf, fault := fault, power := power, resets := resets
    rmc := rmc, sec := { s.sec with debugOpen := 0 }, trcSync := s.trcSync, out := s.out, hbms := hbms, ports := ports }
  let t := allSites.foldl (fun (t : State) k => (t.noiseReseed k).updSite k (fun a => { a with spad := a.spad.clear })) t
  let t := s.fault.retired.foldl (fun (t : State) no => t.refence no) t.bootUnits
  if s.sec.lc = 4 then (List.range 16).foldl (fun (t : State) b => t.bayCut b) t.allOff else t

/-- A power-on or module reset recorded in MODULE.RESET_CAUSE (R415). -/
def State.recordReset (s : State) (cause : BitVec 4) : State :=
  { s with resets := { s.resets with cause := cause, count := satAdd s.resets.count 1 } }

/-! ## The erase of R449 -/

/-- The TAP reaches scan chains in this state (R463). -/
def Sec.scanOpen (c : Sec) : Bool := c.lc == 0 || c.lc == 1 || (c.lc == 3 && bit c.debugOpen 0)

/-- A fenced unit's domain is powered: while the TAP holds it for scan, and while it is tested again (R420, R464). -/
def Rmc.tests (r : Rmc) (no : Nat) : Bool := r.scan == some no || r.retest.contains no

/-- The island of a fenced site runs from its free-running oscillator while the site is powered for a test (R464). -/
def State.testPower (s : State) (no : Nat) : State :=
  if no < 65536 then
    s.updSite no (fun a => { a with isl := { a.isl with
      freqNow := if s.rmc.tests no then BitVec.ofNat 12 (a.isl.effective s.power.kNum s.power.kDen) else 0 } })
  else s

/-- The unit whose scan chain the TAP holds changes; the domains follow (R464). -/
def State.scanTo (s : State) (unit : Option Nat) : State :=
  let t := { s with rmc := { s.rmc with scan := unit } }
  (s.rmc.scan.toList ++ unit.toList).foldl (fun (t : State) no => t.testPower no) t

/-- In a state that does not permit scan the TAP is held in reset (R464). -/
def State.closeTap (s : State) : State := if s.sec.scanOpen then s else s.scanTo none

/-- The owner's secret, key and certificates destroyed, with the transient secret, for which number n is drawn, so that no store key of
before can be derived; the fuses of the new state blown. The request of the erase has ended: SEC_BUF is cleared (R449, R452). -/
def Sec.erased (c : Sec) (n : Nat) : Sec :=
  { c with
    ownerSecret := none, transientSecret := n, ownerKey := none, slot1 := [], lc := c.eraseTo, erasePending := false, erasing := false
    busy := false, buf := []
    refurbished := if c.eraseTo = 0 then c.refurbished + 1 else c.refurbished }

/-- Steps 2 to 5 of the erase, its bays having unmounted: cartridges crypto-erased, the owner's secret, key and certificates
destroyed, stacks off, the fuses of the new state blown. -/
def State.eraseSteps (s : State) : State :=
  let s := (List.range 16).foldl (fun (s : State) b => if (s.bay b).cart.isSome then s.cryptoErase b else s) s
  let s := (List.range 192).foldl (fun (s : State) st => s.stackCut st) s
  let n := s.freeNext + 1
  let (_, s) := s.draw
  { s with sec := s.sec.erased n }.closeTap

/-- A module reset's record (R404, step 1): its cause, and the event in flash. The spec names no code for it: kind 12, code 0. -/
def State.resetRecord (s : State) (cause : BitVec 4) : State := (s.recordReset cause).flashOnly 0 3 1 ukRmc 0 [cause.toNat]

/-- An erase that a module reset cut short is resumed before other domains are powered, and ends in its own module reset (R449, R450). -/
def State.eraseResume (s : State) : State := if s.sec.erasePending then s.eraseSteps.resetRecord 4 else s

/-! ## Power-on (R388, R403, R410) -/

/-- Registers of the always-on domain at a power-on reset: the life-cycle state, the keys, the flash log, fence records and
retirements, firmware copies and RESET_CAUSE are kept, and INACTIVE_OK is 0; a new transient secret is drawn (R410, R417, R421, R435,
R438). -/
def State.alwaysOnReset (s : State) : State :=
  let n := s.freeNext + 1
  let (_, s) := s.draw
  let fault : FaultRegs := {
    fenceTimes := s.fault.fenceTimes, retired := s.fault.retired, log := s.fault.log, seq := s.fault.seq, time := s.fault.time
    fw := s.fault.fw.map (fun (e : Nat × FwUnit) => (e.1, { e.2 with st := 0, inactiveOk := false })) }
  let sec : Sec := {
    lc := s.sec.lc, erasePending := s.sec.erasePending, eraseTo := s.sec.eraseTo, refurbished := s.sec.refurbished, ownerKey := s.sec.ownerKey
    ownerSecret := s.sec.ownerSecret, transientSecret := n, slot1 := s.sec.slot1, svn := s.sec.svn
    fwRevoked := s.sec.fwRevoked, svcRevoked := s.sec.svcRevoked }
  let rmc : Rmc := { uncollected := s.rmc.uncollected }
  { s with fault := fault, sec := sec, rmc := rmc, trcSync := {}, power := {}, resets := { cause := s.resets.cause, count := s.resets.count } }

/-- The boot of the RMC (R441): its active copy verifies, or else the other one, and the firmware runs. With neither, or where the ROM's
check of their signatures fails, the boot ROM answers alone. -/
def State.bootRmc (s : State) (verified : Bool) : State :=
  match s.sec.bootCopy 0 (s.fwUnit 0), verified with
  | some b, true => { (s.updFw 0 (fun u => u.boot b)) with rmc := { s.rmc with runs := true, recovery := false } }
  | _, _ => { s with rmc := { s.rmc with runs := false, recovery := true } }

/-- Every bay powered, and no other domain: an erase that was cut short goes on from its step 2 (R450). -/
def State.eraseAgain (s : State) : State :=
  let s := s.allOff
  { s with bays := s.bays.map (fun (e : Nat × Bay) => (e.1, e.2.boot true)), sec := { s.sec with erasing := s.sec.erasePending } }

/-- The feeds in range and the stages that deliver power, as a start finds them. -/
def State.startPower (s : State) (feeds : BitVec 8) (stages : BitVec 40) : State :=
  { s with power := { s.power with feedOut := ~~~feeds, working := stages } }

/-- POWER_ON_RESET (R388): input enters its range; a start needs seven feeds. verified: the signature of the copy that the ROM picks checks
(R441). Without RMC firmware nothing beyond the RMC is powered; with an erase pending, the bays alone (R450). -/
def execPowerOnReset (feeds : BitVec 8) (stages : BitVec 40) (verified : Bool) (s : State) : Result :=
  .next (if popcount feeds < 7 then s
    else
      let s := ((s.alwaysOnReset.recordReset s.power.offCause).bootRmc verified).startPower feeds stages
      if s.rmc.runs = false then s.allOff.baysOff
      else if s.sec.erasePending then s.eraseAgain
      else s.powerUp.feedCheckAll)

/-- Every site and every stack that is on has initialised. -/
def State.initialised (s : State) : Bool :=
  s.sites.all (fun e => !e.2.spad.clearing) && s.hbms.all (fun e => !e.2.initing)

/-- POWER_UP_READY (R388, step 8). -/
def execPowerUpReady (s : State) : Result :=
  .next (if s.initialised && !s.power.dark then { s with power := { s.power with ready := true } } else s)

/-! ## Module reset (R404) -/

/-- A bay unmounts. -/
def State.unmounting (s : State) (b : Nat) : Bool := (s.bay b).cmd == scUnmount

/-- A bay told to unmount (R338). -/
def Bay.unmountNow (b : Bay) : Bay := if b.st = bayOnline ∨ b.st = bayReadOnly then b.beginUnmount else b

/-- Steps 3 and 4 of a module reset: the domains are switched off and powered up again. Staging, IMAGE_ACTIVE and the pans
return to their power-on values, with the module's address and tables. -/
def State.moduleNow (s : State) : State := s.allOff.eraseResume.powerUp

/-- A bay that a module reset meets (R404, step 2): a SANITIZING one stops at once, and its cartridge keeps SANITIZE_ACTIVE. -/
def Bay.resetStop (b : Bay) : Bay := if b.st = baySanitizing then { b with erasing := false } else b.unmountNow

/-- A module reset begun: its record, and the bays unmounting. A reset of a lower type that runs is aborted (R409). -/
def State.moduleBegin (s : State) (cause : BitVec 4) : State :=
  let s := s.resetRecord cause
  let s := { s with bays := s.bays.map (fun (e : Nat × Bay) => (e.1, e.2.resetStop)) }
  { s with resets := { s.resets with waiting := true, arrays := [], busy := s.resets.busy && s.resets.ty == 1 } }

/-! ## What waits for pans and bays (R404, R428) -/

/-- A module reset goes on when no bay unmounts. -/
def State.moduleGoOn (s : State) : State :=
  if s.resets.waiting && s.bays.all (fun e => e.2.cmd != scUnmount) then s.moduleNow else s

/-- A commanded wafer fence goes on: the bays unmount when the pans have stopped; the wafer is fenced when they have unmounted. -/
def State.fenceGoOn (s : State) : State :=
  match s.fault.fencing with
  | none => s
  | some (w, told) =>
    let bays := (List.range 4).map (fun i => 4 * w + i)
    if !told then
      if (s.waferPans w).any (fun n => s.holdsPark n) then s
      else
        let s := bays.foldl (fun (s : State) b => s.updBay b Bay.unmountNow) s
        let s := { s with fault := { s.fault with fencing := some (w, true) } }
        if bays.any (fun b => s.unmounting b) then s else s.waferFence w 0
    else if bays.any (fun b => s.unmounting b) then s else s.waferFence w 0

/-- An erase goes on when no bay unmounts, and ends in a module reset by the RMC (R449, step 6). -/
def State.eraseGoOn (s : State) : State :=
  if s.sec.erasing && s.bays.all (fun e => e.2.cmd != scUnmount) then s.eraseSteps.moduleBegin 4 else s

/-- Whatever waits for pans to stop or bays to unmount goes on if it may. -/
def State.goOn (s : State) : State := s.fenceGoOn.eraseGoOn.moduleGoOn

/-- The state of an answer that is always a next state. -/
def nextOf (s : State) : Result → State
  | .next t => t
  | _ => s

/-- PAN_STOPPED (R207, step 5; R208), and what waits for the pan. -/
def execPanStoppedGoOn (pan : Fin 1024) (s : State) : Result := .next (nextOf s (execPanStopped pan s)).goOn

/-- STORE_CMD_DONE (R336–R338), and what waits for the bay. -/
def execStoreCmdDoneGoOn (bay : Fin 16) (s : State) : Result := .next (nextOf s (execStoreCmdDone bay s)).goOn

/-- CARTRIDGE_REMOVE (R338), and what waits for the bay. -/
def execCartridgeRemoveGoOn (bay : Fin 16) (s : State) : Result := .next (nextOf s (execCartridgeRemove bay s)).goOn

/-! ## MODULE.RESET_CMD (R405–R409, R412, R415) -/

/-- A reset started through RESET_CMD. -/
def State.resetStart (s : State) (ty : BitVec 3) (target : BitVec 16) (busy : Bool) : State :=
  { s with resets := { s.resets with busy := busy, ty := ty, target := target } }

/-- A reset of types 2 to 5: every write is ignored while BUSY, and absorbed by a module reset that runs (R409); before READY it is refused
(DEDUCED 144). -/
def State.resetTake (s : State) (f : State → State) : State :=
  if s.resets.busy || s.resets.waiting then s else if s.power.ready then f s else s.resetRefuse

/-- MODULE_RESET (R404, R412, R415): RESET_CMD with TYPE 1 and the CONFIRM value, written by host software or by the RMC. Nothing takes it
before the RMC runs, and a module reset that runs absorbs it (R409). -/
def execModuleReset (confirm : BitVec 16) (byRmc : Bool) (s : State) : Result :=
  .next (if s.resets.busy ∨ s.rmc.runs = false then s
    else if confirm ≠ 0xa5c3 then s.resetRefuse
    else if s.resets.waiting then s
    else ((s.resetStart 1 0 true).moduleBegin (if byRmc then 4 else 3)).goOn)

/-- RST_REQ_ASSERT (R474): a module reset of TYPE 1 from the pin, ignored in RETIRED and where no RMC firmware runs. It takes precedence
over resets of lower types (R409), and BUSY stays with resets started through RESET_CMD. The spec gives its CAUSE no value of its own:
the RMC's. -/
def execRstReqAssert (s : State) : Result :=
  .next (if s.sec.lc = 4 ∨ s.resets.waiting = true ∨ s.rmc.runs = false then s else ((s.resetStart 1 0 false).moduleBegin 4).goOn)

/-- PAN_RESET (R405). -/
def execPanReset (pan : Fin 1024) (s : State) : Result :=
  let n := pan.val
  .next (s.resetTake (fun s =>
    if s.panUnresettable n then s.resetRefuse
    else if s.parksPan n then s.resetStart 2 (BitVec.ofNat 16 n) true
    else (s.resetStart 2 (BitVec.ofNat 16 n) false).panResetNow n))

/-- PARK_ROUTERS_EMPTY (R397, R405). -/
def execParkRoutersEmpty (s : State) : Result := .next s.parkEmpty.panResetGoOn

/-- PARK_DRAIN_TIMEOUT (R397, R405). -/
def execParkDrainTimeout (s : State) : Result := .next s.parkTimeout.panResetGoOn

/-- Step 2 of an array reset: every slot IDLE, every queue discarded; answers still to come are absorbed (R406). -/
def Site.quench (a : Site) : Site :=
  { a with slots := a.slots.map Slot.clean, queues := Vector.replicate 4 [], ws := a.ws.clean
           reqs := a.reqs.map Req.absorbed }

/-- The TARGET field of a site: x, y and w (R415). -/
def siteTarget (k : Nat) : BitVec 16 := BitVec.ofNat 16 (siteX k + siteY k * 2 ^ 7 + siteW k * 2 ^ 14)

/-- ARRAY_RESET (R406). -/
def execArrayReset (site : SiteId) (s : State) : Result :=
  let k := site.key
  .next (s.resetTake (fun s =>
    if (s.site k).parked ∨ (s.site k).fenced ∨ (s.site k).holdsArray = false then s.resetRefuse
    else
      let s := match s.panOf k with
        | some n => s.panForceStop n
        | none => s
      let s := ((s.flushTrace k).updSite k Site.quench).resetStart 3 (siteTarget k) true
      { s with resets := { s.resets with arrays := [k] } }))

/-- An array reset that has ended. -/
def State.arrayResetEnd (s : State) (k : Nat) : State :=
  { s with resets := { s.resets with arrays := s.resets.arrays.filter (fun j => j != k), busy := false } }

/-- ARRAY_RESET_QUIESCED (R406, step 4). -/
def execArrayResetQuiesced (site : SiteId) (s : State) : Result :=
  let k := site.key
  .next (if s.resets.arrays.contains k && (s.site k).reqs.isEmpty then (s.arrayResetEnd k).rejoin k else s)

/-- ARRAY_RESET_TIMEOUT (R406, step 3): ENGINE_HANG is charged to slot 0. -/
def execArrayResetTimeout (site : SiteId) (s : State) : Result :=
  let k := site.key
  .next (if s.resets.arrays.contains k && !(s.site k).reqs.isEmpty then (s.arrayResetEnd k).hwFault k 0 fcEngineHang 1 [fcEngineHang, 0] else s)

/-- A store controller restarted (R408, R410): STAT, COUNT and CMD_STAT are at their reset values, STORE.CTL, STORE.SCRUB and
the destination ranges are kept. -/
def Bay.restart (b : Bay) (retired : Bool) : Bay :=
  let x := b.boot retired
  let y := { x with automount := b.automount, dst := b.dst, checkH := b.checkH, refreshPct := b.refreshPct, refreshAgeH := b.refreshAgeH
                    wlSpread := b.wlSpread, fenced := b.fenced, off := b.off, nextOrder := b.nextOrder, ctrlInbox := b.ctrlInbox
                    arrived := b.arrived, args := b.args, celsius := b.celsius }
  if x.st = bayMounting ∧ b.automount = false then { y with st := bayOff, cmd := 0 } else y

/-- BAY_RESET (R408). -/
def execBayReset (bay : Fin 16) (s : State) : Result :=
  let n := bay.val
  .next (s.resetTake (fun s =>
    let s := s.resetStart 4 (BitVec.ofNat 16 n) false
    if (s.bay n).cart.isNone then s
    else ((s.abortLines n stTargetOff).updBay n (fun b => b.restart (s.sec.lc == 4))).goOn))

/-- FABRIC_PORT_RESET (R407). -/
def execFabricPortReset (port : Fin 96) (s : State) : Result :=
  .next (s.resetTake (fun s => (s.resetStart 5 (BitVec.ofNat 16 port.val) false).portRetrain port.val))

end Sys2Proof.Machine
end

