-- ==== Sys2Proof/Machine/Service.lean ====
section
/-! DEFINITION. Machine/Service.lean: heartbeats, the polling of power controllers, fencing and re-tests of units, promotion of
spare sites, and firmware and optics service (R416–R432). -/

namespace Sys2Proof

open Machine

/-- A unit's number in the fence records. -/
def UnitId.no (u : UnitId) : Nat := unitNo u.kind u.index

/-- FW_STAT index of a controller (R430). -/
def UnitId.fwIndex : UnitId → Option Nat
  | .pc i => some (1 + i.val)
  | .bay i => some (9 + i.val)
  | .stack i => some (25 + i.val)
  | _ => none

end Sys2Proof

namespace Sys2Proof.Machine

/-! ## Units of the fault path (R417, R419, R420) -/

/-- The unit is fenced. -/
def State.unitFenced (s : State) : UnitId → Bool
  | .site k => (s.site k.key).fenced
  | .stack i => (s.stack i.val).fenced
  | .pc i => (s.pc i.val).fenced
  | .host i => (s.hp i.val).fenced
  | .bay i => (s.bay i.val).fenced

/-- The power view of a unit that the RMC holds (R386, R419): 0 off, 1 on, 2 retained. A parked site is retained or gated; a bay is off
where its cartridge has no power. -/
def State.powerView (s : State) : UnitId → Nat
  | .site k => if (s.site k.key).forwards then 1 else if (s.site k.key).isl.state = 3 then 2 else 0
  | .stack i => if (s.stack i.val).dark then 0 else if (s.stack i.val).stackState = 1 then 2 else 1
  | .pc i => if (s.pc i.val).off || (s.pc i.val).fenced then 0 else 1
  | .host i => if (s.hp i.val).off || (s.hp i.val).fenced then 0 else 1
  | .bay i => if (s.bay i.val).off || (s.bay i.val).fenced || (s.bay i.val).dark then 0 else 1

/-- The RMC holds the unit's domain on. -/
def State.unitOn (s : State) (u : UnitId) : Bool := s.powerView u == 1

/-- The unit can send heartbeats or liveness flits without a disagreement: its domain is on, or it is a store controller, which runs while
its cartridge has no power. -/
def State.unitTalks (s : State) : UnitId → Bool
  | .bay i => !(s.bay i.val).off && !(s.bay i.val).fenced
  | u => s.unitOn u

/-- The unit's own action on its temperature limit has begun (R185, R329, R395, R419). Port complexes and host ports have none. -/
def State.limitBegun (s : State) : UnitId → Bool
  | .site k => s.power.parkBusy (blockOf k.key) || bit s.fault.waferFenced (siteW k.key)
  | .stack i => (s.stack i.val).thermalOff || (s.stack i.val).throttle
  | .bay i => (s.bay i.val).heatOff
  | _ => false

/-- A unit fenced: its domain off, its edge or service ports blocked, its fencing recorded (R420, R421). A site is fenced as a
fault fences it, with its promotion (R424). -/
def State.fenceUnit (s : State) : UnitId → State
  | .site k => s.failSite k.key
  | .stack i => (s.updStack i.val (fun a => { a.cut with fenced := true })).recordFence (unitNo ukStack i.val)
  | .pc i => ((s.pcOff i.val).updPc i.val (fun c => { c with fenced := true })).recordFence (unitNo ukPc i.val)
  | .host i => ((s.hostOff i.val).updHp i.val (fun h => { h with fenced := true })).recordFence (unitNo ukHost i.val)
  | .bay i => (s.updBay i.val (fun b => { b.cut with fenced := true })).recordFence (unitNo ukBay i.val)

/-- LIVENESS_LOST of a site, with the site that reports it; where none does, that is a free value (R418). -/
def State.livenessEvent (s : State) (k : Nat) (reporter : Option Nat) : State :=
  match reporter with
  | some j => s.post 3 2 0 ukSite k [j]
  | none =>
    let (v, s) := s.draw
    s.post 3 2 0 ukSite k [v.toNat % 65536]

/-- The unit's own fault event (R418): LIVENESS_LOST of a site, CONTROLLER_HANG of a controller; the spec names none for a host
port. -/
def State.ownEvent (s : State) (u : UnitId) : State :=
  match u, u.fwIndex with
  | .site k, _ => s.livenessEvent k.key none
  | _, some n => s.post 0x0c 2 0 u.kind u.index [n, b2n (s.fwUnit n).activeB]
  | _, none => s

/-- The paths disagree (R419): the unit is fenced, PATH_DISAGREE with both views and then its own event are posted. -/
def State.disagree (s : State) (u : UnitId) (alive : Bool) (view : PollView) : State :=
  ((s.postDisagree u.kind u.index alive view.power.val view.hot).ownEvent u).fenceUnit u

/-- Liveness flits have come to site k from a site j that the RMC has off or retained: the paths disagree (R419). -/
def State.livenessDisagree (s : State) (k j : Nat) : State :=
  ((s.postDisagree ukSite j true (if (s.site j).isl.state = 3 then 2 else 0) false).livenessEvent j (some k)).failSite j

/-- LIVENESS_ARRIVE (R413, R419): the flit that has come in by a mesh port is consumed, which restarts the neighbour's check. One from a
site that is off or parked is a disagreement. -/
def execLivenessArrive (site : SiteId) (port : RPort) (s : State) : Result :=
  let k := site.key
  let t := s.updRouter k (fun r => if portIdx port < 4 then { r with liveIn := putBit r.liveIn (portIdx port) false } else r)
  .next (match neighbour k port with
    | none => t
    | some j => if (s.site k).forwards && !(s.site j).forwards && !(s.site j).fenced then t.livenessDisagree k j else t)

/-! ## Heartbeats and polls (R416, R419) -/

/-- CONTROLLER_HEARTBEAT (R416): traffic from a unit that the RMC holds off is a disagreement (R419). Sites and host ports send
none. -/
def execControllerHeartbeat (unit : UnitId) (s : State) : Result :=
  .next (if unit.fwIndex.isNone ∨ s.unitFenced unit = true then s
    else if s.unitTalks unit = false then s.disagree unit true { power := Fin.ofNat 3 (s.powerView unit), hot := false }
    else { s with rmc := { s.rmc with beats := if s.rmc.beats.contains unit.no then s.rmc.beats else unit.no :: s.rmc.beats } })

/-- CONTROLLER_HANG (R416): the end of a controller's 8 ms. Without a heartbeat in it the controller is dead on the data path,
while the RMC reports its domain on. -/
def execControllerHang (unit : UnitId) (s : State) : Result :=
  .next (if unit.fwIndex.isNone ∨ s.unitTalks unit = false then s
    else if s.rmc.beats.contains unit.no then { s with rmc := { s.rmc with beats := s.rmc.beats.filter (fun n => n != unit.no) } }
    else (s.markDead unit.no).disagree unit false { power := 1, hot := false })

/-- The two paths disagree on a unit, which the data path has dead or alive and which the RMC reads as the view says (R419): dead, and
on and normal; alive while its domain should be on, and off or retained; or alive and over limit before its own limit action. -/
def State.pathsDisagree (s : State) (unit : UnitId) (dead : Bool) (view : PollView) : Bool :=
  if dead then view.power == 1 && !view.hot
  else s.unitOn unit && (view.power != 1 || (view.hot && !s.limitBegun unit))

/-- DOMAIN_POWER_POLL (R416, R419): the RMC reads a domain's power controller and the unit's temperature. A unit on which the paths
disagree is fenced. -/
def execDomainPowerPoll (unit : UnitId) (on : PollView) (s : State) : Result :=
  let dead := s.fault.dead.contains unit.no
  .next (if !s.unitFenced unit && s.pathsDisagree unit dead on then s.disagree unit (!dead) on else s)

/-! ## MODULE.FENCE_CMD (R420, R421, R424, R428) -/

/-- MODULE.FAULT_STAT.PROMOTING: a promotion runs past its step 2. FENCE_CMD is ignored while it does. -/
def FaultRegs.promoting (f : FaultRegs) : Bool := (f.promos.head?.map (fun (p : Promo) => p.released)).getD false

/-- FENCE_SITE (R420): the site's domain off, its ports blocked, the fence recorded. DEDUCED 48: a commanded fence is no fault
of R424, so it stops no pan and starts no promotion. -/
def execFenceSite (site : SiteId) (s : State) : Result :=
  .next (if s.fault.promoting ∨ (s.site site.key).fenced = true then s else s.fenceSite site.key)

/-- RETEST (R420, R421): refused for a unit that is not fenced, and for one that is retired. -/
def execRetest (unit : UnitId) (s : State) : Result :=
  .next (if s.fault.promoting then s
    else if s.unitFenced unit = false ∨ s.fault.retired.contains unit.no = true then s.faultRefuse
    else { s with rmc := { s.rmc with retest := if s.rmc.retest.contains unit.no then s.rmc.retest else unit.no :: s.rmc.retest } }.testPower unit.no)

/-- A site back in service (R420): on, its oscillator locked where it can lock; router-only when a promotion has moved its logical array,
else reconfigured from staging. -/
def State.returnSite (s : State) (k : Nat) : State :=
  let s := s.updSite k (fun a => { a with fenced := false })
  let s := ((s.siteOn k).lockClocks [k]).openLinks k
  if (s.site k).mapValid then s.rejoin k else s

/-- A unit back in service: powered, as after power-up. A stack's banks pass through OPENING (R190). -/
def State.returnUnit (s : State) : UnitId → State
  | .site k => s.returnSite k.key
  | .stack i => s.setStack i.val { banks := Vector.replicate 8 .opening }
  | .pc i => s.setPc i.val {}
  | .host i => s.setHp i.val {}
  | .bay i => s.updBay i.val (fun b => b.boot (s.sec.lc == 4))

/-- RETEST_RESULT (R420, R421): a unit that passes returns to service; one that fails stays fenced and is retired. -/
def execRetestResult (unit : UnitId) (pass : Bool) (s : State) : Result :=
  .next (if s.rmc.retest.contains unit.no then
      let s := { s with rmc := { s.rmc with retest := s.rmc.retest.filter (fun n => n != unit.no) } }
      let s := { s with rmc := { s.rmc with scan := s.rmc.scan.filter (fun n => n != unit.no) } }
      if pass then
        let s := { s with fault := { s.fault with dead := s.fault.dead.filter (fun n => n != unit.no) } }
        s.returnUnit unit
      else (s.retire unit.no).testPower unit.no
    else s)

/-- FENCE_WAFER (R428, R429): pans stop and bays unmount first. A second wafer switches the module off. -/
def execFenceWafer (wafer : Fin 4) (s : State) : Result :=
  let w := wafer.val
  .next (if s.fault.promoting ∨ bit s.fault.waferFenced w = true ∨ (s.fault.fencing.map (fun (x : Nat × Bool) => x.1)) = some w then s
    else if s.fault.waferFenced ≠ 0 ∨ s.fault.fencing.isSome = true then s.secondWafer
    else
      let s := s.stopPans (s.waferPans w)
      { s with fault := { s.fault with fencing := some (w, false) } }.goOn)

/-- PROMOTE (R424): a promotion that stands after its step 2 goes on. Without one for the site it is refused. -/
def execPromote (site : SiteId) (s : State) : Result :=
  .next (if s.fault.promoting then s
    else if s.fault.promos.any (fun p => p.failed.contains site.key) then
      { s with fault := { s.fault with promos := updFirst (fun p => p.failed.contains site.key) (fun p => { p with released := true }) s.fault.promos } }
    else s.faultRefuse)

/-! ## Promotion (R424–R426) -/

/-- The spare site of a segment of a site's row. -/
def spareOf (k seg : Nat) : Nat := siteKey (siteW k) (siteY k) (25 * seg + 24)

/-- A site may take a logical array over: on, not parked, not fenced, holding none. -/
def Site.candidate (a : Site) : Bool := a.forwards && !a.mapValid && a.isl.state == 1

/-- The first candidate of a site plan. -/
def State.spareFor (s : State) (k : Nat) : Option Nat :=
  ((s.sitePlan k).cands.map (fun g => spareOf k g.val)).find? (fun j => (s.site j).candidate)

/-- Step 3: the spare takes the failed site's logical array in every copy of the site map, and in its ARRAY.MAP, with the tempo of
the pan's other arrays (R374). -/
def State.mapSpare (s : State) (k j : Nat) : State :=
  let a := s.site k
  let s := s.writeMap false [((96 * siteW k + siteY k) * 4 + siteX j / 25, BitVec.ofNat 8 (128 + a.lcol.toNat))]
  let s := s.updSite k (fun a => { a with mapValid := false })
  (s.updSite j (fun x => { x with lcol := a.lcol, lrow := a.lrow, mapValid := true, rt := { x.rt with state := 2 } })).joinTempo j

/-- The spares found for the failed sites of a promotion, mapped in order; none where no candidate qualifies. -/
def State.mapSpares (s : State) (ks : List Nat) : State × List (Nat × Option Nat) :=
  ks.foldl (fun (r : State × List (Nat × Option Nat)) k =>
    match r.1.spareFor k with
    | some j => (r.1.mapSpare k j, r.2 ++ [(k, some j)])
    | none => (r.1, r.2 ++ [(k, none)])) (s, [])

/-- Step 4: the pan's configuration in staging still has the digest recorded at its load. -/
def State.confOk (s : State) (n : Nat) : Bool :=
  match s.images.copyOf n with
  | some c => sha512 ((s.copyBytes c).take (imgSigned (s.copyBytes c))) == c.hash
  | none => false

/-- Step 4: every array of the pan reconfigured, its tempo kept. -/
def State.reconfPan (s : State) (n : Nat) : State :=
  ((s.panSites n).filter (fun k => !(s.site k).parked && !(s.site k).fenced)).foldl (fun (s : State) k => s.reconfigActive k n .keep) s

/-- PROMOTION events, one for each failed site: status 0 done, 1 SPARES_EXHAUSTED, 2 the check of step 4 failed. -/
def State.postPromos (s : State) (n : Nat) (rs : List (Nat × Option Nat)) (bad : Bool) : State :=
  rs.foldl (fun (s : State) r =>
    s.post 0x17 2 0 ukPan n [r.1, r.2.getD 0, n, if r.2.isNone then 1 else if bad then 2 else 0]) s

/-- Steps 3 to 5 of the first promotion. A pan that is UNCONFIGURED goes through step 3 only, and nothing is posted (R426). -/
def State.promote (s : State) (p : Promo) : State :=
  let s := { s with fault := { s.fault with promos := s.fault.promos.drop 1 } }
  let (s, rs) := s.mapSpares p.failed
  if (s.pan p.pan).st = .unconfigured then s
  else if rs.any (fun r => r.2.isNone) then (s.updPan p.pan (fun x => { x with st := .stopped })).postPromos p.pan rs false
  else if s.confOk p.pan then ((s.reconfPan p.pan).updPan p.pan (fun x => { x with st := .stopped })).postPromos p.pan rs false
  else (s.unconfigure (fun n _ => n == p.pan)).postPromos p.pan rs true

/-- PROMOTION (R424): the first promotion, when it may go past step 2 and its pan has stopped. -/
def execPromotion (s : State) : Result :=
  .next (match s.fault.promos with
    | [] => s
    | p :: _ =>
      if p.released && ((s.pan p.pan).st == .unconfigured || (s.pan p.pan).st == .stopped || s.panQuiet p.pan) then s.promote p else s)

/-! ## Firmware (R430, R431, R440) -/

/-- What must hold before a unit's switch-over (R430). -/
def State.fwReady (s : State) (n : Nat) : Bool :=
  let i := (fwKind n).2
  match fwClass n with
  | 0 => true
  | 1 => (s.pc i).red.jobs.all (fun e => e.2.st == .closed) && (s.pc i).disp.wins.all (fun e => e.2.st == .closed)
      && (List.range 16).all (fun e => !(s.site (ueKey i e)).ue.active)
  | 2 => (s.bay i).st == bayEmpty || (s.bay i).st == bayOff
  | _ => (s.stack i).stackState == 1 && (s.stack i).jobs.isEmpty && (s.stack i).arrived.isEmpty

/-- What a switch-over does besides the change of copy: a port complex's ports retrain, and a bay mounts (R337). -/
def State.fwRestart (s : State) (n : Nat) : State :=
  let i := (fwKind n).2
  match fwClass n with
  | 1 => (List.range 12).foldl (fun (s : State) j => s.portRetrain (12 * i + j)) s
  | 2 => s.updBay i (fun b => if b.automount && b.st == bayOff && !b.heatOff && b.mountResult == 0 then b.beginMount else b)
  | _ => s

/-- A life-cycle request, an image load or a firmware switch-over is in progress (R448). -/
def State.exclusive (s : State) : Bool :=
  s.sec.busy || s.sec.erasePending || s.images.loads.any (fun l => l.step != 0) || s.fault.fw.any (fun e => e.2.st == 1 || e.2.st == 2)

/-- A switch to the other copy: it waits for what R448 names; it is refused without the precondition or a verified copy. -/
def State.fwSwitch (s : State) (n : Nat) : State :=
  if s.exclusive then { s with fault := { s.fault with fwWaiting := s.fault.fwWaiting ++ [n] } }
  else if s.fwReady n && (s.fwUnit n).inactiveOk then (s.updFw n (fun u => { u with activeB := !u.activeB, st := 2 })).fwRestart n
  else s.faultRefuse.postFw n 2

/-- FW_SWITCH (R431). -/
def execFwSwitch (unit : Fin 217) (s : State) : Result := .next (s.fwSwitch unit.val)

/-- FW_REVERT (R431): the other copy again, under the same preconditions. -/
def execFwRevert (unit : Fin 217) (s : State) : Result := .next (s.fwSwitch unit.val)

/-- A copy accepted: the class's minimum rises when it commits, and the slots that it revokes are blown (R440). -/
def Sec.accept (c : Sec) (n : Nat) (x : FwCopy) : Sec :=
  let old := vget 0 c.svn (fwClass n)
  { c with svn := if x.commit ∧ old.toNat < x.svn.toNat then vset c.svn (fwClass n) x.svn else c.svn
           fwRevoked := c.fwRevoked ||| fld x.revoke 0 4, svcRevoked := c.svcRevoked ||| fld x.revoke 4 4 }

/-- Inactive copies that no longer verify stay inactive until they are rewritten (R440). -/
def State.fwRecheck (s : State) : State :=
  { s with fault := { s.fault with fw := s.fault.fw.map (fun (e : Nat × FwUnit) =>
      (e.1, { e.2 with inactiveOk := e.2.inactiveOk && s.sec.fwAllowed e.1 e.2.inactive })) } }

/-- FW_HEALTHY (R431, R440): a new copy's first healthy report. -/
def execFwHealthy (unit : Fin 217) (s : State) : Result :=
  let n := unit.val
  .next (if (s.fwUnit n).st = 2 then
      let s := { s with sec := s.sec.accept n (s.fwUnit n).active }
      ((s.updFw n (fun u => { u with st := 0 })).fwRecheck).postFw n 0
    else s)

/-- A unit restarted from its other copy; the one rolled back is not used until it is rewritten (R431). -/
def FwUnit.rollBack (u : FwUnit) : FwUnit :=
  { u with activeB := !u.activeB, st := 3, inactiveOk := false
           a := { u.a with usable := u.a.usable && u.activeB }, b := { u.b with usable := u.b.usable && !u.activeB } }

/-- FW_HEALTH_TIMEOUT (R431): the unit restarts from its other copy; the copy rolled back stays inactive until rewritten. -/
def execFwHealthTimeout (unit : Fin 217) (s : State) : Result :=
  let n := unit.val
  .next (if (s.fwUnit n).st = 2 then
      ((s.updFw n FwUnit.rollBack).fwRestart n).postFw n 1
    else s)

/-! ## Optics (R281, R432) -/

/-- The optical module of a port's cage changes, and with it the state of the port: an enabled one trains over a powered module, goes down
without one, and reads STATE 3 over one that stays unpowered (R432). -/
def State.setOptics (s : State) (n : Nat) (o : Optics) : State :=
  let s := s.updPort n (fun p => { p with optics := o })
  if (s.port n).enable ∨ o = .refused then s.linkDown n (s.port n).idleState else s

/-- OSFP_INSERT (R432): the cage's CMIS memory map has been read. supported: the module advertises a PHY of R274; fits: it is
within the cage's power class. -/
def execOsfpInsert (cage : Fin 48) (cmis : BitVec 8) (supported fits : Bool) (s : State) : Result :=
  let n := 2 * cage.val
  .next (if supported && fits then
      ((s.setOptics n .powered).setOptics (n + 1) .powered)
    else
      (((s.setOptics n .refused).setOptics (n + 1) .refused).post 0x1a 1 1 ukCage cage.val [cage.val, cmis.toNat, if supported then 2 else 1]))

/-- OSFP_REMOVE (R432): the cage's two ports go down. -/
def execOsfpRemove (cage : Fin 48) (s : State) : Result :=
  let n := 2 * cage.val
  .next ((s.setOptics n .absent).setOptics (n + 1) .absent)

end Sys2Proof.Machine
end

