-- ==== Sys2Proof/Machine/Security.lean ====
section
/-! DEFINITION. Machine/Security.lean: the life cycle, firmware objects, the RMC's answers to SPDM and PLDM, telemetry totals, and
JTAG (R436–R456, R463, R464). -/

namespace Sys2Proof.Machine

/-! ## Nonces (R447) -/

/-- A read of MODULE.SEC_NONCE_0: a new nonce. -/
def State.nonceDraw (s : State) : State :=
  let (ws, s) := (List.range 8).foldl (fun (r : List W64 × State) _ => let (v, s) := r.2.draw; (r.1 ++ [v], s)) ([], s)
  { s with sec := { s.sec with nonce := Vector.ofFn (fun i : Fin 8 => ws.getD i.val 0), nonceValid := true } }

/-- NONCE_DRAW (R447). -/
def execNonceDraw (s : State) : Result := .next s.nonceDraw

/-- NONCE_EXPIRE (R447): 60 s after the nonce was drawn. -/
def execNonceExpire (s : State) : Result := .next { s with sec := { s.sec with nonceValid := false } }

/-! ## Life-cycle requests (R445–R451) -/

/-- Bytes of the request object. -/
def Sec.obj (c : Sec) (i n : Nat) : List Byte := Memory.read c.buf i n
def Sec.objOp (c : Sec) : Nat := (Memory.get c.buf 4).toNat

/-- Every byte of a list is zero. -/
def allZero (bs : List Byte) : Bool := bs.all (fun b => b == 0)

/-- KEY_N and KEY_E: modulus and exponent. -/
def Sec.objKey (c : Sec) : PubKey := (beNat (c.obj 144 512), beNat (c.obj 656 4))

/-- Check 1: MAGIC, SERIAL, the reserved fields, and the fields that are zero for an OP. The module accepts only keys with
exponent 65,537 (R436). -/
def Sec.formatOk (c : Sec) : Bool :=
  let op := c.objOp
  c.obj 0 4 == [0x4c, 0x43, 0x52, 0x31] && c.obj 8 8 == leBytes 8 Config.serial.toNat && allZero (c.obj 5 3) && allZero (c.obj 661 43)
    && (if op = 1 ∨ op = 2 then c.objKey.2 == 65537 else allZero (c.obj 144 516))
    && (if op = 5 then decide ((Memory.get c.buf 660).toNat < 8) else Memory.get c.buf 660 == 0)

/-- Check 2: the current nonce. -/
def Sec.nonceOk (c : Sec) : Bool := c.nonceValid && c.obj 16 64 == c.nonce.toList.flatMap (fun w => leBytes 8 w.toNat)

/-- The owner key, in OWNED and FIELD. -/
def Sec.ownerKeys (c : Sec) : List PubKey := if c.lc = 1 ∨ c.lc = 2 then c.imageKeys else []

/-- The vendor service keys, in FACTORY and RETURNED. -/
def Sec.serviceKeys (c : Sec) : List PubKey := if c.lc = 0 ∨ c.lc = 3 then c.imageKeys else []

/-- The signers permitted for OP in the current state (R446). -/
def Sec.signers (c : Sec) : List PubKey :=
  match c.objOp with
  | 1 => [c.objKey]
  | 2 => c.ownerKeys
  | 3 => c.ownerKeys
  | 4 => c.ownerKeys
  | 5 => c.serviceKeys
  | 6 => c.serviceKeys
  | 7 => c.imageKeys
  | _ => []

/-- Check 3: the signer and the signature. -/
def Sec.signatureOk (c : Sec) : Bool := signedBy c.signers (c.obj 80 64) (c.obj 0 704) (c.obj 704 512)

/-- Check 4: OP is allowed from the current state. While an erase is pending nothing is (R450). -/
def Sec.stateOk (c : Sec) : Bool :=
  !c.erasePending && (match c.objOp with
    | 1 => c.lc == 0
    | 2 => c.lc == 1
    | 3 => c.lc == 1
    | 4 => c.lc == 1 || c.lc == 2
    | 5 => c.lc == 3
    | 6 => c.lc == 3 && decide (c.refurbished.toNat < 3)
    | 7 => c.lc != 4
    | _ => false)

/-- Check 5: the preconditions of R448. -/
def State.eraseReady (s : State) : Bool :=
  s.pans.all (fun e => e.2.st == .stopped || e.2.st == .unconfigured) && s.bays.all (fun e => e.2.st != baySanitizing)

/-- The first check that fails, as SEC_STAT.RESULT; 0 when none does. -/
def State.secResult (s : State) : BitVec 3 :=
  let op := s.sec.objOp
  if s.sec.formatOk = false then 1
  else if s.sec.nonceOk = false then 2
  else if s.sec.signatureOk = false then 3
  else if s.sec.stateOk = false then 4
  else if (op = 4 ∨ op = 6 ∨ op = 7) ∧ s.eraseReady = false then 5
  else 0

/-- A request checked: RESULT and OP. A nonce serves one request (DEDUCED 50): one that passes the nonce check spends it, and one that fails
there, or before it, leaves the current nonce as it is (R447). SEC_BUF is cleared when the request has ended, which for one that began an
erase is when the erase ends (R449, R452). -/
def Sec.endRequest (c : Sec) (r : BitVec 3) : Sec :=
  { c with result := r, op := BitVec.ofNat 3 c.objOp, buf := if c.erasing then c.buf else [], nonceValid := c.nonceValid && (r == 1 || r == 2) }

/-- A request run: the checks, and then f. While an image load or a switch-over is in progress it waits, and is BUSY (R448); a START is
ignored while BUSY. While an erase that a reset cut short is still to be resumed, no request waits: it fails, with STATE once the checks
before that pass (R450). op is the OP for which f stands; another object is not this command's. -/
def State.secRun (s : State) (op : Nat) (f : State → State) : State :=
  if s.sec.busy ∨ s.sec.objOp ≠ op then s
  else if s.exclusive ∧ s.sec.erasePending = false then { s with sec := { s.sec with busy := true, waiting := true } }
  else
    let r := s.secResult
    let t := if r = 0 then f s else s
    { t with sec := t.sec.endRequest r }

/-- The owner key taken from KEY_N and KEY_E. -/
def Sec.takeKey (c : Sec) : Sec := { c with ownerKey := some (c.obj 144 516) }

/-- PROVISION_OWNER's effect: the owner secret is the free value of this number (R438, R446). -/
def State.provision (s : State) : State :=
  let n := s.freeNext
  let (_, s) := s.draw
  { s with sec := { s.sec.takeKey with ownerSecret := some (n + 1), lc := 1 } }

/-- ROTATE_OWNER's effect: the secret stays, slot 1 is erased. -/
def State.rotate (s : State) : State := { s with sec := { s.sec.takeKey with slot1 := [] } }

/-- CLOSE's effect. -/
def State.close (s : State) : State := { s with sec := { s.sec with lc := 2 } }.closeTap

/-- DEBUG_UNLOCK's effect. -/
def State.debugUnlock (s : State) : State := { s with sec := { s.sec with debugOpen := (Memory.get s.sec.buf 660).setWidth 3 } }

/-- The erase of R449 begun, toward a state. The TAP stays as it is until the new state takes effect (R464). -/
def State.eraseBegin (s : State) (to_ : BitVec 3) : State :=
  { s with
    sec := { s.sec with erasePending := true, eraseTo := to_, erasing := true, busy := true }
    bays := s.bays.map (fun (e : Nat × Bay) => (e.1, e.2.unmountNow)) }

/-- The seven requests by their OP. -/
def State.secProvision (s : State) : State := s.secRun 1 State.provision
def State.secRotate (s : State) : State := s.secRun 2 State.rotate
def State.secClose (s : State) : State := s.secRun 3 State.close
def State.secReturn (s : State) : State := (s.secRun 4 (fun s => s.eraseBegin 3)).goOn
def State.secDebug (s : State) : State := s.secRun 5 State.debugUnlock
def State.secRefurbish (s : State) : State := (s.secRun 6 (fun s => s.eraseBegin 0)).goOn
def State.secRetire (s : State) : State := (s.secRun 7 (fun s => s.eraseBegin 4)).goOn

/-- A write of MODULE.SEC_CMD.START: the request in SEC_BUF. -/
def State.secStart (s : State) : State :=
  match s.sec.objOp with
  | 1 => s.secProvision
  | 2 => s.secRotate
  | 3 => s.secClose
  | 4 => s.secReturn
  | 5 => s.secDebug
  | 6 => s.secRefurbish
  | 7 => s.secRetire
  | op => s.secRun op id

/-- PROVISION_OWNER (R446). -/
def execProvisionOwner (s : State) : Result := .next s.secProvision
/-- ROTATE_OWNER (R446). -/
def execRotateOwner (s : State) : Result := .next s.secRotate
/-- CLOSE (R446). -/
def execClose (s : State) : Result := .next s.secClose
/-- RETURN (R446, R449). -/
def execReturnReq (s : State) : Result := .next s.secReturn
/-- DEBUG_UNLOCK (R446, R451). -/
def execDebugUnlock (s : State) : Result := .next s.secDebug
/-- REFURBISH (R446, R449). -/
def execRefurbish (s : State) : Result := .next s.secRefurbish
/-- RETIRE (R446, R449). -/
def execRetire (s : State) : Result := .next s.secRetire

/-! ## SPDM (R441–R443). The order of a connection's requests is that of DMTF SPDM 1.3 (PRESUMED 51). -/

/-- A host port that answers for its management paths. -/
def State.portServes (s : State) (k : Fin 4) : Bool := !(s.hp k.val).off && !(s.hp k.val).fenced

/-- The always-on domain has gone off after a loss of input (R384, step 3). -/
def Power.allLost (p : Power) : Bool := p.dark && p.offCause == 1

/-- SPDM is carried on DOE mailbox 0 and on MCTP over PCIe and over I3C (R442, R453), and not in recovery mode. The I3C target has an
address once the controller has assigned one; until then it answers as an I2C target (R474; DESIGN CHOICE 171). -/
def State.spdmPath (s : State) : MgmtPath → Bool
  | .eth => false
  | .mctpPcie k => s.portServes k && !s.rmc.recovery
  | .mctpI3c => !s.rmc.recovery && !s.power.allLost && s.rmc.i3cAddr.isSome
  | .mctpI2c => !s.rmc.recovery && !s.power.allLost && s.rmc.i3cAddr.isNone
  | .doe k m => m == 0 && s.portServes k && !s.rmc.recovery

/-- How far a path's connection has come. -/
def Rmc.stage (r : Rmc) (p : MgmtPath) : Nat := ((r.conns.find? (fun (c : SpdmConn) => c.path == p)).map (fun (c : SpdmConn) => c.stage)).getD 0

def Rmc.setStage (r : Rmc) (p : MgmtPath) (n : Nat) : Rmc := { r with conns := { path := p, stage := n } :: r.conns.filter (fun (c : SpdmConn) => c.path != p) }

/-- An answer on a path that carries SPDM; a request on another path gets none. -/
def State.spdm (s : State) (p : MgmtPath) (f : State → State × SpdmAnswer) : State :=
  if s.spdmPath p then
    let (s, a) := f s
    s.emit (.spdm p a)
  else s

/-- A request that needs a connection at a stage. -/
def State.spdmAt (s : State) (p : MgmtPath) (n : Nat) (f : State → State × SpdmAnswer) : State :=
  s.spdm p (fun s => if n ≤ s.rmc.stage p then f s else (s, .unexpectedRequest))

/-- GET_VERSION (R442): 1.3 only. It starts the connection anew. -/
def execGetVersion (path : MgmtPath) (s : State) : Result :=
  .next (s.spdm path (fun s => ({ s with rmc := s.rmc.setStage path 1 }, .version [0x13])))

/-- GET_CAPABILITIES (R442). -/
def execGetCapabilities (path : MgmtPath) (version : BitVec 8) (s : State) : Result :=
  .next (s.spdmAt path 1 (fun s =>
    if version ≠ 0x13 then (s, .versionMismatch) else ({ s with rmc := s.rmc.setStage path (max 2 (s.rmc.stage path)) }, .capabilities)))

/-- NEGOTIATE_ALGORITHMS (R442): the requester offers TPM_ALG_RSAPSS_4096 and TPM_ALG_SHA_512, or nothing in common. -/
def execNegotiateAlgorithms (path : MgmtPath) (offered : Bool) (s : State) : Result :=
  .next (s.spdmAt path 2 (fun s => if offered then ({ s with rmc := s.rmc.setStage path 3 }, .algorithms) else (s, .invalidRequest)))

/-- The certificate chain of a slot. -/
def State.chain (s : State) (slot : Nat) : Option (List Byte) :=
  if slot = 0 then some Config.certChain else if slot = 1 ∧ s.sec.slot1 ≠ [] then some s.sec.slot1 else none

/-- GET_DIGESTS (R442). -/
def execGetDigests (path : MgmtPath) (s : State) : Result :=
  .next (s.spdmAt path 3 (fun s => (s, .digests ([0, 1].filterMap (fun i => (s.chain i).map (fun c => (i, sha512 c)))))))

/-- GET_CERTIFICATE (R442). -/
def execGetCertificate (path : MgmtPath) (slot : Fin 8) (s : State) : Result :=
  .next (s.spdmAt path 3 (fun s => match s.chain slot.val with
    | some c => (s, .certificate slot.val c)
    | none => (s, .invalidRequest)))

/-- CHALLENGE (R442): signed by the device identity key; the signature is a free value. -/
def execChallenge (path : MgmtPath) (slot : Fin 8) (s : State) : Result :=
  .next (s.spdmAt path 3 (fun s => if (s.chain slot.val).isSome then
      let (sig, s) := s.freeBytes 512
      (s, .challengeAuth slot.val sig)
    else (s, .invalidRequest)))

/-- GET_CSR (R442): slot 1, in OWNED only. -/
def execGetCsr (path : MgmtPath) (s : State) : Result :=
  .next (s.spdmAt path 3 (fun s => if s.sec.lc = 1 then
      let n := s.freeNext
      (s.draw.2, .csr (Config.csr n))
    else (s, .unexpectedRequest)))

/-- A chain of n bytes fits a message on the path: an object of a DOE mailbox has at most 64 KiB (R358), of which the object's header takes
8 bytes and the message's 4 (PRESUMED 143). -/
def mailboxFits (path : MgmtPath) (n : Nat) : Bool :=
  match path with
  | .doe _ _ => decide (n + 12 ≤ 65536)
  | _ => true

/-- SET_CERTIFICATE (R442): slot 1, in OWNED only. A mailbox takes no longer object than R358 allows. -/
def execSetCertificate (path : MgmtPath) (slot : Fin 8) (chain : List Byte) (s : State) : Result :=
  .next (if mailboxFits path chain.length = false then s else s.spdmAt path 3 (fun s => if s.sec.lc = 1 ∧ slot.val = 1 then ({ s with sec := { s.sec with slot1 := chain } }, .setCertificate)
    else (s, .unexpectedRequest)))

/-- The measurement of a unit's active firmware copy. -/
def State.fwMeasure (s : State) (n : Nat) : List Byte :=
  let u := s.fwUnit n
  if u.active.digest = [] then Config.fwDigest n u.activeB else u.active.digest

/-- MODULE.SVN (R452). -/
def Sec.svnWord (c : Sec) : W64 :=
  BitVec.ofNat 64 (c.svn[0].toNat + c.svn[1].toNat * 2 ^ 8 + c.svn[2].toNat * 2 ^ 16 + c.svn[3].toNat * 2 ^ 24
    + c.fwRevoked.toNat * 2 ^ 32 + c.svcRevoked.toNat * 2 ^ 36)

/-- Digest of the owner key, zero without one. -/
def Sec.ownerDigest (c : Sec) : List Byte := match c.ownerKey with | some k => sha512 k | none => List.replicate 64 0

/-- The measurement of an index (R443). -/
def State.measure (s : State) (i : Nat) : Option (List Byte) :=
  if i = 1 then some Config.romDigest
  else if i = 2 then some (s.fwMeasure 0)
  else if i = 3 then some (Config.lcDigest s.sec.lc s.sec.ownerDigest s.sec.svnWord s.sec.debugOpen)
  else if i = 4 then some (match s.images.whole with | some c => c.hash | none => Config.noImageDigest)
  else if i = 5 then some s.images.chain
  else if 0x10 ≤ i ∧ i < 0x18 then some (s.fwMeasure (i - 15))
  else if 0x20 ≤ i ∧ i < 0x30 then some (s.fwMeasure (i - 23))
  else if i = 0x30 then some (sha512 ((List.range 192).flatMap (fun j => s.fwMeasure (25 + j))))
  else none

/-- GET_MEASUREMENTS (R442, R443): one index, or all of them (0xFF), signed. -/
def execGetMeasurements (path : MgmtPath) (index : BitVec 8) (s : State) : Result :=
  .next (s.spdmAt path 3 (fun s =>
    let is := if index = 0xff then List.range 0x31 else [index.toNat]
    let ms := is.filterMap (fun i => (s.measure i).map (fun m => (i, m)))
    if ms = [] then (s, .invalidRequest)
    else
      let (sig, s) := s.freeBytes 512
      (s, .measurements ms sig)))

/-- KEY_EXCHANGE (R442): a session begins. -/
def execKeyExchange (path : MgmtPath) (s : State) : Result :=
  .next (s.spdmAt path 3 (fun s =>
    let n := s.rmc.nextSession
    let (sig, s) := s.freeBytes 512
    let rmc := { s.rmc with sessions := s.rmc.sessions ++ [{ id := n, path := path }], nextSession := n + 1 }
    ({ s with rmc := rmc }, .keyExchange n sig)))

/-- The session of a path with an identity. -/
def Rmc.session (r : Rmc) (p : MgmtPath) (n : Nat) : Option SpdmSession := r.sessions.find? (fun (x : SpdmSession) => x.id == n && x.path == p)

/-- A change of one session. -/
def Rmc.updSession (r : Rmc) (n : Nat) (f : SpdmSession → SpdmSession) : Rmc :=
  { r with sessions := updFirst (fun (x : SpdmSession) => x.id == n) f r.sessions }

/-- FINISH (R442). -/
def execFinish (path : MgmtPath) (session : Nat) (s : State) : Result :=
  .next (s.spdmAt path 3 (fun s => match s.rmc.session path session with
    | none => (s, .invalidRequest)
    | some x => if x.established then (s, .unexpectedRequest)
      else ({ s with rmc := s.rmc.updSession session (fun x => { x with established := true }) }, .finish session)))

/-- A request within an established session. -/
def State.inSession (s : State) (p : MgmtPath) (n : Nat) (f : State → State × SpdmAnswer) : State :=
  s.spdm p (fun s => if ((s.rmc.session p n).map (fun (x : SpdmSession) => x.established)).getD false then f s else (s, .sessionRequired))

/-- END_SESSION (R442). -/
def execEndSession (path : MgmtPath) (session : Nat) (s : State) : Result :=
  .next (s.inSession path session (fun s =>
    ({ s with rmc := { s.rmc with sessions := s.rmc.sessions.filter (fun (x : SpdmSession) => x.id != session) } }, .endSession session)))

/-- SPDM_HEARTBEAT (R442). -/
def execSpdmHeartbeat (path : MgmtPath) (session : Nat) (s : State) : Result :=
  .next (s.inSession path session (fun s => (s, .heartbeat session)))

/-- KEY_UPDATE (R442). -/
def execKeyUpdate (path : MgmtPath) (session : Nat) (s : State) : Result :=
  .next (s.inSession path session (fun s => ({ s with rmc := s.rmc.updSession session (fun x => { x with updates := x.updates + 1 }) }, .keyUpdate session)))

/-- IDE_KM (R358, R442): 0 query, 1 the keys programmed, 2 the stream set going, 3 the stream stopped. It comes on DOE mailbox 1
in a secure session of the port. -/
def execIdeKm (port : Fin 4) (session : Nat) (op : BitVec 2) (s : State) : Result :=
  let ok := (s.rmc.sessions.find? (fun (x : SpdmSession) => x.id == session && x.path == .doe port 0)).any (fun (x : SpdmSession) => x.established)
  .next (if s.portServes port = false ∨ s.rmc.recovery = true then s
    else if ok = false then s.emit (.spdm (.doe port 1) .sessionRequired)
    else
      let s := s.updHp port.val (fun h =>
        if op = 1 then { h with ideKeyed := true } else if op = 2 then { h with ideSecure := h.ideKeyed } else if op = 3 then { h with ideSecure := false } else h)
      s.emit (.spdm (.doe port 1) (.ideKm port op)))

/-- DOE_DISCOVERY (R358). -/
def execDoeDiscovery (port : Fin 4) (mailbox : Fin 2) (s : State) : Result :=
  .next (if s.portServes port then s.emit (.doe port (if mailbox = 0 then [0, 1, 2] else [0, 3])) else s)

/-! ## Telemetry totals (R455, R456) -/

/-- A counter of R456: its number in the order of the table, the value at which it saturates, and its value in each unit. -/
abbrev Counter := Nat × Nat × List (Nat × Nat)

/-- The counters of arrays and routers. -/
def State.siteCounters (s : State) : List Counter :=
  let of_ (f : Site → Nat) : List (Nat × Nat) := (s.sites.filter (fun (e : Nat × Site) => decide (e.1 < 65536))).map (fun (e : Nat × Site) => (e.1, f e.2))
  let m32 := 2 ^ 32 - 1
  let m16 := 2 ^ 16 - 1
  [(0, m32, of_ (fun a => a.spad.conflict.toNat)), (1, m32, of_ (fun a => a.spad.agePromote.toNat)),
   (2, m16, of_ (fun a => a.spad.corrected.toNat)), (3, m32, of_ (fun a => a.vx.permCount.toNat)),
   (4, m32, of_ (fun a => a.dma[0].indexSkips.toNat)), (5, m32, of_ (fun a => a.dma[1].indexSkips.toNat)),
   (6, m16, of_ (fun a => a.ws.refetches.toNat)), (7, m32, of_ (fun a => a.rt.combined.toNat)),
   (8, m32, of_ (fun a => a.rt.unrolls.toNat)), (9, m32, of_ (fun a => a.rt.agePromote.toNat)),
   (10, m16, of_ (fun a => a.rt.dropSluice.toNat)), (11, m16, of_ (fun a => a.rt.dropReduce.toNat)),
   (12, m16, of_ (fun a => a.rt.dropConverted.toNat)), (13, m16, of_ (fun a => a.rt.corrected.toNat))]

/-- The counters of stack controllers. -/
def State.stackCounters (s : State) : List Counter :=
  let of_ (f : Stack → Nat) : List (Nat × Nat) := s.hbms.map (fun (e : Nat × Stack) => (e.1, f e.2))
  let m32 := 2 ^ 32 - 1
  let m16 := 2 ^ 16 - 1
  [(14, m32, of_ (fun a => a.joined.toNat)), (15, m32, of_ (fun a => a.atomicCount.toNat)),
   (16, m16, of_ (fun a => a.corrected.toNat)), (17, m16, of_ (fun a => a.lost.toNat)), (42, 255, of_ (fun a => a.unpop.toNat))]

/-- The counters of port complexes, fabric ports and ACUs. -/
def State.pcCounters (s : State) : List Counter :=
  let of_ (f : Pc → Nat) : List (Nat × Nat) := s.pcs.map (fun (e : Nat × Pc) => (e.1, f e.2))
  let acus (f : Acu → Nat) : List (Nat × Nat) := (List.range 12).map (fun k => (k, f (s.acu k)))
  let m32 := 2 ^ 32 - 1
  let m16 := 2 ^ 16 - 1
  [(18, m16, of_ (fun c => c.red.discMesh.toNat)), (19, m16, of_ (fun c => c.red.discExcess.toNat)), (20, m16, of_ (fun c => c.red.discFabric.toNat)),
   (21, m32, of_ (fun c => c.red.checks.toNat)), (22, m32, of_ (fun c => c.red.passes.toNat)),
   (23, m32, of_ (fun c => c.ue.tasks.toNat)), (24, m16, of_ (fun c => c.ue.skips.toNat)), (25, m16, of_ (fun c => c.ue.noTouch.toNat)),
   (26, m16, of_ (fun c => c.disp.stale.toNat)), (27, m16, of_ (fun c => c.disp.dropped.toNat)), (28, m16, of_ (fun c => c.disp.bad.toNat)),
   (29, m16, of_ (fun c => c.disp.discard.toNat)), (30, m16, s.ports.map (fun (e : Nat × Port) => (e.1, e.2.replays.toNat))),
   (31, m16, acus (fun a => a.fbRuns.toNat)), (32, m16, acus (fun a => a.corrupts.toNat)), (33, m32, acus (fun a => a.refetch.toNat))]

/-- The counters of store controllers and host ports. -/
def State.edgeCounters (s : State) : List Counter :=
  let bays (f : Bay → Nat) : List (Nat × Nat) := s.bays.map (fun (e : Nat × Bay) => (e.1, f e.2))
  let hps (f : HostPort → Nat) : List (Nat × Nat) := s.hps.map (fun (e : Nat × HostPort) => (e.1, f e.2))
  let m16 := 2 ^ 16 - 1
  [(34, m16, bays (fun b => b.retries.toNat)), (35, m16, bays (fun b => b.relocated.toNat)), (36, m16, bays (fun b => b.poisoned.toNat)),
   (37, m16, bays (fun b => b.lostPages.toNat)), (38, m16, hps (fun h => h.ur.toNat)), (39, m16, hps (fun h => h.ctoCount.toNat)),
   (40, m16, hps (fun h => h.partialCount.toNat)), (41, 2 ^ 32 - 1, hps (fun h => h.evtLost.toNat))]

/-- Every counter. -/
def State.counters (s : State) : List Counter := s.siteCounters ++ s.stackCounters ++ s.pcCounters ++ s.edgeCounters

/-- The sensors of R456's last row, by number, with their readings in each unit: ISL.TEMP.MAX, HBM.TEMP, STORE.STATE's TEMP and PCT_USED,
VOLT_CV, POWER_HW and FEEDS of MODULE.PWR_STAT, and the coolant's flow, inlet and outlet. -/
def State.readings (s : State) : List (Nat × List (Nat × Nat)) :=
  let one (v : Nat) : List (Nat × Nat) := [(0, v)]
  [(43, (s.sites.filter (fun (e : Nat × Site) => decide (e.1 < 65536))).map (fun e => (e.1, e.2.isl.maxC.toNat))),
   (44, s.hbms.map (fun e => (e.1, e.2.celsius.toNat))), (45, s.bays.map (fun e => (e.1, e.2.celsius.toNat))),
   (46, s.bays.map (fun e => (e.1, (e.2.ofCart 0 (fun c => c.pctUsed)).toNat))), (47, one s.power.voltCv.toNat), (48, one s.power.powerHw.toNat),
   (49, one ((List.range 8).map (fun f => b2n (s.power.feedOk f) * 2 ^ f)).sum),
   (50, one s.power.coolant[0].toNat), (51, one s.power.coolant[1].toNat), (52, one s.power.coolant[2].toNat)]

/-- Number of a total: counter and unit. -/
def totalNo (counter unit : Nat) : Nat := counter * 2 ^ 32 + unit

/-- A sample taken into a total: the change since the last one; the new value where the counter was cleared; the saturation
value where it saturated. -/
def Total.sample (t : Total) (sat v : Nat) : Total :=
  let hit := v = sat ∧ t.last ≠ sat
  let d := if hit then sat else if v < t.last then v else v - t.last
  { last := v, total := t.total + BitVec.ofNat 64 d, saturated := t.saturated || decide hit }

/-- TELEMETRY_SAMPLE (R455): a sideband read, which clears nothing. -/
def execTelemetrySample (s : State) : Result :=
  let upd (t : Tbl Total) (c : Counter) : Tbl Total :=
    c.2.2.foldl (fun t u => Tbl.set t (totalNo c.1 u.1) ((Tbl.get (fun _ => {}) t (totalNo c.1 u.1)).sample c.2.1 u.2)) t
  .next { s with rmc := { s.rmc with totals := s.counters.foldl upd s.rmc.totals } }

/-! ## PLDM (R439, R453, R454, R474) -/

/-- The RMC answers PLDM on the management port, and on MCTP over PCIe and I3C, or I2C before an address is assigned (R453, R474). -/
def State.pldmPath (s : State) : MgmtPath → Bool
  | .eth => !s.power.allLost
  | .mctpPcie k => s.portServes k
  | .mctpI3c => !s.power.allLost && s.rmc.i3cAddr.isSome
  | .mctpI2c => !s.power.allLost && s.rmc.i3cAddr.isNone
  | .doe _ _ => false

/-- The state that a domain's sensor shows (PldmAnswer.state). -/
def State.domainState (s : State) (u : UnitId) : Nat :=
  if s.unitFenced u then (if s.rmc.tests u.no then 5 else 4)
  else match u with
    | .site k => match (s.site k.key).isl.state.toNat with | 0 => 0 | 3 => 2 | 4 => 3 | 5 => 4 | _ => 1
    | u => s.powerView u

/-- Totals of a counter, for one unit or all. -/
def Rmc.sum (r : Rmc) (counter : Nat) (unit : Option Nat) : W64 × Bool :=
  (r.totals.filter (fun (e : Nat × Total) => match unit with
    | some u => e.1 == totalNo counter u
    | none => e.1 / 2 ^ 32 == counter)).foldl (fun (v : W64 × Bool) (e : Nat × Total) => (v.1 + e.2.total, v.2 || e.2.saturated)) (0, false)

/-- A numeric sensor's value, for one unit or summed over the module: a reading, or a telemetry total. -/
def State.sensor (s : State) (c : Nat) (unit : Option Nat) : W64 × Bool :=
  match s.readings.find? (fun r => r.1 == c) with
  | some r => (BitVec.ofNat 64 ((r.2.filter (fun e => match unit with | some u => e.1 == u | none => true)).map (fun e => e.2)).sum, false)
  | none => s.rmc.sum c unit

/-- The event of a SEQ in the RMC's flash log. -/
def FaultRegs.logged (f : FaultRegs) (seq : W64) : Option Event := f.log.find? (fun (e : Event) => e.seq == seq)

/-- PLDM_PLATFORM (R454): a sensor, a state, or the oldest event not collected, which is then collected (R474); or a record of the event
log, which the management port alone carries (R453). In recovery mode Type 2 is absent (R453). -/
def execPldmPlatform (path : MgmtPath) (request : PldmRequest) (s : State) : Result :=
  .next (if s.pldmPath path = false then s
    else if s.rmc.recovery then s.emit (.pldm path .unsupported)
    else match request with
      | .sensor c u =>
        let v := s.sensor c u
        s.emit (.pldm path (.sensor c u v.1 v.2))
      | .repository => s.emit (.pldm path (.repository s.rmc.pdrImage))
      | .state u => s.emit (.pldm path (.state u (match u with | some u => s.domainState u | none => s.sec.lc.toNat)))
      | .event =>
        let ev := s.rmc.uncollected.head?
        { s with rmc := { s.rmc with uncollected := s.rmc.uncollected.drop 1 } }.emit (.pldm path (.event ev))
      | .log seq => s.emit (.pldm path (if path = .eth then .log (s.fault.logged seq) else .unsupported)))

/-- PLDM_MESSAGING_CONTROL (R453, R454). -/
def execPldmMessagingControl (path : MgmtPath) (s : State) : Result :=
  .next (if s.pldmPath path then s.emit (.pldm path (.types (if s.rmc.recovery then [0, 5] else [0, 2, 5]))) else s)

/-- SIGNED_BYTES of a firmware object. -/
def fwSigned (b : List Byte) : Nat := bytesAt b 32 8

/-- The header of a firmware object obeys R439 for a unit. -/
def fwHeaderOk (b : List Byte) (n : Nat) : Bool :=
  bytesAt b 0 4 == 0x314d5746 && bytesAt b 4 2 == 1 && bytesAt b 6 2 == 0 && bytesAt b 8 2 == 0x4060 && allZero ((b.drop 10).take 22)
    && decide (256 ≤ fwSigned b) && fwSigned b % 64 == 0 && b.length == fwSigned b + 1024 && allZero ((b.drop 40).take 16) && bytesAt b 56 1 == fwClass n
    && decide (bytesAt b 58 1 < 2) && allZero ((b.drop 60).take 196)

/-- The slot of the vendor firmware key under which an object verifies, if one does that is not revoked. -/
def Sec.fwSlot (c : Sec) (b : List Byte) : Option Nat :=
  let n := fwSigned b
  (List.range 4).find? (fun i => !bit c.fwRevoked i
    && signedBy [(Config.vendorFwModulus i, 65537)] ((b.drop n).take 64) (b.take n) ((b.drop (n + 64)).take 512))

/-- The copy that an object makes (R439, R443). Its version is a free value: the header has no field for it. -/
def fwCopyOf (b : List Byte) (n slot : Nat) (version : W64) : FwCopy :=
  let svn := (b.drop 57).headD 0
  { version := version.setWidth 24, svn := svn, commit := bytesAt b 58 1 % 2 == 1, revoke := (b.drop 59).headD 0
    digest := sha512 (b.take (fwSigned b) ++ (if n = 0 then [svn] else [])), slot := BitVec.ofNat 2 slot }

/-- PLDM_FW_UPDATE (R430, R439, R454): an object written to a unit's inactive copy, which is verified. -/
def execPldmFwUpdate (path : MgmtPath) (unit : Fin 217) (object : List Byte) (s : State) : Result :=
  let n := unit.val
  .next (if s.pldmPath path then
      let (v, s) := s.draw
      let slot := s.sec.fwSlot object
      let c := { fwCopyOf object n (slot.getD 0) v with usable := fwHeaderOk object n && slot.isSome }
      let ok := s.sec.fwAllowed n c
      let s := s.updFw n (fun u => if u.activeB then { u with a := c, inactiveOk := ok } else { u with b := c, inactiveOk := ok })
      s.emit (.pldm path (.firmware n ok))
    else s)

/-- DYNAMIC_ADDRESS_ASSIGN (R474): from now on the RMC answers as an I3C target alone. -/
def execDynamicAddressAssign (address : BitVec 7) (s : State) : Result := .next { s with rmc := { s.rmc with i3cAddr := some address } }

/-! ## JTAG (R463, R464) -/

/-- A unit has a scan chain that the TAP reaches: arrays and controllers have (R444, R463). -/
def hasScan : UnitId → Bool
  | .host _ => false
  | _ => true

/-- JTAG_SCAN_SELECT (R464): the chain of a fenced unit selected or deselected. The unit's domain is powered for scan, its ports
stay blocked, and it stays fenced. -/
def execJtagScanSelect (unit : UnitId) (select : Bool) (s : State) : Result :=
  .next (if select then (if s.sec.scanOpen && s.unitFenced unit && hasScan unit then s.scanTo (some unit.no) else s)
    else if s.rmc.scan = some unit.no then s.scanTo none else s)

end Sys2Proof.Machine
end

