-- ==== Sys2Proof/Machine/UnitRegs.lean ====
section
/-! DEFINITION. Machine/UnitRegs.lean: the registers of a stack controller, an ACU, a port complex, a store controller and a
host port (R199, R227, R228, R233, R250, R255, R271, R312, R313, R339, R360). A field's own range rule refuses the write of
that field only (DEDUCED 52). A write that clears the VALID or ENABLE of words locked while it is 1 is taken whole
(DEDUCED 53). -/

namespace Sys2Proof.Machine

/-- A register that is one word: read by get, and written by put with the bits of mask. -/
def wordReg (mask : Nat) (get : State → W64) (put : W64 → State → State) : Reg :=
  reg [rw 0 64 (fun s => (get s).toNat) (fun v => put (BitVec.ofNat 64 (v &&& mask)))]

/-- A counter of n bits that a read clears. -/
def rcCount (lo len : Nat) (get : State → BitVec len) (clear : State → State) : RegField :=
  rc lo len (fun s => (get s).toNat) (fun _ => clear)

/-- A field that takes only the values of a range. -/
def rwIn (lo len least greatest : Nat) (get : State → Nat) (put : Nat → State → State) : RegField :=
  rw lo len get (fun v s => if least ≤ v ∧ v ≤ greatest then put v s else s)

/-! ## HBM (R190, R199) -/

/-- BANK_STATE of R199. -/
def BankState.code : BankState → Nat
  | .on => 0
  | .draining => 1
  | .retain => 2
  | .off => 3
  | .opening => 4

/-- Value of HBM.PWR_STAT.BANK_STATE. -/
def Stack.bankWord (a : Stack) : Nat := ((List.range 8).map (fun b => (vget .on a.banks b).code * 8 ^ b)).sum

/-- A write of HBM.PWR_CTL. While the domain is off the RMC takes only a request for ON of the whole stack (R190). -/
def State.pwrCtl (s : State) (st v : Nat) : State :=
  let whole := bitsOf v 3 1 == 1
  let dark := (s.stack st).dark
  match bitsOf v 4 2 with
  | 0 =>
    if dark then (if whole then s.rmcStackOn st else s)
    else s.powerRequest st whole (Fin.ofNat 8 v) .on
  | 1 => if dark then s else s.powerRequest st whole (Fin.ofNat 8 v) .retain
  | 2 => if dark then s else s.powerRequest st whole (Fin.ofNat 8 v) .off
  | _ => s

/-- A cached range replaced. -/
def Stack.updRange (a : Stack) (n : Nat) (f : CacheRange → CacheRange) : Stack :=
  { a with cacheRange := vset a.cacheRange n (f (vget {} a.cacheRange n)) }

/-- Registers of stack st that the RMC also serves while the domain is off: it then takes no write but that of HBM.PWR_CTL (R190). -/
def stackAlways (st off : Nat) : Option Reg :=
  if off = 0 then some (reg [
    ro 0 8 (fun _ => st), ro 8 1 (fun _ => st % 48 / 24), ro 9 5 (fun _ => st % 24), ro 16 8 (fun _ => 128)])
  else if off = 0x18 then some (reg [ro 0 17 (fun s => (s.stack st).tempWord)])
  else if off = 0x28 then some (reg [wo 0 6 (fun v s => s.pwrCtl st v)])
  else if off = 0x30 then some (reg [
    ro 0 24 (fun s => (s.stack st).bankWord), ro 24 2 (fun s => (s.stack st).stackState.toNat),
    w1bit 26 (fun s => (s.stack st).refused) (fun s => if (s.stack st).dark then s else s.updStack st (fun a => { a with refused := false })),
    rcCount 32 16 (fun s => (s.stack st).lost) (fun s => s.updStack st (fun a => { a with lost := 0 }))])
  else none

/-- The other registers of stack st. -/
def stackOn (st off : Nat) : Option Reg :=
  if off = 8 then some (reg [
    rwIn 0 11 0 1024 (fun s => (s.stack st).window.toNat) (fun v s => s.updStack st (fun a => { a with window := BitVec.ofNat 11 v })),
    rcCount 32 32 (fun s => (s.stack st).joined) (fun s => s.updStack st (fun a => { a with joined := 0 }))])
  else if off = 0x10 then some (reg [
    ro 0 14 (fun s => (s.stack st).readsInUse), ro 16 13 (fun s => (s.stack st).linesInUse),
    ro 32 7 (fun s => (s.stack st).entries.length)])
  else if off = 0x20 then some (reg [
    rwIn 0 3 0 4 (fun s => (s.stack st).floor.toNat) (fun v s => s.updStack st (fun a => { a with floor := BitVec.ofNat 3 v })),
    rwIn 8 4 1 8 (fun s => (s.stack st).hyst.toNat) (fun v s => s.updStack st (fun a => { a with hyst := BitVec.ofNat 4 v }))])
  else if 0x40 ≤ off ∧ off < 0xc0 then
    let n := (off - 0x40) / 16
    let get (s : State) : CacheRange := vget {} (s.stack st).cacheRange n
    if off % 16 = 0 then some (reg [
      rw 0 1 (fun s => b2n (get s).enable) (fun v s => s.updStack st (fun a => a.updRange n (fun r => { r with enable := v == 1 }))),
      rw 20 17 (fun s => (get s).base.toNat) (fun v s => s.updStack st (fun a => a.updRange n (fun r => { r with base := BitVec.ofNat 17 v })))])
    else some (reg [
      rw 20 18 (fun s => (get s).bound.toNat) (fun v s => s.updStack st (fun a => a.updRange n (fun r => { r with bound := BitVec.ofNat 18 v })))])
  else if off = 0xc0 then some (reg [
    w1bit 0 (fun s => (s.stack st).atomicNan) (fun s => s.updStack st (fun a => { a with atomicNan := false })),
    w1bit 1 (fun s => (s.stack st).atomicInf) (fun s => s.updStack st (fun a => { a with atomicInf := false })),
    rcCount 32 32 (fun s => (s.stack st).atomicCount) (fun s => s.updStack st (fun a => { a with atomicCount := 0 }))])
  else if off = 0xc8 then some (reg [
    rcCount 0 16 (fun s => (s.stack st).corrected) (fun s => s.updStack st (fun a => { a with corrected := 0 })),
    w1bit 16 (fun s => (s.stack st).ue) (fun s => s.updStack st (fun a => { a with ue := false })),
    ro 17 31 (fun s => (s.stack st).ueAddr.toNat),
    rcCount 48 8 (fun s => (s.stack st).unpop) (fun s => s.updStack st (fun a => { a with unpop := 0 }))])
  else none

/-- The register of stack st at an offset, as the stack's state has it served (R190, R199). -/
def State.stackReg (s : State) (st off : Nat) : Option Reg :=
  match stackAlways st off with
  | some r => some r
  | none => if (s.stack st).dark then none else stackOn st off

/-! ## ACU (R227, R228) -/

/-- Registers of ACU k. -/
def acuRegs (k off : Nat) : Option Reg :=
  let get (f : Acu → Nat) (s : State) : Nat := f (s.acu k)
  let upd (f : Nat → Acu → Acu) (v : Nat) (s : State) : State := s.updAcu k (f v)
  if off = 0 then some (reg [
    rw 0 1 (get (fun a => b2n a.enable)) (fun v s => (s.updAcu k (fun a => { a with enable := v == 1 })).acuSweep k),
    rw 1 1 (get (fun a => b2n a.fbEn)) (upd (fun v a => { a with fbEn := v == 1 })),
    rw 2 1 (get (fun a => b2n a.fbForce)) (upd (fun v a => { a with fbForce := v == 1 }))])
  else if off = 8 then some (reg [rwIn 0 6 1 32 (get (fun a => a.fbHi.toNat)) (upd (fun v a => { a with fbHi := BitVec.ofNat 6 v }))])
  else if off = 0x10 then some (reg [ro 0 32 (get (fun a => a.backlog))])
  else if off = 0x18 then some (reg [
    w1bit 0 (fun s => (s.acu k).corrupt) (fun s => s.updAcu k (fun a => { a with corrupt := false })),
    w1bit 1 (fun s => (s.acu k).setRefused) (fun s => s.updAcu k (fun a => { a with setRefused := false })),
    ro 8 8 (get (fun a => a.firstSet.toNat)), ro 16 8 (get (fun a => a.firstRow.toNat)), ro 24 8 (get (fun a => a.firstCol.toNat)),
    ro 32 8 (get (fun a => a.firstBlock.toNat)), ro 40 3 (get (fun a => a.reason.toNat))])
  else if off = 0x20 then some (reg [
    rcCount 0 16 (fun s => (s.acu k).fbRuns) (fun s => s.updAcu k (fun a => { a with fbRuns := 0 })),
    rcCount 16 16 (fun s => (s.acu k).corrupts) (fun s => s.updAcu k (fun a => { a with corrupts := 0 })),
    rcCount 32 32 (fun s => (s.acu k).refetch) (fun s => s.updAcu k (fun a => { a with refetch := 0 }))])
  else if 0x1000 ≤ off ∧ off < 0x3000 then
    let n := (off - 0x1000) / 32
    let j := (off - 0x1000) % 32 / 8
    some (wordReg (acuSetMask j).toNat (fun s => (s.acu k).setWord n j) (fun v s => s.acuSetWrite k n j v))
  else none

/-! ## Reduction (R233, R250) -/

/-- Bits of a job's word that a write sets (R233). -/
def jobMask (w : Nat) : Nat :=
  match w with
  | 0 => 0xffffffffff0f03fe
  | 1 => 0xffffffff3fff3fff
  | 2 => 0x0001ffff0001ffff
  | 3 => 0x0000ffffffffffff
  | 4 => 0x0000ffffffffffff
  | 5 => 0x007fffffffffffff
  | _ => 0

/-- STATE of a job. -/
def JobState.code : JobState → Nat
  | .closed => 0
  | .opened => 1
  | .running => 2
  | .held => 3
  | .aborted => 4

/-- A word of a job table entry as it reads (R233). -/
def Job.read (x : Job) (w : Nat) : W64 :=
  match w with
  | 0 => vget 0 x.w 0 ||| BitVec.ofNat 64 (if x.st = .closed then 0 else 1)
  | 4 => vget 0 x.w 4 ||| BitVec.ofNat 64 (x.squashed.toNat * 2 ^ 48)
  | 6 => BitVec.ofNat 64 (x.pass.toNat + x.round.toNat * 2 ^ 32 + x.st.code * 2 ^ 48 + b2n x.nonfinite * 2 ^ 51
      + b2n x.checkFail * 2 ^ 52 + b2n x.first.isSome * 2 ^ 53)
  | 7 => match x.first with
    | some (m, e) => BitVec.ofNat 64 (m % 2 ^ 14 + e % 2 ^ 40 * 2 ^ 16)
    | none => 0
  | _ => vget 0 x.w w

/-- A write of a word of a job table entry: only while VALID is 0 (R233). -/
def State.jobWrite (s : State) (q j w : Nat) (v : W64) : State :=
  if (s.job q j).st = .closed ∧ w < 6 then s.updJob q j (fun x => { x with w := vset x.w w v }) else s

/-- A write of PC.RED_CMD (R234, R250). -/
def State.redCmd (s : State) (q v : Nat) : State :=
  let j := bitsOf v 0 12
  match bitsOf v 12 3 with
  | 1 => s.redResult q j (s.redOpen q j)
  | 2 => s.redResult q j (s.redStart q j)
  | 3 => s.redResult q j (s.redClose q j)
  | 4 => s.redResult q j (s.redAbort q j)
  | _ => s

/-- The reduction registers of port complex q. BUSY reads 0: a command runs whole within its write. -/
def redRegs (q off : Nat) : Option Reg :=
  let get (f : Red → Nat) (s : State) : Nat := f (s.pc q).red
  if off = 0 then some (reg [
    rw 0 1 (get (fun r => b2n r.enable)) (fun v s => s.updRed q (fun r => { r with enable := v == 1 })),
    rwIn 16 16 100 65535 (get (fun r => r.shortfallUs.toNat)) (fun v s => s.updRed q (fun r => { r with shortfallUs := BitVec.ofNat 16 v }))])
  else if off = 8 then some (reg [wo 0 15 (fun v s => s.redCmd q v)])
  else if off = 0x10 then some (reg [ro 1 3 (get (fun r => r.result.toNat)), ro 4 12 (get (fun r => r.cmdJob.toNat))])
  else if off = 0x18 then some (reg [
    ro 0 13 (get (fun r => r.jobs.countP (fun e => e.2.st != .closed))),
    w1bit 13 (fun s => (s.pc q).red.nonfinite) (fun s => s.updRed q (fun r => { r with nonfinite := false })),
    w1bit 14 (fun s => (s.pc q).red.checkMismatch) (fun s => s.updRed q (fun r => { r with checkMismatch := false })),
    w1bit 15 (fun s => (s.pc q).red.shortfall) (fun s => s.updRed q (fun r => { r with shortfall := false })),
    ro 16 12 (get (fun r => r.firstJob.toNat))])
  else if off = 0x20 then some (reg [
    rcCount 0 16 (fun s => (s.pc q).red.discMesh) (fun s => s.updRed q (fun r => { r with discMesh := 0 })),
    rcCount 16 16 (fun s => (s.pc q).red.discExcess) (fun s => s.updRed q (fun r => { r with discExcess := 0 })),
    rcCount 32 16 (fun s => (s.pc q).red.discFabric) (fun s => s.updRed q (fun r => { r with discFabric := 0 }))])
  else if off = 0x28 then some (reg [
    rcCount 0 32 (fun s => (s.pc q).red.checks) (fun s => s.updRed q (fun r => { r with checks := 0 })),
    rcCount 32 32 (fun s => (s.pc q).red.passes) (fun s => s.updRed q (fun r => { r with passes := 0 }))])
  else none

/-! ## Update engines (R255, R271) -/

/-- BUSY of UE.STAT. -/
def State.ueBusy (s : State) (q : Nat) : Nat := ((List.range 16).map (fun e => b2n (s.site (ueKey q e)).ue.active * 2 ^ e)).sum

/-- A write of UE.CMD. -/
def State.ueCmd (s : State) (q v : Nat) : State :=
  if bitsOf v 12 2 = 1 then nextOf s (execUeAbandon (Fin.ofNat 8 q) (BitVec.ofNat 12 v) s) else s

/-- The update engine registers of port complex q. -/
def ueCtlRegs (q off : Nat) : Option Reg :=
  let get (f : UeCtl → Nat) (s : State) : Nat := f (s.pc q).ue
  if off = 0 then some (reg [
    rw 0 32 (get (fun u => b2n u.enable + u.engines.toNat * 2 ^ 16)) (fun v s => s.ueCtlWrite q (v % 2 == 1) (BitVec.ofNat 16 (v / 2 ^ 16)))])
  else if off = 8 then some (reg [
    ro 0 16 (fun s => s.ueBusy q), ro 16 13 (get (fun u => u.queue.length)),
    w1bit 29 (fun s => (s.pc q).ue.entryRefused) (fun s => s.updUe q (fun u => { u with entryRefused := false })),
    w1bit 30 (fun s => (s.pc q).ue.releaseIgnored) (fun s => s.updUe q (fun u => { u with releaseIgnored := false })),
    w1bit 31 (fun s => (s.pc q).ue.schedEmpty) (fun s => s.updUe q (fun u => { u with schedEmpty := false })),
    w1bit 32 (fun s => (s.pc q).ue.noEntry) (fun s => s.updUe q (fun u => { u with noEntry := false }))])
  else if off = 0x10 then some (reg [
    rw 0 48 (get (fun u => u.schedBase.toNat)) (fun v s => s.updUe q (fun u => { u with schedBase := BitVec.ofNat 48 v }))])
  else if off = 0x18 then some (reg [wo 0 14 (fun v s => s.ueCmd q v)])
  else if off = 0x20 then some (reg [
    w1bit 0 (fun s => (s.pc q).ue.faultValid) (fun s => s.updUe q (fun u => { u with faultValid := false })),
    ro 1 2 (get (fun u => u.faultReason.toNat)), ro 3 12 (get (fun u => u.faultEntry.toNat)),
    ro 15 4 (get (fun u => u.faultShard.toNat)), ro 19 8 (get (fun u => u.faultCode.toNat))])
  else if off = 0x28 then some (reg [
    rcCount 0 32 (fun s => (s.pc q).ue.tasks) (fun s => s.updUe q (fun u => { u with tasks := 0 })),
    rcCount 32 16 (fun s => (s.pc q).ue.skips) (fun s => s.updUe q (fun u => { u with skips := 0 })),
    rcCount 48 16 (fun s => (s.pc q).ue.noTouch) (fun s => s.updUe q (fun u => { u with noTouch := 0 }))])
  else if 0x100 ≤ off ∧ off < 0x180 then
    let n := (off - 0x100) / 8
    some (wordReg (2 ^ 64 - 1) (fun s => vget 0 (s.pc q).ue.freeze n) (fun v s => s.updUe q (fun u => { u with freeze := vset u.freeze n v })))
  else none

/-! ## Dispatch engine, windows and channels (R312, R313) -/

/-- STATE of FAB.PORT_k. -/
def PortState.code : PortState → Nat
  | .down => 0
  | .training => 1
  | .up => 2
  | .disabled => 3

/-- No weight of FAB.CFG.WEIGHTS is zero. -/
def weightsOk (v : Nat) : Bool := (List.range 4).all (fun i => bitsOf v (4 * i) 4 != 0)

/-- The dispatch engine's registers of port complex q. -/
def dispRegs (q off : Nat) : Option Reg :=
  let get (f : Disp → Nat) (s : State) : Nat := f (s.pc q).disp
  let upd (f : Nat → Disp → Disp) (v : Nat) (s : State) : State := s.updDisp q (f v)
  if off = 0 then some (reg [
    rw 0 16 (get (fun d => d.weights.toNat)) (fun v s => if weightsOk v then s.updDisp q (fun d => { d with weights := BitVec.ofNat 16 v }) else s),
    rwIn 16 16 256 65535 (get (fun d => d.age.toNat)) (upd (fun v d => { d with age := BitVec.ofNat 16 v })),
    rwIn 32 8 1 255 (get (fun d => d.hb.toNat)) (upd (fun v d => { d with hb := BitVec.ofNat 8 v })),
    rw 40 8 (get (fun d => d.stragPct.toNat)) (upd (fun v d => { d with stragPct := BitVec.ofNat 8 v })),
    rwIn 48 4 1 15 (get (fun d => d.stragRounds.toNat)) (upd (fun v d => { d with stragRounds := BitVec.ofNat 4 v })),
    rw 52 12 (get (fun d => d.answer.toNat)) (upd (fun v d => { d with answer := BitVec.ofNat 12 v }))])
  else if off = 8 then some (reg [
    ro 0 30 (get (fun d => d.strag.toNat % 2 ^ 30)),
    w1bit 30 (fun s => bit (s.pc q).disp.strag 30) (fun s => s.updDisp q (fun d => { d with strag := putBit d.strag 30 false })),
    ro 32 32 (get (fun d => d.strag.toNat / 2 ^ 32))])
  else if 0x40 ≤ off ∧ off < 0xa0 then
    let n := 12 * q + (off - 0x40) / 8
    some (reg [
      rw 0 1 (fun s => b2n (s.port n).enable) (fun v s => s.portEnable n (v == 1)),
      wo 1 1 (fun v s => if v = 1 then s.portRetrain n else s),
      ro 2 2 (fun s => (s.port n).st.code), ro 8 7 (fun s => (s.port n).peerPort.toNat), ro 16 32 (fun s => (s.port n).peer.toNat),
      rcCount 48 16 (fun s => (s.port n).replays) (fun s => s.updPort n (fun p => { p with replays := 0 }))])
  else if off = 0x100 then some (reg [
    rw 0 1 (get (fun d => b2n d.enable)) (upd (fun v d => { d with enable := v == 1 })),
    rw 7 41 (get (fun d => d.layerBase.toNat / 128)) (upd (fun v d => { d with layerBase := BitVec.ofNat 48 (128 * v) }))])
  else if off = 0x108 then some (reg [
    rcCount 0 16 (fun s => (s.pc q).disp.stale) (fun s => s.updDisp q (fun d => { d with stale := 0 })),
    rcCount 16 16 (fun s => (s.pc q).disp.dropped) (fun s => s.updDisp q (fun d => { d with dropped := 0 })),
    rcCount 32 16 (fun s => (s.pc q).disp.bad) (fun s => s.updDisp q (fun d => { d with bad := 0 })),
    rcCount 48 16 (fun s => (s.pc q).disp.discard) (fun s => s.updDisp q (fun d => { d with discard := 0 }))])
  else if off = 0x110 then some (reg [
    w1bit 13 (fun s => (s.pc q).disp.winRefused) (fun s => s.updDisp q (fun d => if d.winBusy then d else { d with winRefused := false })),
    wo 0 12 (fun v s => s.updDisp q (fun d => d.winCmd (bitsOf v 0 10) (bitsOf v 10 2))),
    ro 12 1 (get (fun d => b2n d.winBusy))])
  else none

/-- STATE of a window. -/
def WinState.code : WinState → Nat
  | .closed => 0
  | .opened => 1
  | .closing => 2

/-- A field of a window that is written only while it is CLOSED. -/
def winRw (q n len : Nat) (get : Win → BitVec len) (put : BitVec len → Win → Win) : RegField :=
  rw 0 len (fun s => (get ((s.pc q).disp.win n)).toNat)
    (fun v s => if ((s.pc q).disp.win n).st = .closed then s.updDisp q (fun d => d.updWin n (put (BitVec.ofNat len v))) else s)

/-- Word j of window n. -/
def winReg (q n j : Nat) : Reg :=
  match j with
  | 0 => reg [ro 0 2 (fun s => ((s.pc q).disp.win n).st.code)]
  | 1 => reg [winRw q n 32 (fun w => w.epoch) (fun v w => { w with epoch := v })]
  | 2 => reg [winRw q n 48 (fun w => w.base) (fun v w => { w with base := v })]
  | _ => reg [winRw q n 40 (fun w => w.size) (fun v w => { w with size := v }),
    rcCount 48 16 (fun s => ((s.pc q).disp.win n).refused) (fun s => s.updDisp q (fun d => d.updWin n (fun w => { w with refused := 0 })))]

/-- Bits of a channel's word that a write sets. -/
def chanMask (j : Nat) : Nat :=
  match j with
  | 0 => 0x7ffffffffff
  | 1 => 0xffffffff
  | 2 => 0xffffffffffff
  | _ => 0xffffffffffffffff

/-- A write of word j of channel n (R313). -/
def Disp.chanWrite (d : Disp) (n j : Nat) (v : W64) : Disp :=
  let c := d.chan n
  if c.field 0 42 1 = 1 ∧ j ≠ 1 ∧ ¬(j = 0 ∧ bit v 42 = false) then d
  else { d with chans := Tbl.set d.chans n { c with w := vset c.w j v } }

/-- The counters of channel n cleared. -/
def Disp.updChan (d : Disp) (n : Nat) (f : Chan → Chan) : Disp := { d with chans := Tbl.set d.chans n (f (d.chan n)) }

/-- Word j of channel n. -/
def chanReg (q n j : Nat) : Option Reg :=
  if j < 4 then some (wordReg (chanMask j) (fun s => vget 0 ((s.pc q).disp.chan n).w j) (fun v s => s.updDisp q (fun d => d.chanWrite n j v)))
  else if j = 4 then some (reg [
    rcCount 0 16 (fun s => ((s.pc q).disp.chan n).closed) (fun s => s.updDisp q (fun d => d.updChan n (fun c => { c with closed := 0 }))),
    rcCount 16 16 (fun s => ((s.pc q).disp.chan n).range) (fun s => s.updDisp q (fun d => d.updChan n (fun c => { c with range := 0 })))])
  else none

/-! ## A port complex's block (R229, R254, R312, R313) -/

/-- The register at an offset of port complex q's block. -/
def pcReg (q off : Nat) : Option Reg :=
  if off < 0x800000 then redRegs q off
  else if off < 0x840000 then
    let j := (off - 0x800000) / 64
    let w := (off - 0x800000) % 64 / 8
    some (wordReg (jobMask w) (fun s => (s.job q j).read w) (fun v s => s.jobWrite q j w v))
  else if off < 0x1000000 then none
  else if off < 0x2000000 then acuRegs (4 + q) (off - 0x1000000)
  else if off < 0x2080000 then
    let n := (off - 0x2000000) / 128
    let w := (off - 0x2000000) % 128 / 8
    if w < 12 then some (wordReg (2 ^ 64 - 1) (fun s => (s.layer q n).read w) (fun v s => s.layerWrite q n w v)) else none
  else if off < 0x20c0000 then none
  else if off < 0x3000000 then ueCtlRegs q (off - 0x20c0000)
  else if off < 0x3100000 then csrReg none (ueKey q ((off - 0x3000000) / 65536)) (off % 65536)
  else if off < 0x4000000 then none
  else if off < 0x4100000 then dispRegs q (off - 0x4000000)
  else if off < 0x4108000 then some (winReg q ((off - 0x4100000) / 32) (off % 32 / 8))
  else if off < 0x4180000 then none
  else if off < 0x4182000 then some (reg [ro 32 16 (fun s => ((s.pc q).disp.win ((off - 0x4180000) / 8)).committed.toNat)])
  else if off < 0x4200000 then none
  else if off < 0x4204000 then chanReg q ((off - 0x4200000) / 64) (off % 64 / 8)
  else none

/-! ## Store (R339) -/

/-- A write of STORE.CMD. -/
def State.storeOp (s : State) (n v : Nat) : State :=
  let b := Fin.ofNat 16 n
  match v with
  | 1 => nextOf s (execFormat b s)
  | 2 => nextOf s (execMount b s)
  | 3 => nextOf s (execUnmount b s)
  | 4 => nextOf s (execHarvestOpen b s)
  | 5 => nextOf s (execHarvestCommit b s)
  | 6 => nextOf s (execHarvestDrop b s)
  | 7 => nextOf s (execSanitize b s)
  | 8 => nextOf s (execTrim b s)
  | _ => s

/-- A field of the cartridge in bay n, 0 for none. -/
def State.cartField (s : State) (n : Nat) (f : Cart → Nat) : Nat := ((s.bay n).cart.map f).getD 0

/-- A destination range replaced. -/
def Bay.updDst (b : Bay) (n : Nat) (f : HbmRange → HbmRange) : Bay := { b with dst := vset b.dst n (f (vget {} b.dst n)) }

/-- Registers of bay n. -/
def storeReg (n off : Nat) : Option Reg :=
  let get (f : Bay → Nat) (s : State) : Nat := f (s.bay n)
  let upd (f : Nat → Bay → Bay) (v : Nat) (s : State) : State := s.updBay n (f v)
  if off = 0 then some (reg [
    ro 0 4 (fun _ => n), ro 4 1 (get (fun b => b2n b.cart.isSome)), ro 5 1 (fun s => s.cartField n (fun c => b2n c.metadata)),
    ro 32 32 (fun s => s.cartField n (fun c => c.serial.toNat))])
  else if off = 8 then some (reg [rw 0 1 (get (fun b => b2n b.automount)) (upd (fun v b => { b with automount := v == 1 }))])
  else if off = 0x10 then some (reg [ro 0 64 (get (fun b => b.stateWord.toNat))])
  else if off = 0x18 then some (reg [wo 0 4 (fun v s => s.storeOp n v)])
  else if 0x20 ≤ off ∧ off < 0x38 then
    let i := (off - 0x20) / 8
    some (wordReg (2 ^ 64 - 1) (fun s => vget 0 (s.bay n).args i) (fun v s => s.updBay n (fun b => { b with args := vset b.args i v })))
  else if off = 0x38 then some (reg [ro 0 1 (get (fun b => b2n (b.cmd != 0))), ro 1 3 (get (fun b => b.result.toNat))])
  else if 0x40 ≤ off ∧ off < 0x58 then
    let i := (off - 0x40) / 8
    some (reg [ro 0 32 (fun s => s.cartField n (fun c => (vget 0 c.ns i).toNat)),
               ro 32 1 (fun s => s.cartField n (fun c => b2n (c.metadata && (vget 0 c.ns i != 0))))])
  else if 0x80 ≤ off ∧ off < 0x100 then
    let i := (off - 0x80) / 16
    let rget (s : State) : HbmRange := vget {} (s.bay n).dst i
    let rupd (f : HbmRange → HbmRange) (s : State) : State := s.updBay n (fun b => b.updDst i f)
    some (reg (if off % 16 = 0 then hbmBaseFields rget rupd else hbmBoundFields rget rupd))
  else if off = 0x100 then some (reg [
    w1c 0 5 (get (fun b => b.stat.toNat)) (fun m s => s.updBay n (fun b => { b with stat := BitVec.ofNat 5 (clearBits b.stat.toNat m) })),
    ro 5 3 (get (fun b => b.statFirst.toNat))])
  else if off = 0x108 then some (reg [
    rcCount 0 16 (fun s => (s.bay n).retries) (fun s => s.updBay n (fun b => { b with retries := 0 })),
    rcCount 16 16 (fun s => (s.bay n).relocated) (fun s => s.updBay n (fun b => { b with relocated := 0 })),
    rcCount 32 16 (fun s => (s.bay n).poisoned) (fun s => s.updBay n (fun b => { b with poisoned := 0 })),
    rcCount 48 16 (fun s => (s.bay n).lostPages) (fun s => s.updBay n (fun b => { b with lostPages := 0 }))])
  else if off = 0x110 then some (reg [
    rwIn 0 16 24 2000 (get (fun b => b.checkH.toNat)) (upd (fun v b => { b with checkH := BitVec.ofNat 16 v })),
    rwIn 16 8 20 90 (get (fun b => b.refreshPct.toNat)) (upd (fun v b => { b with refreshPct := BitVec.ofNat 8 v })),
    rwIn 24 16 168 730 (get (fun b => b.refreshAgeH.toNat)) (upd (fun v b => { b with refreshAgeH := BitVec.ofNat 16 v })),
    rwIn 40 16 100 2000 (get (fun b => b.wlSpread.toNat)) (upd (fun v b => { b with wlSpread := BitVec.ofNat 16 v }))])
  else if 0x200 ≤ off ∧ off < 0x280 then
    let i := (off - 0x200) / 8
    some (reg [ro 0 32 (fun s => s.cartField n (fun c => (vget {} c.slots i).gen.toNat)),
               ro 32 3 (fun s => s.cartField n (fun c => (vget {} c.slots i).st.toNat))])
  else none

/-! ## Host ports (R342, R344, R350, R356, R360) -/

/-- A write of word 2 of a queue pair that is enabled is taken only where it clears ENABLE: commands already started finish,
the others are dropped. A write that sets ENABLE starts the pair anew (R350). -/
def HostQueue.write2 (x : HostQueue) (v : W64) : HostQueue :=
  let keep (lo len least greatest : Nat) : Nat :=
    let n := bitsOf v.toNat lo len
    (if least ≤ n ∧ n ≤ greatest then n else bitsOf x.w2.toNat lo len) * 2 ^ lo
  let rest := clearBits v.toNat (0x3ff + 0xff00000000)
  let y := { x with w2 := BitVec.ofNat 64 (rest + keep 0 5 4 16 + keep 5 5 4 16 + keep 32 8 1 255) }
  if bit x.w2 10 then
    (if bit v 10 then x else { y with cmds := x.cmds.filter (fun c => c.phase != .waiting) })
  else if bit v 10 then { y with sqHead := 0, sqTail := 0, cqHead := 0, cqTail := 0, phase := true }
  else y

/-- A write of word 2 of queue pair q: while it is disabled, no fetch of it is awaited. -/
def State.queueCtl (s : State) (k q : Nat) (v : W64) : State :=
  let s := s.updHq k q (fun x => x.write2 v)
  if bit (s.hq k q).w2 10 then s
  else s.updHp k (fun h => { h with reqs := h.reqs.map (fun r => match r.owner with
    | .fetch q' _ => if q' = q then { r with owner := .discard } else r
    | _ => r) })

/-- A write of words 0 and 1 of a queue pair. -/
def HostQueue.writeBase (x : HostQueue) (j : Nat) (v : W64) : HostQueue :=
  if bit x.w2 10 then x else if j = 0 then { x with w0 := v } else { x with w1 := v }

/-- A command of the queue has started and is not completed: BUSY. -/
def HostQueue.busy (x : HostQueue) : Bool := x.cmds.any (fun c => c.phase != .waiting)

/-- Word j of queue pair q of port k. -/
def queueReg (k q j : Nat) : Reg :=
  match j with
  | 0 => wordReg (2 ^ 64 - 1) (fun s => (s.hq k q).w0) (fun v s => s.updHq k q (fun x => x.writeBase 0 v))
  | 1 => wordReg (2 ^ 64 - 1) (fun s => (s.hq k q).w1) (fun v s => s.updHq k q (fun x => x.writeBase 1 v))
  | 2 => wordReg 0x00ffffff003fffff (fun s => (s.hq k q).w2) (fun v s => s.queueCtl k q v)
  | _ => reg [
    ro 0 16 (fun s => (s.hq k q).sqHead.toNat), ro 16 16 (fun s => (s.hq k q).cqTail.toNat), ro 32 1 (fun s => b2n (s.hq k q).phase),
    w1bit 33 (fun s => (s.hq k q).dbErr) (fun s => s.updHq k q (fun x => { x with dbErr := false })),
    ro 34 1 (fun s => b2n (s.hq k q).busy)]

/-- An MSI-X table entry written; a pending vector that is so unmasked is sent (R356). -/
def State.msixWrite (s : State) (k v : Nat) (f : MsixEntry → MsixEntry) : State :=
  (s.updHp k (fun h => { h with msix := Tbl.set h.msix v (f (Tbl.get (fun _ => {}) h.msix v)) })).msixFlush k

/-- The MSI-X table and the Pending Bit Array of port k. -/
def msixReg (k off : Nat) : Option Reg :=
  if off < 0x18000 then
    let v := (off - 0x10000) / 16
    let get (s : State) : MsixEntry := Tbl.get (fun _ => {}) (s.hp k).msix v
    if off % 16 = 0 then some (wordReg (2 ^ 64 - 4) (fun s => (get s).addr) (fun x s => s.msixWrite k v (fun e => { e with addr := x })))
    else some (reg [rw 0 32 (fun s => (get s).data.toNat) (fun x s => s.msixWrite k v (fun e => { e with data := BitVec.ofNat 32 x })),
                    rw 32 1 (fun s => b2n (get s).masked) (fun x s => s.msixWrite k v (fun e => { e with masked := x == 1 }))])
  else if off < 0x18100 then
    some (reg [ro 0 64 (fun s => ((List.range 64).map (fun i => b2n ((s.hp k).pba.contains (8 * (off - 0x18000) + i)) * 2 ^ i)).sum)])
  else none

/-- EVT_CFG.ENABLE set: HEAD and TAIL go to 0 and PHASE to 1 (R360). -/
def HostPort.evtSet (h : HostPort) (b : Bool) : HostPort :=
  if b && !h.evtEnable then { h with evtEnable := true, evtTail := 0, evtHead := 0, evtPhase := true } else { h with evtEnable := b }

/-- The registers of port k's own block, at BAR0 offset 0. -/
def hostReg (k off : Nat) : Option Reg :=
  let get (f : HostPort → Nat) (s : State) : Nat := f (s.hp k)
  let upd (f : Nat → HostPort → HostPort) (v : Nat) (s : State) : State := s.updHp k (f v)
  if off = 0 then some (reg [ro 0 2 (fun _ => k)])
  else if off = 8 then some (reg [
    ro 0 5 (get (fun h => h.width.toNat)), ro 5 3 (get (fun h => h.speed.toNat)), ro 8 1 (get (fun h => b2n h.flit)),
    ro 9 1 (get (fun h => b2n h.up)), ro 10 1 (get (fun h => b2n h.ideSecure))])
  else if off = 0x10 then some (reg [
    rw 0 1 (get (fun h => b2n h.cmdEn)) (upd (fun v h => { h with cmdEn := v == 1 })),
    rw 1 1 (get (fun h => b2n h.ideRequired)) (upd (fun v h => { h with ideRequired := v == 1 })),
    rwIn 8 8 1 255 (get (fun h => h.cto.toNat)) (upd (fun v h => { h with cto := BitVec.ofNat 8 v }))])
  else if off = 0x18 then some (reg [
    ro 0 48 (get (fun h => h.errAddr.toNat)), ro 48 4 (get (fun h => h.errStatus.toNat)), ro 52 1 (get (fun h => b2n h.errWrite)),
    w1bit 53 (fun s => (s.hp k).errValid) (fun s => s.updHp k (fun h => { h with errValid := false }))])
  else if off = 0x20 then some (reg [
    rcCount 0 16 (fun s => (s.hp k).ur) (fun s => s.updHp k (fun h => { h with ur := 0 })),
    rcCount 16 16 (fun s => (s.hp k).ctoCount) (fun s => s.updHp k (fun h => { h with ctoCount := 0 })),
    rcCount 32 16 (fun s => (s.hp k).partialCount) (fun s => s.updHp k (fun h => { h with partialCount := 0 }))])
  else if off = 0x40 then some (wordReg (2 ^ 64 - 1) (fun s => (s.hp k).evtBase) (fun v s => s.updHp k (fun h => { h with evtBase := v })))
  else if off = 0x48 then some (reg [
    rwIn 1 5 4 16 (get (fun h => h.evtLog2.toNat)) (upd (fun v h => { h with evtLog2 := BitVec.ofNat 5 v })),
    rw 6 11 (get (fun h => h.evtVector.toNat)) (upd (fun v h => { h with evtVector := BitVec.ofNat 11 v })),
    rw 0 1 (get (fun h => b2n h.evtEnable)) (upd (fun v h => h.evtSet (v == 1))),
    rcCount 32 32 (fun s => (s.hp k).evtLost) (fun s => s.updHp k (fun h => { h with evtLost := 0 }))])
  else if off = 0x50 then some (reg [
    ro 0 16 (get (fun h => h.evtTail.toNat)), rw 16 16 (get (fun h => h.evtHead.toNat)) (upd (fun v h => { h with evtHead := BitVec.ofNat 16 v }))])
  else if 0x88 ≤ off ∧ off < 0x100 then
    let n := (off - 0x80) / 8
    some (wordReg 0x0000ffffffc00001 (fun s => vget 0 (s.hp k).pages n) (fun v s =>
      if hbmBase ≤ bitsOf v.toNat 22 26 * 2 ^ 22 then s else s.updHp k (fun h => { h with pages := vset h.pages n v })))
  else if off = 0x100 then some (reg [
    rw 0 1 (get (fun h => b2n h.bar4WriteEn)) (upd (fun v h => { h with bar4WriteEn := v == 1 })),
    rw 30 18 (get (fun h => h.bar4Base.toNat)) (upd (fun v h => { h with bar4Base := BitVec.ofNat 18 v }))])
  else if 0x140 ≤ off ∧ off < 0x1c0 then
    let n := (off - 0x140) / 16
    let rget (s : State) : HbmRange := vget {} (s.hp k).hbm n
    let rupd (f : HbmRange → HbmRange) (s : State) : State := s.updHp k (fun h => { h with hbm := vset h.hbm n (f (vget {} h.hbm n)) })
    some (reg (if off % 16 = 0 then hbmBaseFields rget rupd else hbmBoundFields rget rupd))
  else if 0x1000 ≤ off ∧ off < 0x3000 then some (queueReg k ((off - 0x1000) / 32) (off % 32 / 8))
  else if 0x10000 ≤ off ∧ off < 0x18100 then msixReg k off
  else if 0x1000000 ≤ off ∧ off < 0x2000000 then acuRegs k (off - 0x1000000)
  else none

end Sys2Proof.Machine
end

