-- ==== Sys2Proof/Machine/ModRegs.lean ====
section
/-! DEFINITION. Machine/ModRegs.lean: the module's own registers (R1, R169, R311, R380, R381, R402, R415, R435, R452, R466),
the control address map of all registers, and the accesses by address (R2, R3, R479). -/

namespace Sys2Proof.Machine

/-! ## Fabric globals (R311) -/

/-- A table entry of the pending copy of the forwarding table. -/
def fwdReg {n : Nat} (len : Nat) (get : State → BitVec n) (put : BitVec n → State → State) : Reg :=
  reg [rw 0 len (fun s => (get s).toNat) (fun v => put (BitVec.ofNat n v))]

/-- Registers at 0x2_0000. -/
def fabGlobal (off : Nat) : Option Reg :=
  if off = 0 then some {
    fields := [rw 0 14 (fun s => s.fab.addr.toNat) (fun v s => { s with fab := { s.fab with addr := BitVec.ofNat 14 v } })]
    may := fun s => !s.ports.any (fun e => e.2.st == .up) }
  else if off = 8 then some (reg [
    wo 0 1 (fun v s => if v = 1 then s.fwdCommit else s), ro 1 2 (fun s => s.fab.status.toNat), ro 3 9 (fun s => s.fab.bad.toNat)])
  else if 0x100 ≤ off ∧ off < 0x180 then
    let n := Fin.ofNat 16 ((off - 0x100) / 8)
    some (reg [rw 0 33 (fun s => s.fab.fence[n].toNat) (fun v s => s.fenceWrite n (BitVec.ofNat 64 v))])
  else if 0x1000 ≤ off ∧ off < 0x1200 then
    let j := (off - 0x1000) / 8
    some (fwdReg 15 (fun s => Tbl.get (fun _ => 0) s.fab.modPending j)
      (fun v s => { s with fab := { s.fab with modPending := Tbl.set s.fab.modPending j v } }))
  else if 0x2000 ≤ off ∧ off < 0x2800 then
    let g := (off - 0x2000) / 8
    some (fwdReg 28 (fun s => Tbl.get (fun _ => 0) s.fab.grpPending g)
      (fun v s => { s with fab := { s.fab with grpPending := Tbl.set s.fab.grpPending g v } }))
  else none

/-! ## Images and pans (R380, R381) -/

/-- A staging address register takes no write during a load or while an image is active. -/
def stageReg (get : Images → BitVec 28) (put : BitVec 28 → Images → Images) : Reg :=
  { fields := [rw 20 28 (fun s => (get s.images).toNat) (fun v s => { s with images := put (BitVec.ofNat 28 v) s.images })]
    may := fun s => s.images.loads.isEmpty && s.images.whole.isNone }

/-- Registers at 0x3_0000. -/
def imageReg (off : Nat) : Option Reg :=
  if off = 0 then some (reg [ro 0 64 (fun s => s.images.active.toNat)])
  else if off = 8 then some (reg [
    ro 0 2 (fun s => s.images.status.toNat), ro 2 3 (fun s => s.images.step.toNat), ro 8 8 (fun s => s.images.code.toNat),
    ro 16 10 (fun s => s.images.pan.toNat), ro 26 1 (fun s => b2n s.images.isPartial)])
  else if off = 0x10 then some (stageReg (fun i => i.stageBase) (fun v i => { i with stageBase := v }))
  else if off = 0x18 then some (stageReg (fun i => i.stageBound) (fun v i => { i with stageBound := v }))
  else none

/-- A bit of a command register: 1 performs the command. -/
def woCmd (i : Nat) (f : State → State) : RegField := wo i 1 (fun v s => if v = 1 then f s else s)

/-- Registers of pan n. Where one write names several commands, STOP and FORCE are taken before RUN, so that each is judged by the
state the pan is in (DEDUCED 54). -/
def panReg (n off : Nat) : Option Reg :=
  let p := Fin.ofNat 1024 n
  let get (f : Pan → Nat) (s : State) : Nat := f (s.pan n)
  if off = 0 then some (reg [
    woCmd 1 (fun s => nextOf s (execPanStop p s)), woCmd 2 (fun s => nextOf s (execPanForce p s)),
    woCmd 0 (fun s => nextOf s (execPanRun p s))])
  else if off = 8 then some (reg [
    ro 0 3 (get (fun x => match x.st with | .unconfigured => 0 | .stopped => 1 | .running => 2 | .stopping => 3 | .loading => 4)),
    ro 3 1 (fun s => b2n ((s.pan n).st != .unconfigured && (s.panSites n).any (fun k => (s.site k).tempo.forced))),
    w1bit 4 (fun s => (s.pan n).refused) (fun s => s.updPan n (fun x => { x with refused := false })),
    ro 32 32 (get (fun x => x.boundary.toNat))])
  else if off = 0x10 then some (reg [
    ro 0 8 (get (fun x => x.row0.toNat)), ro 8 8 (get (fun x => x.rowsM1.toNat)), ro 16 8 (get (fun x => x.col0.toNat)),
    ro 24 8 (get (fun x => x.colsM1.toNat)), ro 32 6 (get (fun x => x.detourFirst.toNat)), ro 38 7 (get (fun x => x.detourCount.toNat)),
    ro 45 1 (get (fun x => b2n x.accMode)), ro 46 1 (get (fun x => b2n x.autostart))])
  else if off = 0x18 then some (reg [ro 0 64 (get (fun x => x.imageId.toNat))])
  else none

/-! ## Power (R402) -/

/-- The hottest site junction, and its site: the lowest numbered where several are as hot. -/
def State.hottest (s : State) : Nat × Nat :=
  s.sites.foldl (fun (r : Nat × Nat) (e : Nat × Site) =>
    if e.1 < 65536 ∧ r.1 < e.2.isl.celsius.toNat then (e.2.isl.celsius.toNat, e.1) else r) (0, 0)

/-- A write of MODULE.PARK_CMD. -/
def State.parkCmd (s : State) (v : Nat) : State :=
  let w := Fin.ofNat 4 v
  let b := BitVec.ofNat 8 (bitsOf v 2 8)
  match bitsOf v 10 2 with
  | 1 => nextOf s (execPark w b s)
  | 2 => nextOf s (execUnpark w b s)
  | _ => s

/-- Registers at 0x6_0000. -/
def powerReg (off : Nat) : Option Reg :=
  if off = 0 then some (reg [
    ro 0 1 (fun s => b2n s.power.ready), ro 1 8 (fun s => ((List.range 8).map (fun f => b2n (s.power.feedOk f) * 2 ^ f)).sum),
    ro 16 16 (fun s => s.power.voltCv.toNat), ro 32 16 (fun s => s.power.powerHw.toNat)])
  else if off = 8 then some (reg [
    rwIn 0 8 20 120 (fun s => s.power.capKw.toNat) (fun v s => { s with power := { s.power with capKw := BitVec.ofNat 8 v } }),
    ro 8 8 (fun s => s.power.effectiveKw), ro 16 16 (fun s => s.power.factor)])
  else if off = 0x10 then some (reg [wo 0 12 (fun v s => s.parkCmd v)])
  else if off = 0x18 then some (reg [
    ro 0 1 (fun s => b2n s.power.busy),
    w1bit 1 (fun s => s.power.refused) (fun s => { s with power := { s.power with refused := false } }),
    ro 2 2 (fun s => s.power.lastWafer.toNat), ro 4 8 (fun s => s.power.lastBlock.toNat),
    w1bit 12 (fun s => s.power.drainFault) (fun s => { s with power := { s.power with drainFault := false } }),
    ro 13 10 (fun s => s.power.parked.length)])
  else if off = 0x20 then some (reg [
    ro 0 8 (fun s => s.hottest.1), ro 8 2 (fun s => siteW s.hottest.2), ro 10 7 (fun s => siteY s.hottest.2),
    ro 17 7 (fun s => siteX s.hottest.2),
    w1bit 24 (fun s => s.power.trip) (fun s => { s with power := { s.power with trip := false } })])
  else if 0x100 ≤ off ∧ off < 0x180 then
    let w := (off - 0x100) / 32
    let j := (off - 0x100) % 32 / 8
    some (reg [ro 0 64 (fun s => ((List.range 64).map (fun i =>
      b2n (decide (64 * j + i < 240) && s.power.parked.any (fun e => e.1 == 240 * w + 64 * j + i)) * 2 ^ i)).sum)])
  else none

/-! ## Reset (R415) -/

/-- The site that a TARGET names: x in [6:0], y in [13:7], w in [15:14]; none where the coordinates name no site. -/
def targetSite (t : Nat) : Option SiteId :=
  if bitsOf t 0 7 < 100 ∧ bitsOf t 7 7 < 96 then some ⟨Fin.ofNat 4 (bitsOf t 14 2), Fin.ofNat 96 (bitsOf t 7 7), Fin.ofNat 100 (bitsOf t 0 7)⟩
  else none

/-- A write of MODULE.RESET_CMD. A TARGET that names no unit is ignored (DEDUCED 55). -/
def State.resetCmd (s : State) (v : Nat) : State :=
  let t := bitsOf v 4 16
  match bitsOf v 0 3 with
  | 1 => nextOf s (execModuleReset (BitVec.ofNat 16 (bitsOf v 48 16)) false s)
  | 2 => nextOf s (execPanReset (Fin.ofNat 1024 t) s)
  | 3 => match targetSite t with
    | some k => nextOf s (execArrayReset k s)
    | none => s
  | 4 => nextOf s (execBayReset (Fin.ofNat 16 t) s)
  | 5 => if bitsOf t 0 7 < 96 then nextOf s (execFabricPortReset (Fin.ofNat 96 (bitsOf t 0 7)) s) else s
  | _ => s

/-- Registers at 0x7_0000. RESET_CMD holds several WO fields: a 4-byte write gives those of its half, and the others count as
zero (R479). -/
def resetReg (off : Nat) : Option Reg :=
  if off = 0 then some (reg [rw 0 64 (fun _ => 0) (fun v s => s.resetCmd v)])
  else if off = 8 then some (reg [
    ro 0 1 (fun s => b2n s.resets.busy), ro 1 3 (fun s => s.resets.ty.toNat),
    w1bit 4 (fun s => s.resets.refused) (fun s => { s with resets := { s.resets with refused := false } }),
    ro 5 16 (fun s => s.resets.target.toNat)])
  else if off = 0x10 then some (reg [ro 0 4 (fun s => s.resets.cause.toNat), ro 16 32 (fun s => s.resets.count.toNat)])
  else none

/-! ## Faults (R435) -/

/-- A write of MODULE.FENCE_CMD. -/
def State.fenceCmd (s : State) (v : Nat) : State :=
  let t := bitsOf v 4 16
  match bitsOf v 0 3, targetSite t with
  | 1, some k => nextOf s (execFenceSite k s)
  | 2, some k => nextOf s (execRetest (.site k) s)
  | 3, _ => nextOf s (execFenceWafer (Fin.ofNat 4 t) s)
  | 4, some k => nextOf s (execPromote k s)
  | _, _ => s

/-- A write of MODULE.FW_CMD. -/
def State.fwCmd (s : State) (v : Nat) : State :=
  let n := bitsOf v 0 8
  if n < 217 then
    match bitsOf v 8 2 with
    | 1 => nextOf s (execFwSwitch (Fin.ofNat 217 n) s)
    | 2 => nextOf s (execFwRevert (Fin.ofNat 217 n) s)
    | _ => s
  else s

/-- A write of MODULE.PSTAGE_CMD. -/
def State.pstageCmd (s : State) (v : Nat) : State :=
  let n := bitsOf v 0 6
  if n < 40 then
    match bitsOf v 6 2 with
    | 1 => nextOf s (execPstageOffline (Fin.ofNat 40 n) s)
    | 2 => nextOf s (execPstageOnline (Fin.ofNat 40 n) s)
    | _ => s
  else s

/-- Registers at 0x8_0000. -/
def faultReg (off : Nat) : Option Reg :=
  if off = 0 then some (reg [
    rw 0 1 (fun s => b2n s.fault.autoPromote) (fun v s => { s with fault := { s.fault with autoPromote := v == 1 } })])
  else if off = 8 then some (reg [
    ro 0 1 (fun s => b2n s.fault.promoting), ro 1 4 (fun s => min 15 (s.fault.promos.length - b2n s.fault.promoting)),
    ro 5 16 (fun s => s.sites.countP (fun e => decide (e.1 < 65536) && e.2.fenced)), ro 21 16 (fun s => s.fault.retired.length),
    w1bit 37 (fun s => s.fault.refused) (fun s => { s with fault := { s.fault with refused := false } })])
  else if off = 0x10 then some (reg [wo 0 20 (fun v s => s.fenceCmd v)])
  else if off = 0x18 then some (reg [ro 0 4 (fun s => s.fault.waferFenced.toNat)])
  else if off = 0x20 then some (reg [wo 0 10 (fun v s => s.fwCmd v)])
  else if off = 0x28 then some (reg [wo 0 8 (fun v s => s.pstageCmd v)])
  else if off = 0x30 then some (reg [ro 0 40 (fun s => s.power.working.toNat), ro 40 1 (fun s => b2n s.power.removable.isSome)])
  else if 0x1000 ≤ off ∧ off < 0x16c8 then
    let n := (off - 0x1000) / 8
    some (reg [
      ro 0 1 (fun s => b2n (s.fwUnit n).activeB), ro 1 1 (fun s => b2n (s.fwUnit n).inactiveOk), ro 2 2 (fun s => (s.fwUnit n).st.toNat),
      ro 16 24 (fun s => (s.fwUnit n).a.version.toNat), ro 40 24 (fun s => (s.fwUnit n).b.version.toNat)])
  else none

/-! ## Security (R452) and trace markers (R466) -/

/-- Registers at 0x9_0000. -/
def secReg (off : Nat) : Option Reg :=
  if off = 0 then some (reg [ro 0 64 (fun _ => Config.serial.toNat)])
  else if off = 8 then some (reg [
    ro 0 3 (fun s => s.sec.lc.toNat), ro 3 1 (fun s => b2n s.sec.erasePending), ro 4 2 (fun s => s.sec.refurbished.toNat),
    ro 6 3 (fun s => s.sec.debugOpen.toNat), ro 9 1 (fun s => b2n s.sec.ownerKey.isSome)])
  else if 0x10 ≤ off ∧ off < 0x50 then
    let n := (off - 0x10) / 8
    some { fields := [ro 0 64 (fun s => (vget 0 s.sec.nonce n).toNat)], before := fun s => if n = 0 then s.nonceDraw else s }
  else if off = 0x50 then some (reg [woCmd 0 (fun s => if s.sec.busy then s else s.secStart)])
  else if off = 0x58 then some (reg [
    ro 0 1 (fun s => b2n s.sec.busy), ro 1 3 (fun s => s.sec.result.toNat), ro 4 3 (fun s => s.sec.op.toNat)])
  else if off = 0x60 then some (reg [ro 0 40 (fun s => s.sec.svnWord.toNat)])
  else if 0x1000 ≤ off ∧ off < 0x2000 then
    some (reg [wo 0 64 (fun v s => { s with sec := { s.sec with buf := Memory.write s.sec.buf (off - 0x1000) (leBytes v 8) } })])
  else none

/-- MODULE.TRC_SYNC. -/
def syncReg : Reg :=
  reg [rwIn 0 20 100 1000000 (fun s => s.trcSync.period.toNat) (fun v s => { s with trcSync := { s.trcSync with period := BitVec.ofNat 20 v } }),
       ro 32 32 (fun s => s.trcSync.last.toNat)]

/-! ## The control address map -/

/-- The registers below 0x1_0000_0000, which belong to no unit. -/
def moduleReg (addr : Nat) : Option Reg :=
  match addr / 0x10000 with
  | 0 => if addr = 0 then some (reg [ro 16 16 (fun _ => 0x4060), ro 0 8 (fun _ => Config.rev.toNat)]) else none
  | 1 => if addr = 0x10000 then some (reg [ro 0 24 (fun s => s.images.audit.toNat)]) else none
  | 2 => fabGlobal (addr - 0x20000)
  | 3 => imageReg (addr - 0x30000)
  | 4 => panReg ((addr - 0x40000) / 64) (addr % 64)
  | 6 => powerReg (addr - 0x60000)
  | 7 => resetReg (addr - 0x70000)
  | 8 => faultReg (addr - 0x80000)
  | 9 => secReg (addr - 0x90000)
  | 10 => if addr = 0xa0000 then some syncReg else none
  | _ => none

/-- What serves a register address: nothing, because the unit is off or fenced (R152), or a place that may be reserved. -/
inductive Place where
  | off
  | on (r : Option Reg)

/-- The place of an 8-byte aligned control address (R22, R46, R199, R229, R339, R360). -/
def State.regAt (s : State) (addr : Nat) : Place :=
  if addr < 0x000100000000 then .on (moduleReg addr)
  else if addr < 0x000200000000 then
    let k := (addr - 0x000100000000) / 2 ^ 30
    if (s.hp k).off || (s.hp k).fenced then .off else .on (hostReg k (addr % 2 ^ 30))
  else if addr < 0x000300000000 then
    let q := (addr - 0x000200000000) / 2 ^ 29
    if (s.pc q).off || (s.pc q).fenced then .off else .on (pcReg q (addr % 2 ^ 29))
  else if addr < 0x0003c0000000 then
    let st := (addr - 0x000300000000) / 2 ^ 24
    .on (s.stackReg st (addr % 2 ^ 24))
  else if addr < 0x000400000000 then .on none
  else if addr < 0x000410000000 then
    let b := (addr - 0x000400000000) / 2 ^ 24
    if (s.bay b).off || (s.bay b).fenced then .off else .on (storeReg b (addr % 2 ^ 24))
  else if 0x001000000000 ≤ addr ∧ addr < 0x001100000000 then
    let k := siteKey ((addr - 0x001000000000) / 2 ^ 30) (addr / 2 ^ 23 % 128) (addr / 2 ^ 16 % 128)
    if siteY k < 96 ∧ siteX k < 100 then (if (s.site k).forwards then .on (csrReg none k (addr % 65536)) else .off) else .on none
  else .on none

/-- The register that an access names: its 8-byte word. -/
def wordAddr (addr : Nat) : Nat := addr / 8 * 8

/-- A read by control address: none for TARGET_OFF. -/
def State.regRead (s : State) (addr : Nat) (h : Half) : Option (W64 × State) :=
  match s.regAt (wordAddr addr) with
  | .off => none
  | .on r => some (Reg.readAt r h s)

/-- A write by control address: none for TARGET_OFF. -/
def State.regWrite (s : State) (addr : Nat) (h : Half) (v : W64) : Option State :=
  match s.regAt (wordAddr addr) with
  | .off => none
  | .on r => some (Reg.writeAt r h v s)

/-- The half of a register that an access of 4 or 8 bytes covers. -/
def halfOf (addr : Nat) (four : Bool) : Half := if !four then .whole else if addr % 8 < 4 then .low else .high

/-- An access aligned to its size (R345, R352). -/
def alignedTo (addr : Nat) (four : Bool) : Bool := decide (addr % (if four then 4 else 8) = 0)

/-- RC_READ (R2, R3): a read of a register by control address, 4 bytes or 8. Its RC fields are cleared; the value goes to the reader. -/
def execRcRead (addr : W64) (four : Bool) (s : State) : Result :=
  .next (if alignedTo addr.toNat four then
      match s.regRead addr.toNat (halfOf addr.toNat four) with
      | none => s
      | some (v, s) => s.emit (.regRead addr.toNat v)
    else s)

/-- REG_WRITE (R2, R479): a write of a register by control address, 4 bytes or 8. -/
def execRegWrite (addr : W64) (four : Bool) (value : W64) (s : State) : Result :=
  .next (if alignedTo addr.toNat four then (s.regWrite addr.toNat (halfOf addr.toNat four) value).getD s else s)

end Sys2Proof.Machine
end

