-- ==== Sys2Proof/Machine/Host.lean ====
section
/-! DEFINITION. Machine/Host.lean: the host ports (R340–R361): the command engine and its queues, completions and interrupts,
accesses through the BARs, reads of host memory, the link. -/

namespace Sys2Proof.Machine

/-! ## Ports (R340, R342, R358) -/

/-- Port k is in service: its domain is on, it is not fenced, its link is up. -/
def HostPort.live (h : HostPort) : Bool := h.up && !h.off && !h.fenced

/-- The function's identity (R341). -/
def deviceId : Nat := 0x4060
def classCode : Nat := 0x120000

/-- A memory request of the host is served: not in D3hot (PRESUMED 57), and within a secure stream where IDE is required (R358). -/
def HostPort.serves (h : HostPort) : Bool := !h.d3hot && (!h.ideRequired || h.ideSecure)

/-- The command engine runs: the port is in service and in D0 (PRESUMED 57). -/
def HostPort.engineOn (h : HostPort) : Bool := h.live && !h.d3hot

/-- A width that the port trains to: x16 only over both cables (R340, R473). -/
def widthOk (w : LinkWidth) : Bool := w.lanes == 4 || w.lanes == 8 || (w.lanes == 16 && w.cableB)

/-- HOST_LINK_UP (R340, R473): the link has trained at a width and a rate. A link of x2 or x1 stays down; one without FLIT mode runs at
32 GT/s or below. -/
def execHostLinkUp (port : Fin 4) (width : LinkWidth) (speed : BitVec 3) (flit : Bool) (s : State) : Result :=
  let h := s.hp port.val
  .next (if widthOk width = true ∧ 1 ≤ speed.toNat ∧ speed.toNat ≤ 6 ∧ h.off = false ∧ h.fenced = false then
      s.updHp port.val (fun h => { h with up := true, width := width.lanes, cableB := width.cableB
                                          speed := if flit then speed else BitVec.ofNat 3 (min 5 speed.toNat), flit := flit })
    else s)

/-- A BAR address with the bits below the BAR's size zero. -/
def barAligned (h : HostPort) (n : Fin 3) (addr : W64) : W64 :=
  let size := if n = 0 then 2 ^ 26 else if n = 1 then 2 ^ 20 else 2 ^ h.bar4Log2
  BitVec.ofNat 64 (addr.toNat / size * size)

/-- The function has a capability (R342). -/
def capPresent : Capability → Bool
  | .pciExpress | .device3 | .secondaryPcie | .physicalLayer16 | .physicalLayer32 | .physicalLayer64 | .laneMargining | .dataLinkFeature => true
  | .powerManagement | .msix | .advancedErrorReporting | .deviceSerialNumber | .resizableBar | .functionLevelReset | .dataObjectExchange => true
  | .completerTags10 | .completerTags14 | .requesterTags10 | .linkIde => true
  | .msi | .requesterTags14 | .srIov | .ats | .pri | .pasid | .acs | .tph | .ptm | .ltr | .tdisp | .selectiveIde | .aspm => false

/-- What a configuration read answers (R341, R342): every port reports the same serial number (R436). -/
def State.configField (s : State) (k : Nat) (f : ConfigField) : W64 :=
  let h := s.hp k
  match f with
  | .vendorId => Config.vendorId.setWidth 64
  | .deviceId => BitVec.ofNat 64 deviceId
  | .classCode => BitVec.ofNat 64 classCode
  | .revisionId => Config.rev.setWidth 64
  | .serialNumber => Config.serial
  | .bar n => h.bars[n]
  | .bar4Size => BitVec.ofNat 64 h.bar4Log2
  | .power => BitVec.ofNat 64 (b2n h.d3hot)
  | .msix => BitVec.ofNat 64 (b2n h.msixEnable + 2 * b2n h.msixFunctionMask)
  | .deviceControl => BitVec.ofNat 64 (h.maxPayload.toNat + 8 * h.maxRead.toNat)
  | .aerStatus => h.aerStatus.setWidth 64
  | .aerMask => h.aerMask.setWidth 64
  | .aerSeverity => h.aerSeverity.setWidth 64
  | .aerCorStatus => h.aerCorStatus.setWidth 64
  | .aerCorMask => h.aerCorMask.setWidth 64
  | .capability c => BitVec.ofNat 64 (b2n (capPresent c))

/-- A configuration request served. A size of BAR4 outside 1 to 64 GiB, a payload above 512 bytes and a read request above 4,096 are not
taken. Initiate Function Level Reset resets the port (R359). -/
def State.configure (s : State) (port : Fin 4) (w : ConfigWrite) : State :=
  let upd (f : HostPort → HostPort) : State := s.updHp port.val f
  match w with
  | .bar n a => upd (fun h => { h with bars := h.bars.set n (barAligned h n a) })
  | .bar4Size l => upd (fun h => if 30 ≤ l ∧ l ≤ 36 then { h with bar4Log2 := l } else h)
  | .power d => upd (fun h => { h with d3hot := d })
  | .msix e m => (upd (fun h => { h with msixEnable := e, msixFunctionMask := m })).msixFlush port.val
  | .deviceControl p r => upd (fun h =>
      { h with maxPayload := if p.toNat ≤ 2 then p else h.maxPayload, maxRead := if r.toNat ≤ 5 then r else h.maxRead })
  | .aerStatus c => upd (fun h => { h with aerStatus := h.aerStatus &&& ~~~c })
  | .aerMask m => upd (fun h => { h with aerMask := m })
  | .aerSeverity v => upd (fun h => { h with aerSeverity := v })
  | .aerCorStatus c => upd (fun h => { h with aerCorStatus := h.aerCorStatus &&& ~~~c })
  | .aerCorMask m => upd (fun h => { h with aerCorMask := m })
  | .levelReset => s.hostPortReset port.val
  | .read f => s.emit (.configAnswer port (some (s.configField port.val f)))

/-- CONFIGURATION_WRITE (R341, R342, R343): a configuration request of the host; the table has no row of its own for a configuration read
(log entry 18). Before READY it is answered with Request Retry Status and has no effect (R388). -/
def execConfigurationWrite (port : Fin 4) (w : ConfigWrite) (s : State) : Result :=
  let h := s.hp port.val
  .next (if h.live && s.power.ready then s.configure port w
    else if h.off || h.fenced then s
    else s.emit (.configAnswer port none))

/-- IDE_INTEGRITY_FAIL (R358). -/
def execIdeIntegrityFail (port : Fin 4) (s : State) : Result :=
  .next (if (s.hp port.val).ideSecure then
      (s.updHp port.val (fun h => { h with ideSecure := false })).post 0x15 1 0 ukHost port.val [port.val]
    else s)

/-! ## Pieces of a transfer -/

/-- The runs into which 512-byte blocks cut n bytes at an address: offset and length. -/
def pieces (addr n : Nat) : List (Nat × Nat) := cut 512 addr n

/-- n bytes at an HBM address lie in one enabled range of the port, with WRITE_EN for a write (R352). -/
def HostPort.inRange (h : HostPort) (addr n : Nat) (write : Bool) : Bool :=
  h.hbm.toList.any (fun r => r.enable && (!write || r.writeEn) && decide (r.base.toNat * 2 ^ 20 ≤ addr)
    && decide (addr + n ≤ r.bound.toNat * 2 ^ 20))

/-- Status of a read of HBM. -/
def HbmAnswer.code (a : HbmAnswer) : BitVec 4 := if a.status ≠ 0 then a.status else if a.poison then stPoison else stOk

/-! ## Doorbells (R350, R356, R361) -/

/-- Entries of a submission and of a completion queue. -/
def HostQueue.sqSize (x : HostQueue) : Nat := 2 ^ (bitsOf x.w2.toNat 0 5)
def HostQueue.cqSize (x : HostQueue) : Nat := 2 ^ (bitsOf x.w2.toNat 5 5)
def HostQueue.enabled (x : HostQueue) : Bool := bit x.w2 10

/-- Completion entries that the host has not acknowledged by the CQ head doorbell. -/
def HostQueue.unacked (x : HostQueue) : Nat := (x.cqTail.toNat + x.cqSize - x.cqHead.toNat) % x.cqSize

/-- A doorbell rung: a value within the queue moves the SQ tail or the CQ head; any other sets DB_ERR. -/
def HostQueue.ring (x : HostQueue) (head : Bool) (value : BitVec 16) : HostQueue :=
  if value.toNat < (if head then x.cqSize else x.sqSize) then
    (if head then { x with cqHead := value } else { x with sqTail := value })
  else { x with dbErr := true }

/-! ## Fetching (R351, R353) -/

/-- Entries waiting in a submission queue. -/
def HostQueue.entries (x : HostQueue) : Nat := (x.sqTail.toNat + x.sqSize - x.sqHead.toNat) % x.sqSize

/-- A fetch of queue q is awaited. -/
def HostPort.fetching (h : HostPort) (q : Nat) : Bool := h.reqs.any (fun r => match r.owner with | .fetch q' _ => q' == q | _ => false)

/-- The next queue in turn with entries to fetch. -/
def HostPort.nextQueue (h : HostPort) : Option Nat :=
  ((List.range 256).map (fun i => (h.lastQueue + 1 + i) % 256)).find? (fun q =>
    let x : HostQueue := Tbl.get (fun _ => {}) h.queues q
    x.enabled && x.entries != 0 && !h.fetching q)

/-- COMMAND_FETCH (R353): up to four entries of the next queue in turn are read, as one request within the ring and within
Max_Read_Request_Size (R342). -/
def execCommandFetch (port : Fin 4) (s : State) : Result :=
  let k := port.val
  let h := s.hp k
  .next (if h.engineOn && h.cmdEn then
      match h.nextQueue with
      | none => s
      | some q =>
        let x := s.hq k q
        let n := min 4 (min (h.readMax / 64) (min x.entries (x.sqSize - x.sqHead.toNat)))
        match s.hostRead k false (.fetch q n) (x.w0.toNat + 64 * x.sqHead.toNat) (64 * n) with
        | none => s
        | some s => s.updHp k (fun h => { h with lastQueue := q })
    else s)

/-- A submission entry (R351). -/
def parseCmd (bs : List Byte) (sqHead : BitVec 16) (order : Nat) : HostCmd :=
  let w (i : Nat) : W64 := BitVec.ofNat 64 (bytesAt bs i 8)
  { opcode := BitVec.ofNat 8 (bytesAt bs 0 1), flags := BitVec.ofNat 8 (bytesAt bs 1 1), cid := BitVec.ofNat 16 (bytesAt bs 2 2)
    arg0 := w 8, arg1 := w 16, arg2 := w 24, arg3 := w 32, sqHead := sqHead, order := order }

/-- n entries that have arrived for queue q. -/
def State.fetched (s : State) (k q : Nat) : Nat → List Byte → State
  | 0, _ => s
  | n + 1, bs =>
    let x := s.hq k q
    let head := BitVec.ofNat 16 ((x.sqHead.toNat + 1) % x.sqSize)
    let c := parseCmd bs head (s.hp k).nextOrder
    let s := s.updHq k q (fun x => { x with sqHead := head, cmds := x.cmds ++ [c] })
    (s.updHp k (fun h => { h with nextOrder := h.nextOrder + 1 })).fetched k q n (bs.drop 64)

/-! ## Commands (R352, R353) -/

/-- A completion queue is full when one more entry would bring its tail to its head (R355). -/
def HostQueue.cqFull (x : HostQueue) : Bool := (x.cqTail.toNat + 1) % x.cqSize == x.cqHead.toNat

/-- Commands of the port that run. One that is finished and waits for room in its completion queue leaves the other queues unaffected
(R355). -/
def HostPort.started (h : HostPort) : Nat :=
  (h.queues.map (fun (e : Nat × HostQueue) => e.2.cmds.countP (fun c => c.phase != .waiting && !e.2.cqFull))).sum

/-- A fetched command that is first in its queue may start: at most 16 run, and a FENCE waits for every earlier command of the
port (R351, R353). -/
def HostPort.mayStart (h : HostPort) (c : HostCmd) : Bool :=
  decide (h.started < 16)
    && (!bit c.flags 0 || h.queues.all (fun (e : Nat × HostQueue) => e.2.cmds.all (fun d => decide (c.order ≤ d.order))))

/-- The first command of queue q of port k. -/
def State.front (s : State) (k q : Nat) : Option HostCmd := (s.hq k q).cmds.head?

/-- The first command of a queue changed. -/
def State.updCmd (s : State) (k q : Nat) (f : HostCmd → HostCmd) : State := s.updHq k q (fun x => x.updFront f)

/-- The command c at the front of queue q may start; a queue whose completion queue is full starts nothing (R355). -/
def State.cmdReady (s : State) (k q : Nat) (c : HostCmd) : Bool :=
  c.phase == .waiting && (s.hp k).engineOn && (s.hp k).mayStart c && !(s.hq k q).cqFull

/-- The first command of the queue, with this opcode, started by f. -/
def State.startCmd (s : State) (k q : Nat) (op : BitVec 8) (f : HostCmd → State → State) : State :=
  match s.front k q with
  | none => s
  | some c =>
    if c.opcode = op ∧ s.cmdReady k q c = true then
      f c (s.updCmd k q (fun c => { c with phase := .running }))
    else s

/-- A command finished with a RESULT that the spec does not state: a free value (log entry 2). -/
def State.finishFree (s : State) (k q : Nat) (status : BitVec 8) : State :=
  let (v, s) := s.draw
  s.finishCmd k q status v

/-- NOP. -/
def execNop (port : Fin 4) (queue : Fin 256) (s : State) : Result :=
  .next (s.startCmd port.val queue.val 0 (fun _ s => s.finishCmd port.val queue.val scOk 0))

/-! ### Copies -/

/-- The checks of a copy (R352). -/
def HostPort.copyOk (h : HostPort) (c : HostCmd) (inward : Bool) : Bool :=
  let n := c.arg2.toNat
  c.arg0.toNat % 64 == 0 && c.arg1.toNat % 64 == 0 && n % 64 == 0 && decide (64 ≤ n) && decide (n ≤ 2 ^ 32)
    && h.inRange (if inward then c.arg1 else c.arg0).toNat n inward

/-- The next request of a copy: at most 512 bytes, within one block of HBM. -/
def HostCmd.nextPiece (c : HostCmd) (inward : Bool) : Nat :=
  let a := (if inward then c.arg1 else c.arg0).toNat + c.issued
  min (c.arg2.toNat - c.issued) (512 - a % 512)

/-- The request at an offset has failed: the one of lowest offset counts (R354). -/
def HostCmd.failAt (c : HostCmd) (off : Nat) (st : BitVec 8) : HostCmd :=
  match c.fail with
  | some (o, _) => if off < o then { c with fail := some (off, st) } else c
  | none => { c with fail := some (off, st) }

/-- A copy whose requests are all answered is finished. -/
def State.copyEnd (s : State) (k q : Nat) : State :=
  match s.front k q with
  | none => s
  | some c =>
    if c.phase = .running ∧ c.issued = c.arg2.toNat ∧ c.outstanding = 0 then
      match c.fail with
      | none => s.finishCmd k q scOk c.arg2
      | some (off, st) => s.finishCmd k q st (BitVec.ofNat 64 off)
    else s

/-- The next host read of a COPY_IN sent, if the port has a request free (R349). -/
def State.copyInNext (s : State) (k q : Nat) : State :=
  match s.front k q with
  | none => s
  | some c =>
    let src := c.arg0.toNat + c.issued
    let n := (s.hp k).readLen src (c.nextPiece true)
    if n = 0 then s
    else match s.hostRead k false (.copy q c.issued n) src n with
      | none => s
      | some s => s.updCmd k q (fun c => { c with issued := c.issued + n, outstanding := c.outstanding + 1 })

/-- The next HBM read of a COPY_OUT, written to host memory where it is answered OK. -/
def State.copyOutNext (s : State) (k q : Nat) : State :=
  match s.front k q with
  | none => s
  | some c =>
    let n := c.nextPiece false
    if n = 0 then s
    else
      let (s, a) := s.hbmRead (c.arg0.toNat + c.issued) n
      let s := if a.code = stOk then s.hostStore k (c.arg1.toNat + c.issued) a.bytes else s
      let s := s.updCmd k q (fun c =>
        let d := { c with issued := c.issued + n }
        if a.code = stOk then d else d.failAt c.issued (a.code.setWidth 8))
      s.copyEnd k q

/-- A copy of one direction: started, or its next request made. -/
def State.copy (s : State) (k q : Nat) (op : BitVec 8) (inward : Bool) (next : State → State) : State :=
  match s.front k q with
  | none => s
  | some c =>
    if c.opcode = op ∧ c.phase = .running ∧ (s.hp k).engineOn = true then next s
    else s.startCmd k q op (fun c s => if (s.hp k).copyOk c inward then next s else s.finishCmd k q scInvalidField 0)

/-- COPY_IN (R352): the command checked and started; then one read of host memory of at most 512 bytes at a time is sent. -/
def execCopyIn (port : Fin 4) (queue : Fin 256) (s : State) : Result :=
  .next (s.copy port.val queue.val 1 true (fun s => s.copyInNext port.val queue.val))

/-- COPY_OUT (R352): the command checked and started; then one request of at most 512 bytes at a time is made. -/
def execCopyOut (port : Fin 4) (queue : Fin 256) (s : State) : Result :=
  .next (s.copy port.val queue.val 2 false (fun s => s.copyOutNext port.val queue.val))

/-! ### Registers, images, waits -/

/-- The address of a CSR command is a control address below HBM, aligned to the access (R352). -/
def csrOk (addr : W64) (four : Bool) : Bool := decide (addr.toNat < hbmBase) && alignedTo addr.toNat four

/-- CSR_WRITE (R352). -/
def execCsrWrite (port : Fin 4) (queue : Fin 256) (s : State) : Result :=
  let k := port.val
  let q := queue.val
  .next (s.startCmd k q 3 (fun c s =>
    let four := bit c.arg2 0
    if csrOk c.arg0 four then
      match s.regWrite c.arg0.toNat (halfOf c.arg0.toNat four) c.arg1 with
      | none => s.finishCmd k q scTargetOff 0
      | some s => s.finishCmd k q scOk 0
    else s.finishCmd k q scInvalidField 0))

/-- CSR_READ (R352). -/
def execCsrRead (port : Fin 4) (queue : Fin 256) (s : State) : Result :=
  let k := port.val
  let q := queue.val
  .next (s.startCmd k q 4 (fun c s =>
    let four := bit c.arg1 0
    if csrOk c.arg0 four then
      match s.regRead c.arg0.toNat (halfOf c.arg0.toNat four) with
      | none => s.finishFree k q scTargetOff
      | some (v, s) => s.finishCmd k q scOk v
    else s.finishFree k q scInvalidField))

/-- IMAGE_LOAD (R352, R370, R371): the load queued behind any load in progress. A pan number that no pan has is INVALID_FIELD. -/
def execImageLoad (port : Fin 4) (queue : Fin 256) (s : State) : Result :=
  let k := port.val
  let q := queue.val
  .next (s.startCmd k q 5 (fun c s => if c.arg3.toNat < 1024 then s.queueLoad k q c else s.finishCmd k q scInvalidField 0))

/-- A WAIT's u32 read: OK when it has reached the target; TIMEOUT at its timeout; the status of a read that fails. -/
def State.waitPoll (s : State) (k q : Nat) (c : HostCmd) : State :=
  let (s, a) := s.hbmRead c.arg0.toNat 4
  if a.code ≠ stOk then s.finishFree k q (a.code.setWidth 8)
  else
    let v : W32 := BitVec.ofNat 32 (leNat a.bytes)
    if 0 ≤ (v - c.arg1.setWidth 32).toInt then s.finishCmd k q scOk (v.setWidth 64)
    else if c.arg2 ≠ 0 ∧ c.arg2.toNat ≤ c.polls then s.finishCmd k q scTimeout (v.setWidth 64)
    else s

/-- CMD_WAIT (R352): started, with its first read. An address that is no aligned HBM address is INVALID_FIELD (DEDUCED 58). -/
def execCmdWait (port : Fin 4) (queue : Fin 256) (s : State) : Result :=
  let k := port.val
  let q := queue.val
  .next (s.startCmd k q 6 (fun c s =>
    if isHbm c.arg0.toNat && c.arg0.toNat % 4 == 0 then s.waitPoll k q c else s.finishFree k q scInvalidField))

/-- CMD_WAIT_POLL (R352): 1 µs after the read before it. -/
def execCmdWaitPoll (port : Fin 4) (queue : Fin 256) (s : State) : Result :=
  let k := port.val
  let q := queue.val
  .next (match s.front k q with
    | none => s
    | some c =>
      if c.opcode = 6 ∧ c.phase = .running ∧ (s.hp k).engineOn = true then
        (s.updCmd k q (fun c => { c with polls := c.polls + 1 })).waitPoll k q { c with polls := c.polls + 1 }
      else s)

/-! ## Completions and interrupts (R354–R356) -/

/-- A completion entry: the 16 bytes of R354. -/
def cqEntry (x : HostQueue) (q : Nat) (c : HostCmd) (status : BitVec 8) (result : W64) : List Byte :=
  leBytes 8 result.toNat ++ leBytes 2 c.cid.toNat ++ leBytes 2 q ++ leBytes 2 c.sqHead.toNat ++ [status, BitVec.ofNat 8 (b2n x.phase)]

/-- VECTOR, COAL_COUNT and COAL_US of a queue pair. -/
def HostQueue.vector (x : HostQueue) : BitVec 11 := fld x.w2 11 11
def HostQueue.coalCount (x : HostQueue) : Nat := bitsOf x.w2.toNat 32 8
def HostQueue.coalUs (x : HostQueue) : Nat := bitsOf x.w2.toNat 40 16

/-- The first command of a queue leaves it. -/
def HostQueue.popCmd (x : HostQueue) : HostQueue := { x with cmds := x.cmds.drop 1 }

/-- A completion entry written, and the interrupt after it where it is due. -/
def State.writeEntry (s : State) (k q : Nat) (c : HostCmd) (status : BitVec 8) (result : W64) : State :=
  let x := s.hq k q
  let s := s.emit (.hostWrite (Fin.ofNat 4 k) (x.w1 + BitVec.ofNat 64 (16 * x.cqTail.toNat)) (cqEntry x q c status result))
  let next := (x.cqTail.toNat + 1) % x.cqSize
  let s := s.updHq k q (fun x => { x.popCmd with cqTail := BitVec.ofNat 16 next, phase := if next = 0 then !x.phase else x.phase })
  let y := s.hq k q
  if y.coalCount ≤ y.unacked ∨ y.coalUs = 0 then s.sendMsix (Fin.ofNat 4 k) y.vector else s

/-- A finished command completed: with its entry, or without one under QUIET. -/
def State.completeCmd (s : State) (k q : Nat) (c : HostCmd) (status : BitVec 8) (result : W64) : State :=
  if bit c.flags 1 ∧ status = scOk then s.updHq k q HostQueue.popCmd
  else if (s.hq k q).cqFull then s
  else s.writeEntry k q c status result

/-- COMMAND_COMPLETE (R351, R354, R355): the finished command at the front of a queue. A command whose opcode is none of R352's
runs to INVALID_OPCODE here. -/
def execCommandComplete (port : Fin 4) (queue : Fin 256) (s : State) : Result :=
  let k := port.val
  let q := queue.val
  .next (match s.front k q with
    | none => s
    | some c =>
      if (s.hp k).engineOn = false then s
      else match c.phase with
        | .finished st r => s.completeCmd k q c st r
        | .waiting =>
          if 6 < c.opcode.toNat ∧ s.cmdReady k q c = true then
            (s.updCmd k q (fun c => { c with phase := .running })).finishFree k q scInvalidOpcode
          else s
        | .running => s)

/-- MSIX_COALESCE_TIMEOUT (R356): the oldest unacknowledged entry of a queue is COAL_US old. -/
def execMsixCoalesceTimeout (port : Fin 4) (queue : Fin 256) (s : State) : Result :=
  let x := s.hq port.val queue.val
  .next (if (s.hp port.val).live ∧ x.unacked ≠ 0 ∧ x.coalUs ≠ 0 then s.sendMsix port x.vector else s)

/-! ## Reads of host memory (R349) -/

/-- The read of an image that waits for a request of its port to come free. -/
def State.loadRetry (s : State) : State :=
  match s.images.loads with
  | l :: _ =>
    if (l.step = 1 ∨ l.step = 2) ∧ l.fromHbm = false ∧ l.copied < l.bytes
        ∧ (s.hp l.port).reqs.all (fun r => match r.owner with | .image n _ _ => n != l.number | _ => true) = true then s.loadRead l
    else s
  | [] => s

/-- A request of port k answered or failed. -/
def State.dropReq (s : State) (k tag : Nat) : State := s.updHp k (fun h => { h with reqs := h.reqs.filter (fun r => r.tag != tag) })

/-- A piece of a copy has arrived, or has not: written to HBM. A failure counts from where its 512-byte block begins (R354). -/
def State.copyPiece (s : State) (k q off : Nat) (bs : Option (List Byte)) : State :=
  match s.front k q with
  | none => s
  | some c =>
    let (s, st) := match bs with
      | none => (s, scHostReadFailed)
      | some bs => let (s, st) := s.hbmWrite (c.arg1.toNat + off) bs; (s, st.setWidth 8)
    let s := s.updCmd k q (fun c =>
      let d := { c with outstanding := c.outstanding - 1 }
      if st = scOk then d else d.failAt ((c.arg1.toNat + off) / 512 * 512 - c.arg1.toNat) st)
    s.copyEnd k q

/-- Bytes of an image that have arrived for the load in progress. With the first of them check 1 of R371 is made. -/
def State.imagePiece (s : State) (n off : Nat) (bs : List Byte) : State :=
  match s.images.loads with
  | l :: _ =>
    if l.number = n ∧ (l.step = 1 ∨ l.step = 2) ∧ l.copied = off then
      let n := off + bs.length
      let t := (s.loaderPut (l.stage + off) bs).updLoad (fun l => { l with step := if n < 40 then 1 else 2, copied := n })
      if off < 40 ∧ 40 ≤ n ∧ l.bytes ≠ imgSigned (t.peek l.stage 40) + 1024 then t.failLoad 1 scInvalidField else t
    else s
  | [] => s

/-- HOST_READ_COMPLETION (R349): the data of a read of host memory, for a copy, a fetch of entries or an image. A record of the ACU
has a row of its own. -/
def execHostReadCompletion (port : Fin 4) (tag : Nat) (data : List Byte) (s : State) : Result :=
  let k := port.val
  .next (if (s.hp k).live = false then s
    else match (s.hp k).reqs.find? (fun r => r.tag == tag) with
    | none => s
    | some r => match r.owner with
      | .fetch q n => if data.length = 64 * n then ((s.dropReq k tag).fetched k q n data).loadRetry else s
      | .copy q off len => if data.length = len then ((s.dropReq k tag).copyPiece k q off (some data)).loadRetry else s
      | .image n off len => if data.length = len then ((s.dropReq k tag).imagePiece n off data).loadRetry else s
      | .discard => (s.dropReq k tag).loadRetry
      | .acu _ => s)

/-- The uncorrectable errors that the port reports: a completion timeout, and an Unsupported Request (PRESUMED 8). -/
def aerTimeout : W32 := 0x4000
def aerUnsupported : W32 := 0x100000

/-- HOST_COMPLETION_TIMEOUT (R349): a read unanswered after CTO fails: a copy's piece, an image's load, or the reads that wait for an
ACU's record. The entries of a failed fetch are fetched again (DEDUCED 59). -/
def execHostCompletionTimeout (port : Fin 4) (tag : Nat) (s : State) : Result :=
  let k := port.val
  .next (match (s.hp k).reqs.find? (fun r => r.tag == tag) with
    | none => s
    | some r =>
      let s := (s.dropReq k tag).updHp k (fun h => { h with ctoCount := satAdd h.ctoCount 1, aerStatus := h.aerStatus ||| aerTimeout })
      match r.owner with
      | .copy q off _ => (s.copyPiece k q off none).loadRetry
      | .image n _ _ => if s.images.loads.head?.map (fun (l : ImgLoad) => l.number) = some n then s.failLoad 2 scHostReadFailed else s
      | .acu block =>
        let s := s.updHp k (fun h => { h with reqs := h.reqs.map (fun r => if r.owner = .acu block then { r with owner := .discard } else r) })
        match s.acuWaitReq k block with
        | some q => (s.acuFetched k q false none).loadRetry
        | none => s.loadRetry
      | _ => s.loadRetry)

/-! ## BAR0 (R343–R346) -/

/-- An access refused: Unsupported Request to a read, a write dropped, and HP.COUNT.UR (R345). -/
def State.refuseAccess (s : State) (port : Fin 4) (counted : Bool) (read : Bool) : State :=
  let s := s.updHp port.val (fun h => { h with ur := if counted then satAdd h.ur 1 else h.ur, aerStatus := h.aerStatus ||| aerUnsupported })
  if read then s.emit (.hostAnswer port none) else s

def allOnes (n : Nat) : List Byte := List.replicate n 0xff

/-- A control address that lies in an aperture of R215, R230, R296, R298 or R320. -/
def isAperture (addr : Nat) : Bool :=
  (List.range 12).any (fun k => (acuOffset k addr).isSome) || (reduceAperture addr).isSome
    || (List.range 8).any (fun q => (sendAperture q addr).isSome || (routeAperture q addr).isSome)
    || (List.range 16).any (fun b => storeAperture b addr)

/-- Where the blocks of the host ports begin (R360): port k's at k × 2^30 from here. -/
def hpBase : Nat := 0x000100000000

/-- The control address that a BAR0 offset reaches: none where the page is not mapped (R343, R344). -/
def State.bar0Address (s : State) (k o : Nat) : Option Nat :=
  if o < 2 ^ 22 then some (hpBase + k * 2 ^ 30 + o)
  else
    let p := vget 0 (s.hp k).pages (o / 2 ^ 22)
    if bit p 0 then some (bitsOf p.toNat 22 26 * 2 ^ 22 + o % 2 ^ 22) else none

/-- The packet of a write to an aperture, as the port sends it: a REDUCE packet for a reduce aperture (R230). -/
def State.aperturePacket (s : State) (k addr : Nat) (bs : List Byte) : Option Packet :=
  let r := (Service.links (.host (Fin.ofNat 4 k))).getD 0 0
  match reduceAperture addr with
  | some (p, a) => some (s.reducePacket r p a bs false)
  | none =>
    let p : Packet := { cls := .bulk, drow := 0, dcol := 0, srow := posRow r, scol := posCol r, ptype := ptWrite, addr := BitVec.ofNat 48 addr
                        bytesM1 := BitVec.ofNat 10 (bs.length - 1), payload := bs }
    p.toTarget

/-- A write to an aperture, in packets of at most one block each. -/
def State.apertureWrite (s : State) (port : Fin 4) (addr : Nat) (bs : List Byte) : State :=
  (pieces addr bs.length).foldl (fun (s : State) (e : Nat × Nat) =>
    match s.aperturePacket port.val (addr + e.1) ((bs.drop e.1).take e.2) with
    | none => s
    | some p =>
      let s := if p.ptype = ptWrite then s.updHp port.val (fun h => { h with posted := h.posted + 1 }) else s
      s.sendService (.host port) p) s

/-- A read of a register through BAR0. -/
def State.bar0Read (s : State) (port : Fin 4) (addr len : Nat) : State :=
  if isAperture addr || !(len == 4 || len == 8) || addr % len != 0 then s.refuseAccess port true true
  else match s.regRead addr (halfOf addr (len == 4)) with
    | none => (s.updHp port.val (fun h => h.recordErr addr stTargetOff false)).emit (.hostAnswer port (some (allOnes len)))
    | some (v, s) => s.emit (.hostAnswer port (some (leBytes len v.toNat)))

/-- A write of a register or to an aperture through BAR0. -/
def State.bar0Write (s : State) (port : Fin 4) (addr : Nat) (bs : List Byte) : State :=
  let n := bs.length
  if isAperture addr then
    (if addr % 64 = 0 ∧ n % 64 = 0 ∧ 64 ≤ n ∧ n ≤ 512 then s.apertureWrite port addr bs else s.refuseAccess port true false)
  else if (n = 4 ∨ n = 8) ∧ addr % n = 0 then
    match s.regWrite addr (halfOf addr (n == 4)) (BitVec.ofNat 64 (leNat bs)) with
    | none => s.updHp port.val (fun h => h.recordErr addr stTargetOff true)
    | some s => s
  else s.refuseAccess port true false

/-- A register access or an aperture write, at its turn. A page that was not mapped answers all ones and drops writes (R344). -/
def State.runRegister (s : State) (port : Fin 4) (addr : Option Nat) (a : BarAccess) : State :=
  match addr, a with
  | none, .read len => s.emit (.hostAnswer port (some (allOnes len)))
  | none, .write _ => s
  | some x, .read len => s.bar0Read port x len
  | some x, .write bs => s.bar0Write port x bs

/-! ## BAR4 (R347) -/

/-- The HBM address of a BAR4 offset. -/
def HostPort.bar4Address (h : HostPort) (o : Nat) : Nat := h.bar4Base.toNat * 2 ^ 30 / 2 ^ h.bar4Log2 * 2 ^ h.bar4Log2 + o

/-- Whole blocks read for a BAR4 read: its bytes, and the first status that is not OK. -/
def State.readBlocks (s : State) (addr n : Nat) : State × List Byte × BitVec 4 :=
  (pieces addr n).foldl (fun (r : State × List Byte × BitVec 4) (e : Nat × Nat) =>
    let a := addr + e.1
    let (s, x) := r.1.hbmRead (a / 512 * 512) 512
    (s, r.2.1 ++ (x.bytes.drop (a % 512)).take e.2, if r.2.2 = stOk then x.code else r.2.2)) (s, [], stOk)

/-- A read through BAR4, at its turn: HP.BAR4.BASE is the one then in force (R348). -/
def State.runHbmRead (s : State) (port : Fin 4) (offset len : Nat) : State :=
  let addr := (s.hp port.val).bar4Address offset
  let (s, bs, st) := s.readBlocks addr len
  if st = stOk then s.emit (.hostAnswer port (some bs))
  else (s.updHp port.val (fun h => h.recordErr addr st false)).emit (.hostAnswer port (some (allOnes len)))

/-- One line of a BAR4 write: the bytes of the TLP that fall in it, from offset lo; a line covered in part is read first. -/
def State.lineWrite (s : State) (k line lo : Nat) (bs : List Byte) : State :=
  let fail (s : State) (st : BitVec 4) : State := if st = stOk then s else s.updHp k (fun h => h.recordErr line st true)
  if bs.length = 64 then let (s, st) := s.hbmWrite line bs; fail s st
  else
    let s := s.updHp k (fun h => { h with partialCount := satAdd h.partialCount 1 })
    let (s, a) := s.hbmRead line 64
    if a.code ≠ stOk then fail s a.code
    else let (s, st) := s.hbmWrite line (a.bytes.take lo ++ bs ++ a.bytes.drop (lo + bs.length)); fail s st

/-- A write through BAR4 gathered into whole lines. -/
def State.lineWrites (s : State) (k addr : Nat) (data : List Byte) : State :=
  (linesOf addr data.length).foldl (fun (s : State) l =>
    let lo := max addr (64 * l) - addr
    let hi := min (addr + data.length) (64 * l + 64) - addr
    s.lineWrite k (64 * l) ((addr + lo) % 64) ((data.drop lo).take (hi - lo))) s

/-! ## The order of the host's requests (R348, R349) -/

/-- A request that the port answers: one of the 256 non-posted requests that it accepts (R349). -/
def HostAccess.answered : HostAccess → Bool
  | .register _ (.read _) => true
  | .doorbellRead _ => true
  | .hbmRead _ _ => true
  | _ => false

/-- A request that may go while posted writes before it are not acknowledged: a write to an aperture or of HBM. A register write waits as
a read does, so that no register changes before an earlier write to its unit has arrived (DESIGN CHOICE 142). -/
def HostAccess.posts : HostAccess → Bool
  | .register (some x) (.write _) => isAperture x
  | .hbmWrite _ _ => true
  | _ => false

/-- A write through BAR4, at its turn: refused while HP.BAR4.WRITE_EN is 0 (R347), else written at the address that HP.BAR4.BASE then
gives. -/
def State.runHbmWrite (s : State) (port : Fin 4) (offset : Nat) (data : List Byte) : State :=
  let h := s.hp port.val
  if h.bar4WriteEn then s.lineWrites port.val (h.bar4Address offset) data else s.refuseAccess port true false

/-- A request takes effect. -/
def State.runAccess (s : State) (port : Fin 4) : HostAccess → State
  | .register addr a => s.runRegister port addr a
  | .doorbell q head v => s.updHq port.val q (fun x => x.ring head v)
  | .doorbellRead len => s.emit (.hostAnswer port (some (List.replicate len 0)))
  | .hbmRead o len => s.runHbmRead port o len
  | .hbmWrite o bs => s.runHbmWrite port o bs

/-- The turn of a port's oldest request has come. -/
def HostPort.goes (h : HostPort) : Bool :=
  h.live && (match h.held with
    | [] => false
    | a :: _ => a.posts || h.posted == 0)

/-- The oldest request that a port holds takes effect where its turn has come; those behind it follow at later commands or idle ticks
(DESIGN CHOICE 142). -/
def State.hostPump (s : State) (port : Fin 4) : State :=
  match (s.hp port.val).held with
  | [] => s
  | a :: rest => if (s.hp port.val).goes then (s.updHp port.val (fun h => { h with held := rest })).runAccess port a else s

/-- A write of an HP.PAGE_n register, which maps every request received after it (R344). -/
def pageWrite : HostAccess → Bool
  | .register (some x) (.write _) => decide (hpBase ≤ x) && decide (0x88 ≤ (x - hpBase) % 2 ^ 30) && decide ((x - hpBase) % 2 ^ 30 < 0x100)
      && decide (x < hpBase + 2 ^ 32)
  | _ => false

/-- A request received: it takes its place behind those that wait; a write of a page register acts at once. Beyond 256 non-posted requests
the port accepts none (R349). -/
def State.hostAccept (s : State) (port : Fin 4) (a : HostAccess) : State :=
  if pageWrite a then s.runAccess port a
  else if a.answered && decide (256 ≤ (s.hp port.val).held.countP HostAccess.answered) then s
  else (s.updHp port.val (fun h => { h with held := h.held ++ [a] })).hostPump port

/-- A memory request of the host to a port in service: refused, or decoded against the port's BARs as they are when it comes. -/
def State.hostRequest (s : State) (port : Fin 4) (read : Bool) (decode : HostPort → Option HostAccess) : State :=
  let h := s.hp port.val
  if h.live = false then s
  else if h.serves = false then s.refuseAccess port false read
  else match decode h with
    | none => s.refuseAccess port true read
    | some a => s.hostAccept port a

/-- The offset of an address in BAR n, of the size given. -/
def HostPort.inBar (h : HostPort) (n : Fin 3) (addr : W64) (len size : Nat) : Option Nat :=
  if h.bars[n].toNat ≤ addr.toNat ∧ addr.toNat - h.bars[n].toNat + len ≤ size then some (addr.toNat - h.bars[n].toNat) else none

/-- An access of BAR2 (R361): page q holds the doorbells of queue pair q, SQ_TAIL at 0 and CQ_HEAD at 8, written whole or by their low
half (DESIGN CHOICE 142); other offsets are reserved; reads return zero. -/
def bar2Access (o : Nat) : BarAccess → HostAccess
  | .read len => .doorbellRead len
  | .write bs =>
    if (o % 4096 = 0 ∨ o % 4096 = 8) ∧ (bs.length = 4 ∨ bs.length = 8) then .doorbell (o / 4096) (o % 4096 == 8) (BitVec.ofNat 16 (leNat bs))
    else .register none (.write bs)

/-- SQ_TAIL_DOORBELL (R348, R350, R361). -/
def execSqTailDoorbell (port : Fin 4) (queue : Fin 256) (value : BitVec 16) (s : State) : Result :=
  .next (s.hostRequest port false (fun _ => some (.doorbell queue.val false value)))

/-- CQ_HEAD_DOORBELL (R348, R350, R356, R361). -/
def execCqHeadDoorbell (port : Fin 4) (queue : Fin 256) (value : BitVec 16) (s : State) : Result :=
  .next (s.hostRequest port false (fun _ => some (.doorbell queue.val true value)))

/-- BAR0_ACCESS (R343–R346, R348, R358, R361): an access of the host within BAR0, or within BAR2. -/
def execBar0Access (port : Fin 4) (addr : W64) (a : BarAccess) (s : State) : Result :=
  let read := match a with | .read _ => true | .write _ => false
  .next (s.hostRequest port read (fun h =>
    match h.inBar 0 addr 1 (2 ^ 26), h.inBar 1 addr 1 (2 ^ 20) with
    | some o, _ => some (.register (s.bar0Address port.val o) a)
    | none, some o => some (bar2Access o a)
    | none, none => none))

/-- BAR4_READ (R347, R348). -/
def execBar4Read (port : Fin 4) (addr : W64) (len : Nat) (s : State) : Result :=
  .next (s.hostRequest port true (fun h =>
    if len = 0 ∨ 4096 < len then none else (h.inBar 2 addr len (2 ^ h.bar4Log2)).map (fun o => .hbmRead o len)))

/-- BAR4_WRITE (R347, R348). -/
def execBar4Write (port : Fin 4) (addr : W64) (data : List Byte) (s : State) : Result :=
  .next (if data = [] then s
    else s.hostRequest port false (fun h => (h.inBar 2 addr data.length (2 ^ h.bar4Log2)).map (fun o => .hbmWrite o data)))

/-! ## Answers that arrive (R45, R152, R164) -/

/-- An answer to a write of the host: counted, and what waited for it goes. -/
def State.hostAnswered (s : State) (port : Fin 4) (p : Packet) : State :=
  (s.hostAcked port.val p.addr.toNat p.status).hostPump port

/-- ACK_ARRIVE (R45, R164, R236, R348): a WRITE_ACK, PUT_ACK, ATOMIC_RSP or CTRL_ACK reaches the endpoint that awaits it. -/
def execAckArrive (node : Node) (p : Packet) (s : State) : Result :=
  .next (if (s.arrivedAt node).contains p && (isAck p.ptype || p.ptype == ptCtrlAck) then
      match unitOf node, node with
      | some k, _ => s.ackUnit node k p
      | none, .pc q => if p.ptype = ptCtrlAck then (s.takeAt node p).grantAnswered q.val p.tag (p.status == stBusy) else s.takeAt node p
      | none, .host h => (s.takeAt node p).hostAnswered h p
      | none, _ => s.takeAt node p
    else s)

/-- COMPLETION_ARRIVE (R45, R152): a COMPLETION takes the place of an answer. A grant so answered is dropped. -/
def execCompletionArrive (node : Node) (p : Packet) (s : State) : Result :=
  .next (if (s.arrivedAt node).contains p && p.ptype == ptCompletion then
      match unitOf node, node with
      | some k, _ => s.completionUnit node k p
      | none, .pc q => (s.takeAt node p).grantAnswered q.val p.tag false
      | none, .host h => (s.takeAt node p).hostAnswered h p
      | none, _ => s.takeAt node p
    else s)

end Sys2Proof.Machine
end

