-- ==== Sys2Proof/Machine/Approx.lean ====
section
/-! DEFINITION. Machine/Approx.lean: the functions that the spec bounds by a number of ulp (VEXP2, VLOG2, VRCP,
VRSQRT of R85; GELU and SiLU of R69). The exact value is located; the result is any FP32 value within the bound, a free
value choosing which (log entry 6). -/

namespace Sys2Proof.Machine

/-- Digits of an integer square root from bit k - 1 down. -/
def isqrtAux (n : Nat) : Nat → Nat → Nat
  | 0, acc => acc
  | k + 1, acc => let c := acc + 2 ^ k; if c * c ≤ n then isqrtAux n k c else isqrtAux n k acc

/-- The integer square root. -/
def isqrt (n : Nat) : Nat := isqrtAux n (Nat.log2 n / 2 + 1) 0

/-- A positive real located for rounding to FP32: e = floor(log2 y), q = floor(y / 2^(u - 2)) where 2^u is one ulp
at y, and whether that quotient is exact. -/
structure Located where
  e : Int
  q : Nat
  exact : Bool
  deriving DecidableEq, Repr

/-- The exponent of one ulp of FP32 at a value whose exponent is e. -/
def ulpExp (e : Int) : Int := max (e - 23) (-149)

/-- The magnitude of an FP32 pattern in units of 2^b, for a b at or below its last bit; b ≥ -151. -/
def patUnits (p : Nat) (b : Int) : Nat :=
  match fmtFp32.decode p with
  | .fin _ m e => if b ≤ e then atExp m e b else m / 2 ^ (b - e).toNat
  | _ => 0

/-- The FP32 magnitude pattern at or just below a located real. -/
def Located.trunc (y : Located) : Nat :=
  let u := ulpExp y.e
  fmtFp32.pack false (y.q / 4) u

/-- An FP32 value within n ulp of (-1)^neg × y; the free word w chooses which. Beyond the FP32 range: infinity. -/
def pickWithin (n : Nat) (neg : Bool) (y : Located) (w : W64) : W32 :=
  if 127 < y.e then BitVec.ofNat 32 (fmtFp32.infBits neg)
  else
    let u := ulpExp y.e
    let p := y.trunc
    let c : Int := (p : Int) + (w.toNat % 17 : Nat) - 8
    let v : Int := if c < 0 then -(patUnits c.natAbs (u - 2) : Int) else patUnits c.natAbs (u - 2)
    let lo : Int := (y.q : Int) - 4 * n + (if y.exact then 0 else 1)
    let hi : Int := (y.q : Int) + 4 * n
    let pick : Int := if c < 0x7f800000 ∧ lo ≤ v ∧ v ≤ hi then c else p
    BitVec.ofNat 32 (fmtFp32.signBit (neg != decide (pick < 0)) + pick.natAbs)

/-- num / den located, for positive integers. -/
def locateRatio (num den : Nat) : Located :=
  let g : Int := (Nat.log2 num : Int) - Nat.log2 den
  let ge (e : Int) : Bool := if 0 ≤ e then decide (den * 2 ^ e.toNat ≤ num) else decide (den ≤ num * 2 ^ (-e).toNat)
  let e := if ge g then g else g - 1
  let b := ulpExp e - 2
  let top := if b < 0 then num * 2 ^ (-b).toNat else num
  let bot := if b < 0 then den else den * 2 ^ b.toNat
  ⟨e, top / bot, top % bot == 0⟩

/-- 1 / (m × 2^e). -/
def locateRcp (m : Nat) (e : Int) : Located :=
  if 0 ≤ e then locateRatio 1 (m * 2 ^ e.toNat) else locateRatio (2 ^ (-e).toNat) m

/-- 1 / sqrt(m × 2^e). -/
def locateRsqrt (m : Nat) (e : Int) : Located :=
  -- floor(y / 2^b) = isqrt(floor(2^(-e - 2b) / m))
  let at2 (b : Int) : Nat × Bool :=
    let k := -e - 2 * b
    let num := 2 ^ k.toNat
    let den := m * 2 ^ (-k).toNat
    let t := isqrt (num / den)
    (t, t * t * den == num)
  let g := (-((Nat.log2 m : Int) + e)) / 2
  let x := if 1 ≤ (at2 g).1 then g else g - 1
  let r := at2 (ulpExp x - 2)
  ⟨x, r.1, r.2⟩

/-- 2^(f / 2^64) in units of 2^-127, from the binary digits of f, the lowest first. -/
def exp2Frac : Nat → Nat → Nat → Nat
  | 0, _, r => r
  | k + 1, f, r => exp2Frac k (f / 2) (isqrt (r * (if f % 2 = 1 then 2 else 1) * 2 ^ 127))

/-- 2^x for x = (-1)^neg × m × 2^e, with |x| below 2^11. -/
def locateExp2 (neg : Bool) (m : Nat) (e : Int) : Located :=
  let i : Int := if 0 ≤ e then signed neg (m * 2 ^ e.toNat) else (signed neg m) / (2 ^ (-e).toNat : Nat)
  let rem : Nat := if 0 ≤ e then 0 else ((signed neg m) % (2 ^ (-e).toNat : Nat)).toNat
  let f := if e < -64 then rem / 2 ^ (-e - 64).toNat else rem * 2 ^ (64 + e).toNat
  let r := exp2Frac 64 f (2 ^ 127)
  let s := i - (ulpExp i - 2)
  let q := if 127 ≤ s then r * 2 ^ (s - 127).toNat else r / 2 ^ (127 - s).toNat
  ⟨i, q, rem == 0⟩

/-- n binary digits of log2 of z / 2^256, 1 ≤ z / 2^256 < 2. -/
def log2Frac : Nat → Nat → Nat → Nat
  | 0, _, acc => acc
  | n + 1, z, acc =>
    let z2 := z * z / 2 ^ 256
    if 2 ^ 257 ≤ z2 then log2Frac n (z2 / 2) (2 * acc + 1) else log2Frac n z2 (2 * acc)

/-- log2(m × 2^e): its sign and its magnitude located; none when it is 0. -/
def locateLog2 (m : Nat) (e : Int) : Option (Bool × Located) :=
  let k := Nat.log2 m
  let l : Int := (k : Int) + e
  let pow2 := 2 ^ k == m
  let y : Int := l * 2 ^ 96 + (log2Frac 96 (m * 2 ^ 256 / 2 ^ k) 0 : Nat)
  let neg := decide (l < 0)
  let a : Nat := if neg then (if pow2 then y.natAbs else y.natAbs - 1) else y.natAbs
  if l = 0 ∧ pow2 = true then none
  else
    let r := locateRatio a (2 ^ 96)
    some (neg, { r with exact := r.exact && pow2 })

/-- floor(ln 2 × 2^256). -/
def ln2Fix : Nat := 80260960185991308862233904206310070533990667611589946606122867505419956976171

/-- exp of a fraction r / 2^256 below ln 2, in units of 2^-256, by its series: term and sum so far. -/
def expSeries : Nat → Nat → Nat → Nat → Nat → Nat
  | 0, _, _, _, acc => acc
  | fuel + 1, n, r, term, acc =>
    let term := term * r / 2 ^ 256 / n
    expSeries fuel (n + 1) r term (acc + term)

/-- e^h for h = num / 2^256: a mantissa in units of 2^-256 and a binary exponent. -/
def expFix (num : Int) : Nat × Int :=
  let k := num / (ln2Fix : Int)
  let r := (num % (ln2Fix : Int)).toNat
  (expSeries 64 1 r (2 ^ 256) (2 ^ 256), k)

/-- |x| / (1 + e^(-h)) located, for x = m × 2^e and h = num / 2^256, both of the magnitudes that R69 reaches. -/
def locateSigmoid (m : Nat) (e : Int) (num : Int) : Located :=
  let (mant, k) := expFix (-num)
  -- den / 2^512 = 1 + mant × 2^(k - 256)
  let den := 2 ^ 512 + (if 0 ≤ k + 256 then mant * 2 ^ (k + 256).toNat else mant / 2 ^ (-(k + 256)).toNat)
  let top := m * 2 ^ 512
  let r := if 0 ≤ e then locateRatio (top * 2 ^ e.toNat) den else locateRatio top (den * 2 ^ (-e).toNat)
  { r with exact := false }

/-- (-1)^neg × m × 2^e as an integer count of 2^-256. -/
def fix256 (neg : Bool) (m : Nat) (e : Int) : Int :=
  signed neg (if -256 ≤ e then m * 2 ^ (e + 256).toNat else m / 2 ^ (-(e + 256)).toNat)

/-- GELU of R69, a free word choosing among the values within 4 ulp. -/
def gelu (x : W32) (w : W64) : W32 :=
  match ofF32 x with
  | .nan => toF32 .nan
  | .inf n => if n then 0x80000000 else x
  | .fin n m e =>
    let v : Fp := .fin n m e
    if (Fp.fin false 16 0).lt v then x
    else if v.lt (.fin true 16 0) then 0x80000000
    else if m = 0 then pickWithin 4 n ⟨-149, 0, true⟩ w
    else
      let f := fix256 n m e
      let cube := f * f * f / (2 ^ 512 : Nat)
      let h := (2 * (797885 * f + 35677 * cube)) / 1000000
      pickWithin 4 n (locateSigmoid m e h) w

/-- SiLU of R69, a free word choosing among the values within 4 ulp. -/
def silu (x : W32) (w : W64) : W32 :=
  match ofF32 x with
  | .nan => toF32 .nan
  | .inf n => if n then 0x80000000 else x
  | .fin n m e =>
    let v : Fp := .fin n m e
    if v.lt (.fin true 88 0) then 0x80000000
    else if (Fp.fin false 1024 0).lt v then pickWithin 4 n { locateRatio (m * 2 ^ (e + 149).toNat) (2 ^ 149) with exact := false } w
    else if m = 0 then pickWithin 4 n ⟨-149, 0, true⟩ w
    else pickWithin 4 n (locateSigmoid m e (fix256 n m e)) w

/-- VRCP (R85, R89): the result and whether it was a division by zero. -/
def vrcp (x : W32) (w : W64) : W32 × Bool :=
  match ofF32 x with
  | .nan => (toF32 .nan, false)
  | .inf n => (toF32 (.fin n 0 0), false)
  | .fin n m e =>
    if m = 0 then (toF32 (.inf n), true) else (pickWithin 2 n (locateRcp m e) w, false)

/-- VRSQRT (R85, R89): the result, an invalid operation, a division by zero. -/
def vrsqrt (x : W32) (w : W64) : W32 × Bool × Bool :=
  match ofF32 x with
  | .nan => (toF32 .nan, false, false)
  | .inf n => if n then (toF32 .nan, true, false) else (0, false, false)
  | .fin n m e =>
    if m = 0 then (toF32 (.inf n), false, true)
    else if n then (toF32 .nan, true, false)
    else (pickWithin 2 false (locateRsqrt m e) w, false, false)

/-- VLOG2 (R85, R89): the result, an invalid operation, a division by zero. -/
def vlog2 (x : W32) (w : W64) : W32 × Bool × Bool :=
  match ofF32 x with
  | .nan => (toF32 .nan, false, false)
  | .inf n => if n then (toF32 .nan, true, false) else (x, false, false)
  | .fin n m e =>
    if m = 0 then (toF32 (.inf true), false, true)
    else if n then (toF32 .nan, true, false)
    else match locateLog2 m e with
      | none => (pickWithin 2 false ⟨-149, 0, true⟩ w, false, false)
      | some (s, y) => (pickWithin 2 s y w, false, false)

/-- VEXP2 (R85). -/
def vexp2 (x : W32) (w : W64) : W32 :=
  match ofF32 x with
  | .nan => toF32 .nan
  | .inf n => if n then 0 else x
  | .fin n m e =>
    if (Fp.fin false 1024 0).lt (.fin false m e) then
      (if n then pickWithin 2 false ⟨-1024, 0, false⟩ w else toF32 (.inf false))
    else pickWithin 2 false (locateExp2 n m e) w

end Sys2Proof.Machine
end

