-- ==== Sys2Proof/Machine/Flags.lean ====
section
/-! DEFINITION. Machine/Flags.lean: the sticky flags of the engines (R58, R72, R89, R98). -/

namespace Sys2Proof.Machine

/-- Bits of VX.VSTAT (R98). -/
def vsPermRange : BitVec 8 := 0x01
def vsNan : BitVec 8 := 0x02
def vsInf : BitVec 8 := 0x04
def vsInvalid : BitVec 8 := 0x08
def vsDivz : BitVec 8 := 0x10
def vsSat : BitVec 8 := 0x20
def vsIntWrap : BitVec 8 := 0x40

/-- The flag, when a condition holds. -/
def flagIf (b : Bool) (f : BitVec 8) : BitVec 8 := if b then f else 0

/-- Sticky VSTAT flags set. -/
def Vx.raise (v : Vx) (f : BitVec 8) : Vx := { v with vstat := v.vstat ||| f }

/-- The VSTAT flags of conversions (R89, R125, R128). -/
def CvtFlags.vstat (c : CvtFlags) : BitVec 8 := flagIf c.sat vsSat ||| flagIf c.inf vsInf ||| flagIf c.nan vsNan

/-- The MX.STAT flags of conversions (R72). -/
def Mx.raiseCvt (m : Mx) (c : CvtFlags) : Mx :=
  { m with sat := m.sat || c.sat, inf := m.inf || c.inf, nan := m.nan || c.nan }

/-- NAN_SEEN and INF_SEEN for FP32 results written (R89). -/
def seenF32 (ws : List W32) : BitVec 8 :=
  flagIf (ws.any (fun w => (ofF32 w).isNan)) vsNan ||| flagIf (ws.any (fun w => (ofF32 w).isInf)) vsInf

/-- The same for results of a 16-bit format. -/
def seenFmt (f : Format) (bits : List Nat) : BitVec 8 :=
  flagIf (bits.any (fun b => (f.decode b).isNan)) vsNan ||| flagIf (bits.any (fun b => (f.decode b).isInf)) vsInf

/-- An exact integer result lies outside the two's-complement range of n bits: an integer overflow (R89). -/
def intOverflows (n : Nat) (i : Int) : Bool := decide (i < -(2 ^ (n - 1) : Nat)) || decide (((2 ^ (n - 1) : Nat) : Int) ≤ i)

/-- An invalid operation of a sum: infinities of opposite sign (R89). -/
def addInvalid (a b : Fp) : Bool :=
  match a, b with
  | .inf x, .inf y => x != y
  | _, _ => false

/-- An invalid operation of a product: 0 × ∞ (R89). -/
def mulInvalid (a b : Fp) : Bool := (a.isInf && b.isZero) || (a.isZero && b.isInf)

/-- An INT32 accumulation of the matrix engine (R58): the sum wrapped or saturated, and whether it left INT32. -/
def accInt (sat : Bool) (c : W32) (sum : Int) : W32 × Bool :=
  let i := c.toInt + sum
  if intOverflows 32 i then
    (if sat then (if i < 0 then 0x80000000 else 0x7fffffff) else BitVec.ofInt 32 i, true)
  else (BitVec.ofInt 32 i, false)

end Sys2Proof.Machine
end

