-- ==== Sys2Proof/Machine/Matrix.lean ====
section
/-! DEFINITION. Machine/Matrix.lean: the matrix engine: the push check, MMA, DRAIN, ZERO, LDTAB and the drain of an
accumulate-and-drain (R53–R78). -/

namespace Sys2Proof.Machine

/-! ## The push check (R34, R62, R67, R72) -/

/-- Bytes of a descriptor's destination tile with its scale block. -/
def fodDestSpan (w0 : W64) : Nat := tileSpan (fodOutfmt w0)

/-- Bytes of the scale operand (R68 step 2). -/
def fodScaleSpan (w0 : W64) : Nat := match fodScaleMode w0 with | 0 => 0 | 1 => 4 | 2 => 256 | _ => 512

/-- Bytes of the bias operand (R68 step 3). -/
def fodBiasSpan (w0 : W64) : Nat := if fodBiasEn w0 then (if fodBiasBf16 w0 then 128 else 256) else 0

/-- The window check of a descriptor's ranges and of its destination (R62). -/
def Site.fodInWindow (a : Site) (h : BitVec 3) (w0 w1 : W64) (daddr : Nat) : Bool :=
  a.inWindow h (64 * daddr) (fodDestSpan w0)
    && (fodScaleMode w0 == 0 || a.inWindow h (64 * fodScaleAddr w0) (fodScaleSpan w0))
    && (!fodBiasEn w0 || a.inWindow h (64 * fodBiasAddr w1) (fodBiasSpan w0))
    && (fodMask w0 == 0 || a.inWindow h (64 * fodMaskAddr w1) 512)

/-- A descriptor obeys R69 and R72 for a tile of the given type. DESIGN CHOICE 148: the reserved ACT codes 6 and 7 fail too, as a
reserved code of a matrix command; R62 names R67 and R72 for the snapshot. -/
def fodOk (w0 : W64) (int ovfAllow : Bool) : Bool :=
  let o := fodOutfmt w0
  (decide (o ≤ 8) || o == 0xa
      || (o == 0xb && int && fodScaleMode w0 == 0 && !fodBiasEn w0 && fodAct w0 == 0 && decide (fodMask w0 ≤ 1)))
    && decide (fodAct w0 ≤ 5)
    && (!fodOvf w0 || (ovfAllow && o != 0xa))

/-- Last tile index that an operand of K-steps reads (R62). -/
def lastTile (fmt ksteps : Nat) : Nat := if fmt = 9 then (ksteps - 1) / 2 else ksteps - 1

/-- The window check of an operand (R62). -/
def Site.operandInWindow (a : Site) (h : BitVec 3) (fmt addr stride ksteps : Nat) : Bool :=
  decide (fmt = 0) || decide (10 < fmt) || a.inWindow h (64 * (addr + lastTile fmt ksteps * stride)) (tileSpan fmt)

/-- The window check of a matrix command (R34). -/
def Site.mxInWindow (a : Site) (n : Fin 4) (b : BitVec 256) : Bool :=
  let h := a.homeOf n
  let f := vget {} a.mx.fod (mxFod b)
  (!mxDrains b || a.fodInWindow h f.w0 f.w1 (mxDaddr b))
    && (mxOp b != 1 || (a.operandInWindow h (mxAfmt b) (mxAaddr b) (mxAstride b) (mxKsteps b)
        && a.operandInWindow h (mxBfmt b) (mxBaddr b) (mxBstride b) (mxKsteps b)))
    && (mxOp b != 4 || a.inWindow h (64 * mxAaddr b) 2112)

/-- The accumulator type of a tile at the push: INT32 (R63). -/
def Site.accInt? (a : Site) (t : Nat) : Bool := bit a.mx.accType t

/-- Fields that an operation does not name are zero (R61). -/
def mxUnusedZero (b : BitVec 256) : Bool :=
  match mxOp b with
  | 1 => mxField b 120 8 == 0
  | 2 => mxField b 6 10 == 0 && mxField b 22 76 == 0 && mxField b 120 8 == 0
  | 3 => mxField b 10 6 == 0 && mxField b 22 2 == 0 && mxField b 30 98 == 0
  | _ => mxField b 6 10 == 0 && mxField b 17 23 == 0 && mxField b 57 71 == 0

/-- The field checks of R62. DESIGN CHOICE 147: the descriptor and the destination of an MMA are checked where the command drains, with
ACCOP 2 alone; R62 names no ACCOP there. -/
def Site.mxFieldsOk (a : Site) (b : BitVec 256) : Bool :=
  let f := vget {} a.mx.fod (mxFod b)
  let fa := mxAfmt b
  let fb := mxBfmt b
  mxUnusedZero b &&
  match mxOp b with
  | 1 =>
    mxAccop b != 3 && decide (1 ≤ fa) && decide (fa ≤ 10) && decide (1 ≤ fb) && decide (fb ≤ 10)
      && ((fa == 10) == (fb == 10)) && !(fa == 9 && mxAori b) && !(fb == 9 && mxBori b)
      && (mxAccop b == 0 || a.accInt? (mxAcc b) == (fa == 10))
      && (mxAccop b != 2 || fodOk f.w0 (fa == 10) a.mx.ieeeOvfAllow)
  | 2 => fodOk f.w0 (a.accInt? (mxAcc b)) a.mx.ieeeOvfAllow
  | 3 => decide (mxAcc b + mxKsteps b ≤ 64) && (fa == 0 || fa == 0xb)
  | _ => true

/-- The check of a matrix command at its push: a fault code, or none (R34, R62). DESIGN CHOICE 149: a command that fails both checks raises
WINDOW_FAULT; R34 names the two faults and no order. -/
def Site.mxCheck (a : Site) (n : Fin 4) (b : BitVec 256) : Option Nat :=
  if mxOp b = 0 ∨ 4 < mxOp b then some fcMatrix
  else if !a.mxInWindow n b then some fcWindow
  else if !a.mxFieldsOk b then some fcMatrix
  else none

/-- The accumulator types after a push (R63). -/
def pushTypes (t : W64) (b : BitVec 256) : W64 :=
  match mxOp b with
  | 1 => if mxAccop b = 0 then putBit t (mxAcc b) (mxAfmt b == 10) else t
  | 3 => (List.range (mxKsteps b)).foldl (fun t i => putBit t (mxAcc b + i) (mxAfmt b == 0xb)) t
  | _ => t

/-- What a push of a matrix command fixes: the descriptor's snapshot, the type of the tile that it drains, and the accumulator
types after it (R63, R67, R68). -/
def Site.mxPush (a : Site) (e : QEntry) : Site × QEntry :=
  let f := vget {} a.mx.fod (mxFod e.bits)
  ({ a with mx := { a.mx with accType := pushTypes a.mx.accType e.bits } },
   { e with fod0 := f.w0, fod1 := f.w1, fod2 := f.w2, int := a.accInt? (mxAcc e.bits) })

/-! ## Accumulators -/

/-- Element (r, c) of accumulator tile t. -/
def Mx.accGet (m : Mx) (t r c : Nat) : W32 := Sparse.get 0 m.acc (4096 * t + 64 * r + c)

/-- The 4,096 elements of accumulator tile t, by rows. -/
def Mx.accTile (m : Mx) (t : Nat) : Array W32 := (Sparse.read 0 m.acc (4096 * t) 4096).toArray

/-- Accumulator tile t replaced. -/
def Mx.setAccTile (m : Mx) (t : Nat) (ws : List W32) : Mx := { m with acc := Sparse.write 0 m.acc (4096 * t) ws }

/-! ## Products (R54–R58) -/

/-- The value of operand A at (m, k) of a K-step (R54–R56). -/
def opA (t : Tile) (file : Bool) (sub m k : Nat) : Fp := if file then t.value k m m k sub else t.value m k m k sub

/-- The value of operand B at (k, n) of a K-step (R54–R56). DESIGN CHOICE 116: for an MXFP4 operand R54's table of the rank
orientation reads the byte at (k, n), and R55's "inner index c" reads as (n, k); the model takes R54's. -/
def opB (t : Tile) (file : Bool) (sub k n : Nat) : Fp := if file then t.value n k n k sub else t.value k n n k sub

/-- The 4,096 values of a matrix by rows. -/
def matOf {α : Type} (f : Nat → Nat → α) : Array α := ((List.range 4096).map (fun i => f (i / 64) (i % 64))).toArray

/-- The column sum of one element: 64 products in order k, each rounded to FP32, rounded after each addition (R58). -/
def colSum (a b : Array Fp) (m n : Nat) : W32 :=
  let prod (k : Nat) : W32 := toF32 ((a.getD (64 * m + k) .zero).mul (b.getD (64 * k + n) .zero))
  (List.range 63).foldl (fun s k => f32Add s (prod (k + 1))) (prod 0)

/-- The column sum of INT8 products, exact (R58). -/
def colSumInt (a b : Array Int) (m n : Nat) : Int :=
  (List.range 64).foldl (fun s k => s + a.getD (64 * m + k) 0 * b.getD (64 * k + n) 0) 0

/-- An INT8 element. -/
def Tile.int8 (t : Tile) (r c : Nat) : Int := (BitVec.ofNat 8 (t.raw r c 0)).toInt

/-- A K-step uses the tile that the K-step before it read: an MXFP4 tile serves two (R55, R57). -/
def tileHeld (fmt row : Nat) : Bool := fmt == 9 && row % 2 == 1

/-- Physical address of the tile of an operand that an MMA's next K-step uses (R62). -/
def Site.operandAt (a : Site) (e : QEntry) (fmt addr stride : Nat) : Nat :=
  a.homeAddr e.slot (64 * (addr + (if fmt = 9 then e.row / 2 else e.row) * stride))

def Site.addrA (a : Site) (e : QEntry) : Nat := a.operandAt e (mxAfmt e.bits) (mxAaddr e.bits) (mxAstride e.bits)
def Site.addrB (a : Site) (e : QEntry) : Nat := a.operandAt e (mxBfmt e.bits) (mxBaddr e.bits) (mxBstride e.bits)

/-- The entry with the MXFP4 tiles that its next K-step reads, which it holds for the K-step after (R57). -/
def Site.holdTiles (a : Site) (e : QEntry) : QEntry :=
  { e with tileA := if mxAfmt e.bits = 9 ∧ e.row % 2 = 0 then a.bytes (a.addrA e) (tileSpan 9) else e.tileA
           tileB := if mxBfmt e.bits = 9 ∧ e.row % 2 = 0 then a.bytes (a.addrB e) (tileSpan 9) else e.tileB }

/-- The operand tiles of a K-step. -/
def Site.operandA (a : Site) (e : QEntry) : Tile :=
  if mxAfmt e.bits = 9 then ⟨9, e.tileA.toArray⟩ else a.tile (mxAfmt e.bits) (a.addrA e)
def Site.operandB (a : Site) (e : QEntry) : Tile :=
  if mxBfmt e.bits = 9 then ⟨9, e.tileB.toArray⟩ else a.tile (mxBfmt e.bits) (a.addrB e)

/-- One K-step into a tile held by rows: overwriting, or accumulating (R58, R64). Whether an INT32 sum wrapped. -/
def Site.kstep (a : Site) (e : QEntry) (anew : Bool) (c : Array W32) : Array W32 × Bool :=
  let b := e.bits
  let sub (f : Nat) : Nat := if f = 9 then e.row % 2 else 0
  let ta := a.operandA e
  let tb := a.operandB e
  if mxAfmt b = 10 then
    let ma := matOf (fun m k => if mxAori b then ta.int8 k m else ta.int8 m k)
    let mb := matOf (fun k n => if mxBori b then tb.int8 n k else tb.int8 k n)
    let rs := (List.range 4096).map (fun i =>
      accInt a.mx.intSat (if anew then 0 else c.getD i 0) (colSumInt ma mb (i / 64) (i % 64)))
    ((rs.map (fun r => r.1)).toArray, rs.any (fun r => r.2))
  else
    let ma := matOf (opA ta (mxAori b) (sub (mxAfmt b)))
    let mb := matOf (opB tb (mxBori b) (sub (mxBfmt b)))
    (((List.range 4096).map (fun i =>
      let p := colSum ma mb (i / 64) (i % 64)
      if anew then p else f32Add (c.getD i 0) p)).toArray, false)

/-- The next K-step of an MMA (R53, R64, R75). -/
def Site.runMma (a : Site) (e : QEntry) : Site :=
  let b := e.bits
  let r := a.kstep e (mxAccop b == 0 && e.row == 0) (a.mx.accTile (mxAcc b))
  { a with mx := { a.mx.setAccTile (mxAcc b) r.1.toList with intWrap := a.mx.intWrap || r.2, curAcc := BitVec.ofNat 6 (mxAcc b) } }

/-! ## Fused output stage (R68–R73) -/

/-- n little-endian elements of w bytes at a physical address. -/
def Site.words (a : Site) (addr w n : Nat) : List Nat :=
  (List.range n).map (fun i => leNat (a.bytes (addr + w * i) w))

/-- The scale operands of a drain, read once (R68). -/
def Site.readScale (a : Site) (n : Fin 4) (w0 : W64) : List W32 :=
  (a.words (a.homeAddr n (64 * fodScaleAddr w0)) 4 (fodScaleSpan w0 / 4)).map (BitVec.ofNat 32)

/-- The bias operands of a drain as FP32, read once (R68). -/
def Site.readBias (a : Site) (n : Fin 4) (w0 w1 : W64) : List W32 :=
  let addr := a.homeAddr n (64 * fodBiasAddr w1)
  if !fodBiasEn w0 then []
  else if fodBiasBf16 w0 then (a.words addr 2 64).map (fun v => BitVec.ofNat 32 (v * 65536))
  else (a.words addr 4 64).map (BitVec.ofNat 32)

/-- A table evaluated at x (R69). A free value of x gives the segment where the index is no number (log entry 6). -/
def Mx.table (m : Mx) (i : Nat) (x : W32) : W32 :=
  let word (j : Nat) : W32 := Sparse.get 0 m.tables (1024 * i + j)
  let p := ofF32 (f32Mul (f32Add x (word 0 ^^^ 0x80000000)) (word 1))
  let seg : Nat := match p with
    | .nan => (Config.approxWord (4 + i) x).toNat % 256
    | .inf n => if n then 0 else 255
    | .fin n mm e =>
      let v : Int := if 0 ≤ e then signed n (mm * 2 ^ e.toNat) else signed n mm / (2 ^ (-e).toNat : Nat)
      if v < 0 then 0 else min v.toNat 255
  if (ofF32 x).isNan then toF32 .nan
  else if (ofF32 (word (16 + 2 * seg))).isZero then word (17 + 2 * seg)
  else f32Fma (word (16 + 2 * seg)) x (word (17 + 2 * seg))

/-- The activation of R69. -/
def Mx.activate (m : Mx) (act : Nat) (x : W32) : W32 :=
  match act with
  | 0 => x
  | 1 => if (ofF32 x).isNan then toF32 .nan else if Fp.zero.lt (ofF32 x) then x else 0
  | 2 => gelu x (Config.approxWord 2 x)
  | 3 => silu x (Config.approxWord 3 x)
  | 4 => m.table 0 x
  | _ => m.table 1 x

/-- Sixteen bits from a noise stream, and the stream advanced (R130). The generator's feedback is free. -/
def drawNoise (s : BitVec 128) : BitVec 16 × BitVec 128 := (Config.noiseOut s, Config.noiseNext s)

/-- One element after steps 1 to 6: its FP32 value, its mask bit and the noise stream. -/
def Mx.stage (m : Mx) (e : QEntry) (inside : Bool) (r c : Nat) (x : W32) (ns : BitVec 128) : W32 × Bool × BitVec 128 :=
  let w0 := e.fod0
  let x := if e.int then ofInt32 x else x
  let x := match fodScaleMode w0 with
    | 0 => x
    | 1 => f32Mul x (e.scaleOps.getD 0 0)
    | 2 => f32Mul x (e.scaleOps.getD r 0)
    | _ => f32Mul x (e.scaleOps.getD (2 * r + c / 32) 0)
  let x := if fodBiasEn w0 then f32Add x (e.biasOps.getD c 0) else x
  let v := ofF32 x
  let mb := match fodMask w0 with
    | 1 => Fp.zero.lt v
    | 2 => v.abs.lt (ofF32 (fodParam e.fod2)) || v.abs.eqv (ofF32 (fodParam e.fod2))
    | _ => false
  let x := m.activate (fodAct w0) x
  if fodMask w0 = 3 ∧ inside then
    let (u, ns) := drawNoise ns
    if u.toNat < fodKeep e.fod2 then (f32Mul x (fodParam e.fod2), true, ns) else (0, false, ns)
  else (x, mb, ns)

/-- The running maximum of R71. -/
def Amax.merge (r : Amax) (v : Fp) : Amax :=
  if v.isNan then { r with nan := true }
  else if (ofF32 r.value).lt v.abs then { r with value := toF32 v.abs } else r

/-- What a drain has produced so far. -/
structure DrainAcc where
  noise : BitVec 128
  amax : Amax
  flags : CvtFlags := {}
  /-- Mask bits, by element. -/
  mask : List Bool := []
  /-- (row, column, stored bits) of the elements written. -/
  elems : List (Nat × Nat × Nat) := []
  /-- Scale bytes, by 2 m + b. -/
  scales : List Nat := []

/-- OUTFMT draws rounding bits (R130). -/
def fodRounds (w0 : W64) : Bool :=
  fodRound w0 && ((decide (1 ≤ fodOutfmt w0) && decide (fodOutfmt w0 ≤ 8)) || fodOutfmt w0 == 10)

/-- One element converted to a format that is not MX (R72, R128). -/
def fodConvert (w0 : W64) (rnd : Rounding) (x : W32) : Nat × CvtFlags :=
  let v := ofF32 x
  match fodOutfmt w0 with
  | 0 => ((toF32 v).toNat, { nan := v.isNan, inf := v.isInf })
  | 10 => narrowInt8 rnd v
  | f => (formatOf f).narrow rnd (fodOvf w0) v

/-- Row r of a drain (R68–R73). DESIGN CHOICE 117: R72 and R125 do not say whether an element outside ROWS × COLS sets
MX.STAT.NAN_SEEN, INF_SEEN or SAT, or enters the maximum of an MX block. Here the elements written do in an output that is not MX,
and all 64 elements of a row in an MX output, whose blocks are formed from whole rows. -/
def Mx.drainRow (m : Mx) (e : QEntry) (t : Nat) (acc : DrainAcc) (r : Nat) : DrainAcc :=
  let w0 := e.fod0
  let raw := fodOutfmt w0 == 0xb
  let step (p : DrainAcc × List W32 × List Rounding) (c : Nat) : DrainAcc × List W32 × List Rounding :=
    let (d, xs, rs) := p
    let inside := decide (r ≤ fodRowsM1 w0) && decide (c ≤ fodColsM1 w0)
    let x := m.accGet t r c
    if raw then
      let mb := fodMask w0 == 1 && inside && decide (0 < x.toInt)
      let am := if fodAmaxEn w0 && inside then d.amax.merge (ofF32 (toF32 (.ofInt x.toInt.natAbs))) else d.amax
      ({ d with mask := d.mask ++ [mb], amax := am }, xs ++ [x], rs ++ [.nearest])
    else
      let (y, mb, ns) := m.stage e inside r c x d.noise
      let am := if fodAmaxEn w0 && inside then d.amax.merge (ofF32 y) else d.amax
      let (rnd, ns) := if fodRounds w0 && inside then (let (u, ns) := drawNoise ns; (Rounding.stochastic u, ns)) else (.nearest, ns)
      ({ d with mask := d.mask ++ [mb && inside], amax := am, noise := ns }, xs ++ [y], rs ++ [rnd])
  let (d, xs, rs) := (List.range 64).foldl step (acc, [], [])
  let keep := r ≤ fodRowsM1 w0
  if isMx (fodOutfmt w0) then
    let vs := xs.map ofF32
    let b0 := mxBlock (fodOutfmt w0) (vs.take 32) (rs.take 32)
    let b1 := mxBlock (fodOutfmt w0) (vs.drop 32) (rs.drop 32)
    let es := (b0.2.1 ++ b1.2.1)
    let out := if keep then (List.range (fodColsM1 w0 + 1)).map (fun c => (r, c, es.getD c 0)) else []
    { d with flags := d.flags.or (b0.2.2.or b1.2.2), scales := d.scales ++ [b0.1, b1.1], elems := d.elems ++ out }
  else if keep then
    let cs := (List.range (fodColsM1 w0 + 1)).map (fun c =>
      if raw then (c, (xs.getD c 0).toNat, ({} : CvtFlags))
      else let q := fodConvert w0 (rs.getD c .nearest) (xs.getD c 0); (c, q.1, q.2))
    { d with flags := cs.foldl (fun f q => f.or q.2.2) d.flags, elems := d.elems ++ cs.map (fun q => (r, q.1, q.2.1)) }
  else d

/-- The bytes of a mask bit-plane (R70): bit n mod 8 of byte 8 m + n div 8. -/
def maskBytes (bits : List Bool) : List Byte :=
  (List.range (bits.length / 8)).map (fun i =>
    BitVec.ofNat 8 ((List.range 8).foldl (fun v j => v + b2n (bits.getD (8 * i + j) false) * 2 ^ j) 0))

/-- The write runs of elements of a tile at their places (R73), one row: file true stores the transposed tile. -/
def elemRuns (base w : Nat) (file : Bool) (es : List (Nat × Nat × Nat)) : WriteRuns :=
  es.map (fun q => (base + 64 * w * (if file then q.2.1 else q.1) + w * (if file then q.1 else q.2.1), leBytes w q.2.2))

/-- Extra port cycles of the drained rows, each written as one rank or file of a tile at a physical address (R104). -/
def drainConflict (base : Nat) (w0 : W64) : Nat :=
  let w := elemWidth (fodOutfmt w0)
  if base % 256 = 0 then 0
  else ((List.range (fodRowsM1 w0 + 1)).map (fun r => portCycles ((List.range (fodColsM1 w0 + 1)).map (fun c =>
    (base + 64 * w * (if fodFile w0 then c else r) + w * (if fodFile w0 then r else c)) / 4)).eraseDups - 1)).sum

/-- A drain of tile t through the entry's descriptor to window offset 64 × daddr (R66–R73), and its write accesses: each row, the scale
block, and the mask bit-plane. -/
def Site.drainTile (a : Site) (e : QEntry) (t daddr : Nat) (clear : Bool) : Site × List WriteRuns :=
  let w0 := e.fod0
  let sel := fodAmaxSel w0
  let d := (List.range 64).foldl (a.mx.drainRow e t)
    { noise := a.noise.s0, amax := vget {} a.mx.amax sel }
  let base := a.homeAddr e.slot (64 * daddr)
  let runs := ((List.range 64).map (fun r => elemRuns base (elemWidth (fodOutfmt w0)) (fodFile w0) (d.elems.filter (fun q => q.1 == r))))
    ++ (if isMx (fodOutfmt w0) then [[(base + 4096, d.scales.map (BitVec.ofNat 8))]] else [])
    ++ (if fodMask w0 ≠ 0 then [[(a.homeAddr e.slot (64 * fodMaskAddr e.fod1), maskBytes d.mask)]] else [])
  let m := a.mx.raiseCvt d.flags
  let m := if fodAmaxEn w0 then { m with amax := vset m.amax sel d.amax } else m
  let m := if clear then { m with acc := Sparse.clear m.acc (4096 * t) 4096 } else m
  ({ a with mx := m, noise := { a.noise with s0 := d.noise }
            spad := { a.spad with conflict := satAdd a.spad.conflict (drainConflict base w0) } }, runs)

/-! ## The commands -/

/-- The entry at the head of a queue: the first one that is queued, or in progress and not at its end (R33, R59). -/
def Site.headOf (a : Site) (q : Fin 4) : Option QEntry := a.queues[q].find? (fun e => e.phase == .queued || e.phase == .running)

/-- An entry of queue q replaced, by its identity. -/
def Site.setEntry (a : Site) (q : Fin 4) (e : QEntry) : Site :=
  { a with queues := a.queues.set q (a.queues[q].map (fun x => if x.id = e.id then e else x)) }

/-- A drain of tile t has not read the whole tile yet (R66). -/
def Site.drainOpen (a : Site) (p : QEntry → Bool) : Bool := a.queues[(0 : Fin 4)].any (fun e => e.phase == .drainWait && p e)

/-- The scale and bias operands of a command that drains, as runs of bytes (R68). -/
def mxOperandReads (a : Site) (e : QEntry) : List (Nat × Nat) :=
  (if fodScaleMode e.fod0 = 0 then [] else [(a.homeAddr e.slot (64 * fodScaleAddr e.fod0), fodScaleSpan e.fod0)])
    ++ (if fodBiasEn e.fod0 then [(a.homeAddr e.slot (64 * fodBiasAddr e.fod1), fodBiasSpan e.fod0)] else [])

/-- The table image that an LDTAB reads (R69). -/
def mxStartReads (a : Site) (e : QEntry) : List (Nat × Nat) :=
  if mxOp e.bits = 4 then [(a.homeAddr e.slot (64 * mxAaddr e.bits), 2112)] else []

/-- The operand tiles that the next K-step of an MMA reads (R57, R62). -/
def mxTileReads (a : Site) (e : QEntry) : List (Nat × Nat) :=
  let b := e.bits
  if mxOp b = 1 then
    (if tileHeld (mxAfmt b) e.row then [] else [(a.addrA e, tileSpan (mxAfmt b))])
      ++ (if tileHeld (mxBfmt b) e.row then [] else [(a.addrB e, tileSpan (mxBfmt b))])
  else []

/-- The scratchpad bytes that a matrix command reads in its next step. -/
def mxReads (a : Site) (e : QEntry) : List (Nat × Nat) := mxStartReads a e ++ mxTileReads a e

/-- Extra port cycles of a tile's 64 rank or file accesses, and of the access of its scale block (R56, R104). -/
def tileConflict (addr fmt : Nat) (file : Bool) : Nat :=
  if addr % 256 = 0 then 0
  else ((List.range 64).map (fun i => portCycles (lineWords addr (elemWidth fmt) i file) - 1)).sum
    + runConflict (addr + 4096) (if isMx fmt then scaleBytes fmt else 0)

/-- SPW.CONFLICT after the operand reads of an MMA's next K-step: a stored MXFP4 tile serves two (R55). -/
def Site.mmaConflicts (a : Site) (e : QEntry) : Site :=
  let b := e.bits
  let one (fmt addr : Nat) (file : Bool) : Nat := if tileHeld fmt e.row then 0 else tileConflict addr fmt file
  let k := one (mxAfmt b) (a.addrA e) (mxAori b) + one (mxBfmt b) (a.addrB e) (mxBori b)
  { a with spad := { a.spad with conflict := satAdd a.spad.conflict k } }

/-- An entry with its drain operands read (R68). -/
def Site.withOperands (a : Site) (e : QEntry) : QEntry :=
  { e with opsRead := true, scaleOps := a.readScale e.slot e.fod0, biasOps := a.readBias e.slot e.fod0 e.fod1 }

/-- A command that drains and has come to the head of its queue reads its scale and bias operands, and holds them (R68). DESIGN CHOICE 158:
they are read at once, the first of the cycles that R68 and R77 give; a later write that overlaps the reading leaves the old values, which
R76 allows. -/
def State.latchOps (s : State) (k : Nat) : State :=
  match (s.site k).headOf 0 with
  | none => s
  | some e =>
    if mxDrains e.bits && !e.opsRead then
      s.readRuns k (mxOperandReads (s.site k) e) (fun s => s.updSite k (fun a => a.setEntry 0 (a.withOperands e)))
    else s

/-- An MMA's entry after its next K-step: in progress, or at its end, where an accumulate-and-drain waits for its drain (R64). -/
def QEntry.stepped (e : QEntry) : QEntry :=
  { e with row := e.row + 1
           phase := if e.row + 1 < mxKsteps e.bits then .running else if mxAccop e.bits = 2 then .drainWait else .ran }

/-- The matrix command at the head of a unit's queue, if it has operation op and may start or go on. -/
def State.mxStart (s : State) (k : Nat) (op : Nat) (may : Site → QEntry → Bool) (run : State → QEntry → State) : State :=
  match (s.site k).headOf 0 with
  | none => s
  | some e =>
    if mxOp e.bits = op ∧ may (s.site k) e = true then
      (s.readChecked k (mxReads (s.site k) e) (fun s => run (s.updSite k (fun a => a.countRuns (mxStartReads a e))) e)).latchOps k
    else s

/-- MMA (R61, R75): the next K-step of the command at the head of the queue; the drain of an accumulate-and-drain follows as its own
step. -/
def execMma (site : SiteId) (s : State) : Result :=
  .next (s.mxStart site.key 1 (fun a e => e.phase == .running || !a.drainOpen (fun d => mxAcc d.bits == mxAcc e.bits)) (fun s e =>
    s.updSite site.key (fun a =>
      let e := a.holdTiles e
      ((a.mmaConflicts e).runMma e).setEntry 0 e.stepped)))

/-- A drain of tile t of an entry, with its writes, and the entry run. -/
def State.drainEntry (s : State) (k : Nat) (e : QEntry) (clear : Bool) : State :=
  let d := (s.site k).drainTile e (mxAcc e.bits) (mxDaddr e.bits) clear
  (s.setSite k (d.1.setEntry 0 { e with phase := .ran })).writeChecked k d.2

/-- DRAIN (R61): starts when no earlier drain is in progress (R66). -/
def execDrain (site : SiteId) (s : State) : Result :=
  .next (s.mxStart site.key 2 (fun a _ => !a.drainOpen (fun _ => true))
    (fun s e => (s.drainEntry site.key e false).updSite site.key (fun a =>
      { a with mx := { a.mx with curAcc := BitVec.ofNat 6 (mxAcc e.bits) } })))

/-- ZERO (R61): not while a drain of one of its tiles is in progress (R66). -/
def execZero (site : SiteId) (s : State) : Result :=
  .next (s.mxStart site.key 3
    (fun a e => !a.drainOpen (fun d => decide (mxAcc e.bits ≤ mxAcc d.bits) && decide (mxAcc d.bits < mxAcc e.bits + mxKsteps e.bits)))
    (fun s e => s.updSite site.key (fun a =>
      { a with mx := { a.mx with acc := Sparse.clear a.mx.acc (4096 * mxAcc e.bits) (4096 * mxKsteps e.bits),
                                 curAcc := BitVec.ofNat 6 (mxAcc e.bits) } }.setEntry 0 { e with phase := .ran })))

/-- LDTAB (R61, R69): starts after every earlier drain has completed (R66). -/
def execLdtab (site : SiteId) (s : State) : Result :=
  .next (s.mxStart site.key 4 (fun a _ => !a.drainOpen (fun _ => true)) (fun s e =>
    s.updSite site.key (fun a =>
      let ws := (a.words (a.homeAddr e.slot (64 * mxAaddr e.bits)) 4 528).map (BitVec.ofNat 32)
      { a with mx := { a.mx with tables := Sparse.write 0 a.mx.tables (1024 * (mxAcc e.bits % 2)) ws } }.setEntry 0
        { e with phase := .ran })))

/-- ACC_DRAIN_START (R78): the oldest accumulate-and-drain whose sums are written drains, and its tile is cleared (R64). -/
def execAccDrainStart (site : SiteId) (s : State) : Result :=
  .next (match (s.site site.key).queues[(0 : Fin 4)].find? (fun e => e.phase == .drainWait) with
    | none => s
    | some e => s.drainEntry site.key e true)

end Sys2Proof.Machine
end

