-- ==== Sys2Proof/Machine/Vector.lean ====
section
/-! DEFINITION. Machine/Vector.lean: the vector engine's push check and its register instructions (R80–R98). -/

namespace Sys2Proof.Machine

/-! ## The push check (R85–R91, R97) -/

/-- OP names a VR instruction. -/
def isVr (op : Nat) : Bool :=
  decide (op ≤ 1) || (decide (0x10 ≤ op) && decide (op ≤ 0x20)) || (decide (0x28 ≤ op) && decide (op ≤ 0x2b))
    || (decide (0x30 ≤ op) && decide (op ≤ 0x36)) || (decide (0x38 ≤ op) && decide (op ≤ 0x43)) || op == 0x47

/-- A compare. -/
def isCompare (op : Nat) : Bool := decide (0x30 ≤ op) && decide (op ≤ 0x36)

/-- A predicate instruction, PTEST among them. -/
def isPred (op : Nat) : Bool := decide (0x38 ≤ op) && decide (op ≤ 0x3f)

/-- TYPE allows the operation (R87). -/
def typeOk (op ty : Nat) : Bool :=
  match ty with
  | 0x0 => !(decide (0x1b ≤ op) && decide (op ≤ 0x1d))
  | 0x1 | 0x2 => (decide (0x10 ≤ op) && decide (op ≤ 0x1a)) || op == 0x1f || op == 0x20 || isCompare op
  | 0xa => op == 0x10 || op == 0x11 || op == 0x14 || op == 0x15 || (decide (0x18 ≤ op) && decide (op ≤ 0x1a))
      || op == 0x1f || op == 0x20
  | 0xb => !(decide (0x28 ≤ op) && decide (op ≤ 0x2b))
  | _ => false

/-- The fields of a VR word that name predicate registers have bits [4:3] zero (R84). -/
def predFieldsOk (op : Nat) (b : BitVec 256) : Bool :=
  let ok (f : Nat) : Bool := decide (f < 8)
  if isCompare op then ok (vrVd b)
  else if op == 0x38 || op == 0x39 || op == 0x3a then ok (vrVd b) && ok (vrVa b) && ok (vrVb b)
  else if op == 0x3b then ok (vrVd b) && ok (vrVa b)
  else if op == 0x3c || op == 0x3d || op == 0x3e then ok (vrVd b)
  else if op == 0x3f then ok (vrVa b)
  else true

/-- The kinds of summary that an instruction's result allows (R97); none where it cannot emit. DESIGN CHOICE 152: VNOP and VSETVL, which
have no vector result, cannot emit either; the table of R97 names "VR with TYPE 0x0 other than VCVT". -/
def kindsOf (b : BitVec 256) : List Nat :=
  let op := vOp b
  let ty := vrType b
  let fp := [0, 1, 3, 5]
  let int := [0, 1, 3]
  if isCompare op || isPred op then [2, 4]
  else if op == 0x1e then (if ty = 0xb then fp else int)
  else if op == 0x54 then (if vField b 34 1 = 1 then int else fp)
  else if op == 0x47 || (isVr op && decide (0x10 ≤ op)) then (if ty = 0 then fp else if ty = 0xb then int else [])
  else []

/-- The E bit is allowed (R86, R97). -/
def emitOk (b : BitVec 256) : Bool :=
  !vE b || ((kindsOf b).contains (vKind b) && !(isVr (vOp b) && vrBi b))

/-- A tile specifier names a tile: T0–T7, or an accumulator tile in open ACC_MODE (R84, R95). -/
def tileSpecOk (open_ : Bool) (t : Nat) : Bool := decide (t < 8) || (decide (0x40 ≤ t) && open_)

/-- A 7-bit field of the VT format that names a vector register. -/
def vregFieldOk (t : Nat) : Bool := decide (t < 32)

/-- The format and packing rules of R90 to R92 for a VM instruction under a VL. -/
def vmOk (b : BitVec 256) (vl : BitVec 7) : Bool :=
  let f := vmFmt b
  let op := vOp b
  let i := vmIndex b
  if op == 0x4a then
    vmReg b % 2 == 0 && !vmFile b && f == 9 && !vmPack b && !vmOvf b && vl == 64
  else if op == 0x4b || op == 0x4c then !vmFile b && f == 0 && !vmPack b
  else if f = 0 ∨ f = 0xb then !vmPack b
  else if f = 1 ∨ f = 2 then !vmPack b || i % 2 == 0
  else if f = 3 ∨ f = 4 ∨ f = 0xa then !vmPack b || i % 4 == 0
  else if 5 ≤ f ∧ f ≤ 8 then !vmFile b && !vmPack b && (op == 0x48 || vl == 64)
  else f == 9 && op == 0x48 && !vmFile b && !vmPack b

/-- OVF = 1 is allowed (R86; for INT8 never, R128). -/
def ovfOk (allow ovf : Bool) (fmt : Nat) : Bool := !ovf || (allow && fmt != 0xa)

/-- The field checks of a vector instruction (R84–R97), the window check and the summary credit apart. -/
def vFieldsOk (open_ ovfAllow : Bool) (vl : BitVec 7) (b : BitVec 256) : Bool :=
  let op := vOp b
  emitOk b &&
  if isVr op then
    vField b 31 1 == 0 && typeOk op (vrType b) && predFieldsOk op b
      && (op != 1 || (decide (1 ≤ vField b 32 7) && decide (vField b 32 7 ≤ 64)))
      && (op != 0x43 || vField b 32 2 != 3)
  else if isVm op then
    vField b 30 2 == 0 && vField b 49 15 == 0 && vmOk b vl && ovfOk ovfAllow (vmOvf b) (vmFmt b)
  else if isVt op then
    vField b 30 2 == 0 &&
    match op with
    | 0x50 => tileSpecOk open_ (vtTd b) && decide (vtFmt b ≤ 0xb)
    | 0x51 => tileSpecOk open_ (vtTa b) && decide (vtFmt b ≤ 0xb) && vtFmt b != 9 && ovfOk ovfAllow (vtBit22 b) (vtFmt b)
    | 0x52 => vregFieldOk (vtTd b) && tileSpecOk open_ (vtTa b)
    | 0x53 => tileSpecOk open_ (vtTd b) && vregFieldOk (vtTa b)
    | 0x54 => vregFieldOk (vtTd b) && tileSpecOk open_ (vtTa b) && vField b 32 2 != 3
    | 0x55 => tileSpecOk open_ (vtTd b) && tileSpecOk open_ (vtTa b) && vregFieldOk (vtTb b)
    | 0x56 => tileSpecOk open_ (vtTd b) && tileSpecOk open_ (vtTa b) && tileSpecOk open_ (vtTb b)
    | _ => tileSpecOk open_ (vtTd b)
  else
    decide (vsFmt b ≤ 0xb) &&
    (if op == 0x60 then vsMask b == 0 && !(vsFile b && isMx (vsFmt b))
     else vsFmt b != 9 && !(vsFile b && isMx (vsFmt b)))

/-- The scratchpad ranges that a vector instruction names: window offset and length (R86). -/
def vRanges (b : BitVec 256) : List (Nat × Nat) :=
  let op := vOp b
  if op == 0x48 || op == 0x49 || op == 0x4a then [(vmAddr b, tileSpan (vmFmt b))]
  else if op == 0x4b || op == 0x4c then [(vmAddr b, 512)]
  else if op == 0x50 || op == 0x51 then [(vtAddr b, tileSpan (vtFmt b))]
  else if op == 0x60 then [(vsSrc b, tileSpan (vsFmt b)), (vsDst b, tileSpan (vsFmt b))]
  else if op == 0x61 then [(vsSrc b, tileSpan (vsFmt b)), (vsMask b, 512), (vsDst b, tileSpan (vsFmt b))]
  else []

/-- Summary credits in use by slot n: entries queued and instructions in flight (R38). -/
def Site.creditsInUse (a : Site) (n : Fin 4) : Nat := a.slots[n].summaries.length + a.inFlight n

/-- The check of a vector instruction at its push: a fault code, or none (R34, R38, R86). DESIGN CHOICE 151: where several apply, an opcode
that names no instruction comes first, then the windows, then the fields, then the summary credit; the spec gives no order. -/
def Site.vCheck (a : Site) (n : Fin 4) (b : BitVec 256) : Option Nat :=
  let op := vOp b
  if !(isVr op || isVm op || isVt op || isVs op) then some fcVector
  else if !(vRanges b).all (fun r => a.inWindow (a.homeOf n) r.1 r.2) then some fcWindow
  else if !vFieldsOk a.mx.accMode a.vx.ieeeOvfAllow a.slots[n].vl b then some fcVector
  else if vE b && decide (a.slots[n].quota.toNat ≤ a.creditsInUse n) then some fcSqOverrun
  else none

/-- What a push of a vector instruction fixes: the VL in force, a VSETVL's new VL, and whether it emits (R83). -/
def Site.vPush (a : Site) (e : QEntry) : Site × QEntry :=
  let vl := a.slots[e.slot].vl
  let a := if vOp e.bits = 1 then a.updSlot e.slot (fun x => { x with vl := BitVec.ofNat 7 (vField e.bits 32 7) }) else a
  (a, { e with vl := vl, emits := vE e.bits })

/-! ## Registers -/

/-- The 64 lanes of a vector register. -/
def Vx.vreg (v : Vx) (r : Nat) : List W32 := Sparse.read 0 v.v (64 * r) 64

/-- Lanes 0 to n - 1 of a vector register replaced by a list of n values (R83). -/
def Vx.setVreg (v : Vx) (r : Nat) (ws : List W32) : Vx := { v with v := Sparse.write 0 v.v (64 * r) ws }

/-- A predicate register. -/
def Vx.preg (v : Vx) (r : Nat) : W64 := vget 0 v.p r

/-- Bits 0 to n - 1 of a predicate register replaced (R83). -/
def Vx.setPreg (v : Vx) (r : Nat) (bits : List Bool) : Vx :=
  { v with p := vset v.p r (bits.zipIdx.foldl (fun w q => putBit w q.2 q.1) (v.preg r)) }

/-- The operand B of a VR instruction: V[VB], or the immediate broadcast (R88). -/
def Vx.operandB (v : Vx) (b : BitVec 256) : List W32 :=
  if vrBi b then
    let imm := vImm b
    let w : W32 := match vrType b with
      | 0x1 | 0x2 => BitVec.ofNat 32 (imm.toNat % 65536 * 65537)
      | 0xa => BitVec.ofNat 32 (imm.toNat % 256 * 16843009)
      | _ => imm
    List.replicate 64 w
  else v.vreg (vrVb b)

/-! ## Elements (R82, R87, R89) -/

/-- Width in bits of an element of a TYPE. -/
def typeBits (ty : Nat) : Nat := if ty = 1 ∨ ty = 2 then 16 else if ty = 0xa then 8 else 32

/-- The elements of a lane, the lowest first (R82). -/
def laneElems (ty : Nat) (w : W32) : List Nat :=
  (List.range (32 / typeBits ty)).map (fun i => bitsOf w.toNat (typeBits ty * i) (typeBits ty))

/-- A lane of elements. -/
def elemsLane (ty : Nat) (es : List Nat) : W32 :=
  BitVec.ofNat 32 (es.zipIdx.foldl (fun v q => v + q.1 % 2 ^ typeBits ty * 2 ^ (typeBits ty * q.2)) 0)

/-- An exact integer result wrapped to its element, with INT_WRAP when it overflowed (R89). -/
def intResult (n : Nat) (i : Int) : Nat × BitVec 8 := ((BitVec.ofInt n i).toNat, flagIf (intOverflows n i) vsIntWrap)

/-- A floating-point result rounded once to its format, with the flags of R89. -/
def fpResult (f : Format) (v : Fp) (invalid : Bool) : Nat × BitVec 8 :=
  let bits := f.round v
  (bits, flagIf invalid vsInvalid ||| seenFmt f [bits])

/-- VADD to VNEG on one element: OP 0x10 to 0x17, operands A and B and the old destination (R85, R89). -/
def arithElem (op ty : Nat) (a b d : Nat) : Nat × BitVec 8 :=
  if ty = 0xa ∨ ty = 0xb then
    let n := typeBits ty
    let x := (BitVec.ofNat n a).toInt
    let y := (BitVec.ofNat n b).toInt
    let z := (BitVec.ofNat n d).toInt
    match op with
    | 0x10 => intResult n (x + y)
    | 0x11 => intResult n (x - y)
    | 0x12 => intResult n (x * y)
    | 0x13 => intResult n (x * y + z)
    | 0x14 => (if x < y then a else b, 0)
    | 0x15 => (if x < y then b else a, 0)
    | 0x16 => intResult n x.natAbs
    | _ => intResult n (-x)
  else
    let f := formatOf ty
    let x := f.decode a
    let y := f.decode b
    let z := f.decode d
    match op with
    | 0x10 => fpResult f (x.add y) (addInvalid x y)
    | 0x11 => fpResult f (x.add y.negate) (addInvalid x y.negate)
    | 0x12 => fpResult f (x.mul y) (mulInvalid x y)
    | 0x13 => fpResult f ((x.mul y).add z) (mulInvalid x y || addInvalid (x.mul y) z)
    | 0x14 => fpResult f (x.min y) false
    | 0x15 => fpResult f (x.max y) false
    | 0x16 => fpResult f x.abs false
    | _ => fpResult f x.negate false

/-- VADD to VNEG on one lane. -/
def arithLane (op ty : Nat) (a b d : W32) : W32 × BitVec 8 :=
  let rs := ((laneElems ty a).zip ((laneElems ty b).zip (laneElems ty d))).map (fun q => arithElem op ty q.1 q.2.1 q.2.2)
  (elemsLane ty (rs.map (fun r => r.1)), rs.foldl (fun f r => f ||| r.2) 0)

/-- One lane of the remaining element-wise instructions that write V[VD] and set no flag. DESIGN CHOICE 118: R89 sets NAN_SEEN "for
any NaN written", "whether it comes from arithmetic or from a converting VLD or TLD"; the model takes the two sources it names, so that
a NaN or infinity that is only copied (here, by the permutes, TGET and TPUT) sets no flag. -/
def plainLane (op : Nat) (sel : Bool) (a b : W32) : W32 :=
  match op with
  | 0x18 => a &&& b
  | 0x19 => a ||| b
  | 0x1a => a ^^^ b
  | 0x1b => a <<< (b.toNat % 32)
  | 0x1c => a >>> (b.toNat % 32)
  | 0x1d => a.sshiftRight (b.toNat % 32)
  | 0x1f => if sel then a else b
  | _ => b

/-- VCVT on one lane (R85, R132). DESIGN CHOICE 119: a NaN or infinity converted to INT32 sets NAN_SEEN or INF_SEEN as R128's row of
INT8 does; the spec gives no such row for INT32. -/
def cvtLane (ty : Nat) (a : W32) : W32 × BitVec 8 :=
  if ty = 0xb then (ofInt32 a, 0)
  else
    let v := ofF32 a
    let r := toInt32 v
    (r.1, flagIf r.2 vsSat ||| flagIf v.isNan vsNan ||| flagIf v.isInf vsInf)

/-- VEXP2, VLOG2, VRCP, VRSQRT on one lane (R85, R89, R138; log entry 6). -/
def specialLane (op : Nat) (a : W32) : W32 × BitVec 8 :=
  let free := Config.approxWord op a
  match op with
  | 0x28 => let r := vexp2 a free; (r, seenF32 [r])
  | 0x29 => let r := vlog2 a free; (r.1, seenF32 [r.1] ||| flagIf r.2.1 vsInvalid ||| flagIf r.2.2 vsDivz)
  | 0x2a => let r := vrcp a free; (r.1, seenF32 [r.1] ||| flagIf r.2 vsDivz)
  | _ => let r := vrsqrt a free; (r.1, seenF32 [r.1] ||| flagIf r.2.1 vsInvalid ||| flagIf r.2.2 vsDivz)

/-- The value that a compare reads from a lane: element 0 for the 16-bit types (R87). -/
def cmpValue (ty : Nat) (w : W32) : Fp :=
  if ty = 0xb then .ofInt w.toInt
  else if ty = 0 then ofF32 w
  else (formatOf ty).decode (w.toNat % 65536)

/-- A compare (R85). -/
def compare (op : Nat) (a b : Fp) : Bool :=
  match op with
  | 0x30 => a.eqv b
  | 0x31 => !a.eqv b
  | 0x32 => a.lt b
  | 0x33 => a.lt b || a.eqv b
  | 0x34 => b.lt a
  | 0x35 => b.lt a || a.eqv b
  | _ => a.isNan || b.isNan

/-! ## Reductions (R94) -/

/-- Adjacent pairs added, once over a list. -/
def pairUp {α : Type} (f : α → α → α) : List α → List α
  | a :: b :: t => f a b :: pairUp f t
  | l => l

/-- A sum of 64 lanes by pairs over six levels. -/
def treeSum {α : Type} (f : α → α → α) (z : α) (l : List α) : α :=
  (pairUp f (pairUp f (pairUp f (pairUp f (pairUp f (pairUp f l)))))).headD z

/-- An INT32 addition with the wrap it may make. -/
def addWrap (a b : W32 × Bool) : W32 × Bool := (a.1 + b.1, a.2 || b.2 || intOverflows 32 (a.1.toInt + b.1.toInt))

/-- An FP32 addition with the invalid operation it may be. -/
def addF (a b : W32 × Bool) : W32 × Bool := (f32Add a.1 b.1, a.2 || b.2 || addInvalid (ofF32 a.1) (ofF32 b.1))

/-- The file sum of TRED: four partial sums by rank modulo 4, then (S0 + S1) + (S2 + S3). -/
def fileSum (f : W32 × Bool → W32 × Bool → W32 × Bool) (l : List (W32 × Bool)) : W32 × Bool :=
  let part (p : Nat) : W32 × Bool :=
    match (l.zipIdx.filter (fun q => q.2 % 4 == p)).map (fun q => q.1) with
    | [] => (0, false)
    | x :: t => t.foldl f x
  f (f (part 0) (part 1)) (f (part 2) (part 3))

/-- Reduction of a list of lanes: IMM[1:0] 0 sum, 1 max, 2 min; file selects the order of a file sum; the flags of R94.
The list of a sum has 64 lanes. -/
def reduceLanes (how : Nat) (int file : Bool) (l : List W32) : W32 × BitVec 8 :=
  let z := l.map (fun w => (w, false))
  if how = 0 then
    if int then
      let r := if file then fileSum addWrap z else treeSum addWrap (0, false) z
      (r.1, flagIf r.2 vsIntWrap)
    else
      let r := if file then fileSum addF z else treeSum addF (0, false) z
      (r.1, flagIf r.2 vsInvalid ||| seenF32 [r.1])
  else if int then
    (match l with
     | [] => 0
     | w :: t => t.foldl (fun m x => if how = 1 then (if m.toInt < x.toInt then x else m) else (if x.toInt < m.toInt then x else m)) w, 0)
  else
    let v := if how = 1 then maxExcl (l.map ofF32) else minExcl (l.map ofF32)
    (toF32 v, seenF32 [toF32 v])

/-- A list padded with +0 to 64 lanes. -/
def pad64 (l : List W32) : List W32 := l ++ List.replicate (64 - l.length) 0

/-! ## Summaries (R36, R97) -/

/-- The VALUE of a summary of a predicate's lanes. -/
def predSummary (kind : Nat) (bits : List Bool) : Nat :=
  if kind = 2 then bits.countP (fun b => b) else match bits.findIdx? (fun b => b) with
    | some i => i
    | none => 0xffffffff

/-- The VALUE of a summary of a vector's lanes, and the flags of R89 and R94: those of the additions of a sum. -/
def vecSummary (kind : Nat) (int : Bool) (l : List W32) : Nat × BitVec 8 :=
  match kind with
  | 5 => (b2n (l.any (fun w => (ofF32 w).isNan)), 0)
  | 3 => let r := reduceLanes 0 int false (pad64 l); (r.1.toNat, r.2 &&& (vsInvalid ||| vsIntWrap))
  | 0 => let r := reduceLanes 1 int false l; (r.1.toNat, r.2 &&& vsNan)
  | _ => let r := reduceLanes 2 int false l; (r.1.toNat, r.2 &&& vsNan)

/-- A summary entry (R36). -/
def summaryWord (value kind slot tag : Nat) : W64 :=
  BitVec.ofNat 64 (value % 2 ^ 32 + kind * 2 ^ 32 + slot * 2 ^ 36 + tag * 2 ^ 38)

/-- The instruction's result is an INT32 vector (R97). -/
def resultInt (b : BitVec 256) : Bool :=
  if vOp b = 0x1e then vrType b == 0 else if vOp b = 0x54 then vField b 34 1 == 1 else vrType b == 0xb

/-- An entry with the summary it asks for, over lanes 0 to VL − 1 of its result, and the engine with R94's flag. DESIGN CHOICE 153: the
result of VRED is its whole destination register, the lanes that it leaves unchanged included. -/
def Vx.summarise (v : Vx) (e : QEntry) : Vx × QEntry :=
  let b := e.bits
  let vl := e.vl.toNat
  if !vE b then (v, e)
  else if isCompare (vOp b) || isPred (vOp b) then
    let r := if vOp b = 0x3f then vrVa b else vrVd b
    let bits := (List.range vl).map (fun i => bit (v.preg (r % 8)) i)
    (v, { e with summary := some (summaryWord (predSummary (vKind b) bits) (vKind b) e.slot.val (vTag b)) })
  else
    let r := if vOp b = 0x47 then vrVa b else if vOp b = 0x54 then vtTd b else vrVd b
    let s := vecSummary (vKind b) (resultInt b) ((v.vreg r).take vl)
    (v.raise s.2, { e with summary := some (summaryWord s.1 (vKind b) e.slot.val (vTag b)) })

/-! ## The register instructions -/

/-- V[VD] lanes below VL replaced, with the flags of the lanes. -/
def Vx.writeLanes (v : Vx) (r : Nat) (ls : List (W32 × BitVec 8)) : Vx :=
  (v.setVreg r (ls.map (fun l => l.1))).raise (ls.foldl (fun f l => f ||| l.2) 0)

/-- Operands A and B and the old destination, lanes below VL. -/
def Vx.operands (v : Vx) (e : QEntry) : List (W32 × W32 × W32) :=
  ((v.vreg (vrVa e.bits)).zip ((v.operandB e.bits).zip (v.vreg (vrVd e.bits)))).take e.vl.toNat

def Vx.doArith (v : Vx) (e : QEntry) : Vx :=
  v.writeLanes (vrVd e.bits) ((v.operands e).map (fun q => arithLane (vOp e.bits) (vrType e.bits) q.1 q.2.1 q.2.2))

def Vx.doPlain (v : Vx) (e : QEntry) : Vx :=
  v.writeLanes (vrVd e.bits) ((v.operands e).zipIdx.map (fun q =>
    (plainLane (vOp e.bits) (bit (v.preg (vrPx e.bits)) q.2) q.1.1 q.1.2.1, 0)))

def Vx.doCvt (v : Vx) (e : QEntry) : Vx :=
  v.writeLanes (vrVd e.bits) ((v.operands e).map (fun q => cvtLane (vrType e.bits) q.1))

def Vx.doSpecial (v : Vx) (e : QEntry) : Vx :=
  v.writeLanes (vrVd e.bits) ((v.operands e).map (fun q => specialLane (vOp e.bits) q.1))

def Vx.doCompare (v : Vx) (e : QEntry) : Vx :=
  v.setPreg (vrVd e.bits) ((v.operands e).map (fun q =>
    compare (vOp e.bits) (cmpValue (vrType e.bits) q.1) (cmpValue (vrType e.bits) q.2.1)))

/-- PAND to PFILL (R85). -/
def Vx.doPred (v : Vx) (e : QEntry) : Vx :=
  let b := e.bits
  let pa := v.preg (vrVa b)
  let pb := v.preg (vrVb b)
  let i := vField b 32 6
  let lanes (f : Nat → Bool) : List Bool := (List.range e.vl.toNat).map f
  match vOp b with
  | 0x38 => v.setPreg (vrVd b) (lanes (fun j => bit pa j && bit pb j))
  | 0x39 => v.setPreg (vrVd b) (lanes (fun j => bit pa j || bit pb j))
  | 0x3a => v.setPreg (vrVd b) (lanes (fun j => bit pa j != bit pb j))
  | 0x3b => v.setPreg (vrVd b) (lanes (fun j => !bit pa j))
  | 0x3c => if i < e.vl.toNat then { v with p := vset v.p (vrVd b) (putBit (v.preg (vrVd b)) i true) } else v
  | 0x3d => if i < e.vl.toNat then { v with p := vset v.p (vrVd b) (putBit (v.preg (vrVd b)) i false) } else v
  | _ => v.setPreg (vrVd b) (lanes (fun _ => vField b 32 1 == 1))

/-- VPERM, VBCL, VROT (R96). A NaN or infinity that they copy sets no flag (DESIGN CHOICE 118). -/
def Vx.doPerm (v : Vx) (e : QEntry) : Vx :=
  let b := e.bits
  let vl := e.vl.toNat
  let src := v.vreg (vrVa b)
  let idx := v.operandB b
  let from_ (i : Nat) : Nat := match vOp b with
    | 0x40 => (idx.getD i 0).toNat
    | 0x41 => vField b 32 6
    | _ => (i + vField b 32 6) % vl
  let bad := (List.range vl).countP (fun i => decide (vl ≤ from_ i))
  let v' := v.setVreg (vrVd b) ((List.range vl).map (fun i => if vl ≤ from_ i then 0 else src.getD (from_ i) 0))
  if bad = 0 then v' else { v'.raise vsPermRange with permCount := satAdd v.permCount bad }

/-- VRED (R94): lanes at or above VL contribute +0 to a sum. -/
def Vx.doRed (v : Vx) (e : QEntry) : Vx :=
  let b := e.bits
  let l := (v.vreg (vrVa b)).take e.vl.toNat
  let how := vField b 32 2
  let r := reduceLanes how (vrType b == 0xb) false (if how = 0 then pad64 l else l)
  (v.setVreg (vrVd b) [r.1]).raise r.2

/-! ## The commands -/

/-- The vector instruction that issues next: the head of the queue, while no VT or VS instruction holds issue (R99). -/
def Site.vHead (a : Site) : Option QEntry := if a.tileBusy then none else a.headOf 1

/-- The next vector instruction of a unit, if its OP is op: the engine changes, the summary is formed, the entry has run. -/
def State.vStart (s : State) (k op : Nat) (run : Vx → QEntry → Vx) : State :=
  match (s.site k).vHead with
  | none => s
  | some e =>
    if vOp e.bits = op then
      s.updSite k (fun a =>
        let r := (run a.vx e).summarise e
        { a with vx := r.1 }.setEntry 1 { r.2 with phase := .ran })
    else s

def execVnop (core : CoreId) (s : State) : Result := .next (s.vStart core.key 0x00 (fun v _ => v))
def execVsetvl (core : CoreId) (s : State) : Result := .next (s.vStart core.key 0x01 (fun v _ => v))
def execVadd (core : CoreId) (s : State) : Result := .next (s.vStart core.key 0x10 (fun v e => v.doArith e))
def execVsub (core : CoreId) (s : State) : Result := .next (s.vStart core.key 0x11 (fun v e => v.doArith e))
def execVmul (core : CoreId) (s : State) : Result := .next (s.vStart core.key 0x12 (fun v e => v.doArith e))
def execVfma (core : CoreId) (s : State) : Result := .next (s.vStart core.key 0x13 (fun v e => v.doArith e))
def execVmin (core : CoreId) (s : State) : Result := .next (s.vStart core.key 0x14 (fun v e => v.doArith e))
def execVmax (core : CoreId) (s : State) : Result := .next (s.vStart core.key 0x15 (fun v e => v.doArith e))
def execVabs (core : CoreId) (s : State) : Result := .next (s.vStart core.key 0x16 (fun v e => v.doArith e))
def execVneg (core : CoreId) (s : State) : Result := .next (s.vStart core.key 0x17 (fun v e => v.doArith e))
def execVand (core : CoreId) (s : State) : Result := .next (s.vStart core.key 0x18 (fun v e => v.doPlain e))
def execVor (core : CoreId) (s : State) : Result := .next (s.vStart core.key 0x19 (fun v e => v.doPlain e))
def execVxor (core : CoreId) (s : State) : Result := .next (s.vStart core.key 0x1a (fun v e => v.doPlain e))
def execVshl (core : CoreId) (s : State) : Result := .next (s.vStart core.key 0x1b (fun v e => v.doPlain e))
def execVshr (core : CoreId) (s : State) : Result := .next (s.vStart core.key 0x1c (fun v e => v.doPlain e))
def execVsar (core : CoreId) (s : State) : Result := .next (s.vStart core.key 0x1d (fun v e => v.doPlain e))
def execVcvt (core : CoreId) (s : State) : Result := .next (s.vStart core.key 0x1e (fun v e => v.doCvt e))
def execVsel (core : CoreId) (s : State) : Result := .next (s.vStart core.key 0x1f (fun v e => v.doPlain e))
def execVmov (core : CoreId) (s : State) : Result := .next (s.vStart core.key 0x20 (fun v e => v.doPlain e))
def execVexp2 (core : CoreId) (s : State) : Result := .next (s.vStart core.key 0x28 (fun v e => v.doSpecial e))
def execVlog2 (core : CoreId) (s : State) : Result := .next (s.vStart core.key 0x29 (fun v e => v.doSpecial e))
def execVrcp (core : CoreId) (s : State) : Result := .next (s.vStart core.key 0x2a (fun v e => v.doSpecial e))
def execVrsqrt (core : CoreId) (s : State) : Result := .next (s.vStart core.key 0x2b (fun v e => v.doSpecial e))
def execVcmpeq (core : CoreId) (s : State) : Result := .next (s.vStart core.key 0x30 (fun v e => v.doCompare e))
def execVcmpne (core : CoreId) (s : State) : Result := .next (s.vStart core.key 0x31 (fun v e => v.doCompare e))
def execVcmplt (core : CoreId) (s : State) : Result := .next (s.vStart core.key 0x32 (fun v e => v.doCompare e))
def execVcmple (core : CoreId) (s : State) : Result := .next (s.vStart core.key 0x33 (fun v e => v.doCompare e))
def execVcmpgt (core : CoreId) (s : State) : Result := .next (s.vStart core.key 0x34 (fun v e => v.doCompare e))
def execVcmpge (core : CoreId) (s : State) : Result := .next (s.vStart core.key 0x35 (fun v e => v.doCompare e))
def execVcmpun (core : CoreId) (s : State) : Result := .next (s.vStart core.key 0x36 (fun v e => v.doCompare e))
def execPand (core : CoreId) (s : State) : Result := .next (s.vStart core.key 0x38 (fun v e => v.doPred e))
def execPor (core : CoreId) (s : State) : Result := .next (s.vStart core.key 0x39 (fun v e => v.doPred e))
def execPxor (core : CoreId) (s : State) : Result := .next (s.vStart core.key 0x3a (fun v e => v.doPred e))
def execPnot (core : CoreId) (s : State) : Result := .next (s.vStart core.key 0x3b (fun v e => v.doPred e))
def execPsetl (core : CoreId) (s : State) : Result := .next (s.vStart core.key 0x3c (fun v e => v.doPred e))
def execPclrl (core : CoreId) (s : State) : Result := .next (s.vStart core.key 0x3d (fun v e => v.doPred e))
def execPfill (core : CoreId) (s : State) : Result := .next (s.vStart core.key 0x3e (fun v e => v.doPred e))
def execPtest (core : CoreId) (s : State) : Result := .next (s.vStart core.key 0x3f (fun v _ => v))
def execVperm (core : CoreId) (s : State) : Result := .next (s.vStart core.key 0x40 (fun v e => v.doPerm e))
def execVbcl (core : CoreId) (s : State) : Result := .next (s.vStart core.key 0x41 (fun v e => v.doPerm e))
def execVrot (core : CoreId) (s : State) : Result := .next (s.vStart core.key 0x42 (fun v e => v.doPerm e))
def execVred (core : CoreId) (s : State) : Result := .next (s.vStart core.key 0x43 (fun v e => v.doRed e))
def execVtest (core : CoreId) (s : State) : Result := .next (s.vStart core.key 0x47 (fun v _ => v))

end Sys2Proof.Machine
end

