-- ==== Sys2Proof/Machine/Queue.lean ====
section
/-! DEFINITION. Machine/Queue.lean: the command queues: QPUSH, QLOAD, the completion of entries, and the engine watchdog
(R30–R38, R47). -/

namespace Sys2Proof.Machine

/-! ## Pushes (R30–R34) -/

/-- Depth of a queue, in entries (R32). -/
def queueDepth (q : Nat) : Nat := match q with | 0 => 16 | 1 => 64 | _ => 32

/-- Bytes of an entry (R32). -/
def entryBytes (q : Nat) : Nat := match q with | 0 => 16 | 1 => 8 | _ => 32

/-- Entries that stand in a queue and have not gone to their engine. DESIGN CHOICE 114: R32 does not say whether an entry that
its engine has started still takes a place of the depth; here it takes none. -/
def Site.waitingIn (a : Site) (q : Fin 4) : Nat := a.queues[q].countP (fun e => e.phase == .queued)

/-- c entries fit in a queue. -/
def Site.fits (a : Site) (q : Fin 4) (c : Nat) : Bool := decide (a.waitingIn q + c ≤ queueDepth q.val)

/-- The DMA engine of a queue. -/
def queueEngine (q : Fin 4) : Fin 2 := if q = 3 then 1 else 0

/-- The check of an entry at its push: a fault code, or none; a DMA rejection is recorded with its reason. -/
def Site.pushCheck (a : Site) (k : Nat) (n q : Fin 4) (b : BitVec 256) : Site × Option Nat :=
  match q with
  | 0 => (a, a.mxCheck n b)
  | 1 => (a, a.vCheck n b)
  | _ =>
    match a.dmaReason k n b with
    | some r => (a.dmaRejected (queueEngine q) r b, some fcDmaReject)
    | none => (a, none)

/-- What the push of an entry fixes. -/
def Site.pushFix (a : Site) (q : Fin 4) (e : QEntry) : Site × QEntry :=
  match q with
  | 0 => a.mxPush e
  | 1 => a.vPush e
  | _ => (a, e)

/-- An entry that passed its check joins its queue. -/
def Site.enqueue (a : Site) (n q : Fin 4) (b : BitVec 256) (pc : W64) : Site :=
  let r := a.pushFix q { id := a.nextId, slot := n, pc := pc, bits := b }
  { r.1 with queues := r.1.queues.set q (r.1.queues[q] ++ [r.2]), nextId := a.nextId + 1 }

/-- One entry pushed: true when it joined its queue, false when it raised its fault (R32, R34, R48). -/
def State.pushEntry (s : State) (k : Nat) (n q : Fin 4) (b : BitVec 256) (pc : W64) : State × Bool :=
  match (s.site k).pushCheck k n q b with
  | (a, some code) => ((s.setSite k a).taskFault k n code true pc, false)
  | (_, none) => (s.updSite k (fun a => a.enqueue n q b pc), true)

/-- Entries pushed in order, each read from its scratchpad bytes first, up to the first that fails (R32). An entry with an uncorrectable
word among its bytes is not pushed. -/
def State.pushEntries (s : State) (k : Nat) (n q : Fin 4) (pc : W64) : List (List (Nat × Nat) × BitVec 256) → State × Bool
  | [] => (s, true)
  | (rs, b) :: es =>
    if rs.any (fun r => ((s.site k).spad.bad r.1 r.2).isSome) then (s.readRuns k rs id, false)
    else match (s.readRuns k rs id).pushEntry k n q b pc with
      | (s, true) => s.pushEntries k n q pc es
      | (s, false) => (s, false)

/-- The queue that a Q-format word names. -/
def qOf (w : W32) : Fin 4 := Fin.ofNat 4 (ctlQueue w).toNat

/-- Source registers of a QPUSH (R30): the entry's 64-bit words. -/
def qRegs (q : Nat) : Nat := match q with | 0 => 2 | 1 => 1 | _ => 4

/-- The entry that a QPUSH takes from its registers. -/
def Slot.pushBits (x : Slot) (q : Nat) (rs : BitVec 5) : BitVec 256 :=
  BitVec.ofNat 256 ((List.range (qRegs q)).foldl (fun v i => v + (x.reg (rs + BitVec.ofNat 5 i)).toNat * 2 ^ (64 * i)) 0)

/-- The entries that a QLOAD reads from the home window, each with its bytes' place. -/
def Site.loadBits (a : Site) (n : Fin 4) (q off count : Nat) : List (List (Nat × Nat) × BitVec 256) :=
  (List.range count).map (fun i =>
    let addr := a.homeAddr n (off + entryBytes q * i)
    ([(addr, entryBytes q)], BitVec.ofNat 256 (leNat (a.bytes addr (entryBytes q)))))

/-- A QLOAD's opcode. -/
def isQload (w : W32) : Bool := ctlOpcode w == 0x29

/-- Entries of a QPUSH or QLOAD. -/
def qCount (w : W32) : Nat := if isQload w then ctlCountM1 w + 1 else 1

/-- The entries of a QPUSH or QLOAD, each with the scratchpad bytes that it is read from. -/
def Site.entriesOf (a : Site) (n : Fin 4) (w : W32) : List (List (Nat × Nat) × BitVec 256) :=
  let x := a.slots[n]
  if isQload w then a.loadBits n (qOf w).val (x.reg (ctlRs1 w)).toNat (qCount w) else [([], x.pushBits (qOf w).val (ctlRs1 w))]

/-- The pushes of a QPUSH or QLOAD whose entries fit; the slot then goes on after it. -/
def State.doPush (s : State) (k : Nat) (n : Fin 4) (w : W32) : State :=
  match s.pushEntries k n (qOf w) (s.slot k n).pc ((s.site k).entriesOf n w) with
  | (s, true) => (s.updSlot k n (fun x => x.unblock id)).latchOps k
  | (s, false) => s.latchOps k

/-- The first fault of a QPUSH or QLOAD before any entry: its registers and count, the queue of an update engine, and the
alignment and window of a QLOAD's entries (R29, R30, R252). -/
def Site.qFault (a : Site) (k : Nat) (n : Fin 4) (w : W32) : Option Nat :=
  let q := (qOf w).val
  let rs := ctlRs1 w
  if 65536 ≤ k ∧ q = 0 then some fcIllegal
  else if isQload w then a.homeAccess n (a.slots[n].reg rs).toNat (entryBytes q * qCount w) (entryBytes q)
  else if ctlCountM1 w ≠ 0 ∨ rs.toNat % qRegs q ≠ 0 then some fcIllegal
  else none

/-- QPUSH and QLOAD: their faults, the wait for space, or the pushes. -/
def State.pushInstr (s : State) (k : Nat) (n : Fin 4) (w : W32) : State :=
  match (s.site k).qFault k n w with
  | some code => s.instrFault k n code
  | none =>
    if (s.site k).fits (qOf w) (qCount w) then s.doPush k n w
    else s.updSlot k n (fun x => { x with st := .blocked, block := .queue w })

def execQpush (core : CoreId) (slot : Fin 4) (s : State) : Result :=
  .next (s.issue core.key slot .qpush (fun w s => s.pushInstr core.key slot w))
def execQload (core : CoreId) (slot : Fin 4) (s : State) : Result :=
  .next (s.issue core.key slot .qload (fun w s => s.pushInstr core.key slot w))

/-- QUEUE_SPACE_RESUME (R32): every entry of a blocked QPUSH or QLOAD fits. -/
def execQueueSpaceResume (core : CoreId) (slot : Fin 4) (s : State) : Result :=
  let a := s.site core.key
  let x := a.slots[slot]
  .next (match x.st, x.block with
    | .blocked, .queue w => if !x.stopping && a.fits (qOf w) (qCount w) then s.doPush core.key slot w else s
    | _, _ => s)

/-! ## Completion (R35–R38, R83) -/

/-- The counter of a queue advances over its leading completed entries, which leave it. -/
def Site.countDone (a : Site) (q : Fin 4) : Site :=
  let n := (a.queues[q].takeWhile (fun e => e.phase == .complete)).length
  { a with queues := a.queues.set q (a.queues[q].drop n), qdone := a.qdone.set q (a.qdone[q] + BitVec.ofNat 32 n) }

/-- The summary of a completed entry is queued for its slot, and a completed VSETVL shows its VL. -/
def Site.deliver (a : Site) (q : Fin 4) (e : QEntry) : Site :=
  a.updSlot e.slot (fun x =>
    let x := match e.summary with
      | some v => if e.dropSummary then x else { x with summaries := x.summaries ++ [v] }
      | none => x
    if q = 1 ∧ vOp e.bits = 1 then { x with vlDone := BitVec.ofNat 7 (vField e.bits 32 7) } else x)

/-- The oldest entry of a queue whose effect is done. -/
def Site.ranEntry (a : Site) (q : Fin 4) : Option QEntry := a.queues[q].find? (fun e => e.phase == .ran)

/-- QUEUE_ENTRY_COMPLETE (R35, R459). -/
def execQueueEntryComplete (core : CoreId) (queue : Fin 4) (s : State) : Result :=
  let k := core.key
  .next (match (s.site k).ranEntry queue with
    | none => s
    | some e =>
      let s := s.updSite k (fun a => ((a.updEntry queue e.id (fun x => { x with phase := .complete })).deliver queue e).countDone queue)
      s.trace k (some 1) 2 (BitVec.ofNat 8 e.slot.val) (payload20 queue.val (s.site k).qdone[queue].toNat))

/-! ## The engine watchdog (R46, R47) -/

/-- The entry that an engine runs (R46): the first of the matrix queue that is not complete, a vector instruction that has issued, or a
descriptor with a request issued. -/
def Site.runningEntry (a : Site) (q : Fin 4) : Option QEntry :=
  if q = 0 then a.queues[q].find? (fun e => e.phase != .complete)
  else if q = 1 then a.queues[q].find? (fun e => e.phase == .running || e.phase == .ran)
  else a.queues[q].find? (fun e => e.phase == .running || e.phase == .drainWait)

/-- ENGINE_HANG (R47): a command still runs 2^WDOG cycles after it started. -/
def execEngineHang (core : CoreId) (queue : Fin 4) (s : State) : Result :=
  .next (match (s.site core.key).runningEntry queue with
    | none => s
    | some e => s.hwFault core.key e.slot fcEngineHang 1 [fcEngineHang, e.slot.val])

end Sys2Proof.Machine
end

