-- ==== Sys2Proof/Machine/VecMem.lean ====
section
/-! DEFINITION. Machine/VecMem.lean: the vector engine's scratchpad, tile and copy instructions (R85, R90–R95). -/

namespace Sys2Proof.Machine

/-! ## Ranks and files (R90, R102) -/

/-- Addresses of the 64 elements of rank or file i of a tile. -/
def lineAddrs (base w i : Nat) (file : Bool) : List Nat :=
  (List.range 64).map (fun j => if file then base + 64 * w * j + w * i else base + 64 * w * i + w * j)

/-- Addresses of the elements that a VM access of a format moves: one rank or file, or the adjacent ones of a packed access. -/
def vmAddrs (base : Nat) (b : BitVec 256) : List Nat :=
  let w := elemWidth (vmFmt b)
  let n := if vmPack b then 4 / w else 1
  (List.range n).flatMap (fun j => lineAddrs base w (vmIndex b + j) (vmFile b))

/-- The bank words of a list of element addresses. -/
def wordsOf (as : List Nat) : List Nat := (as.map (fun a => a / 4)).eraseDups

/-- Offset and length of the scale bytes of vector v of an MX tile (R56). -/
def scaleRun (fmt base v : Nat) : Nat × Nat :=
  if fmt = 9 then (base + 4096 + 4 * v, 4) else (base + 4096 + 2 * v, 2)

/-! ## Loads -/

/-- The 64 lanes that a VLD gives (R90). -/
def Site.vldLanes (a : Site) (e : QEntry) : List W32 :=
  let b := e.bits
  let base := a.homeAddr e.slot (vmAddr b)
  let w := elemWidth (vmFmt b)
  if vmPack b then
    let n := 4 / w
    let es := (vmAddrs base b).map (fun p => leNat (a.bytes p w))
    (List.range 64).map (fun i =>
      BitVec.ofNat 32 ((List.range n).foldl (fun v j => v + es.getD (n * i + j) 0 * 2 ^ (8 * w * j)) 0))
  else
    let t := a.tile (vmFmt b) base
    (List.range 64).map (fun j =>
      if vmFile b then t.lane j (vmIndex b) 0 else t.lane (vmIndex b) j (b2n (vmFmt b == 9 && vmRnd b)))

/-- A load of this format converts, so that it sets NAN_SEEN and INF_SEEN (R89, R126). -/
def fmtConverts (fmt : Nat) : Bool := decide (1 ≤ fmt) && decide (fmt ≤ 9)

/-- The flags of a converting load. -/
def loadFlags (fmt : Nat) (pack : Bool) (ws : List W32) : BitVec 8 :=
  if fmtConverts fmt && !pack then seenF32 ws else 0

/-- The bank words of the ranks or files that a VM instruction moves in one access; the scale bytes of an MX rank, at most four, are
an access of their own that takes one port cycle (R90, R103). -/
def Site.vmWords (a : Site) (e : QEntry) : List Nat := wordsOf (vmAddrs (a.homeAddr e.slot (vmAddr e.bits)) e.bits)

def Site.doVld (a : Site) (e : QEntry) : Site :=
  let ls := (a.vldLanes e).take e.vl.toNat
  let a := a.countConflict (a.vmWords e)
  { a with vx := (a.vx.setVreg (vmReg e.bits) ls).raise (loadFlags (vmFmt e.bits) (vmPack e.bits) ls) }

/-! ## Store conversions (R90, R91, R128–R130) -/

/-- Values stored so far: element bits, scale bytes, flags, and the noise stream. -/
structure StoreAcc where
  noise : BitVec 128
  elems : List Nat := []
  scales : List Nat := []
  flags : CvtFlags := {}

/-- The rounding of the next element, drawn from stream 1 when the store rounds stochastically. -/
def nextRounding (rnd : Bool) (ns : BitVec 128) : Rounding × BitVec 128 :=
  if rnd then (let (u, ns) := drawNoise ns; (.stochastic u, ns)) else (.nearest, ns)

/-- An INT32 lane saturated to INT8 (R90, R128). -/
def int32To8 (w : W32) : Nat × CvtFlags :=
  let i := w.toInt
  if 127 < i then (0x7f, { sat := true }) else if i < -128 then (0x80, { sat := true })
  else ((BitVec.ofInt 8 i).toNat, {})

/-- One lane converted to a format that is not MX. DESIGN CHOICE 120: an INT32 lane saturated to INT8 draws no noise with RND = 1,
since it is not rounded; R130 does not name the case. -/
def StoreAcc.elem (d : StoreAcc) (fmt : Nat) (rnd ovf : Bool) (x : W32) : StoreAcc :=
  if fmt = 0 ∨ fmt = 0xb then { d with elems := d.elems ++ [x.toNat] }
  else if fmt = 0xa then
    let q := int32To8 x
    { d with elems := d.elems ++ [q.1], flags := d.flags.or q.2 }
  else
    let (r, ns) := nextRounding rnd d.noise
    let q := (formatOf fmt).narrow r ovf (ofF32 x)
    { d with elems := d.elems ++ [q.1], flags := d.flags.or q.2, noise := ns }

/-- A block of 32 lanes converted to an MX format (R124). -/
def StoreAcc.block (d : StoreAcc) (fmt : Nat) (rnd : Bool) (xs : List W32) : StoreAcc :=
  let p := xs.foldl (fun (p : List Rounding × BitVec 128) _ =>
    let (r, ns) := nextRounding rnd p.2; (p.1 ++ [r], ns)) ([], d.noise)
  let q := mxBlock fmt (xs.map ofF32) p.1
  { d with elems := d.elems ++ q.2.1, scales := d.scales ++ [q.1], flags := d.flags.or q.2.2, noise := p.2 }

/-- A row of lanes converted: the MX formats by two blocks of 32. -/
def StoreAcc.row (d : StoreAcc) (fmt : Nat) (rnd ovf : Bool) (xs : List W32) : StoreAcc :=
  if isMx fmt then (d.block fmt rnd (xs.take 32)).block fmt rnd (xs.drop 32)
  else xs.foldl (fun d x => d.elem fmt rnd ovf x) d

/-- The engine after a store: stream 1 as the store left it, and the flags of its conversions. An update engine draws from a stream 1 of
its own (DESIGN CHOICE 157). -/
def Site.afterStore (a : Site) (d : StoreAcc) : Site :=
  { a with noise := { a.noise with s1 := d.noise }, vx := a.vx.raise d.flags.vstat }

/-- VST: the lanes below VL stored (R90). -/
def Site.doVst (a : Site) (e : QEntry) : Site × List WriteRuns :=
  let b := e.bits
  let base := a.homeAddr e.slot (vmAddr b)
  let w := elemWidth (vmFmt b)
  let xs := (a.vx.vreg (vmReg b)).take e.vl.toNat
  if vmPack b then
    let n := 4 / w
    let es := xs.flatMap (fun x => (List.range n).map (fun j => bitsOf x.toNat (8 * w * j) (8 * w)))
    (a, [((vmAddrs base b).zip es).map (fun q => (q.1, leBytes w q.2))])
  else
    let d := StoreAcc.row { noise := a.noise.s1 } (vmFmt b) (vmRnd b) (vmOvf b) xs
    (a.afterStore d,
     [((vmAddrs base b).zip d.elems).map (fun q => (q.1, leBytes w q.2))]
       ++ (if isMx (vmFmt b) then [[((scaleRun (vmFmt b) base (vmIndex b)).1, d.scales.map (BitVec.ofNat 8))]] else []))

/-- VST4: a rank of an MXFP4 tile from two registers (R91). DESIGN CHOICE 121: stream 1 serves the elements of V[VREG] and then those
of V[VREG + 1]; R130 says only "in element order". -/
def Site.doVst4 (a : Site) (e : QEntry) : Site × List WriteRuns :=
  let b := e.bits
  let base := a.homeAddr e.slot (vmAddr b)
  let d := StoreAcc.row { noise := a.noise.s1 } 9 (vmRnd b) false (a.vx.vreg (vmReg b))
  let d := d.row 9 (vmRnd b) false (a.vx.vreg (vmReg b + 1))
  let bytes := (List.range 64).map (fun c => BitVec.ofNat 8 (d.elems.getD c 0 % 16 + d.elems.getD (64 + c) 0 % 16 * 16))
  (a.afterStore d,
   [[(base + 64 * vmIndex b, bytes)], [(base + 4096 + 4 * vmIndex b, d.scales.map (BitVec.ofNat 8))]])

/-! ## Predicates (R92) -/

/-- Address of row INDEX of a mask bit-plane. -/
def Site.maskRow (a : Site) (e : QEntry) : Nat := a.homeAddr e.slot (vmAddr e.bits) + 8 * vmIndex e.bits

def Site.doPld (a : Site) (e : QEntry) : Site :=
  let w := leNat (a.bytes (a.maskRow e) 8)
  { a with vx := a.vx.setPreg (vmPx e.bits) ((List.range e.vl.toNat).map (fun i => w.testBit i)) }

/-- PST: the row's bytes with the bits below VL replaced. A byte none of whose bits is below VL is not written; one of which some are is
merged with the word's other bits (R108). -/
def Site.doPst (a : Site) (e : QEntry) : Site × List WriteRuns :=
  let old := BitVec.ofNat 64 (leNat (a.bytes (a.maskRow e) 8))
  let p := a.vx.preg (vmPx e.bits)
  let w := (List.range e.vl.toNat).foldl (fun w i => putBit w i (bit p i)) old
  let whole := e.vl.toNat / 8
  (a, [[(a.maskRow e, (leBytes 8 w.toNat).take whole)]]
    ++ (if e.vl.toNat % 8 = 0 then [] else [[(a.maskRow e + whole, ((leBytes 8 w.toNat).drop whole).take 1)]]))

/-! ## Tile registers (R84, R95) -/

/-- The 4,096 elements of the tile that a specifier names, by rows. -/
def Site.specTile (a : Site) (sp : Nat) : Array W32 :=
  if sp < 64 then (Sparse.read 0 a.vx.t (4096 * sp) 4096).toArray else a.mx.accTile (sp - 64)

/-- The tile that a specifier names replaced, by rows. -/
def Site.setSpecTile (a : Site) (sp : Nat) (ws : List W32) : Site :=
  if sp < 64 then { a with vx := { a.vx with t := Sparse.write 0 a.vx.t (4096 * sp) ws } }
  else { a with mx := a.mx.setAccTile (sp - 64) ws }

/-- The 4,096 places of a tile by rows. -/
def tilePlaces : List (Nat × Nat) := (List.range 4096).map (fun i => (i / 64, i % 64))

/-- SPW.CONFLICT after the 64 rank or file accesses of a tile and the access of its scale block. -/
def Site.countTile (a : Site) (addr fmt : Nat) (file : Bool) : Site :=
  { a with spad := { a.spad with conflict := satAdd a.spad.conflict (tileConflict addr fmt file) } }

/-- TLD (R85). DESIGN CHOICE 156: TLD and TST move the scratchpad tile by 64 ranks whatever ORI, for the port cycles of R104. -/
def Site.doTld (a : Site) (e : QEntry) : Site :=
  let b := e.bits
  let fmt := vtFmt b
  let addr := a.homeAddr e.slot (vtAddr b)
  let t := a.tile fmt addr
  let sub := b2n (fmt == 9 && vtBit21 b)
  let ws := tilePlaces.map (fun p => if vtFile b then t.lane p.2 p.1 sub else t.lane p.1 p.2 sub)
  let a := (a.countTile addr fmt false).setSpecTile (vtTd b) ws
  { a with vx := a.vx.raise (loadFlags fmt false ws) }

def Site.doTst (a : Site) (e : QEntry) : Site × List WriteRuns :=
  let b := e.bits
  let fmt := vtFmt b
  let w := elemWidth fmt
  let addr := a.homeAddr e.slot (vtAddr b)
  let t := a.specTile (vtTa b)
  let row (r : Nat) : List W32 := (List.range 64).map (fun c => t.getD (if vtFile b then 64 * c + r else 64 * r + c) 0)
  let d := (List.range 64).foldl (fun (d : StoreAcc) r => d.row fmt (vtBit21 b) (vtBit22 b) (row r)) { noise := a.noise.s1 }
  ((a.countTile addr fmt false).afterStore d,
   [[(addr, d.elems.flatMap (leBytes w) ++ (if isMx fmt then d.scales.map (BitVec.ofNat 8) else []))]])

/-- Place in a tile of element i of rank or file n. -/
def linePlace (file : Bool) (n i : Nat) : Nat := if file then 64 * i + n else 64 * n + i

def Site.doTget (a : Site) (e : QEntry) : Site :=
  let b := e.bits
  let t := a.specTile (vtTa b)
  let ls := (List.range e.vl.toNat).map (fun i => t.getD (linePlace (vtFile b) (vField b 32 6) i) 0)
  { a with vx := a.vx.setVreg (vtTd b) ls }

def Site.doTput (a : Site) (e : QEntry) : Site :=
  let b := e.bits
  let v := a.vx.vreg (vtTa b)
  let t := (List.range e.vl.toNat).foldl (fun (t : Array W32) i =>
    t.setIfInBounds (linePlace (vtFile b) (vField b 32 6) i) (v.getD i 0)) (a.specTile (vtTd b))
  a.setSpecTile (vtTd b) t.toList

/-- TRED (R85, R94): one reduction per rank or file, lanes below VL written. -/
def Site.doTred (a : Site) (e : QEntry) : Site :=
  let b := e.bits
  let t := a.specTile (vtTa b)
  let line (n : Nat) : List W32 := (List.range 64).map (fun i => t.getD (linePlace (vtFile b) n i) 0)
  let rs := (List.range e.vl.toNat).map (fun n => reduceLanes (vField b 32 2) (vField b 34 1 == 1) (vtFile b) (line n))
  { a with vx := a.vx.writeLanes (vtTd b) rs }

/-- The VR opcode of a TOPV or TOPT operation: add, sub, mul, max. -/
def topOp (n : Nat) : Nat := match n with | 0 => 0x10 | 1 => 0x11 | 2 => 0x12 | _ => 0x15

/-- TOPV and TOPT: the second operand by place (R85). DESIGN CHOICE 154: NaN and infinity written to an accumulator tile set NAN_SEEN and
INF_SEEN as those written to a tile register do, here and for TLD; R89 names an element of a tile register. -/
def Site.doTop (a : Site) (e : QEntry) (other : Nat → Nat → W32) : Site :=
  let b := e.bits
  let t := a.specTile (vtTa b)
  let ty := if vField b 34 1 = 1 then 0xb else 0
  let rs := tilePlaces.map (fun p => arithLane (topOp (vField b 32 2)) ty (t.getD (64 * p.1 + p.2) 0) (other p.1 p.2) 0)
  let a := a.setSpecTile (vtTd b) (rs.map (fun r => r.1))
  { a with vx := a.vx.raise (rs.foldl (fun f r => f ||| r.2) 0) }

def Site.doTopv (a : Site) (e : QEntry) : Site :=
  let v := a.vx.vreg (vtTb e.bits)
  a.doTop e (fun r c => v.getD (if vtFile e.bits then r else c) 0)

def Site.doTopt (a : Site) (e : QEntry) : Site :=
  let t := a.specTile (vtTb e.bits)
  a.doTop e (fun r c => t.getD (64 * r + c) 0)

def Site.doTzero (a : Site) (e : QEntry) : Site := a.setSpecTile (vtTd e.bits) (List.replicate 4096 0)

/-! ## Copies (R85) -/

/-- TCOPY and TMASKZ: the bytes of the source tile, element (r, c) kept where keep holds, and its scale block; one write access for each
row of the source, which is a file of the destination where ORI_OUT is 1. DESIGN CHOICE 155: (m, n) of a mask bit is the element's place in
the source tile. -/
def Site.doCopy (a : Site) (e : QEntry) (keep : Nat → Nat → Bool) : Site × List WriteRuns :=
  let b := e.bits
  let fmt := vsFmt b
  let w := elemWidth fmt
  let src := a.homeAddr e.slot (vsSrc b)
  let dst := a.homeAddr e.slot (vsDst b)
  let t := a.tile fmt src
  let elem (r c : Nat) : List Byte :=
    if keep r c then (List.range w).map (fun i => t.data.getD (64 * w * r + w * c + i) 0) else List.replicate w 0
  let row (r : Nat) : WriteRuns :=
    if vsFile b then (List.range 64).map (fun c => (dst + 64 * w * c + w * r, elem r c))
    else [(dst + 64 * w * r, (List.range 64).flatMap (elem r))]
  let scales := (List.range (scaleBytes fmt)).map (fun i => t.data.getD (4096 + i) 0)
  ((a.countTile src fmt false).countTile dst fmt (vsFile b),
   ((List.range 64).map row) ++ (if isMx fmt then [[(dst + 4096, scales)]] else []))

def Site.doTcopy (a : Site) (e : QEntry) : Site × List WriteRuns := a.doCopy e (fun _ _ => true)

/-- TMASKZ: its eight mask reads of 64 bytes never meet a conflict (R99, R103). -/
def Site.doTmaskz (a : Site) (e : QEntry) : Site × List WriteRuns :=
  let m := (a.bytes (a.homeAddr e.slot (vsMask e.bits)) 512).toArray
  a.doCopy e (fun r c => bit (m.getD (8 * r + c / 8) 0) (c % 8))

/-! ## The commands -/

/-- The scratchpad bytes that a vector instruction reads: whole tiles for VT and VS, the line for VM. -/
def vReads (a : Site) (e : QEntry) : List (Nat × Nat) :=
  let b := e.bits
  let h (off : Nat) : Nat := a.homeAddr e.slot off
  match vOp b with
  | 0x48 => (vmAddrs (h (vmAddr b)) b).map (fun p => (p, elemWidth (vmFmt b)))
      ++ (if isMx (vmFmt b) then [scaleRun (vmFmt b) (h (vmAddr b)) (vmIndex b)] else [])
  | 0x4b => [(a.maskRow e, 8)]
  | 0x50 => [(h (vtAddr b), tileSpan (vtFmt b))]
  | 0x60 => [(h (vsSrc b), tileSpan (vsFmt b))]
  | 0x61 => [(h (vsSrc b), tileSpan (vsFmt b)), (h (vsMask b), 512)]
  | _ => []

/-- The next vector instruction of a unit, if its OP is op: the unit changes, its writes are made, the entry has run. -/
def State.vmStart (s : State) (k op : Nat) (run : Site → QEntry → Site × List WriteRuns) : State :=
  match (s.site k).vHead with
  | none => s
  | some e =>
    if vOp e.bits = op then
      s.readChecked k (vReads (s.site k) e) (fun s =>
        let r := run (s.site k) e
        let z := r.1.vx.summarise e
        let a := { r.1 with vx := z.1 }.setEntry 1 { z.2 with phase := .ran }
        (s.setSite k a).writeChecked k r.2)
    else s

/-- A VM store with its bank conflicts counted (R104): those of its lanes below VL. -/
def Site.stored (e : QEntry) (r : Site × List WriteRuns) : Site × List WriteRuns :=
  (r.1.countConflict (wordsOf ((vmAddrs (r.1.homeAddr e.slot (vmAddr e.bits)) e.bits).take
    (if vmPack e.bits then 4 / elemWidth (vmFmt e.bits) * e.vl.toNat else e.vl.toNat))), r.2)

/-- A meaning that writes no scratchpad byte. -/
def noRuns (a : Site) : Site × List WriteRuns := (a, [])

def execVld (core : CoreId) (s : State) : Result := .next (s.vmStart core.key 0x48 (fun a e => noRuns (a.doVld e)))
def execVst (core : CoreId) (s : State) : Result := .next (s.vmStart core.key 0x49 (fun a e => Site.stored e (a.doVst e)))
def execVst4 (core : CoreId) (s : State) : Result := .next (s.vmStart core.key 0x4a (fun a e => Site.stored e (a.doVst4 e)))
def execPld (core : CoreId) (s : State) : Result := .next (s.vmStart core.key 0x4b (fun a e => noRuns (a.doPld e)))
def execPst (core : CoreId) (s : State) : Result := .next (s.vmStart core.key 0x4c (fun a e => a.doPst e))
def execTld (core : CoreId) (s : State) : Result := .next (s.vmStart core.key 0x50 (fun a e => noRuns (a.doTld e)))
def execTst (core : CoreId) (s : State) : Result := .next (s.vmStart core.key 0x51 (fun a e => a.doTst e))
def execTget (core : CoreId) (s : State) : Result := .next (s.vmStart core.key 0x52 (fun a e => noRuns (a.doTget e)))
def execTput (core : CoreId) (s : State) : Result := .next (s.vmStart core.key 0x53 (fun a e => noRuns (a.doTput e)))
def execTred (core : CoreId) (s : State) : Result := .next (s.vmStart core.key 0x54 (fun a e => noRuns (a.doTred e)))
def execTopv (core : CoreId) (s : State) : Result := .next (s.vmStart core.key 0x55 (fun a e => noRuns (a.doTopv e)))
def execTopt (core : CoreId) (s : State) : Result := .next (s.vmStart core.key 0x56 (fun a e => noRuns (a.doTopt e)))
def execTzero (core : CoreId) (s : State) : Result := .next (s.vmStart core.key 0x57 (fun a e => noRuns (a.doTzero e)))
def execTcopy (core : CoreId) (s : State) : Result := .next (s.vmStart core.key 0x60 (fun a e => a.doTcopy e))
def execTmaskz (core : CoreId) (s : State) : Result := .next (s.vmStart core.key 0x61 (fun a e => a.doTmaskz e))

end Sys2Proof.Machine
end

