-- ==== Sys2Proof/Machine/Dispatch.lean ====
section
/-! DEFINITION. Machine/Dispatch.lean: one arm per command, each a direct call of its meaning. -/

namespace Sys2Proof.Machine

/-- What a command does to everything but the queue of waiting commands. -/
def exec (i : Instr) (s : State) : Host.Outcome State Fault Refusal :=
  match i with
  | .add core slot => Sys2Proof.Machine.execAdd core slot s
  | .sub core slot => Sys2Proof.Machine.execSub core slot s
  | .and core slot => Sys2Proof.Machine.execAnd core slot s
  | .or core slot => Sys2Proof.Machine.execOr core slot s
  | .xor core slot => Sys2Proof.Machine.execXor core slot s
  | .shl core slot => Sys2Proof.Machine.execShl core slot s
  | .shr core slot => Sys2Proof.Machine.execShr core slot s
  | .sar core slot => Sys2Proof.Machine.execSar core slot s
  | .slt core slot => Sys2Proof.Machine.execSlt core slot s
  | .sltu core slot => Sys2Proof.Machine.execSltu core slot s
  | .mul core slot => Sys2Proof.Machine.execMul core slot s
  | .mulh core slot => Sys2Proof.Machine.execMulh core slot s
  | .addi core slot => Sys2Proof.Machine.execAddi core slot s
  | .andi core slot => Sys2Proof.Machine.execAndi core slot s
  | .ori core slot => Sys2Proof.Machine.execOri core slot s
  | .xori core slot => Sys2Proof.Machine.execXori core slot s
  | .slti core slot => Sys2Proof.Machine.execSlti core slot s
  | .shi core slot => Sys2Proof.Machine.execShi core slot s
  | .lui core slot => Sys2Proof.Machine.execLui core slot s
  | .luih core slot => Sys2Proof.Machine.execLuih core slot s
  | .load core slot => Sys2Proof.Machine.execLoad core slot s
  | .store core slot => Sys2Proof.Machine.execStore core slot s
  | .beq core slot => Sys2Proof.Machine.execBeq core slot s
  | .bne core slot => Sys2Proof.Machine.execBne core slot s
  | .blt core slot => Sys2Proof.Machine.execBlt core slot s
  | .bge core slot => Sys2Proof.Machine.execBge core slot s
  | .bltu core slot => Sys2Proof.Machine.execBltu core slot s
  | .bgeu core slot => Sys2Proof.Machine.execBgeu core slot s
  | .jal core slot => Sys2Proof.Machine.execJal core slot s
  | .jr core slot => Sys2Proof.Machine.execJr core slot s
  | .qpush core slot => Sys2Proof.Machine.execQpush core slot s
  | .qload core slot => Sys2Proof.Machine.execQload core slot s
  | .wait core slot => Sys2Proof.Machine.execWait core slot s
  | .sqpop core slot => Sys2Proof.Machine.execSqpop core slot s
  | .sqcnt core slot => Sys2Proof.Machine.execSqcnt core slot s
  | .csrr core slot => Sys2Proof.Machine.execCsrr core slot s
  | .csrw core slot => Sys2Proof.Machine.execCsrw core slot s
  | .yield core slot => Sys2Proof.Machine.execYield core slot s
  | .halt core slot => Sys2Proof.Machine.execHalt core slot s
  | .queueSpaceResume core slot => Sys2Proof.Machine.execQueueSpaceResume core slot s
  | .waitRelease core slot => Sys2Proof.Machine.execWaitRelease core slot s
  | .sqpopResume core slot => Sys2Proof.Machine.execSqpopResume core slot s
  | .taskStart core slot => Sys2Proof.Machine.execTaskStart core slot s
  | .taskStop core slot => Sys2Proof.Machine.execTaskStop core slot s
  | .haltAll core => Sys2Proof.Machine.execHaltAll core s
  | .slotStopDone core slot => Sys2Proof.Machine.execSlotStopDone core slot s
  | .queueEntryComplete core queue => Sys2Proof.Machine.execQueueEntryComplete core queue s
  | .engineHang core queue => Sys2Proof.Machine.execEngineHang core queue s
  | .dmaRead core engine => Sys2Proof.Machine.execDmaRead core engine s
  | .dmaWrite core engine => Sys2Proof.Machine.execDmaWrite core engine s
  | .dmaPut core engine => Sys2Proof.Machine.execDmaPut core engine s
  | .dmaGather core engine => Sys2Proof.Machine.execDmaGather core engine s
  | .dmaAtomic core engine => Sys2Proof.Machine.execDmaAtomic core engine s
  | .dmaCompletion core engine => Sys2Proof.Machine.execDmaCompletion core engine s
  | .readRspArrive node p => Sys2Proof.Machine.execReadRspArrive node p s
  | .putArrive site p => Sys2Proof.Machine.execPutArrive site p s
  | .ackArrive node p => Sys2Proof.Machine.execAckArrive node p s
  | .completionArrive node p => Sys2Proof.Machine.execCompletionArrive node p s
  | .ctrlMsgArrive node p => Sys2Proof.Machine.execCtrlMsgArrive node p s
  | .mma site => Sys2Proof.Machine.execMma site s
  | .drain site => Sys2Proof.Machine.execDrain site s
  | .zero site => Sys2Proof.Machine.execZero site s
  | .ldtab site => Sys2Proof.Machine.execLdtab site s
  | .accDrainStart site => Sys2Proof.Machine.execAccDrainStart site s
  | .vnop core => Sys2Proof.Machine.execVnop core s
  | .vsetvl core => Sys2Proof.Machine.execVsetvl core s
  | .vadd core => Sys2Proof.Machine.execVadd core s
  | .vsub core => Sys2Proof.Machine.execVsub core s
  | .vmul core => Sys2Proof.Machine.execVmul core s
  | .vfma core => Sys2Proof.Machine.execVfma core s
  | .vmin core => Sys2Proof.Machine.execVmin core s
  | .vmax core => Sys2Proof.Machine.execVmax core s
  | .vabs core => Sys2Proof.Machine.execVabs core s
  | .vneg core => Sys2Proof.Machine.execVneg core s
  | .vand core => Sys2Proof.Machine.execVand core s
  | .vor core => Sys2Proof.Machine.execVor core s
  | .vxor core => Sys2Proof.Machine.execVxor core s
  | .vshl core => Sys2Proof.Machine.execVshl core s
  | .vshr core => Sys2Proof.Machine.execVshr core s
  | .vsar core => Sys2Proof.Machine.execVsar core s
  | .vcvt core => Sys2Proof.Machine.execVcvt core s
  | .vsel core => Sys2Proof.Machine.execVsel core s
  | .vmov core => Sys2Proof.Machine.execVmov core s
  | .vexp2 core => Sys2Proof.Machine.execVexp2 core s
  | .vlog2 core => Sys2Proof.Machine.execVlog2 core s
  | .vrcp core => Sys2Proof.Machine.execVrcp core s
  | .vrsqrt core => Sys2Proof.Machine.execVrsqrt core s
  | .vcmpeq core => Sys2Proof.Machine.execVcmpeq core s
  | .vcmpne core => Sys2Proof.Machine.execVcmpne core s
  | .vcmplt core => Sys2Proof.Machine.execVcmplt core s
  | .vcmple core => Sys2Proof.Machine.execVcmple core s
  | .vcmpgt core => Sys2Proof.Machine.execVcmpgt core s
  | .vcmpge core => Sys2Proof.Machine.execVcmpge core s
  | .vcmpun core => Sys2Proof.Machine.execVcmpun core s
  | .pand core => Sys2Proof.Machine.execPand core s
  | .por core => Sys2Proof.Machine.execPor core s
  | .pxor core => Sys2Proof.Machine.execPxor core s
  | .pnot core => Sys2Proof.Machine.execPnot core s
  | .psetl core => Sys2Proof.Machine.execPsetl core s
  | .pclrl core => Sys2Proof.Machine.execPclrl core s
  | .pfill core => Sys2Proof.Machine.execPfill core s
  | .ptest core => Sys2Proof.Machine.execPtest core s
  | .vperm core => Sys2Proof.Machine.execVperm core s
  | .vbcl core => Sys2Proof.Machine.execVbcl core s
  | .vrot core => Sys2Proof.Machine.execVrot core s
  | .vred core => Sys2Proof.Machine.execVred core s
  | .vtest core => Sys2Proof.Machine.execVtest core s
  | .vld core => Sys2Proof.Machine.execVld core s
  | .vst core => Sys2Proof.Machine.execVst core s
  | .vst4 core => Sys2Proof.Machine.execVst4 core s
  | .pld core => Sys2Proof.Machine.execPld core s
  | .pst core => Sys2Proof.Machine.execPst core s
  | .tld core => Sys2Proof.Machine.execTld core s
  | .tst core => Sys2Proof.Machine.execTst core s
  | .tget core => Sys2Proof.Machine.execTget core s
  | .tput core => Sys2Proof.Machine.execTput core s
  | .tred core => Sys2Proof.Machine.execTred core s
  | .topv core => Sys2Proof.Machine.execTopv core s
  | .topt core => Sys2Proof.Machine.execTopt core s
  | .tzero core => Sys2Proof.Machine.execTzero core s
  | .tcopy core => Sys2Proof.Machine.execTcopy core s
  | .tmaskz core => Sys2Proof.Machine.execTmaskz core s
  | .spadAgeGrant core => Sys2Proof.Machine.execSpadAgeGrant core s
  | .scratchpadClearDone site => Sys2Proof.Machine.execScratchpadClearDone site s
  | .noiseReseed site => Sys2Proof.Machine.execNoiseReseed site s
  | .noiseSeed site seed => Sys2Proof.Machine.execNoiseSeed site seed s
  | .noiseAutoReseed site => Sys2Proof.Machine.execNoiseAutoReseed site s
  | .noiseHealthFail site => Sys2Proof.Machine.execNoiseHealthFail site s
  | .routerForward site inPort cls lane => Sys2Proof.Machine.execRouterForward site inPort cls lane s
  | .combineHoldExpire site inPort lane => Sys2Proof.Machine.execCombineHoldExpire site inPort lane s
  | .outputGrant site out => Sys2Proof.Machine.execOutputGrant site out s
  | .routerAgeGrant site out inPort cls lane => Sys2Proof.Machine.execRouterAgeGrant site out inPort cls lane s
  | .dsetFork site inPort lane => Sys2Proof.Machine.execDsetFork site inPort lane s
  | .creditReturn site port cls lane => Sys2Proof.Machine.execCreditReturn site port cls lane s
  | .seamLinkRetry site port => Sys2Proof.Machine.execSeamLinkRetry site port s
  | .livenessSend site => Sys2Proof.Machine.execLivenessSend site s
  | .livenessArrive site port => Sys2Proof.Machine.execLivenessArrive site port s
  | .livenessLost site port => Sys2Proof.Machine.execLivenessLost site port s
  | .routeAuditDone => Sys2Proof.Machine.execRouteAuditDone s
  | .hbmReadReq stack p => Sys2Proof.Machine.execHbmReadReq stack p s
  | .mergeClose stack block => Sys2Proof.Machine.execMergeClose stack block s
  | .hbmWrite stack p => Sys2Proof.Machine.execHbmWrite stack p s
  | .hbmDeviceAccessDone stack => Sys2Proof.Machine.execHbmDeviceAccessDone stack s
  | .addI32 stack p => Sys2Proof.Machine.execAddI32 stack p s
  | .addF32 stack p => Sys2Proof.Machine.execAddF32 stack p s
  | .addBf16 stack p => Sys2Proof.Machine.execAddBf16 stack p s
  | .minI32 stack p => Sys2Proof.Machine.execMinI32 stack p s
  | .maxI32 stack p => Sys2Proof.Machine.execMaxI32 stack p s
  | .minF32 stack p => Sys2Proof.Machine.execMinF32 stack p s
  | .maxF32 stack p => Sys2Proof.Machine.execMaxF32 stack p s
  | .swap stack p => Sys2Proof.Machine.execSwap stack p s
  | .cas stack p => Sys2Proof.Machine.execCas stack p s
  | .hbmRefresh stack bank => Sys2Proof.Machine.execHbmRefresh stack bank s
  | .hbmTempSample stack celsius => Sys2Proof.Machine.execHbmTempSample stack celsius s
  | .hbmPwrOn stack whole bank => Sys2Proof.Machine.execHbmPwrOn stack whole bank s
  | .hbmPwrRetain stack whole bank => Sys2Proof.Machine.execHbmPwrRetain stack whole bank s
  | .hbmPwrOff stack whole bank => Sys2Proof.Machine.execHbmPwrOff stack whole bank s
  | .hbmBankDrained stack bank => Sys2Proof.Machine.execHbmBankDrained stack bank s
  | .hbmDrainForced stack bank => Sys2Proof.Machine.execHbmDrainForced stack bank s
  | .hbmBankOpened stack bank => Sys2Proof.Machine.execHbmBankOpened stack bank s
  | .rmcStackOnRequest stack => Sys2Proof.Machine.execRmcStackOnRequest stack s
  | .rmcStackTempSample stack celsius => Sys2Proof.Machine.execRmcStackTempSample stack celsius s
  | .stackInitDone stack => Sys2Proof.Machine.execStackInitDone stack s
  | .wsKick site slot value => Sys2Proof.Machine.execWsKick site slot value s
  | .wsDescStart site => Sys2Proof.Machine.execWsDescStart site s
  | .wsRetryDelay site => Sys2Proof.Machine.execWsRetryDelay site s
  | .wsDescComplete site => Sys2Proof.Machine.execWsDescComplete site s
  | .tempoEnd site slots => Sys2Proof.Machine.execTempoEnd site slots s
  | .tempoAdvance site => Sys2Proof.Machine.execTempoAdvance site s
  | .tempoWrite site value => Sys2Proof.Machine.execTempoWrite site value s
  | .tempoStopArm site => Sys2Proof.Machine.execTempoStopArm site s
  | .panStopTarget pan => Sys2Proof.Machine.execPanStopTarget pan s
  | .tempoTargetArrive site => Sys2Proof.Machine.execTempoTargetArrive site s
  | .panStopped pan => Sys2Proof.Machine.execPanStoppedGoOn pan s
  | .panForcedStop pan => Sys2Proof.Machine.execPanForcedStop pan s
  | .panRun pan => Sys2Proof.Machine.execPanRun pan s
  | .panStop pan => Sys2Proof.Machine.execPanStop pan s
  | .panForce pan => Sys2Proof.Machine.execPanForce pan s
  | .acuWrite acu p => Sys2Proof.Machine.execAcuWrite acu p s
  | .acuRead acu p => Sys2Proof.Machine.execAcuRead acu p s
  | .acuRecordSent acu fallback => Sys2Proof.Machine.execAcuRecordSent acu fallback s
  | .acuRecordFetched acu block data => Sys2Proof.Machine.execAcuRecordFetched acu block data s
  | .redOpen pc job => Sys2Proof.Machine.execRedOpen pc job s
  | .redStart pc job => Sys2Proof.Machine.execRedStart pc job s
  | .redClose pc job => Sys2Proof.Machine.execRedClose pc job s
  | .redAbort pc job => Sys2Proof.Machine.execRedAbort pc job s
  | .grantArrive site => Sys2Proof.Machine.execGrantArrive site s
  | .grantRetry pc job row col => Sys2Proof.Machine.execGrantRetry pc job row col s
  | .pcReduceArrive pc p => Sys2Proof.Machine.execPcReduceArrive pc p s
  | .upArrive pc p => Sys2Proof.Machine.execUpArrive pc p s
  | .downArrive pc p => Sys2Proof.Machine.execDownArrive pc p s
  | .shadowUpArrive pc p => Sys2Proof.Machine.execShadowUpArrive pc p s
  | .shadowDownArrive pc p => Sys2Proof.Machine.execShadowDownArrive pc p s
  | .shadowCopyArrive pc job => Sys2Proof.Machine.execShadowCopyArrive pc job s
  | .passComplete pc job => Sys2Proof.Machine.execPassComplete pc job s
  | .shortfallTimeout pc job => Sys2Proof.Machine.execShortfallTimeout pc job s
  | .downTimeout pc job => Sys2Proof.Machine.execDownTimeout pc job s
  | .ueTasksQueued pc job => Sys2Proof.Machine.execUeTasksQueued pc job s
  | .ueTaskStart pc => Sys2Proof.Machine.execUeTaskStart pc s
  | .ueBarrier pc e => Sys2Proof.Machine.execUeBarrier pc e s
  | .ueRelease pc e code => Sys2Proof.Machine.execUeRelease pc e code s
  | .ueReleaseLine pc p => Sys2Proof.Machine.execUeReleaseLine pc p s
  | .ueAbandon pc entry => Sys2Proof.Machine.execUeAbandon pc entry s
  | .layerEntryWrite pc entry word value => Sys2Proof.Machine.execLayerEntryWrite pc entry word value s
  | .acuSetWrite acu set word value => Sys2Proof.Machine.execAcuSetWrite acu set word value s
  | .flitReceive port flit => Sys2Proof.Machine.execFlitReceive port flit s
  | .nakRepeat port => Sys2Proof.Machine.execNakRepeat port s
  | .replayTimeout port => Sys2Proof.Machine.execReplayTimeout port s
  | .pcsLockLost port => Sys2Proof.Machine.execPcsLockLost port s
  | .linkctlExchange port peer peerPort => Sys2Proof.Machine.execLinkctlExchange port peer peerPort s
  | .portEnableWrite port enable => Sys2Proof.Machine.execPortEnableWrite port enable s
  | .portRetrain port => Sys2Proof.Machine.execPortRetrain port s
  | .fabricPacketRoute port => Sys2Proof.Machine.execFabricPacketRoute port s
  | .answerTimeout pc tag => Sys2Proof.Machine.execAnswerTimeout pc tag s
  | .wwrite pc p => Sys2Proof.Machine.execWwrite pc p s
  | .wackArrive pc p => Sys2Proof.Machine.execWackArrive pc p s
  | .sendChannelWrite pc p => Sys2Proof.Machine.execSendChannelWrite pc p s
  | .winOpen pc window => Sys2Proof.Machine.execWinOpen pc window s
  | .winClose pc window => Sys2Proof.Machine.execWinClose pc window s
  | .winClosed pc window => Sys2Proof.Machine.execWinClosed pc window s
  | .routeToken pc p => Sys2Proof.Machine.execRouteToken pc p s
  | .routeEnd pc p => Sys2Proof.Machine.execRouteEnd pc p s
  | .routeReturn pc p => Sys2Proof.Machine.execRouteReturn pc p s
  | .tokenArrive pc p => Sys2Proof.Machine.execTokenArrive pc p s
  | .resultArrive pc p => Sys2Proof.Machine.execResultArrive pc p s
  | .tackArrive pc p => Sys2Proof.Machine.execTackArrive pc p s
  | .ctrlPacketArrive pc p => Sys2Proof.Machine.execCtrlPacketArrive pc p s
  | .heartbeatSend pc => Sys2Proof.Machine.execHeartbeatSend pc s
  | .heartbeatArrive pc p => Sys2Proof.Machine.execHeartbeatArrive pc p s
  | .moduleLost address => Sys2Proof.Machine.execModuleLost address s
  | .fwdCommit => Sys2Proof.Machine.execFwdCommit s
  | .moduleFenceWrite n value => Sys2Proof.Machine.execModuleFenceWrite n value s
  | .storeRead bay p => Sys2Proof.Machine.execStoreRead bay p s
  | .storeWrite bay p => Sys2Proof.Machine.execStoreWrite bay p s
  | .storePageDone bay line levels soft uncorrectable => Sys2Proof.Machine.execStorePageDone bay line levels soft uncorrectable s
  | .format bay => Sys2Proof.Machine.execFormat bay s
  | .mount bay => Sys2Proof.Machine.execMount bay s
  | .unmount bay => Sys2Proof.Machine.execUnmount bay s
  | .harvestOpen bay => Sys2Proof.Machine.execHarvestOpen bay s
  | .harvestCommit bay => Sys2Proof.Machine.execHarvestCommit bay s
  | .harvestDrop bay => Sys2Proof.Machine.execHarvestDrop bay s
  | .sanitize bay => Sys2Proof.Machine.execSanitize bay s
  | .trim bay => Sys2Proof.Machine.execTrim bay s
  | .storeCmdDone bay => Sys2Proof.Machine.execStoreCmdDoneGoOn bay s
  | .harvestCommitDone bay => Sys2Proof.Machine.execHarvestCommitDone bay s
  | .cartridgeInsert bay serial => Sys2Proof.Machine.execCartridgeInsert bay serial s
  | .cartridgeRemove bay => Sys2Proof.Machine.execCartridgeRemoveGoOn bay s
  | .cartridgeTempSample bay celsius => Sys2Proof.Machine.execCartridgeTempSample bay celsius s
  | .scrubAgeTick bay => Sys2Proof.Machine.execScrubAgeTick bay s
  | .scrubBlock bay percent hard => Sys2Proof.Machine.execScrubBlock bay percent hard s
  | .wearLevel bay => Sys2Proof.Machine.execWearLevel bay s
  | .retryTableSave bay => Sys2Proof.Machine.execRetryTableSave bay s
  | .sqTailDoorbell port queue value => Sys2Proof.Machine.execSqTailDoorbell port queue value s
  | .cqHeadDoorbell port queue value => Sys2Proof.Machine.execCqHeadDoorbell port queue value s
  | .commandFetch port => Sys2Proof.Machine.execCommandFetch port s
  | .nop port queue => Sys2Proof.Machine.execNop port queue s
  | .copyIn port queue => Sys2Proof.Machine.execCopyIn port queue s
  | .copyOut port queue => Sys2Proof.Machine.execCopyOut port queue s
  | .csrWrite port queue => Sys2Proof.Machine.execCsrWrite port queue s
  | .csrRead port queue => Sys2Proof.Machine.execCsrRead port queue s
  | .imageLoad port queue => Sys2Proof.Machine.execImageLoad port queue s
  | .cmdWait port queue => Sys2Proof.Machine.execCmdWait port queue s
  | .cmdWaitPoll port queue => Sys2Proof.Machine.execCmdWaitPoll port queue s
  | .commandComplete port queue => Sys2Proof.Machine.execCommandComplete port queue s
  | .msixCoalesceTimeout port queue => Sys2Proof.Machine.execMsixCoalesceTimeout port queue s
  | .bar4Read port addr len => Sys2Proof.Machine.execBar4Read port addr len s
  | .bar4Write port addr data => Sys2Proof.Machine.execBar4Write port addr data s
  | .bar0Access port addr a => Sys2Proof.Machine.execBar0Access port addr a s
  | .hostCompletionTimeout port tag => Sys2Proof.Machine.execHostCompletionTimeout port tag s
  | .hostPortReset port => Sys2Proof.Machine.execHostPortReset port s
  | .ideIntegrityFail port => Sys2Proof.Machine.execIdeIntegrityFail port s
  | .imageStaged => Sys2Proof.Machine.execImageStaged s
  | .imageApply => Sys2Proof.Machine.execImageApply s
  | .imageLoadComplete => Sys2Proof.Machine.execImageLoadComplete s
  | .inputLost volts => Sys2Proof.Machine.execInputLost volts s
  | .overvoltageShutdown => Sys2Proof.Machine.execOvervoltageShutdown s
  | .feedFault feed volts amps => Sys2Proof.Machine.execFeedFault feed volts amps s
  | .powerOnReset feeds stages verified => Sys2Proof.Machine.execPowerOnReset feeds stages verified s
  | .powerUpReady => Sys2Proof.Machine.execPowerUpReady s
  | .capUpdate powerHw voltCv => Sys2Proof.Machine.execCapUpdate powerHw voltCv s
  | .siteTempSample site celsius => Sys2Proof.Machine.execSiteTempSample site celsius s
  | .stageTempSample stages cages => Sys2Proof.Machine.execStageTempSample stages cages s
  | .coolantSample flow inlet outlet => Sys2Proof.Machine.execCoolantSample flow inlet outlet s
  | .coolantShutdown => Sys2Proof.Machine.execCoolantShutdown s
  | .islFreqWrite site mhz voff => Sys2Proof.Machine.execIslFreqWrite site mhz voff s
  | .oscLockChange site locked => Sys2Proof.Machine.execOscLockChange site locked s
  | .park wafer block => Sys2Proof.Machine.execPark wafer block s
  | .parkBlockIdle overdue => Sys2Proof.Machine.execParkBlockIdle overdue s
  | .parkRoutersEmpty => Sys2Proof.Machine.execParkRoutersEmpty s
  | .parkDrainTimeout => Sys2Proof.Machine.execParkDrainTimeout s
  | .unpark wafer block => Sys2Proof.Machine.execUnpark wafer block s
  | .moduleReset confirm byRmc => Sys2Proof.Machine.execModuleReset confirm byRmc s
  | .panReset pan => Sys2Proof.Machine.execPanReset pan s
  | .arrayReset site => Sys2Proof.Machine.execArrayReset site s
  | .arrayResetQuiesced site => Sys2Proof.Machine.execArrayResetQuiesced site s
  | .arrayResetTimeout site => Sys2Proof.Machine.execArrayResetTimeout site s
  | .bayReset bay => Sys2Proof.Machine.execBayReset bay s
  | .fabricPortReset port => Sys2Proof.Machine.execFabricPortReset port s
  | .rstReqAssert => Sys2Proof.Machine.execRstReqAssert s
  | .controllerHeartbeat unit => Sys2Proof.Machine.execControllerHeartbeat unit s
  | .controllerHang unit => Sys2Proof.Machine.execControllerHang unit s
  | .domainPowerPoll unit on => Sys2Proof.Machine.execDomainPowerPoll unit on s
  | .fenceSite site => Sys2Proof.Machine.execFenceSite site s
  | .retest unit => Sys2Proof.Machine.execRetest unit s
  | .retestResult unit pass => Sys2Proof.Machine.execRetestResult unit pass s
  | .fenceWafer wafer => Sys2Proof.Machine.execFenceWafer wafer s
  | .promote site => Sys2Proof.Machine.execPromote site s
  | .promotion => Sys2Proof.Machine.execPromotion s
  | .fwSwitch unit => Sys2Proof.Machine.execFwSwitch unit s
  | .fwRevert unit => Sys2Proof.Machine.execFwRevert unit s
  | .fwHealthy unit => Sys2Proof.Machine.execFwHealthy unit s
  | .fwHealthTimeout unit => Sys2Proof.Machine.execFwHealthTimeout unit s
  | .osfpInsert cage cmis supported fits => Sys2Proof.Machine.execOsfpInsert cage cmis supported fits s
  | .osfpRemove cage => Sys2Proof.Machine.execOsfpRemove cage s
  | .pstageOffline stage => Sys2Proof.Machine.execPstageOffline stage s
  | .pstageOnline stage => Sys2Proof.Machine.execPstageOnline stage s
  | .pstageInsert stage => Sys2Proof.Machine.execPstageInsert stage s
  | .pstageFail stage volts amps => Sys2Proof.Machine.execPstageFail stage volts amps s
  | .nonceDraw => Sys2Proof.Machine.execNonceDraw s
  | .nonceExpire => Sys2Proof.Machine.execNonceExpire s
  | .provisionOwner => Sys2Proof.Machine.execProvisionOwner s
  | .rotateOwner => Sys2Proof.Machine.execRotateOwner s
  | .close => Sys2Proof.Machine.execClose s
  | .returnReq => Sys2Proof.Machine.execReturnReq s
  | .debugUnlock => Sys2Proof.Machine.execDebugUnlock s
  | .refurbish => Sys2Proof.Machine.execRefurbish s
  | .retire => Sys2Proof.Machine.execRetire s
  | .getVersion path => Sys2Proof.Machine.execGetVersion path s
  | .getCapabilities path version => Sys2Proof.Machine.execGetCapabilities path version s
  | .negotiateAlgorithms path offered => Sys2Proof.Machine.execNegotiateAlgorithms path offered s
  | .getDigests path => Sys2Proof.Machine.execGetDigests path s
  | .getCertificate path slot => Sys2Proof.Machine.execGetCertificate path slot s
  | .challenge path slot => Sys2Proof.Machine.execChallenge path slot s
  | .getCsr path => Sys2Proof.Machine.execGetCsr path s
  | .setCertificate path slot chain => Sys2Proof.Machine.execSetCertificate path slot chain s
  | .getMeasurements path index => Sys2Proof.Machine.execGetMeasurements path index s
  | .keyExchange path => Sys2Proof.Machine.execKeyExchange path s
  | .finish path session => Sys2Proof.Machine.execFinish path session s
  | .endSession path session => Sys2Proof.Machine.execEndSession path session s
  | .spdmHeartbeat path session => Sys2Proof.Machine.execSpdmHeartbeat path session s
  | .keyUpdate path session => Sys2Proof.Machine.execKeyUpdate path session s
  | .ideKm port session op => Sys2Proof.Machine.execIdeKm port session op s
  | .pldmPlatform path request => Sys2Proof.Machine.execPldmPlatform path request s
  | .pldmFwUpdate path unit object => Sys2Proof.Machine.execPldmFwUpdate path unit object s
  | .telemetrySample => Sys2Proof.Machine.execTelemetrySample s
  | .trcMark site slot value => Sys2Proof.Machine.execTrcMark site slot value s
  | .trcEnableWrite site enable mode src => Sys2Proof.Machine.execTrcEnableWrite site enable mode src s
  | .traceLineWrite site => Sys2Proof.Machine.execTraceLineWrite site s
  | .syncMarker => Sys2Proof.Machine.execSyncMarker s
  | .dbgDataRead site => Sys2Proof.Machine.execDbgDataRead site s
  | .dbgDataWrite site value => Sys2Proof.Machine.execDbgDataWrite site value s
  | .jtagScanSelect unit select => Sys2Proof.Machine.execJtagScanSelect unit select s
  | .rcRead addr four => Sys2Proof.Machine.execRcRead addr four s
  | .regWrite addr four value => Sys2Proof.Machine.execRegWrite addr four value s
  | .hostLinkUp port width speed flit => Sys2Proof.Machine.execHostLinkUp port width speed flit s
  | .feedRestored => Sys2Proof.Machine.execFeedRestored s
  | .reclaimDone bay slot => Sys2Proof.Machine.execReclaimDone bay slot s
  | .configurationWrite port w => Sys2Proof.Machine.execConfigurationWrite port w s
  | .doeDiscovery port mailbox => Sys2Proof.Machine.execDoeDiscovery port mailbox s
  | .pldmMessagingControl path => Sys2Proof.Machine.execPldmMessagingControl path s
  | .dynamicAddressAssign address => Sys2Proof.Machine.execDynamicAddressAssign address s
  | .hostReadCompletion port tag data => Sys2Proof.Machine.execHostReadCompletion port tag data s

end Sys2Proof.Machine
end

