-- ==== Sys2Proof/Machine/Idle.lean ====
section
/-! DEFINITION. Machine/Idle.lean: what time brings while no command waits: the errors that arise of themselves in memories and on links
(R47, R108, R109, R142, R172, R177), and the requests that waited for their turn (R448). -/

namespace Sys2Proof.Machine

/-- A scratchpad word takes a single-bit error, or an uncorrectable one, to be met by the next access to it (R108, R109). -/
def Spad.strike (m : Spad) (word : Nat) (double : Bool) : Spad :=
  if double then { m with badWords := insertNat m.badWords word, softWords := m.softWords.filter (fun w => w != word) }
  else if m.badWords.contains word then m
  else { m with softWords := insertNat m.softWords word }

/-- The mesh port of a number (R168). -/
def portAt (i : Nat) : RPort := match i with | 0 => .n | 1 => .e | 2 => .s | _ => .w

/-- A mesh flit that reaches a router over a link is corrected, or cannot be: then the packet at the head of the buffer is poisoned
(R142). -/
def Router.linkError (r : Router) (key : Nat) (double : Bool) : Router :=
  match Tbl.get (fun _ => []) r.inbuf key with
  | [] => r
  | b :: rest =>
    if b.routed || b.made then r
    else if double then { r with ue := true, inbuf := Tbl.set r.inbuf key ({ b with pkt := { b.pkt with poison := true } } :: rest) }
    else { r with corrected := satAdd r.corrected 1 }

/-- A line of a stack's device is corrected, or becomes uncorrectable (R172, R177). -/
def Stack.strike (a : Stack) (line : Nat) (double : Bool) : Stack :=
  if a.dark then a
  else if double then { a with poisonLines := insertNat a.poisonLines line }
  else { a with corrected := satAdd a.corrected 1 }

/-- A soft error (log entry 128): free values say whether an error arises, of which kind and where. In a scratchpad word; in accumulator
memory or a register file, whose uncorrectable error is reported at once (R47); in a flit on a link of a wafer, since a seam link retries
until a flit is right (R144); in a line of HBM. -/
def State.softError (s : State) : State :=
  let (v, s) := s.draw
  let (u, s) := s.draw
  let double := bit v 0
  let k := u.toNat % 65664
  let x := u.toNat / 65664
  match bitsOf v.toNat 1 3 with
  | 1 => if s.unitPowered k then
      s.updSite k (fun a => { a with spad := a.spad.strike (x % (if k < 65536 then 2 ^ 21 else 2 ^ 19)) double }) else s
  | 2 => if double && s.unitPowered k then s.hwFault k 0 fcSram 2 [(s.site k).spad.ueAddr.toNat] else s
  | 3 => if unitExists k = true ∧ k < 65536 ∧ (s.site k).forwards = true ∧ seamOf k (portAt (x % 32 / 8)) = none then s.updSite k (fun a => { a with rt := a.rt.linkError (x % 32) double }) else s
  | 4 => s.updStack (u.toNat % 192) (fun a => a.strike (u.toNat / 192 % 2000000000) double)
  | _ => s

/-- A unit that has sent poisoned data on, all of which has left it (R109). -/
def Site.lateLeft (a : Site) : Bool :=
  a.sramLate && (List.range 8).all (fun i => (Tbl.get (fun _ => []) a.rt.inbuf (32 + i)).isEmpty && (Tbl.get (fun _ => []) a.rt.waits (32 + i)).isEmpty)

/-- The fault path hears of an uncorrectable word whose data have left the unit (R109, DESIGN CHOICE 159). -/
def State.sramReport (s : State) : State :=
  match s.sites.find? (fun e => e.2.lateLeft) with
  | some (k, a) => (s.updSite k (fun a => { a with sramLate := false })).hwFault k 0 fcSram 2 [a.spad.ueAddr.toNat]
  | none => s

/-- The state with the life-cycle request that waits taken up again. -/
def State.secTaken (s : State) : State := { s with sec := { s.sec with busy := false, waiting := false } }

/-- A life-cycle request waits, and no load and no switch-over is in progress any more (R448). -/
def State.secGoes (s : State) : Bool := s.sec.waiting && !s.secTaken.exclusive

/-- The oldest switch-over that waits goes on (R448). -/
def State.fwGoOn (s : State) : State :=
  match s.fault.fwWaiting with
  | [] => s
  | n :: rest => if s.exclusive then s else { s with fault := { s.fault with fwWaiting := rest } }.fwSwitch n

/-- An idle tick (DESIGN CHOICE 128, 142, 145): an erase that was cut short goes on (R450); else one request whose turn has come goes on, of a
host port or the life-cycle request; with none, an uncorrectable word whose data have left its array is reported, the switch-over and the image load that wait go on as they may, and a soft error may arise (R370, R448). -/
def State.idle (s : State) : State :=
  if s.sec.erasing then s.goOn
  else match [(0 : Fin 4), 1, 2, 3].find? (fun p => (s.hp p.val).goes) with
  | some p => s.hostPump p
  | none => if s.secGoes then s.secTaken.secStart else s.sramReport.fwGoOn.startLoads.softError

end Sys2Proof.Machine
end

