-- ==== Sys2Proof/Safety.lean ====
section
/-! DEFINITION. Safety.lean: what a safe run is, in the terms claims use. -/

namespace Sys2Proof.Machine

/-- A step that neither faults nor refuses. -/
def stepsTo (s s' : State) : Prop := step s = .next s'

/-- The transitions of the life cycle (R446): FACTORY 0 to OWNED 1, OWNED to FIELD 2, OWNED or FIELD to RETURNED 3, RETURNED to
FACTORY, and any state but RETIRED to RETIRED 4. -/
def LcMay (a b : BitVec 3) : Prop :=
  (a = 0 ∧ b = 1) ∨ (a = 1 ∧ b = 2) ∨ (a = 1 ∧ b = 3) ∨ (a = 2 ∧ b = 3) ∨ (a = 3 ∧ b = 0) ∨ (a.toNat < 4 ∧ b = 4)

/-- The life-cycle fuses are well formed: the state is one of the five, an erase that runs is pending, and a pending erase leads
where R446 lets the state go. -/
structure Sec.LcOk (c : Sec) : Prop where
  le : c.lc.toNat ≤ 4
  erasing : c.erasing = true → c.erasePending = true
  pending : c.erasePending = true → LcMay c.lc c.eraseTo

end Sys2Proof.Machine
end

