-- ==== Sys2Proof/Certificates/Slice0/Obligations.lean ====
section
/-! DEFINITION. Certificates/Slice0/Obligations.lean: the statements for the provers. -/

open Sys2Proof Sys2Proof.Machine

/-! ## The queue of commands and the whole machine -/

/-- A step takes the command at the front of the queue: it is exec of that command on the state with the queue's rest. With no command
waiting an idle tick passes: the spec does not speak of the queue, so this is the model's choice, log entries 1, 128 and 145. -/
def Obligations.StepTakesFront : Prop :=
  (∀ (c : Instr) (rest : List Instr) (s : State), step { s with pending := c :: rest } = exec c { s with pending := rest })
  ∧ ∀ s : State, s.pending = [] → step s = .next s.idle

/-- Every command answers a next state, whatever its operands and the state, and none changes the queue of commands that wait behind
it. The spec speaks of no queue: that a command leaves it alone is the model's choice, log entry 103, and that none stops is the model's
reading, log entry 15. -/
def Obligations.CommandsAnswerAndKeepQueue : Prop := ∀ (c : Instr) (s : State), ∃ t, exec c s = .next t ∧ t.pending = s.pending

/-- R444: the life-cycle state moves only by the transitions of R446, in every step from every state whose fuses are well formed,
and the fuses stay well formed. -/
def Obligations.LifeCycleMovesOnlyByR446 : Prop :=
  ∀ s t : State, s.sec.LcOk → step s = .next t → t.sec.LcOk ∧ (t.sec.lc = s.sec.lc ∨ LcMay s.sec.lc t.sec.lc)

/-- What reset leaves: no command waits and no answer has gone out (the queue and the list of answers are the model's, log entries 103 and 102); the fuses are well formed, in FACTORY (the module's first state, log entry 12);
every array, router, streamer, clock, stack, complex, bay, host port and module register named here has the reset value of its register table
(R20, R46, R116, R168, R198, R199, R250, R312, R339, R360, R401, R402, R435, R466). -/
def Obligations.ResetValues : Prop :=
  State.reset.pending = [] ∧ State.reset.out = [] ∧ State.reset.sec.LcOk ∧ State.reset.sec.lc = 0
  ∧ (∀ x : SiteId, State.reset.site x.key = Site.reset x.key ∧ (State.reset.site x.key).faultStop = true ∧ (State.reset.site x.key).wdog = 26
      ∧ (State.reset.site x.key).spad.age = 32 ∧ (State.reset.site x.key).rt.age = 4096 ∧ (State.reset.site x.key).ws.retryDelay = 4096
      ∧ (State.reset.site x.key).isl.freq = 1000 ∧ (State.reset.site x.key).isl.freqNow = 1000 ∧ (State.reset.site x.key).parked = false
      ∧ (State.reset.site x.key).fenced = false ∧ ∀ n : Fin 4, (State.reset.site x.key).queues[n] = [])
  ∧ (∀ n, (State.reset.stack n).window = 256)
  ∧ (∀ n, (State.reset.pc n).red.shortfallUs = 2000 ∧ (State.reset.pc n).disp.weights = 0x6828 ∧ (State.reset.pc n).disp.age = 4096
      ∧ (State.reset.pc n).disp.hb = 10 ∧ (State.reset.pc n).disp.stragPct = 10 ∧ (State.reset.pc n).disp.answer = 100 ∧ (State.reset.pc n).disp.enable = false)
  ∧ (∀ n, (State.reset.bay n).automount = true ∧ (State.reset.bay n).st = 0 ∧ (State.reset.bay n).checkH = 168 ∧ (State.reset.bay n).refreshPct = 60
      ∧ (State.reset.bay n).refreshAgeH = 730 ∧ (State.reset.bay n).wlSpread = 500)
  ∧ (∀ n, (State.reset.hp n).cto = 50 ∧ (State.reset.hp n).bar4Base = 0x8000 ∧ (State.reset.hp n).up = false)
  ∧ State.reset.power.capKw = 120 ∧ State.reset.fault.autoPromote = true ∧ State.reset.fault.waferFenced = 0 ∧ State.reset.trcSync.period = 1000

/-- No step moves a module out of RETIRED.
R440: no step lowers the minimum SVN of a class, and none clears a revocation fuse. -/
def Obligations.FusesAndRetirementAreFinal : Prop :=
  (∀ s t : State, s.sec.LcOk → s.sec.lc = 4 → step s = .next t → t.sec.lc = 4)
  ∧ (∀ s t : State, step s = .next t →
    (∀ i : Fin 4, s.sec.svn[i].toNat ≤ t.sec.svn[i].toNat)
    ∧ (∀ i : Nat, s.sec.fwRevoked.getLsbD i = true → t.sec.fwRevoked.getLsbD i = true)
    ∧ (∀ i : Nat, s.sec.svcRevoked.getLsbD i = true → t.sec.svcRevoked.getLsbD i = true))
/-! ## Control instructions -/

namespace Sys2Proof.Claims

/-- It is the turn of slot n of unit k, and the word at its PC, of a line that it holds or that is read without an error, is w. -/
def Fetches (s : State) (k : Nat) (n : Fin 4) (w : W32) : Prop :=
  (s.site k).turn = some n ∧ (s.site k).fetch n = some w
  ∧ ∀ r ∈ (s.site k).fetchRanges n, (s.site k).spad.flawed r.1 r.2 = false

/-- The state after slot n of unit k has issued an instruction whose whole effect is f on the slot: the slot holds the line of that
instruction and is the one that issued last. -/
def afterSlot (s : State) (k : Nat) (n : Fin 4) (f : Slot → Slot) : State :=
  (s.updSite k (fun a => a.issued n)).updSlot k n f

/-- The slot has written v to register r and goes on with the next instruction. -/
def wrote (r : BitVec 5) (v : W64) (x : Slot) : Slot := { x.setReg r v with pc := x.pc + 4 }

/-- The entries of queue q of unit k. -/
def entries (s : State) (k : Nat) (q : Fin 4) : List QEntry := (s.site k).queues[q]

/-- The register instructions with their func values and results (R480). -/
def registerTable : List ((CoreId → Fin 4 → Instr) × Nat × (W64 → W64 → W64)) := [
  (.add, 0, fun a b => a + b), (.sub, 1, fun a b => a - b), (.and, 2, fun a b => a &&& b), (.or, 3, fun a b => a ||| b),
  (.xor, 4, fun a b => a ^^^ b), (.shl, 5, fun a b => a <<< (b.toNat % 64)), (.shr, 6, fun a b => a >>> (b.toNat % 64)),
  (.sar, 7, fun a b => a.sshiftRight (b.toNat % 64)), (.slt, 8, fun a b => if a.toInt < b.toInt then 1 else 0),
  (.sltu, 9, fun a b => if a.toNat < b.toNat then 1 else 0), (.mul, 10, fun a b => a * b),
  (.mulh, 11, fun a b => BitVec.ofInt 64 (a.toInt * b.toInt / 2 ^ 64))]

/-- The immediate instructions with their opcodes and results (R29). -/
def immediateTable : List ((CoreId → Fin 4 → Instr) × Nat × (W64 → BitVec 16 → W64)) := [
  (.addi, 0x10, fun a i => a + i.signExtend 64), (.andi, 0x11, fun a i => a &&& i.setWidth 64),
  (.ori, 0x12, fun a i => a ||| i.setWidth 64), (.xori, 0x13, fun a i => a ^^^ i.setWidth 64),
  (.slti, 0x14, fun a i => if a.toInt < (i.signExtend 64).toInt then 1 else 0)]

/-- The branches with their opcodes and conditions (R29). -/
def branchTable : List ((CoreId → Fin 4 → Instr) × Nat × (W64 → W64 → Bool)) := [
  (.beq, 0x20, fun a b => a == b), (.bne, 0x21, fun a b => a != b), (.blt, 0x22, fun a b => decide (a.toInt < b.toInt)),
  (.bge, 0x23, fun a b => decide (b.toInt ≤ a.toInt)), (.bltu, 0x24, fun a b => decide (a.toNat < b.toNat)),
  (.bgeu, 0x25, fun a b => decide (b.toNat ≤ a.toNat))]

end Sys2Proof.Claims

open Sys2Proof.Claims

/-- R480: a register instruction that is fetched writes its result to rd (nothing where rd is S0) and goes on with the next word; a
word of opcode 0 with a reserved func raises ILLEGAL_INSTR. The target of a branch that is taken, and of a JAL, is its own address
plus four times its signed offset; a branch that is not taken goes on, and JAL sets S31 to its own address + 4.
Completes: add, sub, and, or, xor, shl, shr, sar, slt, sltu, mul, mulh, beq, bne, blt, bge, bltu, bgeu, jal. -/
def Obligations.RegisterInstructionsAndTargets : Prop :=
  (∀ e ∈ registerTable, ∀ (core : CoreId) (n : Fin 4) (w : W32) (s : State), ctlOpcode w = 0 →
    (Fetches s core.key n w → ctlFunc w = e.2.1 →
      exec (e.1 core n) s = .next (afterSlot s core.key n (fun x => wrote (ctlRd w) (e.2.2 (x.reg (ctlRs1 w)) (x.reg (ctlRs2 w))) x)))
    ∧ (Fetches s core.key n w → 12 ≤ ctlFunc w →
      exec (e.1 core n) s = .next ((s.updSite core.key (fun a => a.issued n)).taskFault core.key n fcIllegal false (s.slot core.key n).pc)))
  ∧ (∀ (core : CoreId) (n : Fin 4) (w : W32) (s : State), Fetches s core.key n w →
    (∀ e ∈ branchTable, ctlOpcode w = e.2.1 →
      exec (e.1 core n) s = .next (afterSlot s core.key n (fun x =>
        if e.2.2 (x.reg (ctlBr1 w)) (x.reg (ctlBr2 w)) then { x with pc := x.pc + 4 * (ctlImm w).signExtend 64 } else { x with pc := x.pc + 4 })))
    ∧ (ctlOpcode w = 0x26 →
      exec (.jal core n) s = .next (afterSlot s core.key n (fun x =>
        { x.setReg 31 (x.pc + 4) with pc := x.pc + 4 * (ctlOff26 w).signExtend 64 }))))

/-- R29: an immediate instruction that is fetched writes its result to rd and goes on with the next word; SHI shifts left, or
logically right where bit 6 of its immediate is 1; LUI and LUIH set bits 31 to 16 and 63 to 48; JR jumps to an aligned target.
Completes: addi, andi, ori, xori, slti, shi, lui, luih, jr. -/
def Obligations.ImmediatesAndJumps : Prop :=
  ∀ (core : CoreId) (n : Fin 4) (w : W32) (s : State), Fetches s core.key n w →
    (∀ e ∈ immediateTable, ctlOpcode w = e.2.1 →
      exec (e.1 core n) s = .next (afterSlot s core.key n (fun x => wrote (ctlRd w) (e.2.2 (x.reg (ctlRs1 w)) (ctlImm w)) x)))
    ∧ (ctlOpcode w = 0x15 → fld w 7 9 = 0 →
      exec (.shi core n) s = .next (afterSlot s core.key n (fun x => wrote (ctlRd w)
        (if w.getLsbD 6 then x.reg (ctlRs1 w) >>> (w.toNat % 64) else x.reg (ctlRs1 w) <<< (w.toNat % 64)) x)))
    ∧ (ctlOpcode w = 0x16 →
      exec (.lui core n) s = .next (afterSlot s core.key n (fun x => wrote (ctlRd w) ((ctlImm w).setWidth 64 <<< 16) x)))
    ∧ (ctlOpcode w = 0x17 →
      exec (.luih core n) s = .next (afterSlot s core.key n (fun x => wrote (ctlRd w) (ctlImm w ++ (x.reg (ctlRd w)).setWidth 48) x)))
    ∧ (ctlOpcode w = 0x27 → ((s.slot core.key n).reg (ctlRs1 w)).toNat % 4 = 0 →
      exec (.jr core n) s = .next (afterSlot s core.key n (fun x => { x with pc := x.reg (ctlRs1 w) })))

/-- R29, R30: an aligned LOAD in the home window, of words without an error, writes the little-endian value, zero
extended, to rd; an aligned STORE there writes the low bytes of S[rd] and nothing else of the scratchpad.
Completes: load, store. -/
def Obligations.LoadsAndStores : Prop :=
  ∀ (core : CoreId) (n : Fin 4) (w : W32) (s : State) (off len : Nat), Fetches s core.key n w →
    off = ((s.slot core.key n).reg (ctlRs1 w) + (ctlImm w).signExtend 64).toNat → len = 2 ^ (ctlOpcode w % 4) →
    off % len = 0 → (s.site core.key).inWindow (s.slot core.key n).homeWin off len = true →
    (0x18 ≤ ctlOpcode w → ctlOpcode w < 0x1c → (s.site core.key).spad.flawed ((s.site core.key).homeAddr n off) len = false →
      exec (.load core n) s = .next (afterSlot s core.key n (fun x =>
        wrote (ctlRd w) (BitVec.ofNat 64 (leNat (Memory.read (s.site core.key).spad.mem ((s.site core.key).homeAddr n off) len))) x)))
    ∧ (0x1c ≤ ctlOpcode w → ctlOpcode w < 0x20 →
      (s.site core.key).spad.badMerge [((s.site core.key).homeAddr n off, leBytes len ((s.slot core.key n).reg (ctlRd w)).toNat)] = none →
      ∃ t, exec (.store core n) s = .next t
        ∧ t.slot core.key n = { s.slot core.key n with pc := (s.slot core.key n).pc + 4, line := some ((s.site core.key).lineOf n) }
        ∧ Memory.read (t.site core.key).spad.mem ((s.site core.key).homeAddr n off) len = leBytes len ((s.slot core.key n).reg (ctlRd w)).toNat
        ∧ ∀ a, a < (s.site core.key).homeAddr n off ∨ (s.site core.key).homeAddr n off + len ≤ a →
            Memory.get (t.site core.key).spad.mem a = Memory.get (s.site core.key).spad.mem a)

/-- R35, R38: WAIT passes once the queue's counter has reached its target and blocks until then; SQPOP takes the oldest summary
into rd, SQCNT counts them, YIELD goes on, HALT leaves the slot HALTED (its PC after the HALT is the model's choice, log entry 32).
R35, R38: a slot blocked in WAIT goes on when the counter has reached its target; one blocked in SQPOP goes on with the summary
that arrived.
Completes: wait, sqpop, sqcnt, yield, halt, waitRelease, sqpopResume. -/
def Obligations.WaitsAndSummaries : Prop :=
  (∀ (core : CoreId) (n : Fin 4) (w : W32) (s : State), Fetches s core.key n w →
    (ctlOpcode w = 0x2a →
      exec (.wait core n) s = .next (afterSlot s core.key n (fun x =>
        if 0 ≤ ((s.site core.key).qdone[(ctlRd w).toNat % 4] - ((s.slot core.key n).reg (ctlRs1 w)).setWidth 32).toInt then { x with pc := x.pc + 4 }
        else { x with st := .blocked, block := .count ((ctlRd w).setWidth 2) ((s.slot core.key n).reg (ctlRs1 w)) })))
    ∧ (ctlOpcode w = 0x2c → ∀ v vs, (s.slot core.key n).summaries = v :: vs →
      exec (.sqpop core n) s = .next (afterSlot s core.key n (fun x => wrote (ctlRd w) v { x with summaries := vs })))
    ∧ (ctlOpcode w = 0x2d →
      exec (.sqcnt core n) s = .next (afterSlot s core.key n (fun x => wrote (ctlRd w) (BitVec.ofNat 64 x.summaries.length) x)))
    ∧ (ctlOpcode w = 0x34 → exec (.yield core n) s = .next (afterSlot s core.key n (fun x => { x with pc := x.pc + 4 })))
    ∧ (ctlOpcode w = 0x35 →
      exec (.halt core n) s = .next (afterSlot s core.key n (fun x => { x with pc := x.pc + 4, st := .halted, panHalted := false }))))
  ∧ (∀ (core : CoreId) (n : Fin 4) (s : State), (s.slot core.key n).st = .blocked → (s.slot core.key n).stopping = false →
    (∀ q target, (s.slot core.key n).block = .count q target →
      0 ≤ ((s.site core.key).qdone[q.toNat] - target.setWidth 32).toInt →
      exec (.waitRelease core n) s = .next (s.updSlot core.key n (fun x => { x with pc := x.pc + 4, st := .ready, block := .nothing })))
    ∧ (∀ rd v vs, (s.slot core.key n).block = .summary rd → (s.slot core.key n).summaries = v :: vs →
      exec (.sqpopResume core n) s = .next (s.updSlot core.key n (fun x =>
        { wrote rd v { x with summaries := vs } with st := .ready, block := .nothing }))))


/-- R46, R51: START makes a slot that is IDLE, HALTED or FAULTED READY at its PC and clears its fault record; STOP and HALT_ALL bring
a READY or BLOCKED slot without summaries in flight to HALTED, with its summaries discarded; SLOT_STOP_DONE ends a stop that waited.
R48, R49: a task fault, which every statement of a fault names as taskFault, leaves its slot FAULTED with the fault's code, the PC and
whether a queue entry raised it, and the code's bit in PENDING; without FAULT_STOP the other slots of an array are unchanged, and with it
those that were READY or BLOCKED are HALTED, what blocked them and all summaries are gone (one in another state keeps it, log entry 10),
and each queue keeps only the entries that its engine runs or has run.
Completes: taskStart, taskStop, haltAll, slotStopDone. -/
def Obligations.StartAndStop : Prop :=
  (∀ (core : CoreId) (n : Fin 4) (s : State), s.slotPowered core.key n = true →
    ((s.slot core.key n).st = .idle ∨ (s.slot core.key n).st = .halted ∨ (s.slot core.key n).st = .faulted) →
    exec (.taskStart core n) s = .next (s.updSlot core.key n (fun x =>
      { x with st := .ready, faultCode := 0, faultCommand := false, faultPc := 0, block := .nothing, panHalted := false, line := none })))
  ∧ (∀ (core : CoreId) (n : Fin 4) (s : State), (s.site core.key).inFlight n = 0 →
    ((s.slot core.key n).st = .ready ∨ (s.slot core.key n).st = .blocked) →
    ∃ t, exec (.taskStop core n) s = .next t ∧ (t.slot core.key n).st = .halted ∧ (t.slot core.key n).summaries = []
      ∧ (t.slot core.key n).block = .nothing ∧ (t.slot core.key n).pc = (s.slot core.key n).pc ∧ ∀ m, m ≠ n → t.slot core.key m = s.slot core.key m)
  ∧ (∀ (core : CoreId) (s : State),
    (∀ n, (s.site core.key).inFlight n = 0 ∧ ((s.slot core.key n).st = .ready ∨ (s.slot core.key n).st = .blocked)) →
    ∃ t, exec (.haltAll core) s = .next t ∧ ∀ n, (t.slot core.key n).st = .halted ∧ (t.slot core.key n).summaries = [])
  ∧ (∀ (core : CoreId) (n : Fin 4) (s : State), (s.slot core.key n).stopping = true → (s.site core.key).inFlight n = 0 →
    ∃ t, exec (.slotStopDone core n) s = .next t ∧ (t.slot core.key n).st = .halted ∧ (t.slot core.key n).stopping = false
      ∧ (t.slot core.key n).summaries = [])
  ∧ (∀ (core : CoreId) (n : Fin 4) (code : Nat) (command : Bool) (pc : W64) (s t : State), t = s.taskFault core.key n code command pc →
    (t.slot core.key n).st = .faulted ∧ (t.slot core.key n).faultCode = BitVec.ofNat 8 code ∧ (t.slot core.key n).faultCommand = command
    ∧ (t.slot core.key n).faultPc = pc.setWidth 23 &&& 0x7ffffc
    ∧ (t.site core.key).pending = (s.site core.key).pending ||| BitVec.twoPow 16 code
    ∧ ((s.site core.key).pending = 0 → (t.site core.key).firstCode = BitVec.ofNat 8 code ∧ (t.site core.key).firstSlot = BitVec.ofNat 2 n.val)
    ∧ (core.key < 65536 → (s.site core.key).faultStop = false → (t.site core.key).queues = (s.site core.key).queues
        ∧ ∀ m, m ≠ n → t.slot core.key m = s.slot core.key m)
    ∧ (core.key < 65536 → (s.site core.key).faultStop = true →
        (∀ m, (t.slot core.key m).summaries = [] ∧ (m ≠ n → (s.slot core.key m).st = .ready ∨ (s.slot core.key m).st = .blocked →
          (t.slot core.key m).st = .halted ∧ (t.slot core.key m).block = .nothing))
        ∧ ∀ q, ∀ e ∈ entries t core.key q, e.phase ≠ .queued))

/-! ## Queues and registers of a unit -/

namespace Sys2Proof.Claims

/-- The entry pushed to queue q by slot n is free of the faults of R34. -/
def PushOk (s : State) (k : Nat) (n q : Fin 4) (b : BitVec 256) : Prop := ((s.site k).pushCheck k n q b).2 = none

/-- Vector entry e of slot n has the VL of the slot before its push, and the slot the VL that e sets where it is a VSETVL. -/
def TakesVl (s t : State) (k : Nat) (n q : Fin 4) (e : QEntry) : Prop :=
  q = 1 → e.vl = (s.slot k n).vl
    ∧ (t.slot k n).vl = if vOp e.bits = 1 then BitVec.ofNat 7 (vField e.bits 32 7) else (s.slot k n).vl

end Sys2Proof.Claims

/-- R30, R32: a QPUSH whose entry is fault-free and fits appends the entry of its registers to the queue and goes on; where the
entry does not fit the slot blocks and pushes nothing; QUEUE_SPACE_RESUME then pushes it once it fits. Only the entries that wait for their
engine count against the depth (the model's choice, log entry 114).
R83: a pushed vector instruction takes the VL that its slot has then, and a pushed VSETVL sets the slot's VL for those pushed after it.
R30, R32: a QLOAD of words without an error, whose entries fit and are each fault-free when pushed, appends them
in the order in which they stand in the home window and goes on.
R68: a draining command that the push leaves at the head of the matrix queue then reads its operands (latchOps).
Completes: qpush, qload, queueSpaceResume. -/
def Obligations.PushesAppendEntries : Prop :=
  (∀ (core : CoreId) (n : Fin 4) (w : W32) (s : State),
    (qOf w = 0 → core.key < 65536) → ctlCountM1 w = 0 → (ctlRs1 w).toNat % qRegs (qOf w).val = 0 →
    (Fetches s core.key n w → ctlOpcode w = 0x28 → qReservedOk w = true →
      ((s.site core.key).waitingIn (qOf w) + 1 ≤ queueDepth (qOf w).val →
        PushOk s core.key n (qOf w) ((s.slot core.key n).pushBits (qOf w).val (ctlRs1 w)) →
        ∃ t e, exec (.qpush core n) s = .next (t.latchOps core.key) ∧ entries t core.key (qOf w) = entries s core.key (qOf w) ++ [e]
          ∧ e.bits = (s.slot core.key n).pushBits (qOf w).val (ctlRs1 w) ∧ e.slot = n ∧ e.pc = (s.slot core.key n).pc ∧ e.phase = .queued
          ∧ (t.slot core.key n).pc = (s.slot core.key n).pc + 4 ∧ (t.slot core.key n).st = .ready ∧ TakesVl s t core.key n (qOf w) e
          ∧ (∀ q, q ≠ qOf w → entries t core.key q = entries s core.key q))
      ∧ (queueDepth (qOf w).val < (s.site core.key).waitingIn (qOf w) + 1 →
        exec (.qpush core n) s = .next (afterSlot s core.key n (fun x => { x with st := .blocked, block := .queue w }))))
    ∧ ((s.slot core.key n).st = .blocked → (s.slot core.key n).stopping = false → (s.slot core.key n).block = .queue w →
      ctlOpcode w = 0x28 → (s.site core.key).waitingIn (qOf w) + 1 ≤ queueDepth (qOf w).val →
      PushOk s core.key n (qOf w) ((s.slot core.key n).pushBits (qOf w).val (ctlRs1 w)) →
        ∃ t e, exec (.queueSpaceResume core n) s = .next (t.latchOps core.key) ∧ entries t core.key (qOf w) = entries s core.key (qOf w) ++ [e]
          ∧ e.bits = (s.slot core.key n).pushBits (qOf w).val (ctlRs1 w)
          ∧ (t.slot core.key n).pc = (s.slot core.key n).pc + 4 ∧ (t.slot core.key n).st = .ready
          ∧ (t.slot core.key n).block = .nothing ∧ TakesVl s t core.key n (qOf w) e))
  ∧ (∀ (core : CoreId) (n : Fin 4) (w : W32) (s : State) (off len : Nat), Fetches s core.key n w → ctlOpcode w = 0x29 → qReservedOk w = true →
    off = ((s.slot core.key n).reg (ctlRs1 w)).toNat → len = entryBytes (qOf w).val * (ctlCountM1 w + 1) →
    (qOf w = 0 → core.key < 65536) → off % entryBytes (qOf w).val = 0 → (s.site core.key).inWindow (s.slot core.key n).homeWin off len = true →
    (s.site core.key).spad.flawed ((s.site core.key).homeAddr n off) len = false →
    (s.site core.key).waitingIn (qOf w) + (ctlCountM1 w + 1) ≤ queueDepth (qOf w).val →
    ((s.updSite core.key (fun a => a.issued n)).pushEntries core.key n (qOf w) (s.slot core.key n).pc
      ((s.site core.key).loadBits n (qOf w).val off (ctlCountM1 w + 1))).2 = true →
    ∃ t added, exec (.qload core n) s = .next (t.latchOps core.key) ∧ entries t core.key (qOf w) = entries s core.key (qOf w) ++ added
      ∧ added.map (fun e => e.bits) = ((s.site core.key).loadBits n (qOf w).val off (ctlCountM1 w + 1)).map (fun b => b.2)
      ∧ (∀ e ∈ added, e.slot = n ∧ e.pc = (s.slot core.key n).pc ∧ e.phase = .queued)
      ∧ (t.slot core.key n).pc = (s.slot core.key n).pc + 4 ∧ (t.slot core.key n).st = .ready)


/-- R35, R37: when the oldest entry of a queue completes, it and the completed entries behind it leave the queue, the queue's
counter advances by their number, and the entry's summary is queued for the slot that pushed it.
R83, R98: the VL that VX.VL_n shows for a slot is that of its VSETVL that has completed last.
R46, R47: an engine that hangs while it runs a command (the entry that the model takes for it: runningEntry) fails its unit with the fault's
code and the slot of that command.
Completes: queueEntryComplete, engineHang. -/
def Obligations.QueueEntriesComplete : Prop :=
  (∀ (core : CoreId) (q : Fin 4) (s : State) (e : QEntry) (rest : List QEntry), entries s core.key q = e :: rest → e.phase = .ran →
    (∀ x ∈ rest, x.id ≠ e.id) →
    ∃ t, exec (.queueEntryComplete core q) s = .next t
      ∧ entries t core.key q = rest.dropWhile (fun x => x.phase == .complete)
      ∧ (t.site core.key).qdone[q] = (s.site core.key).qdone[q] + BitVec.ofNat 32 (1 + (rest.takeWhile (fun x => x.phase == .complete)).length)
      ∧ (∀ v, e.summary = some v → e.dropSummary = false → (t.slot core.key e.slot).summaries = (s.slot core.key e.slot).summaries ++ [v])
      ∧ (e.summary = none → (t.slot core.key e.slot).summaries = (s.slot core.key e.slot).summaries)
      ∧ (t.slot core.key e.slot).vlDone =
          if q = 1 ∧ vOp e.bits = 1 then BitVec.ofNat 7 (vField e.bits 32 7) else (s.slot core.key e.slot).vlDone)
  ∧ (∀ (core : CoreId) (q : Fin 4) (s : State) (e : QEntry), (s.site core.key).runningEntry q = some e →
    exec (.engineHang core q) s = .next (s.hwFault core.key e.slot fcEngineHang 1 [fcEngineHang, e.slot.val]))


/-- R29, R4: an aligned CSRR writes the register at its offset in the unit's own block to rd (zero where the offset is reserved); an
aligned CSRW writes its register there, and nothing where the offset is reserved; each goes on with the next word.
Completes: csrr, csrw. -/
def Obligations.ControlRegisterAccess : Prop :=
  ∀ (core : CoreId) (n : Fin 4) (w : W32) (s s' : State), Fetches s core.key n w → (ctlImm w).toNat % 8 = 0 →
    s' = s.updSite core.key (fun a => a.issued n) →
    (ctlOpcode w = 0x30 → ∀ r, csrReg (some n) core.key (ctlImm w).toNat = some r →
      exec (.csrr core n) s = .next ((r.read .whole s').2.updSlot core.key n (wrote (ctlRd w) (r.read .whole s').1)))
    ∧ (ctlOpcode w = 0x30 → csrReg (some n) core.key (ctlImm w).toNat = none →
      exec (.csrr core n) s = .next (s'.updSlot core.key n (wrote (ctlRd w) 0)))
    ∧ (ctlOpcode w = 0x31 → (ctlImm w).toNat ≠ 0x3200 → ∀ r, csrReg (some n) core.key (ctlImm w).toNat = some r →
      exec (.csrw core n) s = .next ((r.write .whole ((s.slot core.key n).reg (ctlRs1 w)) s').updSlot core.key n
        (fun x => if x.st = .faulted then x else { x with pc := x.pc + 4 })))
    ∧ (ctlOpcode w = 0x31 → (ctlImm w).toNat ≠ 0x3200 → csrReg (some n) core.key (ctlImm w).toNat = none → 
      exec (.csrw core n) s = .next (s'.updSlot core.key n (fun x => if x.st = .faulted then x else { x with pc := x.pc + 4 })))

/-! ## DMA, and what arrives at a unit -/

namespace Sys2Proof.Claims

/-- DMA engine e of unit k issues descriptor x next, whose operation is op, and a TAG is free. -/
def Issues (s : State) (k : Nat) (e : Fin 2) (x : QEntry) (op : Nat) : Prop :=
  (s.site k).dmaCurrent e = some x ∧ dOp x.bits = op ∧ (s.freeTag k).isSome = true

/-- The state with len bytes of descriptor id issued on engine e, one more answer awaited where waits. -/
def issuedOn (s : State) (k : Nat) (e : Fin 2) (id len : Nat) (waits : Bool) : State := s.updSite k (fun a => a.dmaIssued e id len waits)

/-- The state after the ports of unit k have moved the len bytes at addr, their extra cycles counted. -/
def moved (s : State) (k addr len : Nat) : State := s.updSite k (fun a => a.countRuns [(addr, len)])

/-- A packet of this type stands delivered at node n. -/
def Delivered (s : State) (n : Node) (p : Packet) (ty : BitVec 6) : Prop := p ∈ s.arrivedAt n ∧ p.ptype = ty

/-- A packet of this type stands delivered at site x, before every other packet whose bytes the scratchpad's write port takes (R108). -/
def DeliveredFirst (s : State) (x : SiteId) (p : Packet) (ty : BitVec 6) : Prop :=
  (s.site x.key).arrived.find? inboundWrite = some p ∧ p.ptype = ty

/-- Entry id of the engine's queue has one answer less to wait for and keeps the first status that is not OK. -/
def answeredEntries (s : State) (k : Nat) (e : Fin 2) (id : Nat) (status : BitVec 3) : List QEntry :=
  (entries s k (dmaQueue e)).map (fun x =>
    if x.id = id then { x with waiting := x.waiting - 1, dmaStatus := if x.dmaStatus = 0 then status else x.dmaStatus } else x)

end Sys2Proof.Claims

/-- R40, R44: a DMA engine with fewer than 128 reads outstanding sends the next request of a READ or of a GATHER's row for its bytes
up to the next 512-byte boundary of the remote address. R43: a GATHER's index at or above the limit sends nothing, fills its row with
zeros, counts in INDEX_SKIPS and raises no fault.
R40, R41, R44, R155, R181: a DMA engine sends the next request of a WRITE with the scratchpad's bytes, or, where it lies in a reduce
aperture, as a REDUCE packet, which waits until the port it enters has room (log entry 160); of a PUT, for its bytes up to the next 512-byte boundary of the remote offset, to the site that its logical
position names; and the one request of an ATOMIC. The words read hold no error.
Completes: dmaRead, dmaWrite, dmaPut, dmaGather, dmaAtomic. -/
def Obligations.DmaEnginesSendRequests : Prop :=
  (∀ (core : CoreId) (e : Fin 2) (s : State) (x : QEntry),
    (Issues s core.key e x 0 → (s.site core.key).dmaOutstanding e < 128 →
      exec (.dmaRead core e) s = .next ((issuedOn s core.key e x.id (dChunk x.bits (dRemoteAt x.bits x.row x.off) x.off) true).sendRequest core.key
        { owner := .dma e x.id, ptype := ptReadReq, addr := dRemoteAt x.bits x.row x.off
          len := min (dRowBytes x.bits - x.off) (512 - (dRemote x.bits + x.row * dRemoteStride x.bits + x.off) % 512)
          dst := (s.site core.key).winBase (dWin x.bits) + dLocal x.bits + x.row * dLocalStride x.bits + x.off }))
    ∧ (∀ at_ idx, Issues s core.key e x 3 → at_ = (s.site core.key).winBase (dWin x.bits) + dLocalStride x.bits + 4 * x.row →
      (s.site core.key).spad.flawed at_ 4 = false → idx = leNat (Memory.read (s.site core.key).spad.mem at_ 4) →
      (idx < dIndexLimit x.bits → (s.site core.key).dmaOutstanding e < 128 →
        exec (.dmaGather core e) s = .next ((issuedOn (moved s core.key at_ 4) core.key e x.id (dChunk x.bits (dRemoteAt x.bits idx x.off) x.off) true).sendRequest core.key
          { owner := .dma e x.id, ptype := ptReadReq, addr := dRemoteAt x.bits idx x.off, len := dChunk x.bits (dRemoteAt x.bits idx x.off) x.off
            dst := (s.site core.key).winBase (dWin x.bits) + dLocal x.bits + x.row * dRowBytes x.bits + x.off, nomerge := true }))
      ∧ (dIndexLimit x.bits ≤ idx → (s.site core.key).spad.badMerge
          [((s.site core.key).winBase (dWin x.bits) + dLocal x.bits + x.row * dRowBytes x.bits, List.replicate (dRowBytes x.bits) 0)] = none →
        ∃ t, exec (.dmaGather core e) s = .next t
          ∧ Memory.read (t.site core.key).spad.mem ((s.site core.key).winBase (dWin x.bits) + dLocal x.bits + x.row * dRowBytes x.bits) (dRowBytes x.bits)
              = List.replicate (dRowBytes x.bits) 0
          ∧ (t.site core.key).dma[e].indexSkips = satAdd (s.site core.key).dma[e].indexSkips 1
          ∧ (t.site core.key).reqs = (s.site core.key).reqs ∧ (t.site core.key).rt = (s.site core.key).rt
          ∧ (t.site core.key).slots = (s.site core.key).slots ∧ (t.site core.key).pending = (s.site core.key).pending)))
  ∧ (∀ (core : CoreId) (e : Fin 2) (s : State) (x : QEntry) (src : Nat), src = (s.site core.key).winBase (dWin x.bits) + dLocal x.bits + x.row * dLocalStride x.bits + x.off →
    (∀ len, Issues s core.key e x 1 → len = dChunk x.bits (dRemoteAt x.bits x.row x.off) x.off → (s.site core.key).spad.flawed src len = false →
      (reduceAperture (dRemoteAt x.bits x.row x.off) = none →
        exec (.dmaWrite core e) s = .next ((issuedOn (moved s core.key src len) core.key e x.id len true).sendRequest core.key
          { owner := .dma e x.id, ptype := ptWrite, addr := dRemoteAt x.bits x.row x.off, len := len, payload := Memory.read (s.site core.key).spad.mem src len }))
      ∧ (∀ p o q, reduceAperture (dRemoteAt x.bits x.row x.off) = some (p, o) →
        q = s.reducePacket core.key p o (Memory.read (s.site core.key).spad.mem src len) false →
        (s.mayEnter core.key q = true → exec (.dmaWrite core e) s =
          .next ((issuedOn (moved s core.key src len) core.key e x.id len false).sendFrom core.key q))
        ∧ (s.mayEnter core.key q = false → exec (.dmaWrite core e) s = .next s)))
    ∧ (∀ len off, Issues s core.key e x 2 → off = bitsOf (dRemote x.bits) 0 23 + x.row * dRemoteStride x.bits + x.off →
      len = min (dRowBytes x.bits - x.off) (512 - off % 512) → (s.site core.key).spad.flawed src len = false → off + len ≤ 2 ^ 23 →
      exec (.dmaPut core e) s = .next ((issuedOn (moved s core.key src len) core.key e x.id len true).sendRequest core.key
        { owner := .dma e x.id, ptype := ptPut, addr := bitsOf (dRemote x.bits) 23 3 * 2 ^ 23 + off, len := len
          payload := Memory.read (s.site core.key).spad.mem src len, dest := some ((s.site core.key).rt.toSite (dPutRow x.bits) (dPutCol x.bits)) }))
    ∧ (∀ a, Issues s core.key e x 4 → a = (s.site core.key).winBase (dWin x.bits) + dLocal x.bits → (s.site core.key).spad.flawed a 64 = false →
      exec (.dmaAtomic core e) s = .next ((issuedOn (moved s core.key a 64) core.key e x.id 64 true).sendRequest core.key
        { owner := .dma e x.id, ptype := ptAtomicReq, addr := dRemote x.bits, len := 64, dst := a
          payload := Memory.read (s.site core.key).spad.mem a 64, aop := BitVec.ofNat 4 (dAop x.bits) })))


/-- R45, R108: a READ_RSP for a DMA request, the first in the order of arrival of the site's inbound writes, writes its bytes at the request's destination and nowhere else in the scratchpad, and completes
the request; the descriptor waits for one answer less and keeps the first status that is not OK.
R45, R152: an acknowledgement without a payload, or a COMPLETION in an answer's place, completes the DMA request with its TAG with
the packet's status and writes no byte of the scratchpad.
R40, R181: the answer of an ATOMIC, in its turn of the inbound writes, leaves the line's prior bytes at the request's destination (its
LOCAL_OFFSET, where it was issued) and nowhere else.
Completes: readRspArrive, ackArrive, completionArrive. -/
def Obligations.AnswersCompleteRequests : Prop :=
  (∀ (x : SiteId) (p : Packet) (s : State) (r : Req) (e : Fin 2) (id : Nat), DeliveredFirst s x p ptReadRsp → (s.site x.key).ws.kicks = [] →
    (s.site x.key).readFor p = some r → r.owner = .dma e id → (s.site x.key).spad.badMerge [(r.dst, readBytes r p)] = none → readBytes r p ≠ [] →
    ∃ t, exec (.readRspArrive (.site x) p) s = .next t
      ∧ Memory.read (t.site x.key).spad.mem r.dst (readBytes r p).length = readBytes r p
      ∧ (∀ a, a < r.dst ∨ r.dst + (readBytes r p).length ≤ a → Memory.get (t.site x.key).spad.mem a = Memory.get (s.site x.key).spad.mem a)
      ∧ (t.site x.key).reqs = (s.site x.key).reqs.filter (fun q => q.tag != r.tag)
      ∧ entries t x.key (dmaQueue e) = answeredEntries s x.key e id (if p.poison then 3 else 0)
      ∧ (t.site x.key).arrived = (s.site x.key).arrived.erase p)
  ∧ (∀ (x : SiteId) (p : Packet) (s : State) (r : Req) (e : Fin 2) (id : Nat), (s.site x.key).ws.kicks = [] → r.owner = .dma e id →
    ((Delivered s (.site x) p ptWriteAck ∨ Delivered s (.site x) p ptPutAck) → p.payload = [] →
      (s.site x.key).reqs.find? (fun q => q.tag == p.tag && q.ptype != ptReadReq) = some r →
      ∃ t, exec (.ackArrive (.site x) p) s = .next t ∧ (t.site x.key).spad = (s.site x.key).spad
        ∧ (t.site x.key).reqs = (s.site x.key).reqs.filter (fun q => q.tag != r.tag)
        ∧ entries t x.key (dmaQueue e) = answeredEntries s x.key e id (p.status.setWidth 3))
    ∧ (DeliveredFirst s x p ptAtomicRsp → r.ptype = ptAtomicReq → (s.site x.key).spad.badMerge [(r.dst, p.payload)] = none → p.payload ≠ [] →
      p.poison = false → (s.site x.key).reqs.find? (fun q => q.tag == p.tag && q.ptype != ptReadReq) = some r →
      ∃ t, exec (.ackArrive (.site x) p) s = .next t
        ∧ Memory.read (t.site x.key).spad.mem r.dst p.payload.length = p.payload
        ∧ (∀ a, a < r.dst ∨ r.dst + p.payload.length ≤ a → Memory.get (t.site x.key).spad.mem a = Memory.get (s.site x.key).spad.mem a)
        ∧ (t.site x.key).reqs = (s.site x.key).reqs.filter (fun q => q.tag != r.tag)
        ∧ entries t x.key (dmaQueue e) = answeredEntries s x.key e id (p.status.setWidth 3))
    ∧ (Delivered s (.site x) p ptCompletion → (s.site x.key).reqs.find? (fun q => q.tag == p.tag) = some r →
      ∃ t, exec (.completionArrive (.site x) p) s = .next t ∧ (t.site x.key).spad = (s.site x.key).spad
        ∧ (t.site x.key).reqs = (s.site x.key).reqs.filter (fun q => q.tag != r.tag)
        ∧ entries t x.key (dmaQueue e) = answeredEntries s x.key e id (p.status.setWidth 3)))


/-- R45: a descriptor whose requests are all answered has run; its first status that is not OK is kept in the engine's STAT with its
TAG while that still holds OK, and with ERR_FAULT set it is charged to the slot that pushed it.
Completes: dmaCompletion. -/
def Obligations.DescriptorsComplete : Prop :=
  ∀ (core : CoreId) (e : Fin 2) (s : State) (x : QEntry), (s.site core.key).dmaReady e = some x →
    (x.dmaStatus = 0 ∨ (s.site core.key).dma[e].errFault = false →
      ∃ t, exec (.dmaCompletion core e) s = .next t
        ∧ entries t core.key (dmaQueue e) = (entries s core.key (dmaQueue e)).map (fun y => if y.id = x.id then { y with phase := .ran } else y)
        ∧ (t.site core.key).dma[e].status = (if (s.site core.key).dma[e].status = 0 then x.dmaStatus else (s.site core.key).dma[e].status)
        ∧ ∀ n, t.slot core.key n = s.slot core.key n)
    ∧ (x.dmaStatus ≠ 0 → (s.site core.key).dma[e].errFault = true →
      exec (.dmaCompletion core e) s = .next ((s.updSite core.key (fun a =>
        { (a.updEntry (dmaQueue e) x.id (fun y => { y with phase := .ran })) with dma := a.dma.set e (a.dma[e].record x.dmaStatus (dTag x.bits)) })).taskFault
          core.key x.slot fcDmaError true x.pc))

/-- R41, R108, R110: the PUT that is first in the order of arrival of a site's inbound writes: an unpoisoned PUT into a window that takes remote writes and covers its bytes is written whole and answered OK; one that
does not fit, or is poisoned, is dropped whole and answered so.
R165: a CTRL_MSG is put in the inbox of its destination and answered OK while the inbox holds fewer than 16, and answered BUSY
otherwise.
Completes: putArrive, ctrlMsgArrive. -/
def Obligations.PutsAndControlMessagesArrive : Prop :=
  (∀ (x : SiteId) (p : Packet) (s s' : State) (w : BitVec 3) (off : Nat), DeliveredFirst s x p ptPut → w = BitVec.ofNat 3 (bitsOf p.addr.toNat 23 3) →
    off = bitsOf p.addr.toNat 0 23 → s' = s.updSite x.key (fun a => { a with arrived := a.arrived.erase p }) →
    (p.poison = false → (vget {} (s.site x.key).spad.win w.toNat).remoteEn = true → (s.site x.key).inWindow w off p.payload.length = true →
      (s.site x.key).spad.badMerge [((s.site x.key).winBase w + off, p.payload)] = none →
      exec (.putArrive x p) s = .next (((moved s' x.key ((s.site x.key).winBase w + off) p.payload.length).updSite x.key (fun a => a.putRuns [[((s.site x.key).winBase w + off, p.payload)]])).sendFrom x.key
        (p.answer ptPutAck stOk [] false)))
    ∧ (p.poison = false → (vget {} (s.site x.key).spad.win w.toNat).remoteEn = false ∨ (s.site x.key).inWindow w off p.payload.length = false →
      exec (.putArrive x p) s = .next (s'.sendFrom x.key (p.answer ptPutAck stOutOfWindow [] false)))
    ∧ (p.poison = true → exec (.putArrive x p) s = .next (s'.sendFrom x.key (p.answer ptPutAck stPoison [] false))))
  ∧ (∀ (node : Node) (p : Packet) (s : State), Delivered s node p ptCtrlMsg →
    (((s.takeAt node p).inboxOf node).length < 16 →
      exec (.ctrlMsgArrive node p) s = .next (((s.takeAt node p).addInbox node p).sendNode node (p.answer ptCtrlAck stOk [] false)))
    ∧ (16 ≤ ((s.takeAt node p).inboxOf node).length →
      exec (.ctrlMsgArrive node p) s = .next ((s.takeAt node p).sendNode node (p.answer ptCtrlAck stBusy [] false))))


/-! ## What a site does for itself -/

/-- R107, R114, R131: NOISE_SEED loads both streams from the seed (a seed of zero replaced) and turns automatic reseeding off;
NOISE_RESEED turns it on; NOISE_HEALTH_FAIL sets its flag; a grant of a port of a unit that is on and has something that asks for a port
counts as one by age where a requester has waited AGE cycles, and not else (how long the requesters have waited is the command's operand,
and which of them is granted shows in nothing else: the model's choice, log entry 100); the end of a clear is shown.
Completes: spadAgeGrant, scratchpadClearDone, noiseReseed, noiseSeed, noiseAutoReseed, noiseHealthFail. -/
def Obligations.SiteHousekeeping : Prop :=
  (∀ (x : SiteId) (v : W64) (s : State), exec (.noiseSeed x v) s = .next (s.updSite x.key (fun a => { a with noise := { a.noise with
      s0 := (if v = 0 then 0x5a5a5a5a5a5a5a5a else v) ++ (if v = 0 then 0x5a5a5a5a5a5a5a5a else v)
      s1 := ~~~((if v = 0 then 0x5a5a5a5a5a5a5a5a else v) ++ (if v = 0 then 0x5a5a5a5a5a5a5a5a else v)), autoOff := true } })))
  ∧ (∀ (x : SiteId) (s : State), ∃ t, exec (.noiseReseed x) s = .next t ∧ (t.site x.key).noise.autoOff = false
      ∧ (t.site x.key).noise.healthFail = (s.site x.key).noise.healthFail ∧ (t.site x.key).spad = (s.site x.key).spad)
  ∧ (∀ (x : SiteId) (s : State), ((s.site x.key).noise.autoOff = true → exec (.noiseAutoReseed x) s = .next s)
      ∧ ((s.site x.key).noise.autoOff = false → exec (.noiseAutoReseed x) s = .next (s.reseed x.key)))
  ∧ (∀ (x : SiteId) (s : State), exec (.noiseHealthFail x) s = .next (s.updSite x.key (fun a => { a with noise := { a.noise with healthFail := true } })))
  ∧ (∀ (x : SiteId) (s : State), exec (.scratchpadClearDone x) s = .next (s.updSite x.key (fun a => { a with spad := { a.spad with clearing := false } })))
  ∧ (∀ (core : CoreId) (waits : List Nat) (s : State), s.unitPowered core.key = true → (s.site core.key).asksPorts = true →
      ((∃ w ∈ waits, (s.site core.key).spad.age.toNat ≤ w) →
        exec (.spadAgeGrant ⟨core, waits⟩) s = .next (s.updSite core.key (fun a =>
          { a with spad := { a.spad with agePromote := satAdd a.spad.agePromote 1 } })))
      ∧ ((∀ w ∈ waits, w < (s.site core.key).spad.age.toNat) → exec (.spadAgeGrant ⟨core, waits⟩) s = .next (s.updSite core.key (fun a => a))))

/-! ## The matrix engine -/

namespace Sys2Proof.Claims

/-- The matrix command that unit k starts or goes on with is e, of operation op; no drain is in progress, and the words that it reads hold
no error. -/
def NextMatrix (s : State) (k : Nat) (e : QEntry) (op : Nat) : Prop :=
  (s.site k).headOf 0 = some e ∧ mxOp e.bits = op ∧ (∀ x ∈ entries s k 0, x.phase ≠ .drainWait)
    ∧ ∀ r ∈ mxReads (s.site k) e, (s.site k).spad.flawed r.1 r.2 = false

/-- The stored tile of K-step i of an operand of format f, and which of its two tiles: a stored MXFP4 tile serves two K-steps (R55). -/
def stepTile (f i : Nat) : Nat := if f = 9 then i / 2 else i
def stepSub (f i : Nat) : Nat := if f = 9 then i % 2 else 0

/-- The operand tiles of the next K-step of MMA e: a stored MXFP4 tile is read at the even one of its two K-steps and held for the odd one. -/
def tileA (s : State) (k : Nat) (e : QEntry) : Tile :=
  if mxAfmt e.bits = 9 ∧ e.row % 2 = 1 then ⟨9, e.tileA.toArray⟩ else
  (s.site k).tile (mxAfmt e.bits) ((s.site k).homeAddr e.slot (64 * (mxAaddr e.bits + stepTile (mxAfmt e.bits) e.row * mxAstride e.bits)))
def tileB (s : State) (k : Nat) (e : QEntry) : Tile :=
  if mxBfmt e.bits = 9 ∧ e.row % 2 = 1 then ⟨9, e.tileB.toArray⟩ else
  (s.site k).tile (mxBfmt e.bits) ((s.site k).homeAddr e.slot (64 * (mxBaddr e.bits + stepTile (mxBfmt e.bits) e.row * mxBstride e.bits)))

/-- Element (r, c) of accumulator tile i of unit k. -/
def accAt (s : State) (k i r c : Nat) : W32 := (s.site k).mx.accGet i r c

/-- Entry e of queue q of unit k is replaced by e'. -/
def entryNow (s t : State) (k : Nat) (q : Fin 4) (e e' : QEntry) : Prop :=
  entries t k q = (entries s k q).map (fun x => if x.id = e.id then e' else x) ∧ ∀ p, p ≠ q → entries t k p = entries s k p

end Sys2Proof.Claims

/-- R57, R58, R61, R64, R75: an MMA runs its K-steps in order, and its entry then has run, or awaits its drain where it drains. With an
FP8, FP16, BF16 or MX operand pair the K-step forms in each element of its tile the sum over k, in order, of the products of its
operands' elements, each product and sum rounded to FP32; the first K-step of an overwriting MMA leaves that sum, and every other adds it to
the element. With INT8 operands the sum of products is exact, and the element takes it modulo 2^32, or clamped with INT_SAT set.
Other tiles, the scratchpad's bytes and the vector engine are unchanged; latchOps then reads the operands of a draining command that has
come to the head (the statement of drains says what it does).
One K-step a command (log entry 112), the home window at the run (log entry 115) and the layout of an MXFP4 operand B (log entry 116) are the
model's choices.
Completes: mma. -/
def Obligations.MmaComputesItsTile : Prop :=
  (∀ (x : SiteId) (s : State) (e : QEntry), NextMatrix s x.key e 1 →
    ∃ t, exec (.mma x) s = .next (t.latchOps x.key)
      ∧ (mxAfmt e.bits ≠ 10 → ∀ m n, m < 64 → n < 64 →
          accAt t x.key (mxAcc e.bits) m n = (
            let a := opA (tileA s x.key e) (mxAori e.bits) (stepSub (mxAfmt e.bits) e.row) m
            let b := fun k => opB (tileB s x.key e) (mxBori e.bits) (stepSub (mxBfmt e.bits) e.row) k n
            let p := (List.range 63).foldl (fun z k => f32Add z (toF32 ((a (k + 1)).mul (b (k + 1))))) (toF32 ((a 0).mul (b 0)))
            if mxAccop e.bits = 0 ∧ e.row = 0 then p else f32Add (accAt s x.key (mxAcc e.bits) m n) p))
      ∧ (mxAfmt e.bits = 10 → ∀ m n, m < 64 → n < 64 → ∀ v : Int, v =
            (if mxAccop e.bits = 0 ∧ e.row = 0 then 0 else (accAt s x.key (mxAcc e.bits) m n).toInt)
              + ((List.range 64).map (fun k =>
                  (if mxAori e.bits then (tileA s x.key e).int8 k m else (tileA s x.key e).int8 m k)
                    * (if mxBori e.bits then (tileB s x.key e).int8 n k else (tileB s x.key e).int8 k n))).sum →
          ((s.site x.key).mx.intSat = false → accAt t x.key (mxAcc e.bits) m n = BitVec.ofInt 32 v)
          ∧ ((s.site x.key).mx.intSat = true → (accAt t x.key (mxAcc e.bits) m n).toInt = max (-2 ^ 31) (min (2 ^ 31 - 1) v)))
      ∧ (∀ i m n, i ≠ mxAcc e.bits → m < 64 → n < 64 → accAt t x.key i m n = accAt s x.key i m n)
      ∧ entryNow s t x.key 0 e { (s.site x.key).holdTiles e with
          row := e.row + 1, phase := if e.row + 1 < mxKsteps e.bits then .running else if mxAccop e.bits = 2 then .drainWait else .ran }
      ∧ (t.site x.key).spad.mem = (s.site x.key).spad.mem ∧ (t.site x.key).vx = (s.site x.key).vx)


/-- R61, R69: ZERO clears its run of accumulator tiles and no other; LDTAB loads the 528 words of its table from the home window;
neither changes a byte of the scratchpad.
R66, R68, R73: a DRAIN that starts, and the drain of an accumulate-and-drain, run the fused output stage over the tile with the scale and
bias operands that its entry holds, and write exactly the accesses it gives; the accumulate-and-drain clears its tile.
R68: those operands are read, once, when the command is the head of its queue (the model's reading of the 64 cycles, log entry 158), of words
without an error; where the head drains nothing, or holds its operands, nothing is read.
Completes: drain, zero, ldtab, accDrainStart. -/
def Obligations.TablesZeroesAndDrains : Prop :=
  (∀ (x : SiteId) (s : State) (e : QEntry),
    (NextMatrix s x.key e 3 → ∃ t, exec (.zero x) s = .next (t.latchOps x.key) ∧ entryNow s t x.key 0 e { e with phase := .ran }
      ∧ (∀ i r c, r < 64 → c < 64 → accAt t x.key i r c =
          if mxAcc e.bits ≤ i ∧ i < mxAcc e.bits + mxKsteps e.bits then 0 else accAt s x.key i r c)
      ∧ (t.site x.key).spad.mem = (s.site x.key).spad.mem)
    ∧ (NextMatrix s x.key e 4 → ∃ t, exec (.ldtab x) s = .next (t.latchOps x.key) ∧ entryNow s t x.key 0 e { e with phase := .ran }
      ∧ (∀ i, i < 528 → Sparse.get 0 (t.site x.key).mx.tables (1024 * (mxAcc e.bits % 2) + i) =
          BitVec.ofNat 32 (leNat (Memory.read (s.site x.key).spad.mem ((s.site x.key).homeAddr e.slot (64 * mxAaddr e.bits) + 4 * i) 4)))
      ∧ (t.site x.key).mx.acc = (s.site x.key).mx.acc ∧ (t.site x.key).spad.mem = (s.site x.key).spad.mem))
  ∧ (∀ (x : SiteId) (s : State) (e : QEntry) (clear : Bool) (d : Site × List WriteRuns),
    d = (s.site x.key).drainTile e (mxAcc e.bits) (mxDaddr e.bits) clear →
    d.1.spad.badMerges d.2 = none →
    (NextMatrix s x.key e 2 → clear = false →
      ∃ t, exec (.drain x) s = .next (t.latchOps x.key) ∧ entryNow s t x.key 0 e { e with phase := .ran }
        ∧ (t.site x.key).spad.mem = d.2.flatten.foldl (fun m r => Memory.write m r.1 r.2) (s.site x.key).spad.mem
        ∧ (t.site x.key).mx = { d.1.mx with curAcc := BitVec.ofNat 6 (mxAcc e.bits) }
        ∧ (t.site x.key).mx.acc = (s.site x.key).mx.acc)
    ∧ ((entries s x.key 0).find? (fun y => y.phase == .drainWait) = some e → clear = true →
      ∃ t, exec (.accDrainStart x) s = .next t ∧ entryNow s t x.key 0 e { e with phase := .ran }
        ∧ (t.site x.key).spad.mem = d.2.flatten.foldl (fun m r => Memory.write m r.1 r.2) (s.site x.key).spad.mem
        ∧ ∀ r c, r < 64 → c < 64 → accAt t x.key (mxAcc e.bits) r c = 0))
  ∧ (∀ (x : SiteId) (s : State) (e : QEntry), (s.site x.key).headOf 0 = some e →
    (mxDrains e.bits = true → e.opsRead = false → (∀ r ∈ mxOperandReads (s.site x.key) e, (s.site x.key).spad.flawed r.1 r.2 = false) →
      entryNow s (s.latchOps x.key) x.key 0 e { e with
        opsRead := true, scaleOps := (s.site x.key).readScale e.slot e.fod0, biasOps := (s.site x.key).readBias e.slot e.fod0 e.fod1 }
      ∧ ((s.latchOps x.key).site x.key).mx = (s.site x.key).mx
      ∧ ((s.latchOps x.key).site x.key).spad.mem = (s.site x.key).spad.mem)
    ∧ (mxDrains e.bits = false ∨ e.opsRead = true → s.latchOps x.key = s))


/-! ## The vector engine -/

namespace Sys2Proof.Claims

/-- The vector instruction that unit k issues next is e, with operation op; no tile instruction holds issue (R99). -/
def NextVector (s : State) (k : Nat) (e : QEntry) (op : Nat) : Prop := (s.site k).vHead = some e ∧ vOp e.bits = op

/-- Lane i of vector register r of unit k. -/
def lane (s : State) (k r i : Nat) : W32 := Sparse.get 0 (s.site k).vx.v (64 * r + i)

/-- Bit i of predicate register r of unit k. -/
def pbit (s : State) (k r i : Nat) : Bool := ((s.site k).vx.preg r).getLsbD i

/-- Lane i of operand B of e: of V[VB], or of the immediate (R88). -/
def laneB (s : State) (k : Nat) (e : QEntry) (i : Nat) : W32 := ((s.site k).vx.operandB e.bits).getD i 0

/-- Instruction e has run at unit k, and nothing but the unit's vector engine and e's own entry has changed. -/
def VectorRan (s t : State) (k : Nat) (e : QEntry) : Prop :=
  t.site k = { s.site k with vx := (t.site k).vx, queues := (t.site k).queues } ∧ (∀ j, j ≠ k → t.site j = s.site j)
    ∧ (t.site k).vx.t = (s.site k).vx.t ∧ ∃ v, entryNow s t k 1 e { e with summary := v, phase := .ran }

/-- Every lane but lanes 0 to vl - 1 of register d is unchanged. -/
def LanesKept (s t : State) (k d vl : Nat) : Prop := ∀ r i, i < 64 → r ≠ d ∨ vl ≤ i → lane t k r i = lane s k r i

/-- Every predicate register is unchanged. -/
def PredicatesKept (s t : State) (k : Nat) : Prop := (t.site k).vx.p = (s.site k).vx.p

/-- Every predicate bit but bits 0 to vl - 1 of register d is unchanged. -/
def PbitsKept (s t : State) (k d vl : Nat) : Prop := ∀ r i, r < 8 → i < 64 → r ≠ d ∨ vl ≤ i → pbit t k r i = pbit s k r i

/-- The arithmetic instructions. -/
def vectorTable : List ((CoreId → Instr) × Nat) := [
  (.vadd, 0x10), (.vsub, 0x11), (.vmul, 0x12), (.vfma, 0x13), (.vmin, 0x14), (.vmax, 0x15), (.vabs, 0x16), (.vneg, 0x17)]

/-- The INT32 results of the arithmetic instructions (R89). -/
def wrapTable : List ((CoreId → Instr) × Nat × (W32 → W32 → W32 → W32)) := [
  (.vadd, 0x10, fun a b _ => a + b), (.vsub, 0x11, fun a b _ => a - b), (.vmul, 0x12, fun a b _ => a * b),
  (.vfma, 0x13, fun a b d => a * b + d), (.vmin, 0x14, fun a b _ => if a.toInt < b.toInt then a else b),
  (.vmax, 0x15, fun a b _ => if a.toInt < b.toInt then b else a), (.vabs, 0x16, fun a _ _ => if a.toInt < 0 then -a else a),
  (.vneg, 0x17, fun a _ _ => -a)]

/-- The bitwise and shift instructions, and VMOV (R85). -/
def bitTable : List ((CoreId → Instr) × Nat × (W32 → W32 → W32)) := [
  (.vand, 0x18, fun a b => a &&& b), (.vor, 0x19, fun a b => a ||| b), (.vxor, 0x1a, fun a b => a ^^^ b),
  (.vshl, 0x1b, fun a b => a <<< (b.toNat % 32)), (.vshr, 0x1c, fun a b => a >>> (b.toNat % 32)),
  (.vsar, 0x1d, fun a b => a.sshiftRight (b.toNat % 32)), (.vmov, 0x20, fun _ b => b)]

/-- The special functions. -/
def specialTable : List ((CoreId → Instr) × Nat) := [(.vexp2, 0x28), (.vlog2, 0x29), (.vrcp, 0x2a), (.vrsqrt, 0x2b)]

/-- The compares. -/
def compareTable : List ((CoreId → Instr) × Nat × (Fp → Fp → Bool)) := [
  (.vcmpeq, 0x30, fun a b => a.eqv b), (.vcmpne, 0x31, fun a b => !a.eqv b), (.vcmplt, 0x32, fun a b => a.lt b),
  (.vcmple, 0x33, fun a b => a.lt b || a.eqv b), (.vcmpgt, 0x34, fun a b => b.lt a),
  (.vcmpge, 0x35, fun a b => b.lt a || a.eqv b), (.vcmpun, 0x36, fun a b => a.isNan || b.isNan)]

/-- The bit that a predicate instruction writes, from the bits of its two operands and bit 0 of its immediate. -/
def predicateTable : List ((CoreId → Instr) × Nat × (Bool → Bool → Bool → Bool)) := [
  (.pand, 0x38, fun a b _ => a && b), (.por, 0x39, fun a b _ => a || b), (.pxor, 0x3a, fun a b _ => a != b),
  (.pnot, 0x3b, fun a _ _ => !a), (.pfill, 0x3e, fun _ _ i => i)]

/-- Instructions that leave the engine as it is: VNOP and VSETVL, and PTEST and VTEST where they send no summary. -/
def quietTable : List ((CoreId → Instr) × Nat) := [(.vnop, 0x00), (.vsetvl, 0x01), (.ptest, 0x3f), (.vtest, 0x47)]

end Sys2Proof.Claims

/-- R83, R85, R89: VADD to VNEG write to lanes 0 to VL − 1 of V[VD] the results of their operands' elements, raise those results'
flags, and leave every other lane, the predicates, the tiles, the scratchpad and every other unit unchanged.
Completes: vadd, vsub, vmul, vfma, vmin, vmax, vabs, vneg. -/
def Obligations.VectorArithmetic : Prop :=
  ∀ c ∈ vectorTable, ∀ (core : CoreId) (s : State) (e : QEntry), NextVector s core.key e c.2 →
    ∃ t, exec (c.1 core) s = .next t ∧ VectorRan s t core.key e ∧ LanesKept s t core.key (vrVd e.bits) e.vl.toNat
      ∧ PredicatesKept s t core.key
      ∧ (∀ i, i < 64 → i < e.vl.toNat → lane t core.key (vrVd e.bits) i =
          (arithLane c.2 (vrType e.bits) (lane s core.key (vrVa e.bits) i) (laneB s core.key e i) (lane s core.key (vrVd e.bits) i)).1)
      ∧ (vE e.bits = false → (t.site core.key).vx.vstat = (s.site core.key).vx.vstat |||
          (List.range (min e.vl.toNat 64)).foldl (fun f i => f |||
            (arithLane c.2 (vrType e.bits) (lane s core.key (vrVa e.bits) i) (laneB s core.key e i) (lane s core.key (vrVd e.bits) i)).2) 0)

/-- R87, R89: on INT32 lanes VADD to VNEG are two's-complement arithmetic that wraps.
Completes: vadd, vsub, vmul, vfma, vmin, vmax, vabs, vneg. -/
def Obligations.IntegerLanesWrap : Prop :=
  ∀ c ∈ wrapTable, ∀ (core : CoreId) (s : State) (e : QEntry), NextVector s core.key e c.2.1 → vrType e.bits = 0xb →
    ∃ t, exec (c.1 core) s = .next t ∧ ∀ i, i < 64 → i < e.vl.toNat → lane t core.key (vrVd e.bits) i =
      c.2.2 (lane s core.key (vrVa e.bits) i) (laneB s core.key e i) (lane s core.key (vrVd e.bits) i)

/-- R85, R132: VAND to VSAR and VMOV write their lanes below VL bit for bit, VSEL takes operand A where its predicate's bit is 1 and B
otherwise, VCVT converts A, and VEXP2 to VRSQRT apply their function; every other lane and the predicates are unchanged.
Completes: vand, vor, vxor, vshl, vshr, vsar, vcvt, vsel, vmov, vexp2, vlog2, vrcp, vrsqrt. -/
def Obligations.VectorLogicAndConversions : Prop :=
  ∀ (core : CoreId) (s : State) (e : QEntry) (vd va vl : Nat), vd = vrVd e.bits → va = vrVa e.bits → vl = e.vl.toNat →
    (∀ c ∈ bitTable, NextVector s core.key e c.2.1 → ∃ t, exec (c.1 core) s = .next t ∧ VectorRan s t core.key e
      ∧ LanesKept s t core.key vd vl ∧ PredicatesKept s t core.key
      ∧ ∀ i, i < 64 → i < vl → lane t core.key vd i = c.2.2 (lane s core.key va i) (laneB s core.key e i))
    ∧ (NextVector s core.key e 0x1f → ∃ t, exec (.vsel core) s = .next t ∧ VectorRan s t core.key e
      ∧ LanesKept s t core.key vd vl ∧ PredicatesKept s t core.key
      ∧ ∀ i, i < 64 → i < vl → lane t core.key vd i =
          if pbit s core.key (vrPx e.bits) i then lane s core.key va i else laneB s core.key e i)
    ∧ (NextVector s core.key e 0x1e → ∃ t, exec (.vcvt core) s = .next t ∧ VectorRan s t core.key e
      ∧ LanesKept s t core.key vd vl ∧ PredicatesKept s t core.key
      ∧ ∀ i, i < 64 → i < vl → lane t core.key vd i = (cvtLane (vrType e.bits) (lane s core.key va i)).1)
    ∧ (∀ c ∈ specialTable, NextVector s core.key e c.2 → ∃ t, exec (c.1 core) s = .next t ∧ VectorRan s t core.key e
      ∧ LanesKept s t core.key vd vl ∧ PredicatesKept s t core.key
      ∧ ∀ i, i < 64 → i < vl → lane t core.key vd i = (specialLane c.2 (lane s core.key va i)).1)

/-- R85, R87: a compare writes to bits 0 to VL − 1 of P[VD] the relation of its operands' lanes; PAND to PFILL write theirs; PSETL and
PCLRL set and clear the bit of their lane where it is below VL; every other bit and every vector register is unchanged.
Completes: vcmpeq, vcmpne, vcmplt, vcmple, vcmpgt, vcmpge, vcmpun, pand, por, pxor, pnot, psetl, pclrl, pfill. -/
def Obligations.ComparesAndPredicates : Prop :=
  ∀ (core : CoreId) (s : State) (e : QEntry) (vd va vl : Nat), vd = vrVd e.bits → va = vrVa e.bits → vl = e.vl.toNat → vd < 8 →
    (∀ c ∈ compareTable, NextVector s core.key e c.2.1 → ∃ t, exec (c.1 core) s = .next t ∧ VectorRan s t core.key e
      ∧ (t.site core.key).vx.v = (s.site core.key).vx.v ∧ PbitsKept s t core.key vd vl
      ∧ ∀ i, i < 64 → i < vl → pbit t core.key vd i =
          c.2.2 (cmpValue (vrType e.bits) (lane s core.key va i)) (cmpValue (vrType e.bits) (laneB s core.key e i)))
    ∧ (∀ c ∈ predicateTable, NextVector s core.key e c.2.1 → ∃ t, exec (c.1 core) s = .next t ∧ VectorRan s t core.key e
      ∧ (t.site core.key).vx.v = (s.site core.key).vx.v ∧ PbitsKept s t core.key vd vl
      ∧ ∀ i, i < 64 → i < vl → pbit t core.key vd i =
          c.2.2 (pbit s core.key va i) (pbit s core.key (vrVb e.bits) i) (vField e.bits 32 1 == 1))
    ∧ (NextVector s core.key e 0x3c → ∃ t, exec (.psetl core) s = .next t ∧ VectorRan s t core.key e
      ∧ (t.site core.key).vx.v = (s.site core.key).vx.v
      ∧ ∀ r i, r < 8 → i < 64 → pbit t core.key r i = if r = vd ∧ i = vField e.bits 32 6 ∧ i < vl then true else pbit s core.key r i)
    ∧ (NextVector s core.key e 0x3d → ∃ t, exec (.pclrl core) s = .next t ∧ VectorRan s t core.key e
      ∧ (t.site core.key).vx.v = (s.site core.key).vx.v
      ∧ ∀ r i, r < 8 → i < 64 → pbit t core.key r i = if r = vd ∧ i = vField e.bits 32 6 ∧ i < vl then false else pbit s core.key r i)


namespace Sys2Proof.Claims

/-- VX.PERM_COUNT has counted n lanes more, and VSTAT.PERM_RANGE is set where n is not 0. -/
def PermCounted (s t : State) (k n : Nat) : Prop :=
  (t.site k).vx.permCount = (if n = 0 then (s.site k).vx.permCount else satAdd (s.site k).vx.permCount n)
    ∧ (0 < n → (t.site k).vx.vstat.getLsbD 0 = true)

/-- The summary word of e (R36): 20 zero bits, TAG from bits 59 to 54 of the instruction, SLOT, KIND from its bits 63 to 60, and VALUE. -/
def emitted (e : QEntry) (value : W32) : W64 :=
  (((((0 : BitVec 20) ++ BitVec.ofNat 6 (vField e.bits 54 6)) ++ BitVec.ofNat 2 e.slot.val) ++ BitVec.ofNat 4 (vField e.bits 60 4)) ++ value).setWidth 64

/-- The VALUE over the bits below vl of a predicate (R36, R97): KIND 2 counts those set, KIND 4 gives the lowest, all ones where none is. -/
def predicateValue (kind vl : Nat) (b : Nat → Bool) : W32 :=
  if kind = 2 then BitVec.ofNat 32 ((List.range vl).countP b)
  else match (List.range vl).find? b with
    | some i => BitVec.ofNat 32 i
    | none => 0xffffffff

/-- The VALUE over lanes (R94, R97): KIND 0 the maximum, 1 the minimum, 3 the sum with the lanes at and above VL as +0, 5 whether one is a NaN. -/
def lanesValue (kind : Nat) (int : Bool) (ls : List W32) : W32 :=
  if kind = 5 then (if ls.any (fun w => (ofF32 w).isNan) then 1 else 0)
  else if kind = 3 then (reduceLanes 0 int false (ls ++ List.replicate (64 - ls.length) 0)).1
  else (reduceLanes (if kind = 0 then 1 else 2) int false ls).1

/-- The instructions whose result or tested operand is a predicate. -/
def predicateEmitters : List ((CoreId → Instr) × Nat) :=
  compareTable.map (fun c => (c.1, c.2.1)) ++ predicateTable.map (fun c => (c.1, c.2.1)) ++ [(.psetl, 0x3c), (.pclrl, 0x3d), (.ptest, 0x3f)]

/-- The instructions of a lane whose result or tested operand is a vector register. -/
def vectorEmitters : List ((CoreId → Instr) × Nat) :=
  vectorTable ++ bitTable.map (fun c => (c.1, c.2.1)) ++ specialTable
    ++ [(.vcvt, 0x1e), (.vsel, 0x1f), (.vperm, 0x40), (.vbcl, 0x41), (.vrot, 0x42), (.vred, 0x43), (.vtest, 0x47)]

/-- Lanes 0 to VL - 1 of register r after the command. -/
def lanesBelow (t : State) (k r : Nat) (e : QEntry) : List W32 := (List.range (min e.vl.toNat 64)).map (lane t k r)

end Sys2Proof.Claims

/-- R96: VPERM, VBCL and VROT write to each lane below VL the lane of V[VA] that its index names; where VPERM or VBCL names one that is
not below VL they write 0 there, count it in VX.PERM_COUNT and set VSTAT.PERM_RANGE, and nothing else of the unit changes.
R94: VRED writes lane 0 of V[VD] alone.
R83, R97: VNOP, VSETVL, PTEST and VTEST change no register of the engine; where they emit no summary their entry has run with
nothing to deliver.
R36, R97: with E = 1 an instruction whose result (or, of PTEST and VTEST, whose operand) is a predicate or a vector, and TRED, leave in their
entry the summary of that result's bits or lanes 0 to VL − 1, of the kind and tag they name; for VRED that takes in the lanes of V[VD] that it
leaves as they were (the model's choice, log entry 153).
Completes: vnop, vsetvl, ptest, vperm, vbcl, vrot, vred, vtest. -/
def Obligations.PermutesReductionsAndQuiet : Prop :=
  (∀ (core : CoreId) (s : State) (e : QEntry) (vd va vl : Nat), vd = vrVd e.bits → va = vrVa e.bits → vl = e.vl.toNat → 0 < vl → vl ≤ 64 →
    (NextVector s core.key e 0x40 → ∃ t, exec (.vperm core) s = .next t ∧ VectorRan s t core.key e ∧ LanesKept s t core.key vd vl
      ∧ PredicatesKept s t core.key
      ∧ (∀ i, i < vl → lane t core.key vd i =
          if (laneB s core.key e i).toNat < vl then lane s core.key va (laneB s core.key e i).toNat else 0)
      ∧ PermCounted s t core.key ((List.range vl).countP (fun i => decide (vl ≤ (laneB s core.key e i).toNat))))
    ∧ (NextVector s core.key e 0x41 → ∃ t, exec (.vbcl core) s = .next t ∧ VectorRan s t core.key e ∧ LanesKept s t core.key vd vl
      ∧ PredicatesKept s t core.key
      ∧ (∀ i, i < vl → lane t core.key vd i = if vField e.bits 32 6 < vl then lane s core.key va (vField e.bits 32 6) else 0)
      ∧ PermCounted s t core.key (if vField e.bits 32 6 < vl then 0 else vl))
    ∧ (NextVector s core.key e 0x42 → ∃ t, exec (.vrot core) s = .next t ∧ VectorRan s t core.key e ∧ LanesKept s t core.key vd vl
      ∧ PredicatesKept s t core.key
      ∧ (∀ i, i < vl → lane t core.key vd i = lane s core.key va ((i + vField e.bits 32 6) % vl)) ∧ PermCounted s t core.key 0)
    ∧ (NextVector s core.key e 0x43 → ∃ t, exec (.vred core) s = .next t ∧ VectorRan s t core.key e ∧ LanesKept s t core.key vd 1
      ∧ PredicatesKept s t core.key
      ∧ lane t core.key vd 0 = (reduceLanes (vField e.bits 32 2) (vrType e.bits == 0xb) false
          ((List.range 64).filterMap (fun i => if i < vl then some (lane s core.key va i)
            else if vField e.bits 32 2 = 0 then some 0 else none))).1))
  ∧ (∀ c ∈ quietTable, ∀ (core : CoreId) (s : State) (e : QEntry), NextVector s core.key e c.2 →
    ∃ t, exec (c.1 core) s = .next t ∧ VectorRan s t core.key e ∧ (t.site core.key).vx.v = (s.site core.key).vx.v
      ∧ PredicatesKept s t core.key
      ∧ (vE e.bits = false → (t.site core.key).vx = (s.site core.key).vx ∧ entryNow s t core.key 1 e { e with phase := .ran }))
  ∧ (∀ c ∈ predicateEmitters, ∀ (core : CoreId) (s : State) (e : QEntry), NextVector s core.key e c.2 → vE e.bits = true →
    vField e.bits 60 4 = 2 ∨ vField e.bits 60 4 = 4 →
    ∃ t, exec (c.1 core) s = .next t ∧ entryNow s t core.key 1 e { e with phase := .ran, summary := some (emitted e
      (predicateValue (vField e.bits 60 4) e.vl.toNat (pbit t core.key ((if c.2 = 0x3f then vrVa e.bits else vrVd e.bits) % 8)))) })
  ∧ (∀ (core : CoreId) (s : State) (e : QEntry), vE e.bits = true → vField e.bits 60 4 ∈ [0, 1, 3, 5] →
    (∀ c ∈ vectorEmitters, NextVector s core.key e c.2 →
      ∃ t, exec (c.1 core) s = .next t ∧ entryNow s t core.key 1 e { e with phase := .ran, summary := some (emitted e
        (lanesValue (vField e.bits 60 4) (if c.2 = 0x1e then vrType e.bits == 0 else vrType e.bits == 0xb)
          (lanesBelow t core.key (if c.2 = 0x47 then vrVa e.bits else vrVd e.bits) e))) })
    ∧ (NextVector s core.key e 0x54 →
      ∃ t, exec (.tred core) s = .next t ∧ entryNow s t core.key 1 e { e with phase := .ran, summary := some (emitted e
        (lanesValue (vField e.bits 60 4) (vField e.bits 34 1 == 1) (lanesBelow t core.key (vtTd e.bits) e))) }))


/-! ## The vector engine's loads, stores and tiles -/

namespace Sys2Proof.Claims

/-- The vector instruction that unit k issues next is e, with operation op, and it reads no word with an error. -/
def NextAccess (s : State) (k : Nat) (e : QEntry) (op : Nat) : Prop :=
  NextVector s k e op ∧ ∀ r ∈ vReads (s.site k) e, (s.site k).spad.flawed r.1 r.2 = false

/-- The accesses ws, each a list of runs, merge with no uncorrectable word of unit k. -/
def MergesGood (s : State) (k : Nat) (ws : List WriteRuns) : Prop := (s.site k).spad.badMerges ws = none

/-- The scratchpad of unit k holds what it held with the runs of ws written in order. -/
def Stored (s t : State) (k : Nat) (ws : List WriteRuns) : Prop :=
  (t.site k).spad.mem = ws.flatten.foldl (fun m r => Memory.write m r.1 r.2) (s.site k).spad.mem

/-- Element i, by rows, of the tile that a specifier names at unit k. -/
def tileElem (s : State) (k sp i : Nat) : W32 := ((s.site k).specTile sp).getD i 0

/-- Every element of every tile but those of specifier d is unchanged. -/
def TilesKept (s t : State) (k d : Nat) : Prop := ∀ sp i, sp < 128 → i < 4096 → sp ≠ d → tileElem t k sp i = tileElem s k sp i

end Sys2Proof.Claims

/-- R90, R92: VLD writes to the lanes below VL of its register the values of its rank, file or packed words, and PLD the bits of its
row to its predicate; the scratchpad's bytes and every other register are unchanged.
Completes: vld, pld. -/
def Obligations.VectorLoads : Prop :=
  ∀ (core : CoreId) (s : State) (e : QEntry),
    (NextAccess s core.key e 0x48 → ∃ t, exec (.vld core) s = .next t ∧ (t.site core.key).spad.mem = (s.site core.key).spad.mem
      ∧ LanesKept s t core.key (vmReg e.bits) e.vl.toNat ∧ PredicatesKept s t core.key
      ∧ ∀ i, i < 64 → i < e.vl.toNat → lane t core.key (vmReg e.bits) i = ((s.site core.key).vldLanes e).getD i 0)
    ∧ (NextAccess s core.key e 0x4b → vmPx e.bits < 8 → ∃ t, exec (.pld core) s = .next t
      ∧ (t.site core.key).spad.mem = (s.site core.key).spad.mem ∧ (t.site core.key).vx.v = (s.site core.key).vx.v
      ∧ PbitsKept s t core.key (vmPx e.bits) e.vl.toNat
      ∧ ∀ i, i < 64 → i < e.vl.toNat → pbit t core.key (vmPx e.bits) i =
          (leNat (Memory.read (s.site core.key).spad.mem ((s.site core.key).homeAddr e.slot (vmAddr e.bits) + 8 * vmIndex e.bits) 8)).testBit i)


/-- R90–R93: VST, VST4, PST, TST, TCOPY and TMASKZ write exactly the runs of their operands, and every byte outside those runs,
every vector register and every predicate is unchanged.
Completes: vst, vst4, pst, tst, tcopy, tmaskz. -/
def Obligations.VectorStores : Prop :=
  ∀ (core : CoreId) (s : State) (e : QEntry) (c : Instr) (ws : List WriteRuns), MergesGood s core.key ws →
    (c = .vst core ∧ NextAccess s core.key e 0x49 ∧ ws = ((s.site core.key).doVst e).2)
      ∨ (c = .vst4 core ∧ NextAccess s core.key e 0x4a ∧ ws = ((s.site core.key).doVst4 e).2)
      ∨ (c = .pst core ∧ NextAccess s core.key e 0x4c ∧ ws = ((s.site core.key).doPst e).2)
      ∨ (c = .tst core ∧ NextAccess s core.key e 0x51 ∧ ws = ((s.site core.key).doTst e).2)
      ∨ (c = .tcopy core ∧ NextAccess s core.key e 0x60 ∧ ws = ((s.site core.key).doTcopy e).2)
      ∨ (c = .tmaskz core ∧ NextAccess s core.key e 0x61 ∧ ws = ((s.site core.key).doTmaskz e).2) →
    ∃ t, exec c s = .next t ∧ Stored s t core.key ws
      ∧ (∀ a, (∀ r ∈ ws.flatten, a < r.1 ∨ r.1 + r.2.length ≤ a) → Memory.get (t.site core.key).spad.mem a = Memory.get (s.site core.key).spad.mem a)
      ∧ (t.site core.key).vx.v = (s.site core.key).vx.v ∧ PredicatesKept s t core.key ∧ (t.site core.key).vx.t = (s.site core.key).vx.t
      ∧ (t.site core.key).mx = (s.site core.key).mx

/-- R85, R95: TLD, TZERO, TPUT, TOPV and TOPT write the tile that they name, and TGET and TRED the lanes below VL of their register;
no other tile or lane, and no byte of the scratchpad, changes.
Completes: tld, tget, tput, tred, topv, topt, tzero. -/
def Obligations.TileInstructions : Prop :=
  ∀ (core : CoreId) (s : State) (e : QEntry) (td ta tb : Nat), td = vtTd e.bits → ta = vtTa e.bits → tb = vtTb e.bits → td < 128 →
    (NextAccess s core.key e 0x50 → ∃ t, exec (.tld core) s = .next t ∧ (t.site core.key).spad.mem = (s.site core.key).spad.mem
      ∧ TilesKept s t core.key td ∧ (t.site core.key).vx.v = (s.site core.key).vx.v
      ∧ ∀ r c, r < 64 → c < 64 → tileElem t core.key td (64 * r + c) = (
          let m := (s.site core.key).tile (vtFmt e.bits) ((s.site core.key).homeAddr e.slot (vtAddr e.bits))
          let h := if vtFmt e.bits = 9 ∧ vtBit21 e.bits then 1 else 0
          if vtFile e.bits then m.lane c r h else m.lane r c h))
    ∧ (NextAccess s core.key e 0x57 → ∃ t, exec (.tzero core) s = .next t ∧ (t.site core.key).spad = (s.site core.key).spad
      ∧ TilesKept s t core.key td ∧ ∀ i, i < 4096 → tileElem t core.key td i = 0)
    ∧ (NextAccess s core.key e 0x52 → td < 32 → e.vl.toNat ≤ 64 → ∃ t, exec (.tget core) s = .next t ∧ (t.site core.key).spad = (s.site core.key).spad
      ∧ LanesKept s t core.key td e.vl.toNat
      ∧ ∀ i, i < e.vl.toNat → lane t core.key td i =
          tileElem s core.key ta (if vtFile e.bits then 64 * i + vField e.bits 32 6 else 64 * vField e.bits 32 6 + i))
    ∧ (NextAccess s core.key e 0x53 → e.vl.toNat ≤ 64 → ∃ t, exec (.tput core) s = .next t ∧ (t.site core.key).spad = (s.site core.key).spad
      ∧ TilesKept s t core.key td
      ∧ ∀ i, i < e.vl.toNat →
          tileElem t core.key td (if vtFile e.bits then 64 * i + vField e.bits 32 6 else 64 * vField e.bits 32 6 + i) = lane s core.key ta i)
    ∧ (NextAccess s core.key e 0x54 → e.vl.toNat ≤ 64 → ∃ t, exec (.tred core) s = .next t ∧ (t.site core.key).spad = (s.site core.key).spad
      ∧ LanesKept s t core.key td e.vl.toNat
      ∧ ∀ n, n < e.vl.toNat → lane t core.key td n = (reduceLanes (vField e.bits 32 2) (vField e.bits 34 1 == 1) (vtFile e.bits)
          ((List.range 64).map (fun i => tileElem s core.key ta (if vtFile e.bits then 64 * i + n else 64 * n + i)))).1)
    ∧ (NextAccess s core.key e 0x55 → ∃ t, exec (.topv core) s = .next t ∧ (t.site core.key).spad = (s.site core.key).spad
      ∧ TilesKept s t core.key td
      ∧ ∀ r c, r < 64 → c < 64 → tileElem t core.key td (64 * r + c) =
          (arithLane (topOp (vField e.bits 32 2)) (if vField e.bits 34 1 = 1 then 0xb else 0) (tileElem s core.key ta (64 * r + c))
            (lane s core.key tb (if vtFile e.bits then r else c)) 0).1)
    ∧ (NextAccess s core.key e 0x56 → ∃ t, exec (.topt core) s = .next t ∧ (t.site core.key).spad = (s.site core.key).spad
      ∧ TilesKept s t core.key td
      ∧ ∀ r c, r < 64 → c < 64 → tileElem t core.key td (64 * r + c) =
          (arithLane (topOp (vField e.bits 32 2)) (if vField e.bits 34 1 = 1 then 0xb else 0) (tileElem s core.key ta (64 * r + c))
            (tileElem s core.key tb (64 * r + c)) 0).1)

/-! ## Routers -/

namespace Sys2Proof.Claims

/-- The head of an input buffer of router k, on a router that forwards, is the packet p, not routed yet. -/
def Heads (s : State) (k : Nat) (port : RPort) (c : TClass) (lane : Fin 2) (p : Packet) (rest : List BufPkt) : Prop :=
  (s.site k).forwards = true ∧ ∃ b, (s.site k).rt.queue (bufKey port c.idx lane.val) = b :: rest ∧ b.routed = false ∧ b.pkt = p ∧ classOf p.ptype = some c

/-- In t the buffer of router k holds q in place of what it held in s, and every other buffer and every other site is as it was. -/
def BufferNow (s t : State) (k key : Nat) (q : List BufPkt) : Prop :=
  (t.site k).rt.queue key = q ∧ (∀ j, j ≠ key → (t.site k).rt.queue j = (s.site k).rt.queue j) ∧ ∀ j, j ≠ k → t.site j = s.site j

end Sys2Proof.Claims

/-- R150, R151, R152, R156, R160: the head packet of a buffer, a single copy that need not combine, is given the output of the first
detour entry that it matches, else goes along X, then Y, then to its port; where that output is blocked a sluice packet is discarded and
counted; a destination set is copied to the outputs of its rectangle; and a held packet is released when its hold ends. No packet of an
endpoint waits for the buffer's room.
Completes: routerForward, combineHoldExpire, dsetFork. -/
def Obligations.PacketsTakeTheirRoutes : Prop :=
  ∀ (x : SiteId) (port : RPort) (c : TClass) (lane : Fin 2) (s : State) (p : Packet) (rest : List BufPkt) (k key : Nat), k = x.key →
    key = bufKey port c.idx lane.val →
    (portIdx port < 4 ∨ Tbl.get (fun _ => []) (s.site k).rt.waits key = []) →
    (Heads s k port c lane p rest → p.dset = false → (p.ptype ≠ ptReduce ∨ (s.site k).rt.combineEn = false) →
      ((s.site k).rt.detourOf port p = none → ∀ o, o =
          (if posCol k < p.dcol then .e else if p.dcol < posCol k then .w else if posRow k < p.drow then .s else if p.drow < posRow k then .n
           else if p.dport = 0 then .loc else if p.dport = 1 then .edge else .service) →
        s.outBlocked k o p = false →
        ∃ t b, exec (.routerForward x port c lane) s = .next t ∧ BufferNow s t k key (b :: rest) ∧ b.pkt = p ∧ b.routed = true ∧ b.copies = [(o, p)])
      ∧ (∀ d o p', (s.site k).rt.detourOf port p = some d → o = (match (fld d 45 2).toNat with | 0 => .n | 1 => .e | 2 => .s | _ => .w) →
        p' = (if d.getLsbD 47 then { p with lane := 1 } else p) → s.outBlocked k o p' = false →
        ∃ t b, exec (.routerForward x port c lane) s = .next t ∧ BufferNow s t k key (b :: rest) ∧ b.pkt = p ∧ b.routed = true ∧ b.copies = [(o, p')])
      ∧ (s.outBlocked k ((s.site k).rt.route k port p).1 ((s.site k).rt.route k port p).2 = true → p.cls = .sluice →
        ∃ t, exec (.routerForward x port c lane) s = .next t ∧ BufferNow s t k key rest
          ∧ (t.site k).rt.dropSluice = satAdd (s.site k).rt.dropSluice 1))
    ∧ (Heads s k port .sluice lane p rest → p.dset = true → port ≠ .loc → port ≠ .service → (s.site k).holdsArray = true →
      (∀ o ∈ forkOutputs k port p, o = .loc ∨ s.blocked k o = false) → forkOutputs k port p ≠ [] →
      ∃ t b, exec (.dsetFork x port lane) s = .next t ∧ BufferNow s t k (bufKey port 0 lane.val) (b :: rest) ∧ b.routed = true
        ∧ b.copies = (forkOutputs k port p).map (fun o => (o, p)))
    ∧ (∀ b, (s.site k).rt.queue (bufKey port 2 lane.val) = b :: rest →
      ∃ t, exec (.combineHoldExpire x port lane) s = .next t ∧ BufferNow s t k (bufKey port 2 lane.val) ({ b with hold := false } :: rest))

/-- R144, R149, R152, R154, R162, R413: an output, where no packet routed to it has become blocked and the other column of a shared seam link
has not its turn, that picks a packet within its class's deficit sends it, after its weight is added and its flits taken; a packet whose
output has become blocked leaves it as R152 gives; with nothing ready the class at the pointer is passed, its deficit 0; a packet that comes
to age is granted; credits owed come back whole; liveness flits go to forwarding neighbours, are
consumed, one from a neighbour that is taken to be off is a disagreement of its views (R419), and one that stays away fails the neighbour;
a flit sent again over a seam changes nothing (the model holds no replay buffer: its choice, log entry 109); the route audit ends in its
result.
Completes: outputGrant, routerAgeGrant, creditReturn, seamLinkRetry, livenessSend, livenessArrive, livenessLost, routeAuditDone. -/
def Obligations.RoutersGrantAndReturn : Prop :=
  (∀ (x : SiteId) (o : RPort) (s : State) (c : Fin 4) (port : RPort) (key : Nat) (p : Packet) (r : Router) (y : OutState) (takes : Packet → Bool), r = (s.site x.key).rt →
    y = r.out o → c = y.pointer → (s.site x.key).forwards = true → s.shedding x.key o = none → s.seamYields x.key o = false →
    takes = s.sinkTakes x.key o → r.pick o takes c.val = some (port, key, false) → r.ready o takes key = some p → y.arrived = true → p.flits ≤ vget 0 y.deficit c.val + r.weight c.val →
    exec (.outputGrant x o) s = .next (((s.updRouter x.key (fun _ => r.setOut o
      { pointer := c, arrived := false
        deficit := vset (vset y.deficit c.val (vget 0 y.deficit c.val + r.weight c.val)) c.val
          (vget 0 (vset y.deficit c.val (vget 0 y.deficit c.val + r.weight c.val)) c.val - p.flits)
        last := vset y.last c.val (((classQueues c.val).findIdx? (fun q => q.2 == key)).getD 0) })).seamSent x.key o).sendOut x.key o port key))
  ∧ (∀ (x : SiteId) (o : RPort) (s : State), (s.site x.key).forwards = true →
    (∀ port key p, s.shedding x.key o = some (port, key, p) → exec (.outputGrant x o) s = .next (s.shed x.key o port key p))
    ∧ (s.shedding x.key o = none → s.seamYields x.key o = false →
      (∀ c, c < 4 → (s.site x.key).rt.candidates o (s.sinkTakes x.key o) c = []) →
      exec (.outputGrant x o) s = .next (s.updRouter x.key (fun r => r.setOut o { r.out o with
        deficit := vset (r.out o).deficit (r.out o).pointer.val 0, pointer := (r.out o).pointer + 1, arrived := true }))))
  ∧ (∀ (x : SiteId) (o port : RPort) (c : TClass) (lane : Fin 2) (s : State) (key : Nat), key = bufKey port c.idx lane.val →
    ((s.site x.key).rt.ready o (s.sinkTakes x.key o) key).isSome = true →
    exec (.routerAgeGrant x o port c lane) s = .next ((s.updRouter x.key (fun r => r.setQueue key (updAt (r.queue key) 0 (fun b =>
      { b with aged := if b.aged = 0 then r.nextAge else b.aged })))).grant x.key o))
  ∧ (∀ (x : SiteId) (port : RPort) (c : TClass) (lane : Fin 2) (s : State) (j : Nat), neighbour x.key port = some j → j ≠ x.key →
    ∃ t, exec (.creditReturn x port c lane) s = .next t
      ∧ Tbl.get (fun _ => 0) (t.site j).rt.owed (bufKey (portOpp port) c.idx lane.val) = 0
      ∧ Tbl.get (fun _ => 0) (t.site x.key).rt.used (bufKey port c.idx lane.val) =
          Tbl.get (fun _ => 0) (s.site x.key).rt.used (bufKey port c.idx lane.val)
            - Tbl.get (fun _ => 0) (s.site j).rt.owed (bufKey (portOpp port) c.idx lane.val))
  ∧ (∀ (x : SiteId) (port : RPort) (s : State), exec (.seamLinkRetry x port) s = .next s)
  ∧ (∀ (x : SiteId) (s : State), (s.site x.key).forwards = true →
    exec (.livenessSend x) s = .next (s.updNeighbours x.key (fun p a =>
      if a.forwards then { a with rt := { a.rt with liveIn := putBit a.rt.liveIn (portIdx p) true } } else a)))
  ∧ (∀ (x : SiteId) (port : RPort) (s t : State), portIdx port < 4 →
    t = s.updRouter x.key (fun r => { r with liveIn := putBit r.liveIn (portIdx port) false }) →
    (∀ j, neighbour x.key port = some j → (s.site x.key).forwards = true → (s.site j).forwards = false → (s.site j).fenced = false →
      exec (.livenessArrive x port) s = .next (t.livenessDisagree x.key j))
    ∧ ((∀ j, neighbour x.key port = some j → (s.site x.key).forwards = false ∨ (s.site j).forwards = true ∨ (s.site j).fenced = true) →
      exec (.livenessArrive x port) s = .next t))
  ∧ (∀ (x : SiteId) (port : RPort) (s : State) (j : Nat), neighbour x.key port = some j → (s.site x.key).forwards = true → (s.site j).forwards = true →
    (s.site x.key).rt.liveOn.getLsbD (portIdx port) = true → (s.site x.key).rt.liveIn.getLsbD (portIdx port) = false →
    exec (.livenessLost x port) s = .next ((s.updRouter x.key (fun r => { r with liveLost := putBit r.liveLost (portIdx port) true })).hwFault j 0
      fcLiveness 3 [x.key]))
  ∧ (∀ (s : State) (l : ImgLoad) (ls : List ImgLoad), s.images.loads = l :: ls → l.step = 6 → l.audited = false →
    (routeAudit (s.tablesAfter (s.peek l.stage l.bytes) l.isPartial l.pan) = none → exec .routeAuditDone s = .next s.auditPass)
    ∧ ∀ r, routeAudit (s.tablesAfter (s.peek l.stage l.bytes) l.isPartial l.pan) = some r → exec .routeAuditDone s = .next (s.auditFail r))

/-! ## HBM stacks -/

namespace Sys2Proof.Claims

/-- A packet of type ty stands delivered at stack st, the first of the requests that have arrived there (R174), for bytes that the stack
populates and serves. -/
def AtStack (s : State) (st : Nat) (p : Packet) (ty : BitVec 6) : Prop :=
  (s.stack st).arrived.find? (fun q => q.cls == .bulk) = some p ∧ p.ptype = ty ∧ targetOf p.addr.toNat = .stack st ∧ hbmPopulated p.addr.toNat = true
    ∧ (s.stack st).serves (stackOff p.addr.toNat) = true

/-- The atomics with their operations (R180). -/
def atomicTable : List ((Fin 192 → Packet → Instr) × Nat) := [
  (.addI32, 0), (.addF32, 1), (.addBf16, 2), (.minI32, 3), (.maxI32, 4), (.minF32, 5), (.maxF32, 6), (.swap, 7), (.cas, 8)]

/-- A dirty line of a bank. -/
def dirtyIn (bank : Fin 8) (c : CacheLine) : Bool := c.dirty && powerBank (64 * c.line) == bank

/-- A READ_REQ as a member of a merge entry. -/
def asMember (p : Packet) : Member :=
  { row := p.srow, col := p.scol, port := p.sport, tag := p.tag, off := p.addr.toNat % 512, len := p.bytesM1.toNat + 1 }

/-- The requests of HBM.PWR_CTL with the states they ask for. -/
def powerTable : List ((Fin 192 → Bool → Fin 8 → Instr) × BankState) := [(.hbmPwrOn, .on), (.hbmPwrRetain, .retain), (.hbmPwrOff, .off)]

end Sys2Proof.Claims

/-- R158, R173: with a tracker entry free, a read that may not merge takes a place in the tracker; one of a block without an open entry
opens one, or is served alone where all 64 are open; one of an open entry joins it, or waits where its sender is a member already; a
closed entry becomes one access for its members; a write takes its lines of the write buffer after the reads of its block; and a refresh
changes nothing (no refresh is state: the model's choice, log entry 110).
R174, R186: the oldest access of a stack is done as its bank now stands: a write of a line of an uncached range leaves the line in the
device with the packet's poison and nothing else there; a read is answered with the bytes of its lines, or with POISON and zeros.
Completes: hbmReadReq, mergeClose, hbmWrite, hbmDeviceAccessDone, hbmRefresh. -/
def Obligations.StacksQueueAndCompleteAccesses : Prop :=
  (∀ (st : Fin 192) (p : Packet) (s : State) (a t : Stack), a = s.stack st.val → t = { a with arrived := a.arrived.erase p } →
    (AtStack s st.val p ptReadReq → a.readsInUse < 8192 →
      ((p.nomerge = true ∨ a.window = 0) →
        ∃ u, exec (.hbmReadReq st p) s = .next u ∧ u.stack st.val = { t with jobs := t.jobs ++ [.read p] })
      ∧ (p.nomerge = false → a.window ≠ 0 →
        (a.entries.find? (fun m => m.block == p.addr.toNat / 512) = none → a.entries.length < 64 →
          ∃ u, exec (.hbmReadReq st p) s = .next u
            ∧ u.stack st.val = { t with entries := t.entries ++ [⟨p.addr.toNat / 512, [asMember p]⟩] })
        ∧ (a.entries.find? (fun m => m.block == p.addr.toNat / 512) = none → 64 ≤ a.entries.length →
          ∃ u, exec (.hbmReadReq st p) s = .next u ∧ u.stack st.val = { t with jobs := t.jobs ++ [.read p] })
        ∧ (∀ m, a.entries.find? (fun m => m.block == p.addr.toNat / 512) = some m → m.has p = true →
          ∃ u, exec (.hbmReadReq st p) s = .next u ∧ u.stack st.val = { t with waiting := t.waiting ++ [p] })
        ∧ (∀ m, a.entries.find? (fun m => m.block == p.addr.toNat / 512) = some m → m.has p = false → m.members.length + 1 < 1024 →
          ∃ u, exec (.hbmReadReq st p) s = .next u ∧ (u.stack st.val).joined = satAdd a.joined 1
            ∧ (u.stack st.val).entries = updFirst (fun m => m.block == p.addr.toNat / 512)
                (fun m => { m with members := m.members ++ [asMember p] }) a.entries
            ∧ (u.stack st.val).jobs = a.jobs)))
    ∧ (∀ b m, a.readsInUse < 8192 → a.entries.find? (fun m => m.block == b) = some m → a.waiting.filter (fun p => p.addr.toNat / 512 == b) = [] →
      ∃ u, exec (.mergeClose st b) s = .next u ∧ (u.stack st.val).jobs = a.jobs ++ [.merged b m.members]
        ∧ (u.stack st.val).entries = a.entries.filter (fun m => m.block != b))
    ∧ (AtStack s st.val p ptWrite → isHbm p.addr.toNat = true → s.stageLocked p.addr.toNat = false →
      a.linesInUse + p.payload.length / 64 ≤ 4096 →
      (a.entries.find? (fun m => m.block == p.addr.toNat / 512) = none → a.readsInUse ≤ 8192 →
        ∃ u, exec (.hbmWrite st p) s = .next u ∧ u.stack st.val = { t with jobs := t.jobs ++ [.write p] })
      ∧ (∀ m, a.entries.find? (fun m => m.block == p.addr.toNat / 512) = some m → a.readsInUse < 8192 →
        a.waiting.filter (fun q => q.addr.toNat / 512 == p.addr.toNat / 512) = [] →
        ∃ u, exec (.hbmWrite st p) s = .next u ∧ (u.stack st.val).jobs = a.jobs ++ [.merged (p.addr.toNat / 512) m.members, .write p]
          ∧ (u.stack st.val).entries = a.entries.filter (fun m => m.block != p.addr.toNat / 512)))
    ∧ (∀ bank, exec (.hbmRefresh st bank) s = .next s))
  ∧ (∀ (st : Fin 192) (p : Packet) (s : State) (rest : List StackJob) (off : Nat), off = stackOff p.addr.toNat →
    (s.stack st.val).serves off = true →
    ((s.stack st.val).jobs = .write p :: rest → p.payload.length = 64 → off % 64 = 0 → (s.stack st.val).cached (off / 64) = none →
      (s.stack st.val).inCachedRange (off / 64) = false →
      ∃ t, exec (.hbmDeviceAccessDone st) s = .next t ∧ (t.stack st.val).jobs = rest
        ∧ (t.stack st.val).line (off / 64) = (p.payload, p.poison)
        ∧ ∀ x, x < off ∨ off + 64 ≤ x → Memory.get (t.stack st.val).mem x = Memory.get (s.stack st.val).mem x)
    ∧ ((s.stack st.val).jobs = .read p :: rest → ∀ r, r = (s.updStack st.val (fun a => { a with jobs := rest })).readStack st.val off (p.bytesM1.toNat + 1) →
      exec (.hbmDeviceAccessDone st) s = .next (r.1.sendStack (stackRouter st.val p.addr.toNat) (p.answer ptReadRsp stOk
        (if r.2.2 then List.replicate r.2.1.length 0 else r.2.1) r.2.2))))


/-- R180, R181: an atomic that reaches a stack with nothing queued leaves its line with the operation's result, counts itself, and answers with the line's prior bytes.
Completes: addI32, addF32, addBf16, minI32, maxI32, minF32, maxF32, swap, cas. -/
def Obligations.AtomicsReplaceTheirLine : Prop :=
  ∀ c ∈ atomicTable, ∀ (st : Fin 192) (p : Packet) (s : State) (l : Nat) (old : List Byte) (bad : Bool), AtStack s st.val p ptAtomicReq →
    p.aop.toNat = c.2 → isHbm p.addr.toNat = true → s.stageLocked p.addr.toNat = false → l = stackOff p.addr.toNat / 64 →
    (s.stack st.val).jobs = [] → (s.stack st.val).entries = [] → (s.stack st.val).waiting = [] → (s.stack st.val).line l = (old, bad) → old.length = 64 →
    p.payload.length = 64 →
    ∃ t, exec (c.1 st p) s = .next t ∧ (t.stack st.val).line l = (atomicLine c.2 old p.payload, bad)
      ∧ (t.stack st.val).atomicCount = satAdd (s.stack st.val).atomicCount 1 ∧ (t.stack st.val).arrived = (s.stack st.val).arrived.erase p

/-- R180: on its line of 16 words ADD_I32 adds word by word modulo 2^32, SWAP takes the operand, and CAS takes the operand's upper
half for its lower half only where the line's lower half is the operand's. -/
def Obligations.AtomicResults : Prop :=
  ∀ (line operand : List Byte), line.length = 64 → operand.length = 64 →
    (∀ i, i < 16 → leNat (((atomicLine 0 line operand).drop (4 * i)).take 4) =
      (leNat ((line.drop (4 * i)).take 4) + leNat ((operand.drop (4 * i)).take 4)) % 2 ^ 32)
    ∧ atomicLine 7 line operand = operand
    ∧ (line.take 32 = operand.take 32 → atomicLine 8 line operand = operand.drop 32 ++ line.drop 32)
    ∧ (line.take 32 ≠ operand.take 32 → atomicLine 8 line operand = line)

/-- R187, R189: a request for RETAIN or OFF of a bank that is ON has it drain, its dirty lines queued to be written back, and one for OFF of a
RETAIN bank turns it off at once, without DRAINING (the model's choice, log entry 162), its bytes lost, which then read as zeros (log entry
3); one for ON opens an OFF bank and turns a RETAIN bank on; a request of a bank in transition is held, but that a stack going off line for
heat keeps its OFF (log entry 125); a request of the whole stack does the same to every bank; every other bank keeps its state. A drained bank enters its target, a
forced drain counts what it loses, and an opened bank is ON and its device holds zeros.
R183, R185, R190: a sample below every limit shows its temperature, and raises the band at once; one of 110 °C takes the stack off line; a
stack that is off takes the RMC's samples, initialises on a request unless it went off for heat and is above 95 °C, which refuses the
request, and then opens every bank in band 4; a fenced stack, and one of a fenced wafer, stays off (R420, R428). A stack taken off line for heat refuses ON (the model's reading, log entry 125).
Completes: hbmTempSample, hbmPwrOn, hbmPwrRetain, hbmPwrOff, hbmBankDrained, hbmDrainForced, hbmBankOpened, rmcStackOnRequest,
rmcStackTempSample, stackInitDone. -/
def Obligations.StackPowerAndTemperature : Prop :=
  (∀ (st : Fin 192) (bank : Fin 8) (s : State) (a : Stack), a = s.stack st.val → a.dark = false →
    (∀ c ∈ powerTable, c.2 ≠ .on → a.banks[bank] = .on → ∃ t, exec (c.1 st false bank) s = .next t
        ∧ (t.stack st.val).banks = a.banks.set bank .draining ∧ (t.stack st.val).drainTo = a.drainTo.set bank c.2
        ∧ (t.stack st.val).jobs = a.jobs ++ (a.cache.filter (dirtyIn bank)).map (fun x => .writeback x.line) ∧ (t.stack st.val).mem = a.mem)
    ∧ (a.banks[bank] = .retain → ∃ t, exec (.hbmPwrOff st false bank) s = .next t ∧ (t.stack st.val).banks = a.banks.set bank .off
        ∧ ∀ x, bank.val * 2 ^ 34 ≤ x → x < (bank.val + 1) * 2 ^ 34 → Memory.get (t.stack st.val).mem x = 0)
    ∧ (a.thermalOff = false →
        (a.banks[bank] = .off → ∃ t, exec (.hbmPwrOn st false bank) s = .next t ∧ (t.stack st.val).banks = a.banks.set bank .opening
          ∧ (t.stack st.val).mem = a.mem)
        ∧ (a.banks[bank] = .retain → ∃ t, exec (.hbmPwrOn st false bank) s = .next t ∧ (t.stack st.val).banks = a.banks.set bank .on
          ∧ (t.stack st.val).mem = a.mem))
    ∧ (a.thermalOff = true → a.banks[bank] = .off ∨ a.banks[bank] = .retain → ∃ t, exec (.hbmPwrOn st false bank) s = .next t
        ∧ (t.stack st.val).refused = true ∧ (t.stack st.val).banks = a.banks)
    ∧ (∀ c ∈ powerTable, a.banks[bank] = .draining ∨ a.banks[bank] = .opening → ∃ t, exec (c.1 st false bank) s = .next t
        ∧ (t.stack st.val).held = (if a.thermalOff = true ∧ c.2 ≠ .off then a.held else a.held.set bank (some c.2))
        ∧ (t.stack st.val).banks = a.banks)
    ∧ (∀ c ∈ powerTable, ∃ t, exec (c.1 st true bank) s = .next t ∧ (t.stack st.val).cache = a.cache
        ∧ (c.2 ≠ .on → ∀ b : Fin 8, a.banks[b] = .on → (t.stack st.val).banks[b] = .draining ∧ (t.stack st.val).drainTo[b] = c.2)
        ∧ (c.2 = .on → a.thermalOff = false → ∀ b : Fin 8, (a.banks[b] = .off → (t.stack st.val).banks[b] = .opening)
            ∧ (a.banks[b] = .retain → (t.stack st.val).banks[b] = .on)))
    ∧ (a.banks[bank] = .draining → a.held[bank] = none → a.entries = [] →
      (a.outstandingWrites bank = 0 → ∃ t, exec (.hbmBankDrained st bank) s = .next t ∧ (t.stack st.val).banks = a.banks.set bank a.drainTo[bank])
      ∧ ∃ t, exec (.hbmDrainForced st bank) s = .next t ∧ (t.stack st.val).banks = a.banks.set bank a.drainTo[bank]
          ∧ (t.stack st.val).lost = satAdd a.lost (a.outstandingWrites bank))
    ∧ (a.banks[bank] = .opening → a.held[bank] = none → ∃ t, exec (.hbmBankOpened st bank) s = .next t
      ∧ (t.stack st.val).banks = a.banks.set bank .on
      ∧ ∀ x, bank.val * 2 ^ 34 ≤ x → x < (bank.val + 1) * 2 ^ 34 → Memory.get (t.stack st.val).mem x = 0))
  ∧ (∀ (st : Fin 192) (s : State) (v : BitVec 8) (a : Stack), a = s.stack st.val →
    (a.dark = false →
      (v.toNat ≤ 105 → ∃ t, exec (.hbmTempSample st v) s = .next t ∧ (t.stack st.val).celsius = v
        ∧ (t.stack st.val).hotCount = 0 ∧ (t.stack st.val).banks = a.banks
        ∧ (15 ≤ a.samples.toNat → a.floor.toNat ≤ bandOf v.toNat → a.band.toNat < bandOf v.toNat → (t.stack st.val).band.toNat = bandOf v.toNat))
      ∧ (110 ≤ v.toNat → a.thermalOff = false → ∃ t, exec (.hbmTempSample st v) s = .next t ∧ (t.stack st.val).celsius = v
        ∧ (t.stack st.val).thermalOff = true
        ∧ ∀ b : Fin 8, a.banks[b] = .on → (t.stack st.val).banks[b] = .draining ∧ (t.stack st.val).drainTo[b] = .off))
    ∧ (2 ≤ a.stackState.toNat →
      exec (.rmcStackTempSample st v) s = .next (s.updStack st.val (fun a => { a with celsius := v }))
      ∧ (a.fenced = false → s.fault.waferFenced.getLsbD (st.val / 48) = false → (a.thermalOff = false ∨ a.celsius.toNat ≤ 95) →
        exec (.rmcStackOnRequest st) s = .next (s.updStack st.val (fun a => { a with initing := true })))
      ∧ (a.fenced = true ∨ s.fault.waferFenced.getLsbD (st.val / 48) = true → exec (.rmcStackOnRequest st) s = .next s)
      ∧ (a.fenced = false → s.fault.waferFenced.getLsbD (st.val / 48) = false → a.thermalOff = true → 95 < a.celsius.toNat →
        exec (.rmcStackOnRequest st) s = .next (s.updStack st.val (fun a => { a with refused := true }))))
    ∧ (a.initing = true → ∃ t, exec (.stackInitDone st) s = .next t ∧ (t.stack st.val).initing = false ∧ (t.stack st.val).stackState = 0
      ∧ (t.stack st.val).banks = Vector.replicate 8 .opening ∧ (t.stack st.val).band = 4 ∧ (t.stack st.val).mem = a.mem))

/-! ## The weight streamer, tempo and pans -/

/-- R194, R195, R196: a kick that passes its checks, of words without an error, joins the streamer; a free streamer with a TAG free reads block 0 of its next descriptor, and again after
the delay; a descriptor that ends with a status other than STALE_SLAB counts, leaves, and keeps the first status that is not OK.
Completes: wsKick, wsDescStart, wsRetryDelay, wsDescComplete. -/
def Obligations.StreamerRunsDescriptors : Prop :=
  ∀ (x : SiteId) (s : State) (a : Site), a = s.site x.key →
    (∀ (n : Fin 4) (v : W64) ds, (s.slot x.key n).st = .ready → (s.slot x.key n).stopping = false → a.ws.kicks.length < 4 →
      a.wsCheck n (32 * bitsOf v.toNat 5 18) (bitsOf v.toNat 24 6 + 1) = .ok ds →
      a.spad.flawed (a.homeAddr n (32 * bitsOf v.toNat 5 18)) (32 * (bitsOf v.toNat 24 6 + 1)) = false →
      exec (.wsKick x n v) s = .next ((moved s x.key (a.homeAddr n (32 * bitsOf v.toNat 5 18)) (32 * (bitsOf v.toNat 24 6 + 1))).updSite x.key (fun a => { a with ws := { a.ws with kicks := a.ws.kicks ++ [ds] } })))
    ∧ (a.ws.phase = none → a.ws.cur.isSome = true → a.streamerReads < 128 → (s.freeTag x.key).isSome = true →
      exec (.wsDescStart x) s = .next ((s.updSite x.key (fun a => { a with ws :=
        { a.ws with phase := some .block0, retried := false, next := 0, waiting := 0, gen := a.ws.gen + 1 } })).streamRead x.key (some 0)))
    ∧ (a.ws.phase = some .retryWait → (s.freeTag x.key).isSome = true →
      exec (.wsRetryDelay x) s = .next ((s.updSite x.key (fun a => { a with ws :=
        { a.ws with phase := some .block0, next := 0, waiting := 0 } })).streamRead x.key (some 0)))
    ∧ (∀ status d ds rest, a.ws.phase = some (.finished status) → a.ws.kicks = (d :: ds) :: rest → status ≠ 6 →
      ∃ t, exec (.wsDescComplete x) s = .next t ∧ (t.site x.key).ws.done = a.ws.done + 1 ∧ (t.site x.key).ws.phase = none
        ∧ (t.site x.key).ws.kicks = (if ds = [] then rest else ds :: rest)
        ∧ (t.site x.key).ws.status = (if a.ws.status = 0 then status else a.ws.status))

/-- R205, R207, R208: the END of a slot of SLOTS is marked once; CURRENT is written while the slots are quiet; a tempo whose slots have
all ended and whose entries are complete advances CURRENT while the pan runs unarmed, and ends at the boundary when CURRENT is the target; the
arm message arms, and the target reaches each armed array.
Completes: tempoEnd, tempoAdvance, tempoWrite, tempoStopArm, tempoTargetArrive. -/
def Obligations.TempoCounts : Prop :=
  ∀ (x : SiteId) (s : State) (a : Site) (n : Nat), a = s.site x.key → s.panOf x.key = some n →
    (∀ (b : Fin 4), a.tempo.slots.getLsbD b.val = true → a.tempo.arrived.getLsbD b.val = false →
      ∃ t, exec (.tempoEnd x (BitVec.ofNat 4 (2 ^ b.val))) s = .next t ∧ (t.site x.key).tempo.arrived = putBit a.tempo.arrived b.val true
        ∧ (t.site x.key).tempo.current = a.tempo.current)
    ∧ (∀ v, a.slotsQuiet = true → exec (.tempoWrite x v) s = .next (s.updSite x.key (fun a =>
        { a with tempo := { a.tempo with current := v, arrived := 0, forced := false, waitIds := [] } })))
    ∧ (∀ v, a.slotsQuiet = false → ∃ t, exec (.tempoWrite x v) s = .next t ∧ t.site x.key = a)
    ∧ (a.tempoDone = true → (s.pan n).st = .running → a.tempo.valid = false → a.tempo.armed = false →
      ∃ t, exec (.tempoAdvance x) s = .next t ∧ (t.site x.key).tempo.current = a.tempo.current + 1 ∧ (t.site x.key).tempo.arrived = 0)
    ∧ (a.tempoDone = true → (s.pan n).st = .stopping → a.tempo.valid = true → a.tempo.current = a.tempo.target → a.tempo.atBoundary = false →
      exec (.tempoAdvance x) s = .next (s.updSite x.key (fun a => { a.haltAll true with tempo := { a.tempo with atBoundary := true } })))
    ∧ ((s.pan n).st = .stopping → (s.pan n).forcedStop = false →
      exec (.tempoStopArm x) s = .next (s.updSite x.key (fun a => { a with tempo := { a.tempo with armed := true } })))
    ∧ (∀ v, (s.pan n).target = some v → (s.pan n).st = .stopping → a.tempo.armed = true →
      exec (.tempoTargetArrive x) s = .next (s.updSite x.key (fun a => { a with tempo := { a.tempo with target := v, valid := true } })))

/-- R207, R208, R378, R381: STOP of a running pan starts a stop; the target is the greatest CURRENT of its armed arrays; the pan is STOPPED when
every array is, at its boundary unless the stop was forced, and what waited for that goes on; FORCE forces the stop of a running or stopping pan; RUN starts a stopped one whose
arrays allow it; a write that is not honoured sets REFUSED alone.
Completes: panStopTarget, panStopped, panForcedStop, panRun, panStop, panForce. -/
def Obligations.PansStopAndRun : Prop :=
  ∀ (p : Fin 1024) (s : State) (x : Pan), x = s.pan p.val →
    (x.st = .running → exec (.panStop p) s = .next (s.updPan p.val (fun x => { x with st := .stopping, forcedStop := false, target := none })))
    ∧ (x.st ≠ .running → exec (.panStop p) s = .next (s.updPan p.val (fun x => { x with refused := true })))
    ∧ (x.st = .stopping → x.forcedStop = false → (∀ k ∈ s.liveSites p.val, (s.site k).tempo.armed = true) →
      ∃ v : W32, exec (.panStopTarget p) s = .next (s.updPan p.val (fun x => { x with target := some v }))
        ∧ (∀ k ∈ s.liveSites p.val, (s.site k).tempo.current.toNat ≤ v.toNat)
        ∧ (s.liveSites p.val ≠ [] → ∃ k ∈ s.liveSites p.val, (s.site k).tempo.current = v))
    ∧ (x.st = .stopping → (∀ k ∈ s.liveSites p.val, (s.site k).tempo.atBoundary = true ∨ ((s.site k).tempo.forced = true ∧ (s.site k).slotsQuiet = true)) →
      exec (.panStopped p) s = .next (State.goOn (s.updPan p.val (fun x => { x with
        st := .stopped, boundary := if x.forcedStop then x.boundary else x.target.getD x.boundary, target := none }))))
    ∧ (x.st = .stopping → ∃ t, exec (.panForcedStop p) s = .next t ∧ (t.pan p.val).st = .stopping ∧ (t.pan p.val).forcedStop = true)
    ∧ (x.st = .running ∨ x.st = .stopping → ∃ t, exec (.panForce p) s = .next t ∧ (t.pan p.val).st = .stopping ∧ (t.pan p.val).forcedStop = true)
    ∧ (x.st = .stopped → (∀ k ∈ s.panSites p.val, (s.site k).tempo.forced = false ∧ (s.site k).parked = false ∧ (s.site k).fenced = false
        ∧ (s.site k).spad.clearing = false ∧ s.fault.waferFenced.getLsbD (siteW k) = false) →
      ∃ t, exec (.panRun p) s = .next t ∧ (t.pan p.val).st = .running)
    ∧ (x.st ≠ .stopped → exec (.panRun p) s = .next (s.updPan p.val (fun x => { x with refused := true })))

/-! ## Activation caching, reductions and update engines -/

namespace Sys2Proof.Claims

/-- A RED packet of a kind stands delivered from the fabric at port complex q, is message m, and is accepted for job x of complex at_; t is
the state with the packet taken. -/
def RedAccepted (s t : State) (q : Nat) (p : FabPkt) (kind at_ : Nat) (from_ : Job → RedMsg → Option Nat) (m : RedMsg) (x : Job) : Prop :=
  s.takeFab q p = some t ∧ p.ty = ftRed ∧ parseRed p.body = some m ∧ m.kind = kind ∧ x = s.job at_ m.job
    ∧ s.redFate q m x (from_ x m) = .accept

/-- The state with a command of job j answered with a result in RED.CMD. -/
def redAnswered (t : State) (q j code : Nat) : State := t.updRed q (fun d => { d with result := BitVec.ofNat 3 code, cmdJob := BitVec.ofNat 12 j })

end Sys2Proof.Claims

/-- R215–R219, R221, R222, R225, R227, R228: an activation unit takes the lines of a write that its set serves into its staging and answers
OK; serves a read as its run stands; sends a complete record, at the address that its set gave when the block was complete, to its host port,
or to its fallback in HBM (an access made whole within the command: the model's choice, log entry 20); hands a fetched record to those that
wait; and takes a write of a set.
Completes: acuWrite, acuRead, acuRecordSent, acuRecordFetched, acuSetWrite. -/
def Obligations.ActivationUnits : Prop :=
  ∀ (u : Fin 12) (s : State) (p : Packet) (n : Node), n = acuNode u.val →
    (∀ q, Delivered s n p ptWrite → (acuOffset u.val p.addr.toNat).isSome = true → s.acuReq u.val p = some q → p.poison = false →
      (s.acu u.val).stagedLines + p.payload.length / 64 ≤ 524288 →
      exec (.acuWrite u p) s = .next (((s.takeAt n p).updAcu u.val (fun a => a.writeLines u.val q p.payload)).sendNode n (p.answer ptWriteAck stOk [] false)))
    ∧ (∀ q t, Delivered s n p ptReadReq → (acuOffset u.val p.addr.toNat).isSome = true → s.acuReq u.val p = some q → (s.acu u.val).waiting.length < 4096 →
      (s.takeAt n p).acuReadReq u.val p q = some t → exec (.acuRead u p) s = .next t)
    ∧ (∀ q, Delivered s n p ptReadReq → (acuOffset u.val p.addr.toNat).isSome = true → s.acuReq u.val p = some q → (s.acu u.val).waiting.length < 4096 →
      (s.takeAt n p).acuReadReq u.val p q = none → exec (.acuRead u p) s = .next s)
    ∧ (∀ b, (s.acu u.val).staging.find? (fun b => b.complete && b.fallback == false) = some b → (s.hp u.val).up = true →
      exec (.acuRecordSent u false) s = .next ((s.hostStore u.val b.dest b.record).updAcu u.val
        (fun a => { a with staging := a.staging.erase b })))
    ∧ (∀ b bs s1, (s.acu u.val).staging.find? (fun b => b.complete && b.fallback == true) = some b → s.padLine b.record = (bs, s1) →
      exec (.acuRecordSent u true) s = .next ((s1.hbmPut b.dest bs).1.updAcu u.val
        (fun a => { a with staging := a.staging.erase b })))
    ∧ (∀ block data q, s.acuWaitReq u.val block = some q → (s.acu u.val).location u.val q.run = false →
      (s.hp u.val).reqs.any (fun r => r.owner == .acu block) = true →
      exec (.acuRecordFetched u block data) s = .next ((s.updHp u.val (fun h =>
        { h with reqs := h.reqs.filter (fun r => r.owner != .acu block) })).acuFetched u.val q false (some data)))
    ∧ (∀ set word v, exec (.acuSetWrite u set word v) s = .next (s.acuSetWrite u.val set.val word.val v))

/-- R233, R234, R236, R245: OPEN of a closed job whose fields, space, map and grant list pass opens it, and with SHADOW_EN gives the shadow
partner its words and peers; START runs an open job from round 0, pass 0,
and opens the pass; CLOSE frees a job that is open, held or aborted; ABORT of a running or held one drops what it held and leaves it
ABORTED; a command that its job's state does not allow changes nothing but the result.
Completes: redOpen, redStart, redClose, redAbort. -/
def Obligations.ReductionCommands : Prop :=
  ∀ (c : Fin 8) (job : Fin 4096) (s : State) (q j : Nat) (x : Job), q = c.val → j = job.val → x = s.job q j → (s.pc q).red.enable = true →
    (∀ s1 s2 peers gs, x.st = .closed → x.fieldsOk = true → s.spaceOk q x = true →
      s.readMap x ((x.parent.map (fun e => e.1)).toList ++ x.kids.map (fun k => k.2)) = (s1, some peers) → s1.readGrants x 0 x.grantCount = (s2, some gs) →
      ∀ u, u = s2.updJob q j (fun x => { w := x.w, st := .opened, peers := peers, grants := gs }) →
      exec (.redOpen c job) s =
        .next (redAnswered (if x.shadowEn then u.updShadow (shadowOf q) j (fun _ => { w := x.w, peers := peers }) else u) q j resOk))
    ∧ (x.st ≠ .closed → exec (.redOpen c job) s = .next (redAnswered s q j resState))
    ∧ (x.st = .opened → exec (.redStart c job) s = .next (redAnswered
        ((s.updJob q j (fun x => { x with st := .running, pass := 0, round := 0 })).passOpen q j) q j resOk))
    ∧ (x.st ≠ .opened → exec (.redStart c job) s = .next (redAnswered s q j resState))
    ∧ (x.st = .opened ∨ x.st = .held ∨ x.st = .aborted → exec (.redClose c job) s = .next (redAnswered ((s.dropTasks q j).freeJob q j) q j resOk))
    ∧ (x.st = .closed ∨ x.st = .running → exec (.redClose c job) s = .next (redAnswered s q j resState))
    ∧ (x.st = .running ∨ x.st = .held → exec (.redAbort c job) s = .next (redAnswered (((s.dropTasks q j).dropCopies q j).updJob q j (fun x =>
        { x with st := .aborted, chunks := [], grants := x.grants.map (fun g => { g with owed := 0 }) })) q j resOk))
    ∧ (x.st = .closed ∨ x.st = .opened ∨ x.st = .aborted → exec (.redAbort c job) s = .next (redAnswered s q j resState))

/-- R236, R238, R239, R242–R244, R246–R248, R309: a grant for an enabled entry of an array counts in it, and one for none counts as missed; a
grant refused as BUSY is sent again; a REDUCE packet of a disabled engine, of a job that is not RUNNING, of another format or beyond the slot
is discarded, and one of which a line would pass EXPECT whole; another enters the slot line by line, each line copied at count 0 and added
otherwise, its count raised by COUNT; accepted UP, DOWN and shadow messages are taken chunk by chunk, a member's own CHECK_FAIL joining the
DOWN it forwards; a complete pass of a running job ends with its record, and a round that it ends is looked at for stragglers; a shortfall
forces what is open, and a missing DOWN ends the pass as aborted.
Completes: grantArrive, grantRetry, pcReduceArrive, upArrive, downArrive, shadowUpArrive, shadowDownArrive, shadowCopyArrive, passComplete,
shortfallTimeout, downTimeout. -/
def Obligations.ReductionTraffic : Prop :=
  (∀ (x : SiteId) (s : State) (p : Packet) (rest : List Packet) (w : Nat), (s.site x.key).ctrlInbox = p :: rest → w = bytesAt p.payload 0 4 →
    (∀ i, (s.site x.key).rgrant.toList.findIdx? (fun r => r.en && r.job == BitVec.ofNat 12 w && r.pc == BitVec.ofNat 3 (w / 4096)) = some i →
      ∃ t, exec (.grantArrive x) s = .next t ∧ (t.site x.key).ctrlInbox = rest
        ∧ (vget {} (t.site x.key).rgrant i).granted = (vget {} (s.site x.key).rgrant i).granted + 1)
    ∧ ((s.site x.key).rgrant.toList.findIdx? (fun r => r.en && r.job == BitVec.ofNat 12 w && r.pc == BitVec.ofNat 3 (w / 4096)) = none →
      ∃ t, exec (.grantArrive x) s = .next t ∧ (t.site x.key).ctrlInbox = rest ∧ (t.site x.key).rgrantMiss = satAdd (s.site x.key).rgrantMiss 1))
  ∧ (∀ (c : Fin 8) (job : Fin 4096) (row col : Fin 192) (s : State), exec (.grantRetry c job row col) s =
      .next ((s.updJob c.val job.val (fun x => { x with
        grants := x.grants.map (fun g => if g.row = row.val ∧ g.col = col.val then { g with busy := false } else g) })).pumpGrants c.val job.val))
  ∧ (∀ (c : Fin 8) (p : Packet) (s t : State) (x : Job) (j l0 l1 stop : Nat), p ∈ (s.pc c.val).arrived → p.ptype = ptReduce →
      t = s.updPc c.val (fun d => { d with arrived := d.arrived.erase p }) → j = p.tag.toNat → x = s.job c.val j →
      stop = p.addr.toNat + (p.bytesM1.toNat + 1) → l0 = p.addr.toNat / 64 → l1 = (stop - 1) / 64 →
      ((s.pc c.val).red.enable = false ∨ x.st ≠ .running ∨ reduceFmt p ≠ x.rfmt ∨ x.slotBytes < stop →
        exec (.pcReduceArrive c p) s = .next (t.discardMesh c.val false))
      ∧ ((s.pc c.val).red.enable = true → x.st = .running → reduceFmt p = x.rfmt → stop ≤ x.slotBytes →
        ((∃ i, i < l1 - l0 + 1 ∧ x.expect < x.lineCount (l0 + i) + reduceCount p) → exec (.pcReduceArrive c p) s = .next (t.discardMesh c.val true))
        ∧ ((∀ i, i < l1 - l0 + 1 → x.lineCount (l0 + i) + reduceCount p ≤ x.expect) → x.squash = false → p.nf = false → p.poison = false →
          exec (.pcReduceArrive c p) s = .next ((((List.range (l1 - l0 + 1)).map (fun i => l0 + i)).foldl (fun u l => u.addLine c.val j l (reduceCount p)
              (((elemBytes x.rfmt (reduceElems x.rfmt p.payload)).drop (64 * (l - l0))).take 64))
            (t.updJob c.val j (fun x => { x with
              squashed := satAdd x.squashed (reduceSquashed p)
              chunks := updAt x.chunks (l0 / 8) (fun h => { h with trailer := { h.trailer with
                squashed := min 0xffffffff (h.trailer.squashed + reduceSquashed p) } }) }))).redAdvance c.val j))))
  ∧ (∀ (c : Fin 8) (j l count : Nat) (bs : List Byte) (s t : State) (x : Job) (h : Chunk) (at_ : Nat), t = s.addLine c.val j l count bs → x = s.job c.val j →
      x.chunks[l / 8]? = some h → at_ = 512 * (x.slot + l / 8) + 64 * (l % 8) →
      (t.job c.val j).lineCount l = x.lineCount l + count
      ∧ (x.lineCount l = 0 → h.kids = [] → Memory.read (t.pc c.val).red.buf at_ bs.length = bs)
      ∧ (∀ sum, x.lineCount l ≠ 0 → sum = (redAdd x.rfmt (Memory.read (s.pc c.val).red.buf at_ 64) bs).1 →
        Memory.read (t.pc c.val).red.buf at_ sum.length = sum)
      ∧ (bs.length = 64 → ∀ a, a < at_ ∨ at_ + 64 ≤ a → Memory.get (t.pc c.val).red.buf a = Memory.get (s.pc c.val).red.buf a))
  ∧ (∀ (c : Fin 8) (p : FabPkt) (s t : State) (m : RedMsg) (x : Job),
    (RedAccepted s t c.val p rkUp c.val (fun x m => x.kidAt m.level) m x → m.trailer.nf = 0 → m.trailer.first = none →
      exec (.upArrive c p) s = .next (((List.range m.chunks.length).foldl (fun s i => s.takeUpChunk c.val m i) t).redAdvance c.val m.job))
    ∧ (RedAccepted s t c.val p rkDown c.val (fun x _ => x.parent.map (fun e => e.1)) m x → ∀ u y,
      u = (List.range m.chunks.length).foldl (fun s i => s.takeDownChunk c.val m i) t → y = u.job c.val m.job →
      exec (.downArrive c p) s = .next (u.sendDown c.val m.job y rkDown m.firstChunk m.chunks { m.trailer with
        checkFail := m.trailer.checkFail || (y.checkFail || (List.range m.chunks.length).any (fun i => ((y.chunks[m.firstChunk + i]?).map (fun h => h.trailer.checkFail)).getD false)) }))
    ∧ (RedAccepted s t c.val p rkShadowUp (shadowOf c.val) (fun x m => x.kidAt m.level) m x →
      exec (.shadowUpArrive c p) s = .next (t.shadowPlace c.val m.job (BitVec.ofNat 16 m.round) (BitVec.ofNat 32 m.pass) m.firstChunk m.level
        ((m.chunks[0]?).getD []) m.trailer))
    ∧ (RedAccepted s t c.val p rkShadowDown (shadowOf c.val) (fun x _ => x.parent.map (fun e => e.1)) m x →
      exec (.shadowDownArrive c p) s = .next ((t.updRed (shadowOf c.val) (fun r => { r with copies := r.copies ++
        [{ job := m.job, outward := false, round := x.round, pass := x.pass, chunk := m.firstChunk, data := (m.chunks[0]?).getD [], trailer := m.trailer }] })).sendDown
          c.val m.job x rkShadowDown m.firstChunk m.chunks m.trailer)))
  ∧ (∀ (c : Fin 8) (job : Fin 4096) (s : State),
    (∀ y, (s.pc c.val).red.copies.find? (fun y => y.job == job.val) = some y → y.outward = true →
      (s.job (shadowOf c.val) y.job).st = .running →
      exec (.shadowCopyArrive c job) s = .next ((s.updRed c.val (fun r => { r with copies := r.copies.erase y })).shadowPlace c.val y.job y.round y.pass
        y.chunk 0 y.data y.trailer))
    ∧ ((s.job c.val job.val).st = .running → (s.job c.val job.val).passDone = true →
      (((s.endPass c.val job.val (s.job c.val job.val).passTrailer false).job c.val job.val).st = .held →
        exec (.passComplete c job) s = .next ((s.endPass c.val job.val (s.job c.val job.val).passTrailer false).straggler c.val job.val))
      ∧ (((s.endPass c.val job.val (s.job c.val job.val).passTrailer false).job c.val job.val).st ≠ .held →
        exec (.passComplete c job) s = .next (s.endPass c.val job.val (s.job c.val job.val).passTrailer false)))
    ∧ ((s.job c.val job.val).st = .running → (s.job c.val job.val).chunks.any Chunk.begun = true →
      (∃ i h, i < (s.job c.val job.val).nChunks ∧ (s.job c.val job.val).chunks[i]? = some h ∧ (s.job c.val job.val).chunkComplete h = false) →
      exec (.shortfallTimeout c job) s = .next (((List.range (s.job c.val job.val).nChunks).foldl (fun s i => s.forceChunk c.val job.val i)
        (s.reportShortfall c.val job.val)).redAdvance c.val job.val))
    ∧ ((s.job c.val job.val).st = .running → (s.job c.val job.val).member ≠ 0 → (∀ h ∈ (s.job c.val job.val).chunks, h.sentUp = true) →
      (∃ h ∈ (s.job c.val job.val).chunks, h.done = false) →
      exec (.downTimeout c job) s = .next ((s.reportShortfall c.val job.val).endPass c.val job.val (s.job c.val job.val).passTrailer true)))

/-- R255–R264, R270–R272: a held job's valid entries are queued as tasks, and without one its next round begins; a task starts on idle engines when there
are enough; a barrier counts; the last shard's release frees its engines and releases the entry with shard 0's code; a release line
releases an entry that waits for arrays; an entry that ended in a fault is abandoned; a write of an entry is taken word by word.
Completes: ueTasksQueued, ueTaskStart, ueBarrier, ueRelease, ueReleaseLine, ueAbandon, layerEntryWrite. -/
def Obligations.UpdateEngineTasks : Prop :=
  ∀ (c : Fin 8) (s : State) (q : Nat), q = c.val →
    (∀ (job : Fin 4096) (x : Job), x = s.job q job.val → (s.pc q).ue.enable = true → x.tasked = false → x.st = .held →
      ((s.pc q).ue.layers.filter (fun e => e.2.valid && e.2.job == job.val)) = [] →
      exec (.ueTasksQueued c job) s = .next ((((s.recordFlags x).1.updJob q job.val (fun x => { x with tasked := true, awaiting := [] })).updUe q (fun u =>
        { u with noEntry := true })).leaveHeld q job.val))
    ∧ (∀ (job : Fin 4096) (x : Job) (es : List Nat) r, x = s.job q job.val → (s.pc q).ue.enable = true → x.tasked = false → x.st = .held →
      es = ((s.pc q).ue.layers.filter (fun e => e.2.valid && e.2.job == job.val)).map (fun e => e.1) → es ≠ [] → r = s.recordFlags x →
      exec (.ueTasksQueued c job) s = .next (es.foldl (fun t n => t.queueEntry q n x (r.2.1, r.2.2.1, r.2.2.2))
        (r.1.updJob q job.val (fun x => { x with tasked := true, awaiting := es }))))
    ∧ (∀ k rest e, (s.pc q).ue.queue = k :: rest → e = s.layer q k.entry → (s.pc q).ue.enable = true → e.st = 1 → e.shards ≤ (s.idleEngines q).length →
      exec (.ueTaskStart c) s = .next ((List.range e.shards).foldl (fun t i =>
        t.updSite (ueKey q ((s.idleEngines q).getD i 0)) (fun a => a.startShard k e i))
          ((s.updUe q (fun u => { u with queue := rest })).updLayer q k.entry (fun e => { e with st := 2 }))))
    ∧ (∀ e, exec (.ueBarrier c e) s = .next (s.updSite (ueKey q e.val) (fun a => { a with ue := { a.ue with barrier := a.ue.barrier + 1 } })))
    ∧ (∀ (e : Fin 16) (code : BitVec 3), (s.site (ueKey q e.val)).ue.active = true → (s.site (ueKey q e.val)).ue.released = none → 1 ≤ code.toNat → code.toNat ≤ 4 →
      ∀ t, t = s.updSite (ueKey q e.val) (fun a => { a with ue := { a.ue with released := some (code.setWidth 8) } }) →
      ((∃ k ∈ t.taskMates (ueKey q e.val), (t.site k).ue.released = none) → exec (.ueRelease c e code) s = .next t)
      ∧ (∀ n k0 v, (∀ k ∈ t.taskMates (ueKey q e.val), (t.site k).ue.released ≠ none) → n = (s.site (ueKey q e.val)).ue.entry.toNat →
        (t.taskMates (ueKey q e.val)).find? (fun k => (t.site k).ue.shard == 0) = some k0 → (t.site k0).ue.released = some v →
        exec (.ueRelease c e code) s = .next ((t.freeEngines q n).releaseEntry q n v.toNat)))
    ∧ (∀ (p : Packet) (n code : Nat), p ∈ (s.pc q).arrived → p.ptype = ptWrite → p.addr.toNat = 0x000200000000 + q * 2 ^ 29 + 0x02080000 + 64 * n → n < 4096 →
      code = bytesAt p.payload 0 4 → (s.layer q n).arrays = true → (s.layer q n).st = 1 → 1 ≤ code → code ≤ 4 →
      exec (.ueReleaseLine c p) s = .next (((s.updPc q (fun d => { d with arrived := d.arrived.erase p })).releaseEntry q n code).sendService (.pc c)
        (p.answer ptWriteAck stOk [] false)))
    ∧ (∀ n : BitVec 12, (s.layer q n.toNat).st = 3 → exec (.ueAbandon c n) s = .next ((s.freeEngines q n.toNat).releaseEntry q n.toNat 0))
    ∧ (∀ (n : BitVec 12) (word : Fin 16) (v : W64) (y : LayerEntry), 0 < word.val → word.val < 12 → (s.layer q n.toNat).valid = false →
      y = { s.layer q n.toNat with
        w := vset (s.layer q n.toNat).w word.val ((vget 0 (s.layer q n.toNat).w word.val &&& ~~~(layerMask word.val)) ||| (v &&& layerMask word.val)) } →
      exec (.layerEntryWrite c n word v) s = .next (s.updLayer q n.toNat (fun _ => y)))

/-! ## Fabric links and packets -/

namespace Sys2Proof.Claims

/-- A fabric packet of a type stands in the inbox of port complex q; t is the state with it taken. -/
def FabTaken (s t : State) (q : Nat) (p : FabPkt) (ty : BitVec 8) : Prop := p.ty = ty ∧ s.takeFab q p = some t

end Sys2Proof.Claims

/-- R274–R281, R312, R432: a flit with a bad check is discarded with a NAK and the next flit in sequence is taken and advances the sequence;
a NAK repeats, and no other flit asks for a resend; a timeout resends what is not acknowledged; loss of lock and RETRAIN take an enabled port's link down to training, where its cage holds a powered module, and an exchange
brings it up with its counters at zero: that it is accepted in DOWN or TRAINING, and that a cage without a powered module is DOWN or
DISABLED, are the model's choices (log entries 30 and 172); and enabling and disabling move the port as its register says (R312).
Completes: flitReceive, nakRepeat, replayTimeout, pcsLockLost, linkctlExchange, portEnableWrite, portRetrain. -/
def Obligations.FabricLinks : Prop :=
  ∀ (port : Fin 96) (s : State) (n : Nat) (p : Port), n = port.val → p = s.port n →
    (∀ flit, p.st = .up → flit.length = 256 → bytesAt flit 248 8 ≠ (crc64 (flit.take 248)).toNat →
      exec (.flitReceive port flit) s = .next (s.discardFlit n))
    ∧ (∀ flit h t, p.st = .up → flit.length = 256 → bytesAt flit 248 8 = (crc64 (flit.take 248)).toNat → h = bytesAt flit 0 8 →
      bitsOf h 32 1 = 0 → bitsOf h 33 1 = 0 → bitsOf h 63 1 = 0 →
      t = (s.updPort n (fun p => { (p.takeAck (BitVec.ofNat 16 (bitsOf h 16 16))) with
        peerFreed := vset p.peerFreed (bitsOf h 47 3) (BitVec.ofNat 12 (bitsOf h 50 12)) })).pumpPort n →
      (BitVec.ofNat 16 h = (t.port n).rxSeq → exec (.flitReceive port flit) s = .next ((t.updPort n (fun p =>
        ({ p with rxSeq := p.rxSeq + 1, nakSent := false }).takeFlit (bitsOf h 34 2) (bitsOf h 36 1) (bitsOf h 37 1 == 1)
          (bitsOf h 38 1 == 1) (bitsOf h 39 8) ((flit.drop 8).take 240))).idleOut n))
      ∧ (BitVec.ofNat 16 h ≠ (t.port n).rxSeq → exec (.flitReceive port flit) s = .next (t.discardFlit n)))
    ∧ (p.nakSent = true → exec (.nakRepeat port) s = .next (s.idleOut n true))
    ∧ (p.st = .up → exec (.replayTimeout port) s = .next (s.resend n))
    ∧ (p.enable = true → ∃ t, exec (.pcsLockLost port) s = .next t ∧ (t.port n).st = p.idleState ∧ (t.port n).replay = [] ∧ (t.port n).nakSent = false)
    ∧ (p.enable = true → ∃ t, exec (.portRetrain port) s = .next t ∧ (t.port n).st = p.idleState)
    ∧ (p.idleState = .training ↔ p.optics = .powered)
    ∧ (∀ peer peerPort, p.enable = true → p.optics = .powered → p.st ≠ .up → exec (.linkctlExchange port peer peerPort) s = .next (((s.updPort n (fun p => { p.dropLink with
        st := .up, peer := peer, peerPort := peerPort, rxSeq := 0, txSeq := 0, sent := Vector.replicate 8 0
        peerFreed := Vector.replicate 8 0, freed := Vector.replicate 8 0, crNext := 0, session := p.session + 1 })).linkctlOut n).pumpPort n))
    ∧ (p.enable = false → exec (.portEnableWrite port true) s = .next (s.updPort n (fun p => { p with enable := true, st := p.idleState })))
    ∧ (p.enable = true → exec (.portEnableWrite port true) s = .next s)
    ∧ (∃ t, exec (.portEnableWrite port false) s = .next t ∧ (t.port n).enable = false ∧ (t.port n).st = .disabled)
    ∧ (∀ cl session k t, t = s.freeFlits n cl session k → (p.session ≠ session → t = s)
      ∧ (p.session = session → t = (s.updPort n (fun p => { p with freed := vset p.freed cl (vget 0 p.freed cl + BitVec.ofNat 12 k) })).idleOut n))

/-- R282–R291, R308, R310, R311: a received packet of a class other than its type's is discarded and its flits freed, one that is for this module is delivered and
others are forwarded or discarded; heartbeats go out on every port of a complex while no fatal condition is reported (what one is, is the model's choice, log entry 132),
none to a fenced address, and are consumed (R308); a linked module of which no
heartbeat is heard is posted as lost; a commit takes the pending routes or reports the bad one; and a module fence is written (R310, R311).
Completes: fabricPacketRoute, heartbeatSend, heartbeatArrive, moduleLost, fwdCommit, moduleFenceWrite. -/
def Obligations.FabricPackets : Prop :=
  (∀ (port : Fin 96) (s u : State) (r : RxPkt) (rest : List RxPkt), (s.port port.val).rx = r :: rest → u = s.updPort port.val (fun p => { p with rx := rest }) →
    (fabClass r.pkt.ty ≠ some r.cls → exec (.fabricPacketRoute port) s = .next ((u.countDiscard (port.val / 12)).freeFlits port.val (clKey r.cls r.lane) r.session r.flits))
    ∧ (fabClass r.pkt.ty = some r.cls → u.fabRoute r.pkt true ≠ .discard →
      exec (.fabricPacketRoute port) s = .next (u.fabStep (port.val / 12) r.pkt true (.port port.val (clKey r.cls r.lane) r.session)))
    ∧ (fabClass r.pkt.ty = some r.cls → u.fabRoute r.pkt true = .discard →
      exec (.fabricPacketRoute port) s = .next ((u.fabStep (port.val / 12) r.pkt true .free).freeFlits port.val (clKey r.cls r.lane) r.session r.flits)))
  ∧ (∀ (c : Fin 8) (s : State), s.fatal c.val = false →
      exec (.heartbeatSend c) s = .next ((List.range 12).foldl (fun s i => s.heartbeat (12 * c.val + i)) s))
  ∧ (∀ (n : Nat) (s : State), (s.port n).st = .up → s.fencedAddr (s.port n).peer = true → s.heartbeat n = s.countDiscard (n / 12))
  ∧ (∀ (c : Fin 8) (p : FabPkt) (s t : State), FabTaken s t c.val p ftHeartbeat → exec (.heartbeatArrive c p) s = .next t)
  ∧ (∀ (a : W32) (s : State), s.ports.any (fun e => e.2.st == .up && e.2.peer == a) = true →
      s.pcs.any (fun e => e.2.disp.inbox.any (fun f => f.pkt.ty == ftHeartbeat && f.pkt.src == a)) = false →
      exec (.moduleLost a) s = .next (s.post 0x0a 1 0 ukRemote a.toNat [a.toNat]))
  ∧ (∀ (s : State), (∀ b, s.fwdBad = some b → exec .fwdCommit s = .next { s with fab := { s.fab with status := 2, bad := BitVec.ofNat 9 b } })
      ∧ (s.fwdBad = none → exec .fwdCommit s = .next { s with fab := { s.fab with status := 1, modActive := s.fab.modPending, grpActive := s.fab.grpPending } }))
  ∧ (∀ (n : Fin 16) (v : W64) (s : State), exec (.moduleFenceWrite n v) s = .next { s with fab := { s.fab with fence := s.fab.fence.set n (v.setWidth 33) } })

/-- R284, R293–R300, R304, R312: a WWRITE is answered with the status of its window; its WACK, a TACK, an RACK or a CACK completes the request with its tag, and a
timeout completes it with status 1, after which a late answer is counted as discarded; a CTRL is put in the control inbox and answered, BUSY
when that is full; a line of a send channel becomes a WWRITE of its window, one outside is
refused, and a read there returns poison, or OUT_OF_WINDOW while the engine is not enabled.
Completes: answerTimeout, wwrite, wackArrive, sendChannelWrite, tackArrive, ctrlPacketArrive. -/
def Obligations.WindowsAndAnswers : Prop :=
  (∀ (c : Fin 8) (p : FabPkt) (s t u : State) (st : BitVec 4), FabTaken s t c.val p ftWwrite → t.wwrite c.val p = (u, st) →
    exec (.wwrite c p) s = .next (u.fabSend c.val (p.answerTo u.ownAddr ftWack (st.setWidth 8))))
  ∧ (∀ (c : Fin 8) (p : FabPkt) (s t : State) (i : Instr), (i = .wackArrive c p ∧ FabTaken s t c.val p ftWack) ∨ (i = .tackArrive c p ∧ FabTaken s t c.val p ftTack)
      ∨ (i = .tackArrive c p ∧ FabTaken s t c.val p ftRack) ∨ (i = .ctrlPacketArrive c p ∧ FabTaken s t c.val p ftCack) →
    (∀ r, (t.pc c.val).disp.reqFor p.ty p.tag = some r → exec i s = .next (t.fabComplete c.val r p.status))
    ∧ ((t.pc c.val).disp.reqFor p.ty p.tag = none → exec i s = .next (t.countDiscard c.val)))
  ∧ (∀ (c : Fin 8) (p : FabPkt) (s t : State), FabTaken s t c.val p ftCtrl →
    ((t.pc c.val).disp.ctrl.length < 16 → exec (.ctrlPacketArrive c p) s =
      .next ((t.updDisp c.val (fun d => { d with ctrl := d.ctrl ++ [p] })).fabSend c.val (p.answerTo t.ownAddr ftCack 0)))
    ∧ (16 ≤ (t.pc c.val).disp.ctrl.length → exec (.ctrlPacketArrive c p) s = .next (t.fabSend c.val (p.answerTo t.ownAddr ftCack 5))))
  ∧ (∀ (c : Fin 8) (tag : BitVec 16) (s : State) (r : FabReq), (s.pc c.val).disp.reqs.find? (fun r => r.tag == tag) = some r →
    exec (.answerTimeout c tag) s = .next (s.fabComplete c.val r 1))
  ∧ (∀ (c : Fin 8) (p : Packet) (s t : State) (ch off : Nat), sendAperture c.val p.addr.toNat = some (ch, off) → p ∈ s.arrivedAt (.pc c) → t = s.takeAt (.pc c) p →
    (p.ptype = ptReadReq → (s.pc c.val).disp.enable = true →
      exec (.sendChannelWrite c p) s = .next (t.sendNode (.pc c) (p.answer ptReadRsp stOk (List.replicate (p.bytesM1.toNat + 1) 0) true)))
    ∧ (p.ptype = ptReadReq → (s.pc c.val).disp.enable = false →
      exec (.sendChannelWrite c p) s = .next (t.sendNode (.pc c) (p.answer ptReadRsp stOutOfWindow (List.replicate (p.bytesM1.toNat + 1) 0) false)))
    ∧ (p.ptype = ptWrite → (t.pc c.val).disp.enable = false →
      exec (.sendChannelWrite c p) s = .next (t.sendNode (.pc c) (p.answer ptWriteAck stOutOfWindow [] false)))
    ∧ (∀ i x, p.ptype = ptWrite → x = (t.pc c.val).disp.chan ch → (t.pc c.val).disp.enable = true → (vget 0 x.w 0).getLsbD 42 = true → t.chanIndex x p = some i →
      exec (.sendChannelWrite c p) s = .next (t.fabRequest c.val
        { ty := ftWwrite, dpc := BitVec.ofNat 3 c.val, spc := 0, dst := (vget 0 x.w 0).setWidth 32, src := 0, poison := p.poison
          specific := wwSpecific (x.field 0 32 10) (x.field 1 0 32) (x.field 2 0 48 + i * x.field 3 0 32 + off), body := p.payload } ch (some p))))

/-- R294, R298, R301–R307: OPEN and CLOSE move a window that allows it and refuse the rest, and a closing window without writes closes; a TOKEN and
a RESULT are taken by an enabled dispatch engine; a route line of a valid layer is handled by its kind; one of a reserved kind counts as bad,
and so does one of a layer that is not valid (the model's choice, log entry 36); while the engine is not enabled the packet is answered
OUT_OF_WINDOW and none of its lines counts as handled.
Completes: winOpen, winClose, winClosed, routeToken, routeEnd, routeReturn, tokenArrive, resultArrive. -/
def Obligations.DispatchEngines : Prop :=
  (∀ (c : Fin 8) (w : Fin 1024) (s : State) (d : Disp), d = (s.pc c.val).disp → d.winBusy = false →
    ((d.win w.val).st = .closed → exec (.winOpen c w) s = .next (s.updDisp c.val (fun d => d.updWin w.val (fun x => { x with st := .opened }))))
    ∧ ((d.win w.val).st ≠ .closed → exec (.winOpen c w) s = .next (s.updDisp c.val (fun d => { d with winRefused := true })))
    ∧ ((d.win w.val).st = .opened → exec (.winClose c w) s = .next (s.updDisp c.val (fun d => d.updWin w.val (fun x => { x with st := .closing }))))
    ∧ ((d.win w.val).st ≠ .opened → exec (.winClose c w) s = .next (s.updDisp c.val (fun d => { d with winRefused := true }))))
  ∧ (∀ (c : Fin 8) (w : Fin 1024) (s : State), ((s.pc c.val).disp.win w.val).st = .closing → ((s.pc c.val).disp.win w.val).committed = 0 →
    exec (.winClosed c w) s = .next (s.updDisp c.val (fun d => d.updWin w.val (fun x => { x with st := .closed }))))
  ∧ (∀ (c : Fin 8) (p : FabPkt) (s t : State),
    (FabTaken s t c.val p ftToken → ((t.pc c.val).disp.enable = true → exec (.tokenArrive c p) s = .next (t.tokenPacket c.val p))
      ∧ ((t.pc c.val).disp.enable = false → exec (.tokenArrive c p) s = .next t))
    ∧ (FabTaken s t c.val p ftResult → ((t.pc c.val).disp.enable = true → exec (.resultArrive c p) s = .next (t.resultPacket c.val p))
      ∧ ((t.pc c.val).disp.enable = false → exec (.resultArrive c p) s = .next t)))
  ∧ (∀ (c : Fin 8) (p : Packet) (s : State) (l : Nat) (bs : List Byte) (r : State × DispLayer), Delivered s (.pc c) p ptWrite → routeAperture c.val p.addr.toNat = some l →
    ((s.pc c.val).disp.enable = false → ∃ t, exec (.routeToken c p) s = .next t ∧ exec (.routeEnd c p) s = .next t ∧ exec (.routeReturn c p) s = .next t
      ∧ t = ((s.updDisp c.val (fun d => { d with routing := d.routing.filter (fun r => r.1 != p) })).takeAt (.pc c) p).sendNode (.pc c)
          (p.answer ptWriteAck stOutOfWindow [] false)
      ∧ (t.pc c.val).disp.handled p = 0)
    ∧ ∀ (_ : (s.pc c.val).disp.enable = true), bs = (p.payload.drop (64 * (s.pc c.val).disp.handled p)).take 64 → r = s.dispLayer c.val l →
    (r.2.valid = true →
      (rlKind bs = 1 → exec (.routeToken c p) s = .next ((r.1.tokenLine c.val l bs).lineDone c.val p))
      ∧ (rlKind bs = 2 → exec (.routeEnd c p) s = .next ((r.1.endLine c.val l bs).lineDone c.val p))
      ∧ (rlKind bs = 3 → exec (.routeReturn c p) s = .next ((r.1.returnLine c.val l bs).lineDone c.val p)))
    ∧ (r.2.valid = false → rlKind bs = 1 → exec (.routeToken c p) s = .next ((r.1.countBad c.val).lineDone c.val p))
    ∧ (rlKind bs = 0 ∨ 3 < rlKind bs → exec (.routeToken c p) s = .next ((s.countBad c.val).lineDone c.val p)))

/-- R320–R324: a line of the oldest packet that is being written into a store controller's aperture, while one of its 1,024 request entries is free, is
refused with the status its checks give or waits in the order of arrival; a page of a waiting line that its turn allows is written or read, and
the line is answered when its last page is done.
Completes: storeRead, storeWrite, storePageDone. -/
def Obligations.StoreLines : Prop :=
  (∀ (bay : Fin 16) (p : Packet) (s t : State) (n k : Nat) (bs : List Byte) (i : Instr),
    n = bay.val → k = ((s.bay n).pktOf p).lines → (s.bay n).isFirst n p = true → (s.bay n).lines.length < 1024 → bs = (p.payload.drop (64 * k)).take 64 →
    (i = .storeRead bay p ∧ slField bs 0 1 ≠ 2) ∨ (i = .storeWrite bay p ∧ slField bs 0 1 ≠ 1) →
    t = s.updBay n (fun b => b.setPkt { (s.bay n).pktOf p with lines := k + 1 }) →
    (∀ b' st, (s.bay n).refusal bs = some (b', st) →
      exec i s = .next ((t.updBay n (fun c => { c with stat := b'.stat, statFirst := b'.statFirst })).finishLine n p k st))
    ∧ (p ∈ (s.bay n).arrived ∧ p.ptype = ptWrite ∧ storeAperture n p.addr.toNat = true ∧ 64 * k < p.payload.length)
    ∧ ((s.bay n).refusal bs = none →
      exec i s = .next (t.updBay n (fun b => { b with lines := b.lines ++ [b.mkLine p bs], nextOrder := b.nextOrder + 1 }))))
  ∧ (∀ (bay : Fin 16) (o : Nat) (levels : List (Nat × Nat)) (soft bad : Bool) (s : State) (n no : Nat) (c : Cart) (l l' : StoreLine) (r : State × BitVec 4),
    n = bay.val → (s.bay n).cart = some c → (s.bay n).lines.find? (fun l => l.order == o) = some l → (s.bay n).lineMay l = true →
    no = l.pageAt l.done → (l.write = true → r = s.writePage n l no) →
    (l.write = false → r = (s.mediumRead n no levels soft bad).readPage n l no bad) → l' = l.advance r.2 →
    (l'.done < l.count → exec (.storePageDone bay o levels soft bad) s =
      .next (r.1.updBay n (fun b => { b with lines := b.lines.map (fun m => if m.order = o then l' else m) })))
    ∧ (l.count ≤ l'.done → exec (.storePageDone bay o levels soft bad) s =
      .next ((r.1.updBay n (fun b => { b with lines := b.lines.filter (fun m => m.order != o) })).finishLine n l.pkt ((s.bay n).lineIndex l) l'.status)))

/-- R318, R329, R331–R338: in a bay with power a command begins, or is done at once, or is refused with its result, as the bay's state and its arguments say; on a cartridge
that is being sanitized only UNMOUNT is not refused, and a command that comes while one runs is ignored, as is one in a bay that is off or
fenced. That FORMAT acts from OFF alone and TRIM on namespaces 0 and 2 is the model's choice (log entry 67), and so is the result STATE of a
MOUNT or FORMAT while the bay is too hot (log entry 139).
Completes: format, mount, unmount, harvestOpen, harvestCommit, harvestDrop, sanitize, trim. -/
def Obligations.StoreCommands : Prop :=
  (∀ (bay : Fin 16) (s : State) (n : Nat) (b : Bay), n = bay.val → b = s.bay n → b.cmd = 0 → b.off = false → b.fenced = false →
    (b.cart.map (fun c => c.sanitizing) = some true → ∀ i ∈ [Instr.format bay, .mount bay, .harvestOpen bay, .harvestCommit bay, .harvestDrop bay, .sanitize bay, .trim bay],
      exec i s = .next (s.updBay n (fun b => { b with result := srSanitize })))
    ∧ (b.st = bayOnline ∨ b.st = bayReadOnly ∨ b.st = baySanitizing → exec (.unmount bay) s = .next (s.updBay n Bay.beginUnmount))
    ∧ (b.st ≠ bayOnline → b.st ≠ bayReadOnly → b.st ≠ baySanitizing → exec (.unmount bay) s = .next (s.updBay n (fun b => b.done srState)))
    ∧ (b.cart = none → ∀ i ∈ [Instr.harvestOpen bay, .harvestDrop bay, .sanitize bay, .trim bay], exec i s = .next (s.updBay n (fun b => b.done srState)))
    ∧ (b.cart.map (fun c => c.sanitizing) ≠ some true →
      (b.st = bayOff → b.tooHot = false → b.args[0].toNat + 16 * b.args[1].toNat + b.args[2].toNat ≤ 45776367 →
        exec (.format bay) s = .next ((s.cryptoErase n).updBay n (fun b =>
          { ((b.start scFormat).updCart (fun c => { c with metadata := false, ns := Vector.replicate 3 0 })) with heatOff := false, dark := false })))
      ∧ (b.st = bayOff → b.tooHot = false → 45776367 < b.args[0].toNat + 16 * b.args[1].toNat + b.args[2].toNat → exec (.format bay) s = .next (s.updBay n (fun b => b.done srSpace)))
      ∧ (b.st ≠ bayOff ∨ b.tooHot = true → exec (.format bay) s = .next (s.updBay n (fun b => b.done srState)))
      ∧ (b.mountResult = 0 → exec (.mount bay) s = .next (s.updBay n Bay.beginMount))
      ∧ (b.mountResult ≠ 0 → exec (.mount bay) s = .next (s.updBay n (fun b => b.done (s.bay n).mountResult)))
      ∧ (b.st ≠ bayOnline → ∀ i ∈ [Instr.harvestOpen bay, .harvestCommit bay, .harvestDrop bay, .trim bay], exec i s = .next (s.updBay n (fun b => b.done srState)))
      ∧ (∀ c, b.cart = some c → exec (.sanitize bay) s = .next (((s.abortLines n stTargetOff).cryptoErase n).updBay n (fun b =>
          { (b.updCart (fun c => { c with sanitizing := true, progress := 0 })) with st := baySanitizing, erasing := true, dark := false, result := 0 })))
      ∧ (∀ c, b.cart = some c → b.st = bayOnline →
        (∀ k, (bit b.args[1] 0 = true → c.sourceOk (fld b.args[1] 32 32) = true) → b.args[0].toNat < 2 ^ 32 →
          c.genOk (bit b.args[1] 0) (b.args[0].setWidth 32) = true → c.openSlot (bit b.args[1] 0) = some k →
          exec (.harvestOpen bay) s = .next (s.updBay n (fun b => { (b.updCart (fun c =>
            { c.dropSlotPages k with slots := vset (c.dropSlotPages k).slots k { gen := b.args[0].setWidth 32, st := 1
                                                                                 source := if bit b.args[1] 0 then fld b.args[1] 32 32 else 0 } })).settle with result := 0 })))
        ∧ (∀ k, c.slotOf (b.args[0].setWidth 32) true = some k → b.args[1].toNat % 64 = 0 → b.args[0].toNat < 2 ^ 32 →
          exec (.harvestCommit bay) s = .next (s.updBay n (fun b => b.start scCommit)))
        ∧ (∀ k, (sideSlots (bit b.args[1] 0)).find? (fun i => (vget {} c.slots i).gen.toNat == b.args[0].toNat
              && ((vget {} c.slots i).st == 1 || (vget {} c.slots i).st == 2 || (vget {} c.slots i).st == 4)) = some k →
          exec (.harvestDrop bay) s = .next (s.updBay n (fun b => { (b.updCart (fun c =>
            { c with slots := vset c.slots k { vget {} c.slots k with st := 3 } })) with result := 0 })))
        ∧ (b.args[0].toNat = 0 ∨ b.args[0].toNat = 2 → b.args[1].toNat + b.args[2].toNat ≤ c.nsPages b.args[0].toNat →
          exec (.trim bay) s = .next (s.updBay n (fun b => b.start scTrim)))
        ∧ (b.args[0].toNat ≠ 0 → b.args[0].toNat ≠ 2 → exec (.trim bay) s = .next (s.updBay n (fun b => b.done srField))))))
  ∧ (∀ (bay : Fin 16) (s : State), (s.bay bay.val).cmd ≠ 0 ∨ (s.bay bay.val).off = true ∨ (s.bay bay.val).fenced = true → ∀ i ∈ [Instr.format bay, .mount bay, .unmount bay, .harvestOpen bay, .harvestCommit bay, .harvestDrop bay, .sanitize bay, .trim bay],
      exec i s = .next s)

/-- R316, R326, R332, R336–R338, R438: what the end of a bay's command leaves: a FORMAT that leaves too few spare blocks reports the cartridge
worn, a MOUNT fails where the cartridge is not wrapped under the module's store key, and an UNMOUNT leaves the bay without power; a commit waits
for the answers of every line of its generation, reads its 512-byte record and makes the slot committed, or ends with
MEDIA where the record is poisoned; and a slot that no waiting line names gives its pages back and is free again.
Completes: storeCmdDone, harvestCommitDone, reclaimDone. -/
def Obligations.StoreCommandsEnd : Prop :=
  (∀ (bay : Fin 16) (s : State) (n : Nat) (b : Bay), n = bay.val → b = s.bay n →
    (∀ t, b.cmd = scFormat → t = s.draw.2.updBay n (fun x =>
      { (x.updCart (fun c => c.format x.cmdArgs s.freeNext)) with
        st := (x.updCart (fun c => c.format x.cmdArgs s.freeNext)).ofCart x.st Cart.servingState, cmd := 0, result := 0 }) →
      exec (.storeCmdDone bay) s = .next (State.goOn (if (t.bay n).ofCart false Cart.worn = true ∧ b.ofCart false Cart.worn = false then t.postBay n 1 else t)))
    ∧ (b.cmd = scMount → exec (.storeCmdDone bay) s = .next (State.goOn (s.mountDone n)))
    ∧ (b.cmd = scUnmount → b.lines = [] → exec (.storeCmdDone bay) s = .next (State.goOn (s.unmountDone n)))
    ∧ (b.cmd = scTrim → b.trimReady = true → exec (.storeCmdDone bay) s = .next (State.goOn (s.updBay n (fun x =>
      { (x.updCart (fun c => (c.pages.filter (fun e => x.trimCovers e.1)).foldl (fun c e => c.dropPage e.1) c)).settle with cmd := 0, result := 0 }))))
    ∧ (b.cmd = 0 → b.st = baySanitizing → b.erasing = true →
      exec (.storeCmdDone bay) s = .next (State.goOn (s.updBay n (fun x => { (x.updCart Cart.sanitized) with st := bayOff, erasing := false })))))
  ∧ (∀ (s : State) (n : Nat) (c : Cart), (s.bay n).cart = some c →
    (c.wrappedBy = none ∨ c.wrappedBy ≠ s.sec.storeKey → ((s.mountDone n).bay n).st = bayFailed ∧ ((s.mountDone n).bay n).result = srMedia)
    ∧ (∀ k, c.wrappedBy = some k → s.sec.storeKey = some k →
      ((s.mountDone n).bay n).st = (if c.sanitizing = true then baySanitizing else c.servingState) ∧ ((s.mountDone n).bay n).result = 0))
  ∧ (∀ (bay : Fin 16) (s : State) (n : Nat) (b : Bay) (gen : W32) (r : State × List Byte × Bool),
    n = bay.val → b = s.bay n → gen = b.cmdArgs[0].setWidth 32 → b.cmd = scCommit → b.linesOpen n gen = false →
    r = s.hbmGet b.cmdArgs[1].toNat 512 →
    (r.2.2 = true → exec (.harvestCommitDone bay) s = .next (r.1.updBay n (fun b => { b with cmd := 0, result := srMedia })))
    ∧ (∀ c k, r.2.2 = false → (r.1.bay n).cart = some c → c.slotOf gen true = some k → exec (.harvestCommitDone bay) s = .next (r.1.updBay n (fun b =>
        { b with cart := some { c with slots := vset c.slots k { vget {} c.slots k with st := 2, record := c.fillRecord k r.2.1 } }, cmd := 0, result := 0 }))))
  ∧ (∀ (bay : Fin 16) (k : Fin 16) (s : State) (c : Cart), (s.bay bay.val).cart = some c → c.slots[k].st = 3 →
    (s.bay bay.val).lines.any (fun l => l.ns == 1 && l.slot == k.val) = false →
    exec (.reclaimDone bay k) s = .next (s.updBay bay.val (fun b => { b with cart := some { c.dropSlotPages k.val with slots := c.slots.set k {} } }.settle)))

/-- R325–R329, R337, R338, R438, R444: a cartridge that is inserted is the one of its serial number, mounts where AUTOMOUNT allows and its bay has power, and goes back to
the shelf when it is removed; its temperature forces an unmount at 85 °C or after 60 samples above 80 °C, and a MOUNT or FORMAT that runs then
ends in OFF with result STATE (the model's choice, log entry 139); the blocks of a mounted cartridge, and of no other (the model's choice, log
entry 140), age by the stress of the temperature; an aged or worn block is relocated, one whose samples needed soft decoding at two checks in
succession is retired; and its retry table is saved.
Completes: cartridgeInsert, cartridgeRemove, cartridgeTempSample, scrubAgeTick, scrubBlock, wearLevel, retryTableSave. -/
def Obligations.CartridgesAndScrubbing : Prop :=
  (∀ (bay : Fin 16) (serial : W32) (s : State) (c : Cart), (s.bay bay.val).cart = none →
    c = (s.shelf.find? (fun c => c.serial == serial)).getD (foreignCart serial s.draw.1 s.freeNext) →
    exec (.cartridgeInsert bay serial) s = .next ({ s.draw.2 with shelf := s.shelf.filter (fun c => c.serial != serial) }.updBay bay.val (fun b =>
      let b := { b with cart := some c, st := if c.sanitizing then baySanitizing else bayOff, hot := 0, dark := b.off || b.fenced }
      if b.off || b.fenced then b
      else if c.sanitizing then { b with erasing := true }
      else if b.automount && c.metadata && !b.heatOff then b.beginMount else b)))
  ∧ (∀ (bay : Fin 16) (s t : State) (c : Cart), t = (s.abortLines bay.val stTargetOff).loseBuffered bay.val → (t.bay bay.val).cart = some c →
    exec (.cartridgeRemove bay) s = .next (State.goOn ({ t with shelf := c :: t.shelf }.updBay bay.val (fun b => { b with cart := none, st := bayEmpty, cmd := 0, hot := 0, erasing := false, dark := true }))))
  ∧ (∀ (bay : Fin 16) (celsius : BitVec 8) (s t : State) (n : Nat), n = bay.val → (s.bay n).cart.isSome = true →
    t = s.draw.2.updBay n (fun b => { (b.eraseOn s.draw.1) with celsius := celsius, hot := if 80 < celsius.toNat then b.hot + 1 else 0 }) →
    (celsius.toNat < 85 → (t.bay n).hot < 60 → exec (.cartridgeTempSample bay celsius) s = .next t)
    ∧ (85 ≤ celsius.toNat ∨ 60 ≤ (t.bay n).hot → (s.bay n).cmd ≠ scMount → (s.bay n).cmd ≠ scFormat → (s.bay n).cmd ≠ scUnmount →
      (s.bay n).st = bayOnline ∨ (s.bay n).st = bayReadOnly ∨ ((s.bay n).st = baySanitizing ∧ (s.bay n).erasing = true) →
      exec (.cartridgeTempSample bay celsius) s = .next ((t.updBay n (fun b => { b.beginUnmount with heatOff := true })).postBay n 2))
    ∧ (85 ≤ celsius.toNat ∨ 60 ≤ (t.bay n).hot → (s.bay n).cmd = scMount ∨ (s.bay n).cmd = scFormat →
      exec (.cartridgeTempSample bay celsius) s =
        .next ((t.updBay n (fun b => { b with st := bayOff, cmd := 0, result := srState, heatOff := true, dark := true })).postBay n 2))
    ∧ ((t.bay n).st = (s.bay n).st ∧ (t.bay n).cmd = (s.bay n).cmd ∧ (t.bay n).celsius = celsius))
  ∧ (∀ (bay : Fin 16) (s : State) (c : Cart), (s.bay bay.val).cart = some c → (s.bay bay.val).mounted = true → exec (.scrubAgeTick bay) s = .next (s.updBay bay.val (fun b =>
      { b with cart := some { c with blocks := c.blocks.map (fun e => if c.holds e.1
        then (e.1, { e.2 with age := e.2.age + stress b.celsius.toNat, since := e.2.since + stress b.celsius.toNat }) else e) } })))
  ∧ (∀ (bay : Fin 16) (pct : BitVec 8) (f : ScrubFinding) (aged : Bool) (s : State) (b : Bay) (c : Cart) (x : Nat), b = s.bay bay.val → b.st = bayOnline ∨ b.st = bayReadOnly →
    b.cart = some c → b.scrubBlock c = some (x, aged) →
    (aged = true → exec (.scrubBlock bay pct f) s = .next (s.updBay bay.val (fun b => b.relocate x)))
    ∧ (∀ t, aged = false → hours b.checkH.toNat ≤ (c.blk x).since →
      t = s.updBay bay.val (fun b => b.updCart (fun c => c.updBlk x (fun y => { y with soft := if f.soft = true then y.soft + 1 else 0 }))) →
      (f.uncorrectable = true → exec (.scrubBlock bay pct f) s = .next (t.failBlock bay.val x))
      ∧ (f.uncorrectable = false → f.soft = true → 1 ≤ (c.blk x).soft → exec (.scrubBlock bay pct f) s = .next (t.retireBlock bay.val x))
      ∧ (f.uncorrectable = false → f.soft = false ∨ (c.blk x).soft = 0 → b.refreshPct.toNat ≤ pct.toNat ∨ f.level3 = true ∨ f.soft = true →
        exec (.scrubBlock bay pct f) s = .next (t.updBay bay.val (fun b => b.relocate x)))
      ∧ (f.uncorrectable = false → f.soft = false → f.level3 = false → pct.toNat < b.refreshPct.toNat →
        exec (.scrubBlock bay pct f) s = .next (t.updBay bay.val (fun b => b.updCart (fun c => c.updBlk x (fun y => { y with since := 0 })))))))
  ∧ (∀ (bay : Fin 16) (s : State) (c : Cart) (lo : Nat), (s.bay bay.val).cart = some c → (s.bay bay.val).mounted = true →
    leastBy (fun x => (c.blk x).erases) (c.known.filter (fun x => c.holds x)) = some lo →
    (s.bay bay.val).wlSpread.toNat < c.mostErased - (c.blk lo).erases →
    exec (.wearLevel bay) s = .next (s.draw.2.updBay bay.val (fun b => b.relocateTo lo c.wornFree[s.draw.1.toNat % c.wornFree.length]?)))
  ∧ (∀ (bay : Fin 16) (s : State) (c : Cart), (s.bay bay.val).cart = some c → (s.bay bay.val).st = bayOnline ∨ (s.bay bay.val).st = bayReadOnly →
    exec (.retryTableSave bay) s = .next (s.updBay bay.val (fun b => { b with cart := some { c with retrySaved := c.retryLive } })))

namespace Sys2Proof.Claims

/-- The command at the front of queue q of port k has the opcode and may start (R353); `t` is the state in which it runs. -/
def Starts (s t : State) (k q : Nat) (c : HostCmd) (op : BitVec 8) : Prop :=
  s.front k q = some c ∧ c.opcode = op ∧ c.phase = .waiting ∧ (s.hp k).engineOn = true ∧ (s.hp k).mayStart c = true ∧ (s.hq k q).cqFull = false ∧
  t = s.updCmd k q (fun c => { c with phase := .running })

/-- The command at the front of queue q of port k has the opcode and runs. -/
def Runs (s : State) (k q : Nat) (c : HostCmd) (op : BitVec 8) : Prop :=
  s.front k q = some c ∧ c.opcode = op ∧ c.phase = .running ∧ (s.hp k).engineOn = true

/-- A request of the host to port k takes effect as it comes: the port serves the host, holds no request, and no posted write is outstanding
unless the request is one itself. The state u in which it takes effect has the port's entry written back as it was. -/
def AtOnce (s u : State) (k : Nat) (posts : Bool) : Prop :=
  (s.hp k).live = true ∧ (s.hp k).serves = true ∧ (s.hp k).held = [] ∧ (posts = true ∨ (s.hp k).posted = 0) ∧ u = s.updHp k (fun h => h)

end Sys2Proof.Claims

/-- R348, R350–R353, R355, R361: doorbells move the tail and the head of a queue within its size and set the error bit otherwise, and wait
behind the requests that the port holds; the engine fetches up to four entries
of the next queue; NOP, COPY_IN, COPY_OUT, CSR_WRITE, CSR_READ, IMAGE_LOAD and WAIT start when they are at the front of their queue, one of
the port's 16 places is free and the completion queue is not full. How the port holds its requests and lets them go is the model's choice (log
entry 142), and so is INVALID_FIELD for an IMAGE_LOAD with ARG3 of 1,024 or more (log entry 93).
Completes: sqTailDoorbell, cqHeadDoorbell, commandFetch, nop, copyIn, copyOut, csrWrite, csrRead, imageLoad, cmdWait, cmdWaitPoll. -/
def Obligations.HostCommandsRun : Prop :=
  (∀ (port : Fin 4) (q : Fin 256) (v : BitVec 16) (s u : State), AtOnce s u port.val false →
    (v.toNat < (s.hq port.val q.val).sqSize → exec (.sqTailDoorbell port q v) s = .next (s.updHq port.val q.val (fun x => { x with sqTail := v })))
    ∧ ((s.hq port.val q.val).sqSize ≤ v.toNat → exec (.sqTailDoorbell port q v) s = .next (s.updHq port.val q.val (fun x => { x with dbErr := true })))
    ∧ (v.toNat < (s.hq port.val q.val).cqSize → exec (.cqHeadDoorbell port q v) s = .next (s.updHq port.val q.val (fun x => { x with cqHead := v })))
    ∧ ((s.hq port.val q.val).cqSize ≤ v.toNat → exec (.cqHeadDoorbell port q v) s = .next (s.updHq port.val q.val (fun x => { x with dbErr := true }))))
  ∧ (∀ (port : Fin 4) (q : Fin 256) (v : BitVec 16) (s : State), (s.hp port.val).live = true → (s.hp port.val).serves = true →
    exec (.sqTailDoorbell port q v) s = .next ((s.updHp port.val (fun h => { h with held := h.held ++ [.doorbell q.val false v] })).hostPump port)
    ∧ exec (.cqHeadDoorbell port q v) s = .next ((s.updHp port.val (fun h => { h with held := h.held ++ [.doorbell q.val true v] })).hostPump port))
  ∧ (∀ (port : Fin 4) (s t : State) (k q n : Nat), k = port.val → (s.hp k).engineOn = true → (s.hp k).cmdEn = true → (s.hp k).nextQueue = some q →
    n = min 4 (min ((s.hp k).readMax / 64) (min (s.hq k q).entries ((s.hq k q).sqSize - (s.hq k q).sqHead.toNat))) →
    s.hostRead k false (.fetch q n) ((s.hq k q).w0.toNat + 64 * (s.hq k q).sqHead.toNat) (64 * n) = some t →
    exec (.commandFetch port) s = .next (t.updHp k (fun h => { h with lastQueue := q })))
  ∧ (∀ (port : Fin 4) (queue : Fin 256) (s t : State) (k q : Nat) (c : HostCmd), k = port.val → q = queue.val →
    (Starts s t k q c 0 → exec (.nop port queue) s = .next (t.finishCmd k q scOk 0))
    ∧ (Starts s t k q c 1 → ((t.hp k).copyOk c true = true → exec (.copyIn port queue) s = .next (t.copyInNext k q))
      ∧ ((t.hp k).copyOk c true = false → exec (.copyIn port queue) s = .next (t.finishCmd k q scInvalidField 0)))
    ∧ (Runs s k q c 1 → exec (.copyIn port queue) s = .next (s.copyInNext k q))
    ∧ (Starts s t k q c 2 → ((t.hp k).copyOk c false = true → exec (.copyOut port queue) s = .next (t.copyOutNext k q))
      ∧ ((t.hp k).copyOk c false = false → exec (.copyOut port queue) s = .next (t.finishCmd k q scInvalidField 0)))
    ∧ (Runs s k q c 2 → exec (.copyOut port queue) s = .next (s.copyOutNext k q))
    ∧ (Starts s t k q c 3 → (csrOk c.arg0 (bit c.arg2 0) = false → exec (.csrWrite port queue) s = .next (t.finishCmd k q scInvalidField 0))
      ∧ (csrOk c.arg0 (bit c.arg2 0) = true →
        (∀ u, t.regWrite c.arg0.toNat (halfOf c.arg0.toNat (bit c.arg2 0)) c.arg1 = some u → exec (.csrWrite port queue) s = .next (u.finishCmd k q scOk 0))
        ∧ (t.regWrite c.arg0.toNat (halfOf c.arg0.toNat (bit c.arg2 0)) c.arg1 = none → exec (.csrWrite port queue) s = .next (t.finishCmd k q scTargetOff 0))))
    ∧ (Starts s t k q c 4 → csrOk c.arg0 (bit c.arg1 0) = true → ∀ v u, t.regRead c.arg0.toNat (halfOf c.arg0.toNat (bit c.arg1 0)) = some (v, u) →
      exec (.csrRead port queue) s = .next (u.finishCmd k q scOk v))
    ∧ (Starts s t k q c 5 → (c.arg3.toNat < 1024 → exec (.imageLoad port queue) s = .next (t.queueLoad k q c))
      ∧ (1024 ≤ c.arg3.toNat → exec (.imageLoad port queue) s = .next (t.finishCmd k q scInvalidField 0)))
    ∧ (Starts s t k q c 6 → isHbm c.arg0.toNat = true → c.arg0.toNat % 4 = 0 → exec (.cmdWait port queue) s = .next (t.waitPoll k q c))
    ∧ (Runs s k q c 6 → exec (.cmdWaitPoll port queue) s =
        .next ((s.updCmd k q (fun c => { c with polls := c.polls + 1 })).waitPoll k q { c with polls := c.polls + 1 })))

/-- R340–R343, R349, R354–R356, R358, R359, R388, R473: a finished command writes its completion entry unless it is quiet or the completion queue is full; an MSI-X is
sent at a coalescing timeout; a completion from the host ends the read with its tag, a timeout counts; a link that comes up records what
it runs, x16 only over both cables; configuration requests set the base addresses, the size of BAR4, the power state, MSI-X Enable and Function
Mask, read the identity and the capabilities, reset the port, and are answered with Request Retry Status before READY and while a port with
power is not ready; an integrity failure ends the secure link; and a port reset clears the port. The model's choices: the configuration
requests and the reads (log entry 18) and the values taken from the base specification (log entry 8), the free result of an invalid opcode (log
entry 87), and severity and path of HOST_LINK_SECURITY (log entry 94).
Completes: commandComplete, msixCoalesceTimeout, hostCompletionTimeout, hostPortReset, ideIntegrityFail, hostLinkUp, configurationWrite,
hostReadCompletion. -/
def Obligations.HostPortEvents : Prop :=
  (∀ (port : Fin 4) (queue : Fin 256) (s : State) (k q : Nat) (c : HostCmd), k = port.val → q = queue.val → s.front k q = some c → (s.hp k).engineOn = true →
    (∀ st r, c.phase = .finished st r →
      (bit c.flags 1 = true ∧ st = scOk → exec (.commandComplete port queue) s = .next (s.updHq k q HostQueue.popCmd))
      ∧ (¬(bit c.flags 1 = true ∧ st = scOk) → (s.hq k q).cqFull = true → exec (.commandComplete port queue) s = .next s)
      ∧ (¬(bit c.flags 1 = true ∧ st = scOk) → (s.hq k q).cqFull = false → exec (.commandComplete port queue) s = .next (s.writeEntry k q c st r)))
    ∧ (c.phase = .waiting → 6 < c.opcode.toNat → (s.hp k).mayStart c = true → (s.hq k q).cqFull = false → exec (.commandComplete port queue) s =
        .next ((s.updCmd k q (fun c => { c with phase := .running })).finishFree k q scInvalidOpcode)))
  ∧ (∀ (port : Fin 4) (queue : Fin 256) (s : State), (s.hp port.val).live = true → (s.hq port.val queue.val).unacked ≠ 0 → (s.hq port.val queue.val).coalUs ≠ 0 →
    exec (.msixCoalesceTimeout port queue) s = .next (s.sendMsix port (s.hq port.val queue.val).vector))
  ∧ (∀ (port : Fin 4) (tag : Nat) (data : List Byte) (s : State) (k : Nat) (r : HostReq), k = port.val → (s.hp k).reqs.find? (fun r => r.tag == tag) = some r →
    ((s.hp k).live = true →
      (∀ q n, r.owner = .fetch q n → data.length = 64 * n → exec (.hostReadCompletion port tag data) s = .next ((s.dropReq k tag).fetched k q n data).loadRetry)
      ∧ (∀ q off len, r.owner = .copy q off len → data.length = len → exec (.hostReadCompletion port tag data) s = .next ((s.dropReq k tag).copyPiece k q off (some data)).loadRetry)
      ∧ (∀ n off len, r.owner = .image n off len → data.length = len → exec (.hostReadCompletion port tag data) s = .next ((s.dropReq k tag).imagePiece n off data).loadRetry)
      ∧ (r.owner = .discard → exec (.hostReadCompletion port tag data) s = .next (s.dropReq k tag).loadRetry))
    ∧ (∀ t, t = (s.dropReq k tag).updHp k (fun h => { h with ctoCount := satAdd h.ctoCount 1, aerStatus := h.aerStatus ||| aerTimeout }) →
      (∀ q off len, r.owner = .copy q off len → exec (.hostCompletionTimeout port tag) s = .next (t.copyPiece k q off none).loadRetry)
      ∧ (∀ q n, r.owner = .fetch q n → exec (.hostCompletionTimeout port tag) s = .next t.loadRetry)
      ∧ (∀ n off len, r.owner = .image n off len → t.images.loads.head?.map (fun l => l.number) = some n →
        exec (.hostCompletionTimeout port tag) s = .next (t.failLoad 2 scHostReadFailed))))
  ∧ (∀ (port : Fin 4) (width : LinkWidth) (speed : BitVec 3) (flit : Bool) (s : State), width.lanes = 4 ∨ width.lanes = 8 ∨ (width.lanes = 16 ∧ width.cableB = true) → 1 ≤ speed.toNat → speed.toNat ≤ 6 →
    (s.hp port.val).off = false → (s.hp port.val).fenced = false → exec (.hostLinkUp port width speed flit) s = .next (s.updHp port.val (fun h =>
      { h with up := true, width := width.lanes, cableB := width.cableB, speed := if flit then speed else BitVec.ofNat 3 (min 5 speed.toNat), flit := flit })))
  ∧ (∀ (port : Fin 4) (s : State), (s.hp port.val).live = true → s.power.ready = true →
    (∀ n a, exec (.configurationWrite port (.bar n a)) s = .next (s.updHp port.val (fun h => { h with bars := h.bars.set n (barAligned h n a) })))
    ∧ (∀ l, 30 ≤ l → l ≤ 36 → exec (.configurationWrite port (.bar4Size l)) s = .next (s.updHp port.val (fun h => { h with bar4Log2 := l })))
    ∧ (∀ d, exec (.configurationWrite port (.power d)) s = .next (s.updHp port.val (fun h => { h with d3hot := d })))
    ∧ (∀ e m, exec (.configurationWrite port (.msix e m)) s =
      .next ((s.updHp port.val (fun h => { h with msixEnable := e, msixFunctionMask := m })).msixFlush port.val))
    ∧ (∀ f, exec (.configurationWrite port (.read f)) s = .next (s.emit (.configAnswer port (some (s.configField port.val f)))))
    ∧ exec (.configurationWrite port .levelReset) s = .next (s.hostPortReset port.val))
  ∧ (∀ (port : Fin 4) (speed : BitVec 3) (flit : Bool) (s : State), exec (.hostLinkUp port { lanes := 16, cableB := false } speed flit) s = .next s)
  ∧ (∀ (port : Fin 4) (w : ConfigWrite) (s : State), (s.hp port.val).off = false → (s.hp port.val).fenced = false →
    s.power.ready = false ∨ (s.hp port.val).up = false →
    exec (.configurationWrite port w) s = .next (s.emit (.configAnswer port none)))
  ∧ (∀ (k : Nat) (s : State), s.configField k .deviceId = 0x4060 ∧ s.configField k .classCode = 0x120000 ∧ s.configField k .serialNumber = Config.serial)
  ∧ (∀ (k : Nat) (s : State), (∀ c ∈ [Capability.device3, .laneMargining, .dataLinkFeature, .secondaryPcie, .physicalLayer64, .advancedErrorReporting],
      s.configField k (.capability c) = 1) ∧ (∀ c ∈ [Capability.srIov, .ats, .pasid, .ptm, .aspm], s.configField k (.capability c) = 0))
  ∧ (∀ (port : Fin 4) (s : State), (s.hp port.val).ideSecure = true → exec (.ideIntegrityFail port) s =
    .next ((s.updHp port.val (fun h => { h with ideSecure := false })).post 0x15 1 0 ukHost port.val [port.val]))
  ∧ (∀ (port : Fin 4) (s : State), ∃ t, exec (.hostPortReset port) s = .next t ∧ (t.hp port.val).up = false ∧ (t.hp port.val).reqs = []
      ∧ (t.hp port.val).queues = [] ∧ (t.hp port.val).d3hot = false ∧ (t.hp port.val).ideSecure = false)

/-- R343–R345, R347–R349, R358, R361: a port that serves the host refuses an access outside its BARs, and takes one within them in the order of
arrival: it answers a register read with its value, writes a register, takes an aperture write of whole lines, reads as zero the page of
doorbells, reads up to 4,096 bytes of HBM through BAR4 and, where writing is enabled as the write takes effect, writes HBM line by line; a
read that comes behind another request, or behind posted writes, is held. How requests are held is the model's choice (log entry 142), and so is
that a write with WRITE_EN 0 counts as an unsupported request (log entry 56).
Completes: bar4Read, bar4Write, bar0Access. -/
def Obligations.BarAccesses : Prop :=
  (∀ (port : Fin 4) (addr : W64) (a : BarAccess) (s u : State) (k o : Nat) (h : HostPort), k = port.val → h = s.hp k → o = addr.toNat - h.bars[0].toNat → h.live = true →
    (h.serves = false → exec (.bar0Access port addr a) s = .next (s.refuseAccess port false (match a with | .read _ => true | .write _ => false)))
    ∧ (h.serves = true → addr.toNat < h.bars[0].toNat ∨ 2 ^ 26 ≤ o → addr.toNat < h.bars[1].toNat ∨ 2 ^ 20 ≤ addr.toNat - h.bars[1].toNat →
      exec (.bar0Access port addr a) s = .next (s.refuseAccess port true (match a with | .read _ => true | .write _ => false)))
    ∧ (∀ len, a = .read len → AtOnce s u k false → addr.toNat < h.bars[0].toNat → h.bars[1].toNat ≤ addr.toNat → addr.toNat - h.bars[1].toNat < 2 ^ 20 →
      exec (.bar0Access port addr a) s = .next (u.emit (.hostAnswer port (some (List.replicate len 0)))))
    ∧ (∀ x, h.serves = true → h.bars[0].toNat ≤ addr.toNat → o < 2 ^ 26 → s.bar0Address k o = some x →
      (∀ len v t, a = .read len → AtOnce s u k false → isAperture x = false → len = 4 ∨ len = 8 → x % len = 0 → u.regRead x (halfOf x (len == 4)) = some (v, t) →
        exec (.bar0Access port addr a) s = .next (t.emit (.hostAnswer port (some (leBytes len v.toNat)))))
      ∧ (∀ len, a = .read len → h.held.countP HostAccess.answered < 256 →
        exec (.bar0Access port addr a) s = .next ((s.updHp k (fun h => { h with held := h.held ++ [.register (some x) a] })).hostPump port))
      ∧ (∀ bs t, a = .write bs → AtOnce s u k false → isAperture x = false → bs.length = 4 ∨ bs.length = 8 → x % bs.length = 0 → pageWrite (.register (some x) a) = false →
        u.regWrite x (halfOf x (bs.length == 4)) (BitVec.ofNat 64 (leNat bs)) = some t → exec (.bar0Access port addr a) s = .next t)
      ∧ (∀ bs, a = .write bs → AtOnce s u k true → isAperture x = true → x % 64 = 0 → bs.length % 64 = 0 → 64 ≤ bs.length → bs.length ≤ 512 →
        exec (.bar0Access port addr a) s = .next (u.apertureWrite port x bs))
      ∧ (∀ bs, a = .write bs → pageWrite (.register (some x) a) = true → exec (.bar0Access port addr a) s = .next (s.bar0Write port x bs))))
  ∧ (∀ (port : Fin 4) (addr : W64) (s u : State) (k o : Nat) (h : HostPort), k = port.val → h = s.hp k → o = addr.toNat - h.bars[2].toNat → h.bars[2].toNat ≤ addr.toNat →
    (∀ len, AtOnce s u k false → o + len ≤ 2 ^ h.bar4Log2 → 1 ≤ len → len ≤ 4096 →
      ((u.readBlocks (h.bar4Address o) len).2.2 = stOk → exec (.bar4Read port addr len) s =
        .next ((u.readBlocks (h.bar4Address o) len).1.emit (.hostAnswer port (some (u.readBlocks (h.bar4Address o) len).2.1))))
      ∧ ((u.readBlocks (h.bar4Address o) len).2.2 ≠ stOk → exec (.bar4Read port addr len) s =
        .next (((u.readBlocks (h.bar4Address o) len).1.updHp k (fun h => h.recordErr ((s.hp k).bar4Address o) (u.readBlocks ((s.hp k).bar4Address o) len).2.2 false)).emit
          (.hostAnswer port (some (allOnes len))))))
    ∧ (∀ data, AtOnce s u k true → data ≠ [] → o + data.length ≤ 2 ^ h.bar4Log2 → h.bar4WriteEn = true → exec (.bar4Write port addr data) s =
      .next ((linesOf (h.bar4Address o) data.length).foldl (fun s l =>
        let lo := max (h.bar4Address o) (64 * l) - h.bar4Address o
        let hi := min (h.bar4Address o + data.length) (64 * l + 64) - h.bar4Address o
        s.lineWrite k (64 * l) ((h.bar4Address o + lo) % 64) ((data.drop lo).take (hi - lo))) u))
    ∧ (∀ data, AtOnce s u k true → data ≠ [] → o + data.length ≤ 2 ^ h.bar4Log2 → h.bar4WriteEn = false →
      exec (.bar4Write port addr data) s = .next (u.refuseAccess port true false))
    ∧ (∀ data, h.live = true → h.serves = true → data ≠ [] → 2 ^ h.bar4Log2 < o + data.length → exec (.bar4Write port addr data) s = .next (s.refuseAccess port true false)))

/-- R369–R375, R380, R426: the load at the head whose bytes have come is copied and checked in the order of R371, each failure closing it with its step and
code, and goes to the routing audit when all pass; while a promotion holds it, its copy stands and is not read again; an audited image is
applied where step 5 still holds, and when the clears it began are done the pans it names are loaded and the command is answered. A
promotion that stopped after its step 2 holds no load. The model's choices: a load waits for a promotion at step 5 (log entry 72) and its
preconditions are tested again at step 7 (log entry 126), the node that a failed audit reports (log entry 78), a load that no pan is left of
(log entry 76), the check of its length (log entry 75), the bytes of sections (log entry 41), and SHA-512 and the signature scheme (log entry 37).
Completes: routeAuditDone, imageStaged, imageApply, imageLoadComplete. -/
def Obligations.ImageLoads : Prop :=
  (∀ (s t : State) (l : ImgLoad) (rest : List ImgLoad) (ok : Bool) (b : List Byte), s.images.loads = l :: rest → l.step = 2 →
    l.fromHbm = true ∨ l.bytes ≤ l.copied → s.stageCopy l = (t, ok) → b = t.peek l.stage l.bytes →
    exec .imageStaged s = .next (
      if ok = false then t.failLoad 2 scPoison
      else if l.bytes ≠ imgSigned (t.peek l.stage 512) + 1024 then t.failLoad 1 scInvalidField
      else if imgSignatureOk t.sec.imageKeys b = false then (t.failLoad 3 scSignatureFail).loadStep5
      else if (imageOk b l.isPartial l.pan && (!l.isPartial || t.partialOk b l.pan)) = false then (t.failLoad 4 scInvalidField).loadStep5
      else (t.updLoad (fun l => { l with step := 5, hash := sha512 (b.take (imgSigned b)) })).loadStep5))
  ∧ (∀ (s : State) (l : ImgLoad) (rest : List ImgLoad) (b : List Byte), s.images.loads = l :: rest → l.step = 5 → b = s.peek l.stage l.bytes →
    exec .imageStaged s = .next (
      if s.promotes = true then s
      else if s.loadReady b l.isPartial l.pan = false then s.failLoad 5 scBusy
      else { s.updLoad (fun l => { l with step := 6 }) with images := { (s.updLoad (fun l => { l with step := 6 })).images with audit := 3 } }))
  ∧ (∀ (s : State) (l : ImgLoad) (rest : List ImgLoad), s.images.loads = l :: rest →
    (l.step = 6 → l.audited = false → (∀ x, routeAudit (s.tablesAfter (s.peek l.stage l.bytes) l.isPartial l.pan) = some x → exec .routeAuditDone s = .next (s.auditFail x))
      ∧ (routeAudit (s.tablesAfter (s.peek l.stage l.bytes) l.isPartial l.pan) = none → exec .routeAuditDone s = .next s.auditPass))
    ∧ (l.step = 6 → l.audited = true → s.promotes = false →
      (s.loadReady (s.peek l.stage l.bytes) l.isPartial l.pan = false → exec .imageApply s = .next (s.failLoad 5 scBusy))
      ∧ (s.loadReady (s.peek l.stage l.bytes) l.isPartial l.pan = true →
        (l.isPartial = true → exec .imageApply s = .next ((s.applyPartial (s.peek l.stage l.bytes) l.pan).updLoad (fun l => { l with step := 7 })))
        ∧ (l.isPartial = false → exec .imageApply s = .next ((s.applyWhole (s.peek l.stage l.bytes)).updLoad (fun l => { l with step := 7 })))))
    ∧ (l.step = 7 → s.clearsDone = true →
      (s.loadingPans = [] → imgPans (s.peek l.stage l.bytes) ≠ [] → exec .imageLoadComplete s = .next (s.closeLoad scAborted))
      ∧ (∀ t id, s.loadingPans ≠ [] ∨ imgPans (s.peek l.stage l.bytes) = [] → id = imgId (s.peek l.stage 512) → 
        t = { s with images := s.images.complete l id, rmc := if l.isPartial then s.rmc else { s.rmc with pdrImage := id } } →
        exec .imageLoadComplete s = .next ((t.loadingPans.foldl (fun s n => s.panLoaded id n) t).closeLoad scOk))))

/-- R382–R384, R390, R393–R396, R402, R433: feeds and power stages that fail, come and go leave the feed limit of those that work; a supply below its limits or too high
switches the module off with its cause until a power-on reset (for a supply that is too high, the model's choice, log entry 170); the coolant sets and releases its limit; a cap scales every array that runs; a frequency is written, and an
oscillator loses its lock, or locks where its couplings reach an injection site. The model's choices: volts and amperes that no sample brings
are free (log entry 2), the masks of STAGE_TEMP_SAMPLE (log entry 83), READY after COOLANT_SHUTDOWN (log entry 84), what runs between a write
of FREQ_MHZ and an update (log entry 39), and a second wafer's trip (log entry 85).
Completes: inputLost, overvoltageShutdown, feedFault, capUpdate, siteTempSample, stageTempSample, coolantSample, coolantShutdown,
islFreqWrite, oscLockChange, pstageOffline, pstageOnline, pstageInsert, pstageFail, feedRestored. -/
def Obligations.PowerAndCooling : Prop :=
  (∀ (feed : Fin 8) (volts amps : BitVec 16) (s : State), exec (.feedFault feed volts amps) s =
    .next ({ s with power := { s.power with feedOut := putBit s.power.feedOut feed.val (feedOutOfRange volts) } }.feedCheck feed.val volts.toNat amps.toNat))
  ∧ (∀ (s : State), exec .feedRestored s = .next { s with power := { s.power with feedOut := 0 } }.feedCheckAll)
  ∧ (∀ (s t : State), t = { s with power := { s.power with feedLimit := s.power.short } } →
    (s.power.short = false ∨ s.power.feedLimit = true → s.feedCheckAll = t)
    ∧ (s.power.short = true → s.power.feedLimit = false → s.feedCheckAll = t.draw.2.draw.2.postFeed ukFeed t.power.shortFeed (t.draw.1.toNat % 65536) (t.draw.2.draw.1.toNat % 65536)))
  ∧ (∀ (st : Fin 40) (s t : State), t = s.stageSet st.val false →
    (4 ≤ t.power.stagesOf (st.val / 5) → exec (.pstageOffline st) s = .next { t with power := { t.power with removable := some st.val } })
    ∧ (t.power.stagesOf (st.val / 5) < 4 → exec (.pstageOffline st) s = .next { s with fault := { s.fault with refused := true } }))
  ∧ (∀ (st : Fin 40) (s : State), exec (.pstageOnline st) s = .next (s.stageSet st.val true).feedCheckAll)
  ∧ (∀ (st : Fin 40) (s : State), exec (.pstageInsert st) s = .next (s.stageSet st.val true).feedCheckAll)
  ∧ (∀ (st : Fin 40) (v a : BitVec 16) (s : State), exec (.pstageFail st v a) s =
    .next (((s.stageSet st.val false).postFeed ukStage st.val v.toNat a.toNat).feedCheck (st.val / 5) v.toNat a.toNat))
  ∧ (∀ (stages : BitVec 40) (cages : BitVec 48) (s t : State),
    t = ((List.range 40).filter (fun st => bit stages st && bit s.power.working st)).foldl (fun s st => ((s.stageSet st false).postUnsampled ukStage st).feedCheckAll) s →
    exec (.stageTempSample stages cages) s = .next ((List.range 48).foldl (fun s c =>
      if bit cages c then (s.portEnable (2 * c) false).portEnable (2 * c + 1) false else s) t))
  ∧ (∀ (f i o : BitVec 8) (s : State), (coolantBad f i o = true → exec (.coolantSample f i o) s =
      .next { s with power := { s.power with coolant := #v[f, i, o], coolantLimit := true, coolantGood := 0 } })
    ∧ (coolantBad f i o = false → s.power.coolantLimit = true → coolantGood f i o = true → 2 ≤ s.power.coolantGood → exec (.coolantSample f i o) s =
      .next { s with power := { s.power with coolant := #v[f, i, o], coolantLimit := false, coolantGood := 0 } })
    ∧ (coolantBad f i o = false → s.power.coolantLimit = false → exec (.coolantSample f i o) s =
      .next { s with power := { s.power with coolant := #v[f, i, o], coolantGood := 0 } }))
  ∧ (∀ (s : State), s.power.coolantLimit = true → ∃ t, exec .coolantShutdown s = .next t ∧ t.power.ready = false)
  ∧ (∀ (v : Vector (BitVec 16) 8) (s : State), (∀ x ∈ v.toList, x.toNat < 4700) → ∃ t, exec (.inputLost v) s = .next t ∧ t.power.offCause = 1 ∧ t.rmc.runs = false)
  ∧ (∀ (s : State), ∃ t, exec .overvoltageShutdown s = .next t ∧ t.power.offCause = 2 ∧ t.rmc.runs = false)
  ∧ (∀ (p v : BitVec 16) (s t : State), t = { s with power := { s.power with powerHw := p, voltCv := v }.nextFactor p.toNat } →
    exec (.capUpdate p v) s = .next (allSites.foldl (fun s k => s.retune k (fun i => if i.runs then { i with tcap := i.nextCap } else i)) t))
  ∧ (∀ (site : SiteId) (mhz : BitVec 12) (voff : BitVec 6) (s : State), exec (.islFreqWrite site mhz voff) s = .next (s.islCfgWrite site.key mhz voff))
  ∧ (∀ (site : SiteId) (s t : State) (on : Bool), t = s.updSite site.key (fun a => { a with isl := { a.isl with locked := on } }) →
    ((s.site site.key).isl.locked = true → on = false → exec (.oscLockChange site on) s = .next (t.post 0x13 1 1 0 site.key [site.key]))
    ∧ ((s.site site.key).isl.locked = false → on = false → exec (.oscLockChange site on) s = .next s)
    ∧ (on = true → (s.site site.key).forwards = true ∧ s.clocked site.key = true → exec (.oscLockChange site on) s = .next t)
    ∧ (on = true → (s.site site.key).forwards = false ∨ s.clocked site.key = false → exec (.oscLockChange site on) s = .next s)
    ∧ (injects site.key = true → s.clocked site.key = true)
    ∧ (injects site.key = false → s.coupledTo site.key = [] → s.clocked site.key = false))
  ∧ (∀ (site : SiteId) (c : BitVec 8) (s t : State), t = s.updSite site.key (fun a => { a with isl := a.isl.sample c }) →
    (115 ≤ c.toNat → bit s.fault.waferFenced (siteW site.key) = false → exec (.siteTempSample site c) s = .next (t.waferTrip (siteW site.key) site.key c.toNat))
    ∧ (c.toNat < 105 → (t.site site.key).isl.hot < 100 → exec (.siteTempSample site c) s = .next t)
    ∧ (105 ≤ c.toNat ∨ 100 ≤ (t.site site.key).isl.hot → c.toNat < 115 → (t.site site.key).parks = true → t.power.parkBusy (blockOf site.key) = false →
      exec (.siteTempSample site c) s = .next ((t.post 0x10 2 1 ukSite site.key [blockOf site.key / 240, blockOf site.key % 240, c.toNat]).parkThermal (blockOf site.key))))

/-- R397–R400: a park that may begin stops the pans of its block and takes its sites from the ready state; its patches go in when the engines are
idle, and it ends when the routers hold none of its packets or the drain times out; an unpark that is due and cool gives the sites back; one that
may not be done sets the refused bit.
Completes: park, parkBlockIdle, parkRoutersEmpty, parkDrainTimeout, unpark. -/
def Obligations.ParkingBlocks : Prop :=
  (∀ (w : Fin 4) (j : BitVec 8) (s t : State) (b : Nat), s.power.busy = false → b = 240 * w.val + j.toNat → t = s.parkLast w j →
    (j.toNat < 240 → t.power.parkBusy b = false → exec (.park w j) s = .next (t.parkBegin b))
    ∧ (240 ≤ j.toNat ∨ t.power.parkBusy b = true → exec (.park w j) s = .next t.parkRefuse)
    ∧ (∀ now u, t.rmcNow = (now, u) →
      (u.power.parked.find? (fun e => e.1 == b) = none → exec (.unpark w j) s = .next u.parkRefuse)
      ∧ (∀ e, u.power.parked.find? (fun e => e.1 == b) = some e → j.toNat < 240 → 1000000 ≤ (now - e.2).toNat → bit u.fault.waferFenced w.val = false →
        (u.around b).all (fun j => decide ((u.site j).isl.celsius.toNat ≤ 85)) = true → exec (.unpark w j) s = .next (u.unpark b))
      ∧ (∀ e, u.power.parked.find? (fun e => e.1 == b) = some e → (now - e.2).toNat < 1000000 → exec (.unpark w j) s = .next u.parkRefuse)))
  ∧ (∀ (s t u : State) (x : ParkOp) (overdue : Bool), s.power.park = some x → x.step = 1 → t = s.stopPans (s.blockPans x.block) →
    ((s.blockPans x.block).any (fun n => t.holdsPark n) = true → exec (.parkBlockIdle overdue) s = .next t)
    ∧ ((s.blockPans x.block).any (fun n => t.holdsPark n) = false → u = (if overdue then t.updSites (t.parkSites x.block) (fun _ a => a.dropForced) else t) →
      ((u.parkSites x.block).all (fun k => (u.site k).enginesIdle) = false → exec (.parkBlockIdle overdue) s = .next u)
      ∧ (∀ v, (u.parkSites x.block).all (fun k => (u.site k).enginesIdle) = true → v = u.applyPatches (Tbl.get (fun _ => []) u.power.parkPlans x.block) true →
        exec (.parkBlockIdle overdue) s = .next { v with power := { v.power with park := some { x with step := 4 } } })))
  ∧ (∀ (s t : State) (x : ParkOp), s.power.park = some x → x.step = 4 →
    (s.blockPackets x.block = 0 → exec .parkRoutersEmpty s = .next (s.parkEnd x.block).panResetGoOn)
    ∧ (s.blockPackets x.block ≠ 0 → t = { s with power := { s.power with drainFault := true } } → exec .parkDrainTimeout s = .next
        ((t.post 0x14 1 1 ukWafer (x.block / 240) [x.block / 240, x.block % 240, s.blockPackets x.block]).parkEnd x.block).panResetGoOn))

/-- R388, R403–R409, R412, R415, R441, R450, R474: a power-on with at least seven feeds for which a copy of the RMC's firmware passes its check
brings the module up, or with an erase pending the bays alone, and becomes ready when initialised; without RMC firmware nothing is powered, and
no module reset is taken; a module reset needs its confirmation, and a request pin resets a module that is not retired; a pan, an array, a bay
and a fabric port that a ready module takes are reset as their own rules say, an array when its requests are answered or its wait ends; while a
reset runs, such a write is ignored or absorbed, and before READY it is refused. The model's choices: that refusal (log entry 144), the steps of
a power-up as two commands (log entry 80), boot without firmware (log entry 81), the fences that end (log entry 47), the cause of a reset by the
pin (log entry 79), and a write of RESET_CMD while BUSY (log entry 96).
Completes: powerOnReset, powerUpReady, moduleReset, panReset, arrayReset, arrayResetQuiesced, arrayResetTimeout, bayReset, fabricPortReset,
rstReqAssert. -/
def Obligations.ResetsOfParts : Prop :=
  (∀ (feeds : BitVec 8) (stages : BitVec 40) (s t : State), 7 ≤ popcount feeds →
    t = ((s.alwaysOnReset.recordReset s.power.offCause).bootRmc true).startPower feeds stages →
    (t.rmc.runs = true → s.sec.erasePending = false → exec (.powerOnReset feeds stages true) s = .next t.powerUp.feedCheckAll)
    ∧ (t.rmc.runs = true → s.sec.erasePending = true → exec (.powerOnReset feeds stages true) s = .next t.eraseAgain)
    ∧ (t.rmc.runs = false → exec (.powerOnReset feeds stages true) s = .next t.allOff.baysOff)
    ∧ (t.rmc.runs = true ↔ (s.alwaysOnReset.sec.bootCopy 0 (s.alwaysOnReset.fwUnit 0)).isSome = true)
    ∧ (∃ u, exec (.powerOnReset feeds stages false) s = .next u ∧ u.rmc.runs = false ∧ u.rmc.recovery = true ∧ u.power.ready = false))
  ∧ (∀ (s : State), s.initialised = true → s.power.dark = false → exec .powerUpReady s = .next { s with power := { s.power with ready := true } })
  ∧ (∀ (confirm : BitVec 16) (byRmc : Bool) (s : State), s.resets.busy = false → s.rmc.runs = true →
    (confirm = 0xa5c3 → s.resets.waiting = false → exec (.moduleReset confirm byRmc) s = .next (((s.resetStart 1 0 true).moduleBegin (if byRmc then 4 else 3)).goOn))
    ∧ (confirm = 0xa5c3 → s.resets.waiting = true → exec (.moduleReset confirm byRmc) s = .next s)
    ∧ (confirm ≠ 0xa5c3 → exec (.moduleReset confirm byRmc) s = .next { s with resets := { s.resets with refused := true } }))
  ∧ (∀ (confirm : BitVec 16) (byRmc : Bool) (s : State), s.rmc.runs = false → exec (.moduleReset confirm byRmc) s = .next s ∧ exec .rstReqAssert s = .next s)
  ∧ (∀ (s : State), (s.sec.lc ≠ 4 → s.resets.waiting = false → s.rmc.runs = true → exec .rstReqAssert s = .next ((s.resetStart 1 0 false).moduleBegin 4).goOn)
    ∧ (s.sec.lc = 4 ∨ s.resets.waiting = true → exec .rstReqAssert s = .next s))
  ∧ (∀ (pan : Fin 1024) (s : State), s.resets.busy = false → s.resets.waiting = false → s.power.ready = true →
    ((s.pan pan.val).st = .unconfigured ∨ (s.pan pan.val).st = .loading → exec (.panReset pan) s = .next { s with resets := { s.resets with refused := true } })
    ∧ ((s.pan pan.val).st ≠ .unconfigured → (s.pan pan.val).st ≠ .loading →
      (s.parksPan pan.val = true → exec (.panReset pan) s = .next (s.resetStart 2 (BitVec.ofNat 16 pan.val) true))
      ∧ (s.parksPan pan.val = false → exec (.panReset pan) s = .next ((s.resetStart 2 (BitVec.ofNat 16 pan.val) false).panResetNow pan.val))))
  ∧ (∀ (site : SiteId) (s : State) (k : Nat), k = site.key → s.resets.busy = false → s.resets.waiting = false → s.power.ready = true →
    ((s.site k).parked = true ∨ (s.site k).fenced = true ∨ (s.site k).holdsArray = false →
      exec (.arrayReset site) s = .next { s with resets := { s.resets with refused := true } })
    ∧ ((s.site k).parked = false → (s.site k).fenced = false → (s.site k).holdsArray = true →
      ∀ t, t = (((match s.panOf k with | some n => s.panForceStop n | none => s).flushTrace k).updSite k Site.quench).resetStart 3 (siteTarget k) true →
        exec (.arrayReset site) s = .next { t with resets := { t.resets with arrays := [k] } }))
  ∧ (∀ (site : SiteId) (s : State) (k : Nat), k = site.key → k ∈ s.resets.arrays →
    ((s.site k).reqs = [] → exec (.arrayResetQuiesced site) s = .next ((s.arrayResetEnd k).rejoin k))
    ∧ ((s.site k).reqs ≠ [] → exec (.arrayResetTimeout site) s = .next ((s.arrayResetEnd k).hwFault k 0 fcEngineHang 1 [fcEngineHang, 0])))
  ∧ (∀ (bay : Fin 16) (s t : State), s.resets.busy = false → s.resets.waiting = false → s.power.ready = true → t = s.resetStart 4 (BitVec.ofNat 16 bay.val) false →
    ((t.bay bay.val).cart = none → exec (.bayReset bay) s = .next t)
    ∧ (∀ c, (t.bay bay.val).cart = some c → exec (.bayReset bay) s =
      .next ((t.abortLines bay.val stTargetOff).updBay bay.val (fun b => b.restart (t.sec.lc == 4))).goOn))
  ∧ (∀ (port : Fin 96) (s : State), s.resets.busy = false → s.resets.waiting = false → s.power.ready = true → exec (.fabricPortReset port) s =
    .next ((s.resetStart 5 (BitVec.ofNat 16 port.val) false).portRetrain port.val))
  ∧ (∀ (pan : Fin 1024) (site : SiteId) (bay : Fin 16) (port : Fin 96) (s : State), ∀ i ∈ [Instr.panReset pan, .arrayReset site, .bayReset bay, .fabricPortReset port],
    (s.resets.busy = true ∨ s.resets.waiting = true → exec i s = .next s)
    ∧ (s.resets.busy = false → s.resets.waiting = false → s.power.ready = false → exec i s = .next { s with resets := { s.resets with refused := true } }))

/-- R416, R419–R421, R424, R428–R432: a heartbeat is noted, or shows a unit that should be off; a unit that misses one is dead, and one whose power or
temperature on the management path does not agree with the data path is fenced; sites and wafers are fenced, fenced units are retested and given back or retired, and a promotion that is released runs when its pan is
quiet; a firmware switch, which waits for any exclusive operation before it, its health and its time limit change the copy of a unit; cages come and go.
The model's choices: the order of PATH_DISAGREE and the unit's own event (log entry 106), a fence that is commanded (log entry 48), DETAIL of
WAFER_FENCED (log entry 79), a switch-over as one step (log entry 77) that waits for its turn (log entry 145), a second wafer (log entry 85),
and the state of a port without a powered module (log entry 172).
Completes: controllerHeartbeat, controllerHang, domainPowerPoll, fenceSite, retest, retestResult, fenceWafer, promote, promotion, fwSwitch,
fwRevert, fwHealthy, fwHealthTimeout, osfpInsert, osfpRemove. -/
def Obligations.FaultsAndService : Prop :=
  (∀ (u : UnitId) (s : State), u.fwIndex.isSome = true →
    (∀ v : PollView, s.unitFenced u = false → s.unitTalks u = false → v.power = Fin.ofNat 3 (s.powerView u) → v.hot = false →
      exec (.controllerHeartbeat u) s = .next (s.disagree u true v))
    ∧ (s.unitFenced u = false → s.unitTalks u = true → exec (.controllerHeartbeat u) s =
        .next { s with rmc := { s.rmc with beats := if s.rmc.beats.contains u.no then s.rmc.beats else u.no :: s.rmc.beats } })
    ∧ (s.unitTalks u = true → s.rmc.beats.contains u.no = true → exec (.controllerHang u) s =
        .next { s with rmc := { s.rmc with beats := s.rmc.beats.filter (fun n => n != u.no) } })
    ∧ (∀ v : PollView, s.unitTalks u = true → s.rmc.beats.contains u.no = false → v.power = 1 → v.hot = false →
      exec (.controllerHang u) s = .next ((s.markDead u.no).disagree u false v)))
  ∧ (∀ (u : UnitId) (v : PollView) (s : State), s.unitFenced u = false →
    (s.fault.dead.contains u.no = true →
      (v.power = 1 → v.hot = false → exec (.domainPowerPoll u v) s = .next (s.disagree u false v))
      ∧ (v.power ≠ 1 ∨ v.hot = true → exec (.domainPowerPoll u v) s = .next s))
    ∧ (s.fault.dead.contains u.no = false → s.powerView u = 1 →
      (v.power ≠ 1 ∨ (v.hot = true ∧ s.limitBegun u = false) → exec (.domainPowerPoll u v) s = .next (s.disagree u true v))
      ∧ (v.power = 1 → v.hot = false ∨ s.limitBegun u = true → exec (.domainPowerPoll u v) s = .next s))
    ∧ (s.fault.dead.contains u.no = false → s.powerView u ≠ 1 → exec (.domainPowerPoll u v) s = .next s))
  ∧ (∀ (u : UnitId) (alive : Bool) (v : PollView) (s : State), s.disagree u alive v =
    ((s.post 0x16 2 2 u.kind u.index [b2n alive, v.power.val, b2n v.hot]).ownEvent u).fenceUnit u)
  ∧ (∀ (s : State), s.fault.promoting = false →
    (∀ x : SiteId, (s.site x.key).fenced = false → exec (.fenceSite x) s = .next (s.fenceSite x.key))
    ∧ (∀ u : UnitId, s.unitFenced u = false ∨ s.fault.retired.contains u.no = true → exec (.retest u) s = .next { s with fault := { s.fault with refused := true } })
    ∧ (∀ u : UnitId, s.unitFenced u = true → s.fault.retired.contains u.no = false → exec (.retest u) s =
        .next (State.testPower { s with rmc := { s.rmc with retest := if s.rmc.retest.contains u.no then s.rmc.retest else u.no :: s.rmc.retest } } u.no))
    ∧ (∀ w : Fin 4, bit s.fault.waferFenced w.val = false →
      (s.fault.waferFenced = 0 → s.fault.fencing = none → ∀ t, t = s.stopPans (s.waferPans w.val) →
        exec (.fenceWafer w) s = .next { t with fault := { t.fault with fencing := some (w.val, false) } }.goOn)
      ∧ (s.fault.waferFenced ≠ 0 → s.fault.fencing = none → ∃ t, exec (.fenceWafer w) s = .next t ∧ t.power.lockout = true ∧ t.power.ready = false))
    ∧ (∀ x : SiteId, (s.fault.promos.any (fun p => p.failed.contains x.key) = true → exec (.promote x) s =
        .next { s with fault := { s.fault with promos := updFirst (fun p => p.failed.contains x.key) (fun p => { p with released := true }) s.fault.promos } })
      ∧ (s.fault.promos.any (fun p => p.failed.contains x.key) = false → exec (.promote x) s = .next { s with fault := { s.fault with refused := true } })))
  ∧ (∀ (u : UnitId) (s t : State), s.rmc.retest.contains u.no = true →
    t = { s with rmc := { s.rmc with retest := s.rmc.retest.filter (fun n => n != u.no), scan := s.rmc.scan.filter (fun n => n != u.no) } } →
    exec (.retestResult u false) s = .next ((t.retire u.no).testPower u.no)
    ∧ exec (.retestResult u true) s = .next ({ t with fault := { t.fault with dead := t.fault.dead.filter (fun n => n != u.no) } }.returnUnit u))
  ∧ (∀ (s : State) (p : Promo) (rest : List Promo), s.fault.promos = p :: rest →
    (p.released = true → (s.pan p.pan).st = .unconfigured ∨ (s.pan p.pan).st = .stopped ∨ s.panQuiet p.pan = true → exec .promotion s = .next (s.promote p))
    ∧ (p.released = true → (s.pan p.pan).st ≠ .unconfigured → (s.pan p.pan).st ≠ .stopped → s.panQuiet p.pan = false → exec .promotion s = .next s)
    ∧ (p.released = false → exec .promotion s = .next s))
  ∧ (∀ (u : Fin 217) (s : State), s.exclusive = false → ∀ i ∈ [Instr.fwSwitch u, .fwRevert u],
    (s.fwReady u.val = true → (s.fwUnit u.val).inactiveOk = true → exec i s = .next ((s.updFw u.val (fun x => { x with activeB := !x.activeB, st := 2 })).fwRestart u.val))
    ∧ (s.fwReady u.val = false ∨ (s.fwUnit u.val).inactiveOk = false → exec i s = .next (s.faultRefuse.postFw u.val 2)))
  ∧ (∀ (u : Fin 217) (s : State), s.exclusive = true → ∀ i ∈ [Instr.fwSwitch u, .fwRevert u],
    exec i s = .next { s with fault := { s.fault with fwWaiting := s.fault.fwWaiting ++ [u.val] } })
  ∧ (∀ (u : Fin 217) (s t : State), (s.fwUnit u.val).st = 2 → t = { s with sec := s.sec.accept u.val (s.fwUnit u.val).active } →
    exec (.fwHealthy u) s = .next (((t.updFw u.val (fun x => { x with st := 0 })).fwRecheck).postFw u.val 0)
    ∧ exec (.fwHealthTimeout u) s = .next (((s.updFw u.val FwUnit.rollBack).fwRestart u.val).postFw u.val 1)
    ∧ (∀ x : FwUnit, x.rollBack.activeB = !x.activeB ∧ x.rollBack.st = 3 ∧ x.rollBack.inactiveOk = false ∧ x.rollBack.inactive.usable = false ∧ x.rollBack.active = x.inactive))
  ∧ (∀ (c : Fin 48) (cmis : BitVec 8) (supported fits : Bool) (s : State), supported = false ∨ fits = false → exec (.osfpInsert c cmis supported fits) s =
    .next (((s.setOptics (2 * c.val) .refused).setOptics (2 * c.val + 1) .refused).post 0x1a 1 1 ukCage c.val [c.val, cmis.toNat, if supported then 2 else 1]))
  ∧ (∀ (c : Fin 48) (cmis : BitVec 8) (s : State), exec (.osfpInsert c cmis true true) s = .next ((s.setOptics (2 * c.val) .powered).setOptics (2 * c.val + 1) .powered)
    ∧ exec (.osfpRemove c) s = .next ((s.setOptics (2 * c.val) .absent).setOptics (2 * c.val + 1) .absent))
  ∧ (∀ (n : Nat) (o : Optics) (s t : State), t = s.setOptics n o →
    (t.port n).optics = o ∧ (t.port n).enable = (s.port n).enable
    ∧ ((s.port n).enable = true ∨ o = .refused → (t.port n).st = (match o with | .powered => .training | .absent => .down | .refused => .disabled)
      ∧ (t.port n).replay = []))

namespace Sys2Proof.Claims

/-- The commands of R448 that do their work at once: OP of the request, the command, and its effect once it is accepted. -/
def secTable : List (Nat × Instr × (State → State)) :=
  [(1, .provisionOwner, State.provision), (2, .rotateOwner, State.rotate), (3, .close, State.close), (5, .debugUnlock, State.debugUnlock)]

/-- The commands of R448 that begin an erase, with the life-cycle state that follows it. -/
def eraseTable : List (Nat × Instr × BitVec 3) := [(4, .returnReq, 3), (6, .refurbish, 0), (7, .retire, 4)]

/-- An SPDM request on the path is at its place in the order (R442). -/
def SpdmAt (s : State) (p : MgmtPath) (n : Nat) : Prop := s.spdmPath p = true ∧ n ≤ s.rmc.stage p

/-- The established session with this number on the path. -/
def InSession (s : State) (p : MgmtPath) (n : Nat) : Prop :=
  s.spdmPath p = true ∧ (s.rmc.session p n).map (fun x => x.established) = some true

end Sys2Proof.Claims

/-- R445–R452: a life-cycle request runs when no exclusive operation does, and is busy until then; it takes effect where its checks give 0 and
records its result in every case, with SEC_BUF cleared as it ends, which for an erase is when the erase ends; while an erase that a reset cut
short is still pending it fails; a nonce is drawn and expires, and one that passes its check is spent. The model's choices: the command that a
request object belongs to, and that it waits (log entries 98 and 145), that a request spends the nonce (log entry 50), KEY_E (log entry 99), and
secrets as numbers (log entry 97).
Completes: nonceDraw, nonceExpire, provisionOwner, rotateOwner, close, returnReq, debugUnlock, refurbish, retire. -/
def Obligations.LifeCycleRequests : Prop :=
  (∀ e ∈ secTable, ∀ s : State, s.exclusive = false → s.sec.objOp = e.1 →
    exec e.2.1 s = .next (if s.secResult = 0 then { e.2.2 s with sec := (e.2.2 s).sec.endRequest 0 }
      else { s with sec := s.sec.endRequest s.secResult }))
  ∧ (∀ e ∈ eraseTable, ∀ s : State, s.exclusive = false → s.sec.objOp = e.1 →
    exec e.2.1 s = .next (State.goOn (if s.secResult = 0 then { s.eraseBegin e.2.2 with sec := (s.eraseBegin e.2.2).sec.endRequest 0 }
      else { s with sec := s.sec.endRequest s.secResult })))
  ∧ (∀ e ∈ secTable, ∀ s : State, s.sec.busy = false → s.exclusive = true → s.sec.erasePending = false → s.sec.objOp = e.1 →
    exec e.2.1 s = .next { s with sec := { s.sec with busy := true, waiting := true } })
  ∧ (∀ e ∈ eraseTable, ∀ s : State, s.sec.busy = false → s.exclusive = true → s.sec.erasePending = false → s.sec.objOp = e.1 →
    exec e.2.1 s = .next (State.goOn { s with sec := { s.sec with busy := true, waiting := true } }))
  ∧ (∀ s : State, s.sec.busy = false → s.sec.erasePending = true → s.secResult ≠ 0
    ∧ (∀ e ∈ secTable, s.sec.objOp = e.1 → exec e.2.1 s = .next { s with sec := s.sec.endRequest s.secResult })
    ∧ (∀ e ∈ eraseTable, s.sec.objOp = e.1 → exec e.2.1 s = .next (State.goOn { s with sec := s.sec.endRequest s.secResult })))
  ∧ (∀ (c : Sec) (r : BitVec 3), (c.endRequest r).result = r ∧ (c.endRequest r).op = BitVec.ofNat 3 c.objOp
    ∧ (c.erasing = false → (c.endRequest r).buf = []) ∧ (c.erasing = true → (c.endRequest r).buf = c.buf)
    ∧ (r = 1 ∨ r = 2 → (c.endRequest r).nonceValid = c.nonceValid) ∧ (r ≠ 1 → r ≠ 2 → (c.endRequest r).nonceValid = false))
  ∧ (∀ s : State, s.eraseSteps.sec.buf = [] ∧ s.eraseSteps.sec.erasePending = false ∧ s.eraseSteps.sec.busy = false ∧ s.eraseSteps.sec.lc = s.sec.eraseTo
    ∧ s.eraseSteps.sec.ownerSecret = none ∧ s.freeNext < s.eraseSteps.sec.transientSecret)
  ∧ (∀ s : State, exec .nonceExpire s = .next { s with sec := { s.sec with nonceValid := false } })
  ∧ (∀ s : State, ∃ t n, exec .nonceDraw s = .next t ∧ t.sec = { s.sec with nonce := n, nonceValid := true })

/-- R442, R443: an SPDM request at its place in the order is answered and moves the order on; one before its place is answered
UNEXPECTED_REQUEST, and one outside an established session SESSION_REQUIRED; GET_CSR and SET_CERTIFICATE are taken in OWNED alone.
The model's choices: the order of the requests (log entry 51), the bytes of certificates, signing requests and measurements (log entry 49), the
header of an object in a mailbox (log entry 143), and SPDM on the I2C target (log entry 171).
Completes: getVersion, getCapabilities, negotiateAlgorithms, getDigests, getCertificate, challenge, getCsr, setCertificate, getMeasurements,
keyExchange, finish, endSession, spdmHeartbeat, keyUpdate. -/
def Obligations.SpdmRequests : Prop :=
  (∀ (p : MgmtPath) (s : State), s.spdmPath p = true → exec (.getVersion p) s = .next ({ s with rmc := s.rmc.setStage p 1 }.emit (.spdm p (.version [0x13]))))
  ∧ (∀ (p : MgmtPath) (v : BitVec 8) (s : State), SpdmAt s p 1 →
    (v = 0x13 → exec (.getCapabilities p v) s = .next ({ s with rmc := s.rmc.setStage p (max 2 (s.rmc.stage p)) }.emit (.spdm p .capabilities)))
    ∧ (v ≠ 0x13 → exec (.getCapabilities p v) s = .next (s.emit (.spdm p .versionMismatch))))
  ∧ (∀ (p : MgmtPath) (s : State), SpdmAt s p 2 →
    exec (.negotiateAlgorithms p true) s = .next ({ s with rmc := s.rmc.setStage p 3 }.emit (.spdm p .algorithms))
    ∧ exec (.negotiateAlgorithms p false) s = .next (s.emit (.spdm p .invalidRequest)))
  ∧ (∀ (p : MgmtPath) (s : State), s.spdmPath p = true → s.rmc.stage p < 3 → ∀ slot chain index session, mailboxFits p chain.length = true →
    ∀ i ∈ [Instr.getDigests p, .getCertificate p slot, .challenge p slot, .getCsr p, .setCertificate p slot chain, .getMeasurements p index, .keyExchange p, .finish p session],
      exec i s = .next (s.emit (.spdm p .unexpectedRequest)))
  ∧ (∀ (p : MgmtPath) (s : State), SpdmAt s p 3 →
    exec (.getDigests p) s = .next (s.emit (.spdm p (.digests ([0, 1].filterMap (fun i => (s.chain i).map (fun c => (i, sha512 c)))))))
    ∧ (∀ (slot : Fin 8) c, s.chain slot.val = some c → exec (.getCertificate p slot) s = .next (s.emit (.spdm p (.certificate slot.val c)))
      ∧ exec (.challenge p slot) s = .next ((s.freeBytes 512).2.emit (.spdm p (.challengeAuth slot.val (s.freeBytes 512).1))))
    ∧ (∀ slot : Fin 8, s.chain slot.val = none → ∀ i ∈ [Instr.getCertificate p slot, .challenge p slot], exec i s = .next (s.emit (.spdm p .invalidRequest)))
    ∧ (s.sec.lc = 1 → exec (.getCsr p) s = .next (s.draw.2.emit (.spdm p (.csr (Config.csr s.freeNext))))
      ∧ ∀ chain, mailboxFits p chain.length = true → exec (.setCertificate p 1 chain) s = .next ({ s with sec := { s.sec with slot1 := chain } }.emit (.spdm p .setCertificate)))
    ∧ (s.sec.lc ≠ 1 → ∀ slot chain, mailboxFits p chain.length = true → ∀ i ∈ [Instr.getCsr p, .setCertificate p slot chain], exec i s = .next (s.emit (.spdm p .unexpectedRequest)))
    ∧ (∀ (index : BitVec 8) ms, ms = (if index = 0xff then List.range 0x31 else [index.toNat]).filterMap (fun i => (s.measure i).map (fun m => (i, m))) →
      (ms = [] → exec (.getMeasurements p index) s = .next (s.emit (.spdm p .invalidRequest)))
      ∧ (ms ≠ [] → exec (.getMeasurements p index) s = .next ((s.freeBytes 512).2.emit (.spdm p (.measurements ms (s.freeBytes 512).1)))))
    ∧ (∀ sig u, s.freeBytes 512 = (sig, u) → exec (.keyExchange p) s = .next ({ u with rmc := { u.rmc with
        sessions := u.rmc.sessions ++ [({ id := s.rmc.nextSession, path := p } : SpdmSession)], nextSession := s.rmc.nextSession + 1 } }.emit (.spdm p (.keyExchange s.rmc.nextSession sig))))
    ∧ (∀ n, s.rmc.session p n = none → exec (.finish p n) s = .next (s.emit (.spdm p .invalidRequest)))
    ∧ (∀ n x, s.rmc.session p n = some x → x.established = false → exec (.finish p n) s =
        .next ({ s with rmc := s.rmc.updSession n (fun x => { x with established := true }) }.emit (.spdm p (.finish n)))))
  ∧ (∀ (p : MgmtPath) (n : Nat) (s : State), InSession s p n →
    exec (.endSession p n) s = .next ({ s with rmc := { s.rmc with sessions := s.rmc.sessions.filter (fun x => x.id != n) } }.emit (.spdm p (.endSession n)))
    ∧ exec (.spdmHeartbeat p n) s = .next (s.emit (.spdm p (.heartbeat n)))
    ∧ exec (.keyUpdate p n) s = .next ({ s with rmc := s.rmc.updSession n (fun x => { x with updates := x.updates + 1 }) }.emit (.spdm p (.keyUpdate n))))
  ∧ (∀ (p : MgmtPath) (n : Nat) (s : State), s.spdmPath p = true → s.rmc.session p n = none →
    ∀ i ∈ [Instr.endSession p n, .spdmHeartbeat p n, .keyUpdate p n], exec i s = .next (s.emit (.spdm p .sessionRequired)))

namespace Sys2Proof.Claims

/-- Counter c of unit u, whose saturation value is sat, reads v in state s, and no other value of s goes into the same total. -/
def Sampled (s : State) (c u sat v : Nat) : Prop :=
  (∃ e ∈ s.counters, e.1 = c ∧ e.2.1 = sat ∧ (u, v) ∈ e.2.2)
  ∧ ∀ e ∈ s.counters, ∀ x ∈ e.2.2, totalNo e.1 x.1 = totalNo c u → e.2.1 = sat ∧ x.2 = v

/-- Bit i of a field lies in the part of its register that an access covers (R479). -/
def Covered (f : RegField) (h : Half) (i : Nat) : Bool := decide (h.lo ≤ f.lo + i) && decide (f.lo + i < h.lo + h.len)

end Sys2Proof.Claims

/-- R2–R4, R358, R439, R442, R444, R453–R456, R459–R462, R464, R474, R479: an IDE_KM request of an established session keys and opens the secure link; platform, firmware and discovery
requests are answered; a firmware object becomes the inactive copy of its unit and is answered with whether it may run; each sample goes into its
total; a scan chain opens for a fenced unit that has one; trace records and lines are written, and debug data read and written; a register access
goes to the register of its address, whose fields act on the covered bits as their access codes give. The model's choices: registers of units
that are off (log entry 69), an address in an aperture (log entry 95), the clock of a trace (log entry 107), a debug path that is closed (log entry
101), the last record of an odd number (log entry 169), and PLDM on the I2C target (log entry 171).
Completes: ideKm, pldmPlatform, pldmFwUpdate, telemetrySample, trcMark, trcEnableWrite, traceLineWrite, syncMarker, dbgDataRead,
dbgDataWrite, jtagScanSelect, rcRead, regWrite, doeDiscovery, pldmMessagingControl, dynamicAddressAssign. -/
def Obligations.ManagementTraceAndRegisters : Prop :=
  (∀ (port : Fin 4) (n : Nat) (op : BitVec 2) (s : State), s.portServes port = true → s.rmc.recovery = false →
    ((s.rmc.sessions.find? (fun x => x.id == n && x.path == .doe port 0)).any (fun x => x.established) = false →
      exec (.ideKm port n op) s = .next (s.emit (.spdm (.doe port 1) .sessionRequired)))
    ∧ ((s.rmc.sessions.find? (fun x => x.id == n && x.path == .doe port 0)).any (fun x => x.established) = true →
      exec (.ideKm port n op) s = .next ((s.updHp port.val (fun h => if op = 1 then { h with ideKeyed := true } else if op = 2 then { h with ideSecure := h.ideKeyed }
        else if op = 3 then { h with ideSecure := false } else h)).emit (.spdm (.doe port 1) (.ideKm port op)))))
  ∧ (∀ (port : Fin 4) (m : Fin 2) (s : State), s.portServes port = true → exec (.doeDiscovery port m) s = .next (s.emit (.doe port (if m = 0 then [0, 1, 2] else [0, 3]))))
  ∧ (∀ (p : MgmtPath) (r : PldmRequest) (s : State), s.pldmPath p = true →
    (s.rmc.recovery = true → exec (.pldmPlatform p r) s = .next (s.emit (.pldm p .unsupported)) ∧ exec (.pldmMessagingControl p) s = .next (s.emit (.pldm p (.types [0, 5]))))
    ∧ (s.rmc.recovery = false → exec (.pldmMessagingControl p) s = .next (s.emit (.pldm p (.types [0, 2, 5])))
      ∧ (∀ c u, r = .sensor c u → exec (.pldmPlatform p r) s = .next (s.emit (.pldm p (.sensor c u (s.sensor c u).1 (s.sensor c u).2))))
      ∧ (r = .repository → exec (.pldmPlatform p r) s = .next (s.emit (.pldm p (.repository s.rmc.pdrImage))))
      ∧ (∀ u, r = .state (some u) → exec (.pldmPlatform p r) s = .next (s.emit (.pldm p (.state (some u) (s.domainState u)))))
      ∧ (r = .state none → exec (.pldmPlatform p r) s = .next (s.emit (.pldm p (.state none s.sec.lc.toNat))))
      ∧ (r = .event → exec (.pldmPlatform p r) s =
        .next ({ s with rmc := { s.rmc with uncollected := s.rmc.uncollected.drop 1 } }.emit (.pldm p (.event s.rmc.uncollected.head?)))))
    ∧ (∀ seq, s.rmc.recovery = false → exec (.pldmPlatform p (.log seq)) s =
        .next (s.emit (.pldm p (if p = .eth then .log (s.fault.log.find? (fun e => e.seq == seq)) else .unsupported))))
    ∧ (∀ (u : Fin 217) obj c t, t = s.draw.2 →
        c = { fwCopyOf obj u.val ((s.sec.fwSlot obj).getD 0) s.draw.1 with usable := fwHeaderOk obj u.val && (s.sec.fwSlot obj).isSome } →
        exec (.pldmFwUpdate p u obj) s = .next ((t.updFw u.val (fun x => if x.activeB = true then { x with a := c, inactiveOk := s.sec.fwAllowed u.val c }
          else { x with b := c, inactiveOk := s.sec.fwAllowed u.val c })).emit (.pldm p (.firmware u.val (s.sec.fwAllowed u.val c))))
        ∧ (fwHeaderOk obj u.val = false ∨ s.sec.fwSlot obj = none → s.sec.fwAllowed u.val c = false)))
  ∧ (∀ (s : State), ∃ t, exec .telemetrySample s = .next t ∧ t = { s with rmc := { s.rmc with totals := t.rmc.totals } }
    ∧ (∀ (c u sat v : Nat) (x : Total), Sampled s c u sat v → x = Tbl.get (fun _ => {}) s.rmc.totals (totalNo c u) →
      ∃ y, Tbl.get (fun _ => {}) t.rmc.totals (totalNo c u) = y ∧ y.last = v
        ∧ (v ≠ sat ∨ x.last = sat → x.last ≤ v → y.total = x.total + BitVec.ofNat 64 (v - x.last) ∧ y.saturated = x.saturated)
        ∧ (v ≠ sat → v < x.last → y.total = x.total + BitVec.ofNat 64 v ∧ y.saturated = x.saturated)
        ∧ (v = sat → x.last ≠ sat → y.total = x.total + BitVec.ofNat 64 sat ∧ y.saturated = true))
    ∧ (∀ n, (∀ c ∈ s.counters, ∀ u ∈ c.2.2, totalNo c.1 u.1 ≠ n) → Tbl.get (fun _ => {}) t.rmc.totals n = Tbl.get (fun _ => {}) s.rmc.totals n))
  ∧ (∀ (a : BitVec 7) (s : State), exec (.dynamicAddressAssign a) s = .next { s with rmc := { s.rmc with i3cAddr := some a } })
  ∧ (∀ (u : UnitId) (s : State),
    (s.sec.scanOpen = true → s.unitFenced u = true → hasScan u = true → exec (.jtagScanSelect u true) s = .next (s.scanTo (some u.no))
      ∧ (s.scanTo (some u.no)).rmc.scan = some u.no ∧ (s.scanTo (some u.no)).domainState u = 5)
    ∧ (s.sec.scanOpen = false ∨ s.unitFenced u = false ∨ hasScan u = false → exec (.jtagScanSelect u true) s = .next s)
    ∧ (s.rmc.scan = some u.no → exec (.jtagScanSelect u false) s = .next (s.scanTo none) ∧ (s.scanTo none).rmc.scan = none)
    ∧ (s.rmc.scan ≠ some u.no → exec (.jtagScanSelect u false) s = .next s))
  ∧ (∀ (x : SiteId) (slot : Option (Fin 4)) (v : W32) (s : State), exec (.trcMark x slot v) s =
    .next (s.trace x.key (some 0) 1 (match slot with | some n => BitVec.ofNat 8 n.val | none => 0xff) (payload20 v.toNat 0)))
  ∧ (∀ (x : SiteId) (en mode : Bool) (src : BitVec 5) (s : State), exec (.trcEnableWrite x en mode src) s =
    .next (s.updSite x.key (fun a => { a with trc := { (a.trc.setEnable en) with mode := mode, src := src } })))
  ∧ (∀ (x : SiteId) (s : State) (t : Trc), t = (s.site x.key).trc → t.lineReady 2 = true → (s.freeTag x.key).isSome = true → exec (.traceLineWrite x) s =
    .next ((s.updSite x.key (fun a => { a with trc := a.trc.lineOut })).sendRequest x.key
      { owner := .trace 2, ptype := ptWrite, addr := t.next.toNat, len := 64, payload := (t.fifo.take 2).flatMap (fun r => r.bytes x.key) }))
  ∧ (∀ (s u : State) (now : W64), s.rmcNow = (now, u) → exec .syncMarker s =
    .next (u.sites.foldl (fun s e => if e.1 < 65536 && (s.site e.1).forwards then
        s.trace e.1 none 6 0xff (BitVec.ofNat 128 ((u.trcSync.last + 1).toNat + now.toNat * 2 ^ 64)) else s)
      ({ u with trcSync := { u.trcSync with last := u.trcSync.last + 1 } } : State)))
  ∧ (∀ (x : SiteId) (v : W64) (s : State),
    (s.debugOk x.key = true → exec (.dbgDataRead x) s = .next (s.emit (.regRead (csrBase x.key + 0x9048) (s.site x.key).debugPair)))
    ∧ (s.debugOk x.key = false → exec (.dbgDataRead x) s = .next ((s.debugDeny x.key).emit (.regRead (csrBase x.key + 0x9048) 0)))
    ∧ exec (.dbgDataWrite x v) s = .next ((s.debugWrite x.key 0 (v.setWidth 32)).debugWrite x.key 1 (fld v 32 32)))
  ∧ (∀ (x : SiteId) (s : State), s.freeTag x.key = none ∨ (s.site x.key).trc.fifo.length < 2 → exec (.traceLineWrite x) s = .next s)
  ∧ (∀ (f : RegField) (h : Half) (v : W64) (s : State), f.lo + f.len ≤ 64 →
    (∀ i, (f.bitsIn h v).testBit i = (decide (i < f.len) && Covered f h i && v.toNat.testBit (f.lo + i - h.lo)))
    ∧ (f.acc = .ro ∨ f.acc = .rc → f.write h v s = s)
    ∧ (f.acc = .rw → (∀ i, i < f.len → Covered f h i = false) → f.write h v s = s)
    ∧ (f.acc = .rw → (∃ i, i < f.len ∧ Covered f h i = true) → ∃ n, f.write h v s = f.put n s
      ∧ ∀ i, n.testBit i = (decide (i < f.len) && (if Covered f h i = true then v.toNat.testBit (f.lo + i - h.lo) else (f.get s).testBit i)))
    ∧ (f.acc = .wo → (∀ i, i < f.len → Covered f h i = true) → f.write h v s = f.put (f.bitsIn h v) s)
    ∧ (f.acc = .wo → (∃ i, i < f.len ∧ Covered f h i = false) → f.write h v s = s)
    ∧ (f.acc = .w1c → f.bitsIn h v = 0 → f.write h v s = s) ∧ (f.acc = .w1c → f.bitsIn h v ≠ 0 → f.write h v s = f.put (f.bitsIn h v) s))
  ∧ (∀ (r : Reg) (h : Half) (v : W64) (s : State),
    (r.may s = true → Reg.writeAt (some r) h v s = r.fields.foldl (fun s f => f.write h v s) s) ∧ (r.may s = false → Reg.writeAt (some r) h v s = r.refused s)
    ∧ (Reg.readAt (some r) h s).1 = BitVec.ofNat 64 (bitsOf (r.value (r.before s)) h.lo h.len)
    ∧ ((∀ f ∈ r.fields, f.acc ≠ .rc) → (Reg.readAt (some r) h s).2 = r.before s)
    ∧ (∀ f, r.fields = [f] → f.acc = .rc → f.cover h ≠ 0 → (Reg.readAt (some r) h s).2 = f.put (f.cover h) (r.before s))
    ∧ (∀ f, r.fields = [f] → f.acc = .wo → (Reg.readAt (some r) h s).1 = 0)
    ∧ (∀ f, r.fields = [f] → f.acc ≠ .wo → r.value s = f.get s % 2 ^ f.len * 2 ^ f.lo)
    ∧ Reg.readAt none h s = (0, s) ∧ Reg.writeAt none h v s = s)
  ∧ (∀ (a : Nat) (h : Half) (v : W64) (s : State), (∀ r, s.regAt (wordAddr a) = .on r → s.regRead a h = some (Reg.readAt r h s) ∧ s.regWrite a h v = some (Reg.writeAt r h v s))
    ∧ (s.regAt (wordAddr a) = .off → s.regRead a h = none ∧ s.regWrite a h v = none))
  ∧ (∀ (a v : W64) (four : Bool) (s : State), alignedTo a.toNat four = true →
    (∀ r t, s.regRead a.toNat (halfOf a.toNat four) = some (r, t) → exec (.rcRead a four) s = .next (t.emit (.regRead a.toNat r)))
    ∧ (∀ t, s.regWrite a.toNat (halfOf a.toNat four) v = some t → exec (.regWrite a four v) s = .next t)
    ∧ (s.regRead a.toNat (halfOf a.toNat four) = none → exec (.rcRead a four) s = .next s)
    ∧ (s.regWrite a.toNat (halfOf a.toNat four) v = none → exec (.regWrite a four v) s = .next s))
end

