-- ==== Sys2Proof/Laws/Flow.lean ====
section
/-! SUPPORT. Laws/Flow.lean: a relation between states that every effect keeps: the queue of waiting commands stays, and the
security state changes only in the ways of SecFlow. One lemma for each way to put effects together. -/

namespace Sys2Proof.Machine

/-- The security state as any effect but a life-cycle request may change it: minimum SVNs only rise, revocation fuses only blow, and
the life-cycle state moves only where a pending erase ends. -/
structure SecFlow (c d : Sec) : Prop where
  svn : ∀ i, (vget 0 c.svn i).toNat ≤ (vget 0 d.svn i).toNat
  fw : c.fwRevoked &&& d.fwRevoked = c.fwRevoked
  svc : c.svcRevoked &&& d.svcRevoked = c.svcRevoked
  erase : (c.erasing = true → c.erasePending = true) → (d.erasing = true → d.erasePending = true) ∧
    ((d.lc = c.lc ∧ (d.erasePending = true → c.erasePending = true ∧ d.eraseTo = c.eraseTo)) ∨
      (c.erasePending = true ∧ d.lc = c.eraseTo ∧ d.erasePending = false))

theorem SecFlow.refl (c : Sec) : SecFlow c c :=
  ⟨fun _ => Nat.le_refl _, by simp, by simp, fun h => ⟨h, .inl ⟨rfl, fun h => ⟨h, rfl⟩⟩⟩⟩

theorem SecFlow.trans {c d e : Sec} (h : SecFlow c d) (g : SecFlow d e) : SecFlow c e := by
  refine ⟨fun i => (h.svn i).trans (g.svn i), ?_, ?_, fun hc => ?_⟩
  · have h1 := h.fw; have h2 := g.fw; rw [← h1, BitVec.and_assoc, h2]
  · have h1 := h.svc; have h2 := g.svc; rw [← h1, BitVec.and_assoc, h2]
  · obtain ⟨hd, h⟩ := h.erase hc
    obtain ⟨he, g⟩ := g.erase hd
    refine ⟨he, ?_⟩
    rcases h with ⟨a, b⟩ | ⟨a, b, p⟩ <;> rcases g with ⟨a', b'⟩ | ⟨a', b', p'⟩
    · exact .inl ⟨a'.trans a, fun h => ⟨(b (b' h).1).1, (b' h).2.trans (b (b' h).1).2⟩⟩
    · exact .inr ⟨(b a').1, b'.trans (b a').2, p'⟩
    · refine .inr ⟨a, a'.trans b, ?_⟩
      cases hp : e.erasePending with
      | false => rfl
      | true => have := (b' hp).1; rw [p] at this; cases this
    · rw [p] at a'; cases a'

/-- t follows from s by effects that take no command from the queue and make no life-cycle request. -/
structure Follows (s t : State) : Prop where
  pending : t.pending = s.pending
  sec : SecFlow s.sec t.sec

theorem Follows.refl (s : State) : Follows s s := ⟨rfl, SecFlow.refl _⟩

theorem Follows.trans {s t u : State} (h : Follows s t) (h' : Follows t u) : Follows s u := ⟨h'.pending.trans h.pending, h.sec.trans h'.sec⟩

theorem Follows.of_snd {α : Type} {s t : State} {p : α × State} {a : α} (e : p = (a, t)) (h : Follows s p.2) : Follows s t := by
  subst e; exact h

theorem Follows.of_fst {α : Type} {s t : State} {p : State × α} {a : α} (e : p = (t, a)) (h : Follows s p.1) : Follows s t := by
  subst e; exact h

theorem Follows.lit {s t : State} {a b c d e f g h i j k l m n o p q r u} (hk : Follows s t) :
    Follows s (State.mk t.pending a b c d e f g h i j k l m n o p q t.sec r u) := hk.trans ⟨rfl, SecFlow.refl _⟩

theorem Follows.sec_ {s t : State} {c : Sec} (hk : Follows s t) (hc : SecFlow t.sec c) : Follows s { t with sec := c } := hk.trans ⟨rfl, hc⟩

theorem Follows.ite {c : Prop} [Decidable c] {s a b : State} (ha : Follows s a) (hb : Follows s b) : Follows s (if c then a else b) := by
  split <;> assumption

theorem nextOf_follows {s0 s : State} {r : Result} (hr : ∀ t, r = .next t → Follows s0 t) (h0 : Follows s0 s) : Follows s0 (nextOf s r) := by
  unfold nextOf
  split
  · exact hr _ rfl
  · exact h0

theorem Follows.foldl {α : Type} {f : State → α → State} {l : List α} {s0 s : State} (h0 : Follows s0 s)
    (h : ∀ s0 s x, Follows s0 s → Follows s0 (f s x)) : Follows s0 (l.foldl f s) := by
  induction l generalizing s with
  | nil => exact h0
  | cons a t ih => exact ih (h _ s a h0)

theorem Follows.foldl_fst {α β : Type} {f : State × β → α → State × β} {l : List α} {s0 : State} {p : State × β} (h0 : Follows s0 p.1)
    (h : ∀ s0 p x, Follows s0 p.1 → Follows s0 (f p x).1) : Follows s0 (l.foldl f p).1 := by
  induction l generalizing p with
  | nil => exact h0
  | cons a t ih => exact ih (h _ p a h0)

theorem Follows.foldl_snd {α β : Type} {f : β × State → α → β × State} {l : List α} {s0 : State} {p : β × State} (h0 : Follows s0 p.2)
    (h : ∀ s0 p x, Follows s0 p.2 → Follows s0 (f p x).2) : Follows s0 (l.foldl f p).2 := by
  induction l generalizing p with
  | nil => exact h0
  | cons a t ih => exact ih (h _ p a h0)

/-- Writing the field is such an effect. -/
structure FieldOk (f : RegField) : Prop where
  put : ∀ s0 v s, Follows s0 s → Follows s0 (f.put v s)

theorem FieldOk.mk_ {lo len : Nat} {acc : Access} {get : State → Nat} {put : Nat → State → State}
    (h : ∀ s0 v s, Follows s0 s → Follows s0 (put v s)) : FieldOk ⟨lo, len, acc, get, put⟩ := ⟨h⟩

/-- Every field of the list is. -/
structure FieldsOk (fs : List RegField) : Prop where
  all : ∀ f ∈ fs, FieldOk f

theorem FieldsOk.nil : FieldsOk [] := ⟨by simp⟩

theorem FieldsOk.cons {f : RegField} {fs : List RegField} (h : FieldOk f) (hs : FieldsOk fs) : FieldsOk (f :: fs) :=
  ⟨by intro g hg; rcases List.mem_cons.mp hg with rfl | hg; exacts [h, hs.all _ hg]⟩

theorem FieldsOk.ite {c : Prop} [Decidable c] {a b : List RegField} (ha : FieldsOk a) (hb : FieldsOk b) : FieldsOk (if c then a else b) := by
  split <;> assumption

/-- Every access to the register is. -/
structure RegOk (r : Reg) : Prop where
  fields : FieldsOk r.fields
  before : ∀ s0 s, Follows s0 s → Follows s0 (r.before s)
  refused : ∀ s0 s, Follows s0 s → Follows s0 (r.refused s)

theorem RegOk.mk_ {fs : List RegField} {b : State → State} {m : State → Bool} {r : State → State} (h : FieldsOk fs)
    (hb : ∀ s0 s, Follows s0 s → Follows s0 (b s)) (hr : ∀ s0 s, Follows s0 s → Follows s0 (r s)) : RegOk ⟨fs, b, m, r⟩ := ⟨h, hb, hr⟩

theorem RegOk.ite {c : Prop} [Decidable c] {a b : Reg} (ha : RegOk a) (hb : RegOk b) : RegOk (if c then a else b) := by
  split <;> assumption

/-- Every access to the place is. -/
structure PlaceOk (o : Option Reg) : Prop where
  all : ∀ r, o = some r → RegOk r

theorem PlaceOk.none : PlaceOk none := ⟨by simp⟩

theorem PlaceOk.some {r : Reg} (h : RegOk r) : PlaceOk (some r) := ⟨by rintro _ ⟨⟩; exact h⟩

theorem PlaceOk.ite {c : Prop} [Decidable c] {a b : Option Reg} (ha : PlaceOk a) (hb : PlaceOk b) : PlaceOk (if c then a else b) := by
  split <;> assumption

theorem SecFlow.of_eq {c d : Sec} (hl : d.lc = c.lc) (hp : d.erasePending = c.erasePending) (ht : d.eraseTo = c.eraseTo)
    (he : d.erasing = c.erasing) (hs : d.svn = c.svn) (hf : d.fwRevoked = c.fwRevoked) (hv : d.svcRevoked = c.svcRevoked) : SecFlow c d := by
  refine ⟨fun i => by rw [hs], by rw [hf, BitVec.and_self], by rw [hv, BitVec.and_self], fun h => ⟨by rw [he, hp]; exact h, .inl ⟨hl, ?_⟩⟩⟩
  rw [hp]; exact fun h => ⟨h, ht⟩

theorem Sec.accept_flow {c : Sec} {n : Nat} {x : FwCopy} : SecFlow c (c.accept n x) := by
  refine ⟨fun i => ?_, ?_, ?_, fun h => ⟨h, .inl ⟨rfl, fun h => ⟨h, rfl⟩⟩⟩⟩
  · unfold Sec.accept
    dsimp only
    split
    · next h =>
      unfold vset vget
      by_cases hi : i < 4
      · rw [Vector.getElem?_eq_getElem hi, Vector.getElem?_eq_getElem hi, Vector.getElem_setIfInBounds hi]
        split
        · next e =>
          have := h.2
          unfold vget at this
          rw [e, Vector.getElem?_eq_getElem hi] at this
          exact Nat.le_of_lt this
        · exact Nat.le_refl _
      · rw [Vector.getElem?_eq_none (by omega), Vector.getElem?_eq_none (by omega)]
    · exact Nat.le_refl _
  · simp only [Sec.accept]
    ext i hi
    simp only [BitVec.getElem_and, BitVec.getElem_or]
    cases c.fwRevoked[i] <;> simp
  · simp only [Sec.accept]
    ext i hi
    simp only [BitVec.getElem_and, BitVec.getElem_or]
    cases c.svcRevoked[i] <;> simp

theorem State.eraseFold_sec (l : List Nat) (t : State) :
    (l.foldl (fun (s : State) b => if (s.bay b).cart.isSome then s.cryptoErase b else s) t).sec = t.sec := by
  induction l generalizing t with
  | nil => rfl
  | cons a l ih =>
    rw [List.foldl_cons, ih]
    split
    · rfl
    · rfl

theorem State.cutFold_sec (l : List Nat) (t : State) : (l.foldl (fun (s : State) st => s.stackCut st) t).sec = t.sec := by
  induction l generalizing t with
  | nil => rfl
  | cons a l ih => rw [List.foldl_cons, ih]; rfl

theorem Sec.erased_flow {c : Sec} {n : Nat} (hp : c.erasePending = true ∨ c.erasing = true) : SecFlow c (c.erased n) :=
  ⟨fun _ => Nat.le_refl _, BitVec.and_self, BitVec.and_self, fun h => ⟨fun h => (by cases h), .inr ⟨hp.elim id h, rfl, rfl⟩⟩⟩

theorem Sec.endRequest_flow {c : Sec} {r : BitVec 3} : SecFlow c (c.endRequest r) := SecFlow.of_eq rfl rfl rfl rfl rfl rfl rfl

theorem Follows.id_ {s0 s : State} (h : Follows s0 s) : Follows s0 (id s) := h

end Sys2Proof.Machine
end

