-- ==== Sys2Proof/Laws/FlowArray.lean ====
section
/-! SUPPORT. Laws/FlowArray.lean: what every effect of arrays, routers, stacks and requests keeps. -/

namespace Sys2Proof.Machine

/-! ## Ops -/

theorem State.emit_follows {s0 : State} {s : State} {o : Output} (h0 : Follows s0 s) :
    Follows s0 (State.emit s o) := by
  unfold State.emit
  exact h0.trans ⟨rfl, SecFlow.refl _⟩

theorem State.setHp_follows {s0 : State} {s : State} {k : Nat} {a : HostPort} (h0 : Follows s0 s) :
    Follows s0 (State.setHp s k a) := by
  unfold State.setHp
  exact h0.trans ⟨rfl, SecFlow.refl _⟩

theorem State.updHp_follows {s0 : State} {s : State} {k : Nat} {f : HostPort → HostPort} (h0 : Follows s0 s) :
    Follows s0 (State.updHp s k f) := by
  unfold State.updHp
  exact h0.trans ⟨rfl, SecFlow.refl _⟩

theorem State.msixFlush_follows {s0 : State} {s : State} {k : Nat} (h0 : Follows s0 s) :
    Follows s0 (State.msixFlush s k) := by
  unfold State.msixFlush
  with_reducible repeat' first
      | (intro x) | exact Follows.refl _ | assumption | apply State.emit_follows | apply State.updHp_follows
      | (apply Follows.foldl; case' h => intro s0 s x hk)

theorem State.hostAcked_follows {s0 : State} {s : State} {k : Nat} {addr : Nat} {st : BitVec 4} (h0 : Follows s0 s) :
    Follows s0 (State.hostAcked s k addr st) := by
  unfold State.hostAcked
  exact h0.trans ⟨rfl, SecFlow.refl _⟩

theorem State.setSite_follows {s0 : State} {s : State} {k : Nat} {a : Site} (h0 : Follows s0 s) :
    Follows s0 (State.setSite s k a) := by
  unfold State.setSite
  exact h0.trans ⟨rfl, SecFlow.refl _⟩

theorem State.updSite_follows {s0 : State} {s : State} {k : Nat} {f : Site → Site} (h0 : Follows s0 s) :
    Follows s0 (State.updSite s k f) := by
  unfold State.updSite
  exact h0.trans ⟨rfl, SecFlow.refl _⟩

theorem State.updSlot_follows {s0 : State} {s : State} {k : Nat} {n : Fin 4} {f : Slot → Slot} (h0 : Follows s0 s) :
    Follows s0 (State.updSlot s k n f) := by
  unfold State.updSlot
  exact h0.trans ⟨rfl, SecFlow.refl _⟩

theorem State.setPc_follows {s0 : State} {s : State} {k : Nat} {a : Pc} (h0 : Follows s0 s) :
    Follows s0 (State.setPc s k a) := by
  unfold State.setPc
  exact h0.trans ⟨rfl, SecFlow.refl _⟩

theorem State.updPc_follows {s0 : State} {s : State} {k : Nat} {f : Pc → Pc} (h0 : Follows s0 s) :
    Follows s0 (State.updPc s k f) := by
  unfold State.updPc
  exact h0.trans ⟨rfl, SecFlow.refl _⟩

theorem State.draw_follows {s0 : State} {s : State} (h0 : Follows s0 s) :
    Follows s0 (State.draw s).2 := by
  unfold State.draw
  exact h0.trans ⟨rfl, SecFlow.refl _⟩

theorem State.rmcNow_follows {s0 : State} {s : State} (h0 : Follows s0 s) :
    Follows s0 (State.rmcNow s).2 := by
  unfold State.rmcNow
  exact h0.trans ⟨rfl, SecFlow.refl _⟩

theorem State.sendMsix_follows {s0 : State} {s : State} {p : Fin 4} {v : BitVec 11} (h0 : Follows s0 s) :
    Follows s0 (State.sendMsix s p v) := by
  unfold State.sendMsix
  with_reducible repeat' first | exact h0 | apply State.updHp_follows | apply State.emit_follows | apply Follows.ite

theorem State.ringPost_follows {s0 : State} {s : State} {ev : Event} {p : Fin 4} (h0 : Follows s0 s) :
    Follows s0 (State.ringPost s ev p) := by
  unfold State.ringPost
  with_reducible repeat' first
      | exact h0 | apply State.updHp_follows | apply State.emit_follows | apply State.sendMsix_follows | apply Follows.ite

theorem State.post_follows {s0 : State} {s : State} {code : Nat} {sev : Nat} {path : Nat} {kind : Nat} {index : Nat} {detail : List Nat} (h0 : Follows s0 s) :
    Follows s0 (State.post s code sev path kind index detail) := by
  unfold State.post
  with_reducible repeat' first
      | (intro x) | exact Follows.refl _ | assumption | apply State.rmcNow_follows | apply State.ringPost_follows
      | (apply Follows.lit; first | assumption | exact Follows.refl _ | apply State.rmcNow_follows | apply State.ringPost_follows)
      | refine Follows.of_snd (by assumption) (State.rmcNow_follows ?_) | (apply Follows.foldl; case' h => intro s0 s x hk)

theorem State.entryFault_follows {s0 : State} {s : State} {q : Nat} {reason : Nat} {entry : Nat} {shard : Nat} {code : Nat} (h0 : Follows s0 s) :
    Follows s0 (State.entryFault s q reason entry shard code) := by
  unfold State.entryFault
  with_reducible repeat' first | exact h0 | apply State.updPc_follows | apply State.post_follows

theorem State.shardFault_follows {s0 : State} {s : State} {k : Nat} {code : Nat} (h0 : Follows s0 s) :
    Follows s0 (State.shardFault s k code) := by
  unfold State.shardFault
  with_reducible repeat' first
      | (intro x) | exact Follows.refl _ | assumption | apply State.updSlot_follows | apply State.entryFault_follows
      | (apply Follows.foldl; case' h => intro s0 s x hk) | apply Follows.ite

theorem State.cycleNow_follows {s0 : State} {s : State} {k : Nat} (h0 : Follows s0 s) :
    Follows s0 (State.cycleNow s k).2 := by
  unfold State.cycleNow
  exact h0.trans ⟨rfl, SecFlow.refl _⟩

theorem State.freeBytes_follows {s0 : State} {s : State} {n : Nat} (h0 : Follows s0 s) :
    Follows s0 (State.freeBytes s n).2 := by
  unfold State.freeBytes
  exact h0.trans ⟨rfl, SecFlow.refl _⟩

theorem State.setPan_follows {s0 : State} {s : State} {k : Nat} {a : Pan} (h0 : Follows s0 s) :
    Follows s0 (State.setPan s k a) := by
  unfold State.setPan
  exact h0.trans ⟨rfl, SecFlow.refl _⟩

theorem State.setBay_follows {s0 : State} {s : State} {k : Nat} {a : Bay} (h0 : Follows s0 s) :
    Follows s0 (State.setBay s k a) := by
  unfold State.setBay
  exact h0.trans ⟨rfl, SecFlow.refl _⟩

theorem State.updBay_follows {s0 : State} {s : State} {k : Nat} {f : Bay → Bay} (h0 : Follows s0 s) :
    Follows s0 (State.updBay s k f) := by
  unfold State.updBay
  exact h0.trans ⟨rfl, SecFlow.refl _⟩

theorem State.setStack_follows {s0 : State} {s : State} {k : Nat} {a : Stack} (h0 : Follows s0 s) :
    Follows s0 (State.setStack s k a) := by
  unfold State.setStack
  exact h0.trans ⟨rfl, SecFlow.refl _⟩

theorem State.updStack_follows {s0 : State} {s : State} {k : Nat} {f : Stack → Stack} (h0 : Follows s0 s) :
    Follows s0 (State.updStack s k f) := by
  unfold State.updStack
  exact h0.trans ⟨rfl, SecFlow.refl _⟩

theorem State.trace_follows {s0 : State} {s : State} {k : Nat} {src : Option Nat} {ty : BitVec 8} {slot : BitVec 8} {payload : BitVec 128} (h0 : Follows s0 s) :
    Follows s0 (State.trace s k src ty slot payload) := by
  unfold State.trace
  with_reducible repeat' first
      | exact h0 | apply State.updSite_follows | apply State.cycleNow_follows
      | refine Follows.of_snd (by assumption) (State.cycleNow_follows ?_) | apply Follows.ite

theorem State.updSites_follows {s0 : State} {s : State} {ks : List Nat} {f : Nat → Site → Site} (h0 : Follows s0 s) :
    Follows s0 (State.updSites s ks f) := by
  unfold State.updSites
  with_reducible repeat' first
      | (intro x) | exact Follows.refl _ | assumption | apply State.updSite_follows | (apply Follows.foldl; case' h => intro s0 s x hk)

theorem State.updPan_follows {s0 : State} {s : State} {k : Nat} {f : Pan → Pan} (h0 : Follows s0 s) :
    Follows s0 (State.updPan s k f) := by
  unfold State.updPan
  exact h0.trans ⟨rfl, SecFlow.refl _⟩

theorem State.panForceStop_follows {s0 : State} {s : State} {n : Nat} (h0 : Follows s0 s) :
    Follows s0 (State.panForceStop s n) := by
  unfold State.panForceStop
  with_reducible repeat' first | exact h0 | apply State.updSites_follows | apply State.updPan_follows | apply Follows.ite

theorem State.taskFault_follows {s0 : State} {s : State} {k : Nat} {n : Fin 4} {code : Nat} {command : Bool} {pc : W64} (h0 : Follows s0 s) :
    Follows s0 (State.taskFault s k n code command pc) := by
  unfold State.taskFault
  with_reducible repeat' first
      | exact h0 | apply State.updSite_follows | apply State.shardFault_follows | apply State.trace_follows
      | apply State.panForceStop_follows | apply Follows.ite | split

/-! ## Fence -/

theorem State.updNeighbours_follows {s0 : State} {s : State} {k : Nat} {f : RPort → Site → Site} (h0 : Follows s0 s) :
    Follows s0 (State.updNeighbours s k f) := by
  unfold State.updNeighbours
  with_reducible repeat' first
      | (intro x) | exact Follows.refl _ | assumption | apply State.updSite_follows | (apply Follows.foldl; case' h => intro s0 s x hk)
      | apply Follows.ite | dsimp -zeta only | lift_lets | split

theorem State.unconfigure_follows {s0 : State} {s : State} {which : Nat → Pan → Bool} (h0 : Follows s0 s) :
    Follows s0 (State.unconfigure s which) := by
  unfold State.unconfigure
  with_reducible repeat' first
      | (intro x; refine_lift have hx : Follows s0 x := ?_; ?_; (on_goal 1 => clear_value x); (on_goal 2 => dsimp -zeta only [x]))
      | (intro x; clear_value x) | (intro x) | exact Follows.refl _ | assumption | apply State.updSites_follows
      | (apply Follows.lit; first | assumption | exact Follows.refl _ | apply State.updSites_follows)
      | (apply Follows.foldl; case' h => intro s0 s x hk) | apply Follows.ite | dsimp -zeta only | lift_lets

theorem State.breakLoad_follows {s0 : State} {s : State} {n : Nat} (h0 : Follows s0 s) :
    Follows s0 (State.breakLoad s n) := by
  unfold State.breakLoad
  with_reducible repeat' first | exact h0 | apply State.unconfigure_follows | apply Follows.ite

theorem State.recordFence_follows {s0 : State} {s : State} {no : Nat} (h0 : Follows s0 s) :
    Follows s0 (State.recordFence s no) := by
  unfold State.recordFence
  exact h0.trans ⟨rfl, SecFlow.refl _⟩

theorem State.clockLoss_follows {s0 : State} {s : State} {k : Nat} (h0 : Follows s0 s) :
    Follows s0 (State.clockLoss s k) := by
  unfold State.clockLoss
  with_reducible repeat' first | exact h0 | apply State.updSite_follows | apply State.post_follows

theorem State.clockCheck_follows {s0 : State} {s : State} (h0 : Follows s0 s) :
    Follows s0 (State.clockCheck s) := by
  unfold State.clockCheck
  with_reducible repeat' first
      | (intro x) | exact Follows.refl _ | assumption | apply State.clockLoss_follows | (apply Follows.foldl; case' h => intro s0 s x hk)

theorem State.isolate_follows {s0 : State} {s : State} {k : Nat} (h0 : Follows s0 s) :
    Follows s0 (State.isolate s k) := by
  unfold State.isolate
  with_reducible repeat' first | exact h0 | apply State.updNeighbours_follows

theorem State.fenceSite_follows {s0 : State} {s : State} {k : Nat} (h0 : Follows s0 s) :
    Follows s0 (State.fenceSite s k) := by
  unfold State.fenceSite
  with_reducible repeat' first
      | exact h0 | apply State.updSite_follows | apply State.recordFence_follows | apply State.clockCheck_follows
      | apply State.isolate_follows

theorem State.applyPatches_follows {s0 : State} {s : State} {ps : List Patch} {up : Bool} (h0 : Follows s0 s) :
    Follows s0 (State.applyPatches s ps up) := by
  unfold State.applyPatches
  with_reducible repeat' first
      | (intro x) | exact Follows.refl _ | assumption | apply State.updSite_follows | (apply Follows.foldl; case' h => intro s0 s x hk)

theorem State.queuePromo_follows {s0 : State} {s : State} {n : Nat} {k : Nat} (h0 : Follows s0 s) :
    Follows s0 (State.queuePromo s n k) := by
  unfold State.queuePromo
  exact h0.trans ⟨rfl, SecFlow.refl _⟩

theorem State.failSite_follows {s0 : State} {s : State} {k : Nat} (h0 : Follows s0 s) :
    Follows s0 (State.failSite s k) := by
  unfold State.failSite
  with_reducible repeat' first
      | (intro x; refine_lift have hx : Follows s0 x := ?_; ?_; (on_goal 1 => clear_value x); (on_goal 2 => dsimp -zeta only [x]))
      | (intro x; clear_value x) | (intro x) | exact Follows.refl _ | assumption | apply State.panForceStop_follows
      | apply State.breakLoad_follows | apply State.fenceSite_follows | apply State.applyPatches_follows | apply State.queuePromo_follows
      | apply Follows.ite | dsimp -zeta only | lift_lets | split

theorem State.markDead_follows {s0 : State} {s : State} {no : Nat} (h0 : Follows s0 s) :
    Follows s0 (State.markDead s no) := by
  unfold State.markDead
  exact h0.trans ⟨rfl, SecFlow.refl _⟩

theorem State.postDisagree_follows {s0 : State} {s : State} {kind : Nat} {index : Nat} {alive : Bool} {power : Nat} {hot : Bool} (h0 : Follows s0 s) :
    Follows s0 (State.postDisagree s kind index alive power hot) := by
  unfold State.postDisagree
  with_reducible repeat' first | exact h0 | apply State.post_follows

theorem State.siteDead_follows {s0 : State} {s : State} {k : Nat} (h0 : Follows s0 s) :
    Follows s0 (State.siteDead s k) := by
  unfold State.siteDead
  with_reducible repeat' first | exact h0 | apply State.markDead_follows | apply State.postDisagree_follows | apply Follows.ite

theorem State.hwFault_follows {s0 : State} {s : State} {k : Nat} {n : Fin 4} {code : Nat} {event : Nat} {detail : List Nat} (h0 : Follows s0 s) :
    Follows s0 (State.hwFault s k n code event detail) := by
  unfold State.hwFault
  with_reducible repeat' first
      | exact h0 | apply State.updSite_follows | apply State.post_follows | apply State.failSite_follows | apply State.siteDead_follows
      | apply Follows.ite

theorem State.sramFault_follows {s0 : State} {s : State} {k : Nat} {word : Nat} (h0 : Follows s0 s) :
    Follows s0 (State.sramFault s k word) := by
  unfold State.sramFault
  with_reducible repeat' first | exact h0 | apply State.updSite_follows | apply State.hwFault_follows

theorem State.readChecked_follows {s0 : State} {s : State} {k : Nat} {ranges : List (Nat × Nat)} {f : State → State} (hf : ∀ s0 y0, Follows s0 y0 → Follows s0 (f y0)) (h0 : Follows s0 s) :
    Follows s0 (State.readChecked s k ranges f) := by
  unfold State.readChecked
  with_reducible repeat' first
      | exact h0 | apply State.updSite_follows | apply State.sramFault_follows | apply hf | apply Follows.ite | split

theorem State.readRuns_follows {s0 : State} {s : State} {k : Nat} {ranges : List (Nat × Nat)} {f : State → State} (hf : ∀ s0 y0, Follows s0 y0 → Follows s0 (f y0)) (h0 : Follows s0 s) :
    Follows s0 (State.readRuns s k ranges f) := by
  unfold State.readRuns
  with_reducible repeat' first
      | (intro x; clear_value x) | (intro x) | exact Follows.refl _ | assumption | apply State.updSite_follows
      | apply State.readChecked_follows | apply hf

theorem State.writeChecked_follows {s0 : State} {s : State} {k : Nat} {accs : List WriteRuns} (h0 : Follows s0 s) :
    Follows s0 (State.writeChecked s k accs) := by
  unfold State.writeChecked
  with_reducible repeat' first
      | (intro x; refine_lift have hx : Follows s0 x := ?_; ?_; (on_goal 1 => clear_value x); (on_goal 2 => dsimp -zeta only [x]))
      | (intro x; clear_value x) | (intro x) | exact Follows.refl _ | assumption | apply State.updSite_follows
      | apply State.sramFault_follows | apply Follows.ite | dsimp -zeta only | lift_lets | split

theorem State.writeRun_follows {s0 : State} {s : State} {k : Nat} {addr : Nat} {bs : List Byte} (h0 : Follows s0 s) :
    Follows s0 (State.writeRun s k addr bs) := by
  unfold State.writeRun
  with_reducible repeat' first | exact h0 | apply State.updSite_follows | apply State.writeChecked_follows

theorem State.carryOut_follows {s0 : State} {s : State} {k : Nat} {range : Nat × Nat} {f : State → State} (hf : ∀ s0 y0, Follows s0 y0 → Follows s0 (f y0)) (h0 : Follows s0 s) :
    Follows s0 (State.carryOut s k range f) := by
  unfold State.carryOut
  with_reducible repeat' first | exact h0 | apply State.updSite_follows | apply hf | apply Follows.ite | split

/-! ## Matrix -/

theorem State.latchOps_follows {s0 : State} {s : State} {k : Nat} (h0 : Follows s0 s) :
    Follows s0 (State.latchOps s k) := by
  unfold State.latchOps
  with_reducible repeat' first
      | (intro x; clear_value x) | (intro x) | exact Follows.refl _ | assumption | apply State.updSite_follows
      | apply State.readRuns_follows | apply Follows.ite | dsimp -zeta only | lift_lets | split

theorem State.mxStart_follows {s0 : State} {s : State} {k : Nat} {op : Nat} {may : Site → QEntry → Bool} {run : State → QEntry → State} (hrun : ∀ s0 y0 y1, Follows s0 y0 → Follows s0 (run y0 y1)) (h0 : Follows s0 s) :
    Follows s0 (State.mxStart s k op may run) := by
  unfold State.mxStart
  with_reducible repeat' first
      | (intro x; clear_value x) | (intro x) | exact Follows.refl _ | assumption | apply State.updSite_follows
      | apply State.readChecked_follows | apply State.latchOps_follows | apply hrun | apply Follows.ite | dsimp -zeta only | lift_lets
      | split

theorem execZero_follows {s0 : State} {site : SiteId} {s : State} {t : State} (ht : execZero site s = .next t) (h0 : Follows s0 s) :
    Follows s0 t := by
  unfold execZero at ht; cases ht
  with_reducible repeat' first
      | (intro x; clear_value x) | (intro x) | exact Follows.refl _ | assumption | apply State.updSite_follows | apply State.mxStart_follows

theorem execLdtab_follows {s0 : State} {site : SiteId} {s : State} {t : State} (ht : execLdtab site s = .next t) (h0 : Follows s0 s) :
    Follows s0 t := by
  unfold execLdtab at ht; cases ht
  with_reducible repeat' first
      | (intro x; clear_value x) | (intro x) | exact Follows.refl _ | assumption | apply State.updSite_follows | apply State.mxStart_follows

theorem State.drainEntry_follows {s0 : State} {s : State} {k : Nat} {e : QEntry} {clear : Bool} (h0 : Follows s0 s) :
    Follows s0 (State.drainEntry s k e clear) := by
  unfold State.drainEntry
  with_reducible repeat' first
      | (intro x) | exact Follows.refl _ | assumption | apply State.setSite_follows | apply State.writeChecked_follows

theorem execDrain_follows {s0 : State} {site : SiteId} {s : State} {t : State} (ht : execDrain site s = .next t) (h0 : Follows s0 s) :
    Follows s0 t := by
  unfold execDrain at ht; cases ht
  with_reducible repeat' first
      | (intro x; clear_value x) | (intro x) | exact Follows.refl _ | assumption | apply State.updSite_follows | apply State.mxStart_follows
      | apply State.drainEntry_follows

theorem execMma_follows {s0 : State} {site : SiteId} {s : State} {t : State} (ht : execMma site s = .next t) (h0 : Follows s0 s) :
    Follows s0 t := by
  unfold execMma at ht; cases ht
  with_reducible repeat' first
      | (intro x; clear_value x) | (intro x) | exact Follows.refl _ | assumption | apply State.updSite_follows | apply State.mxStart_follows

theorem execAccDrainStart_follows {s0 : State} {site : SiteId} {s : State} {t : State} (ht : execAccDrainStart site s = .next t) (h0 : Follows s0 s) :
    Follows s0 t := by
  unfold execAccDrainStart at ht; cases ht
  with_reducible repeat' first | exact h0 | apply State.drainEntry_follows | apply Follows.ite | split

/-! ## Vector -/

theorem State.vStart_follows {s0 : State} {s : State} {k : Nat} {op : Nat} {run : Vx → QEntry → Vx} (h0 : Follows s0 s) :
    Follows s0 (State.vStart s k op run) := by
  unfold State.vStart
  with_reducible repeat' first | exact h0 | apply State.updSite_follows | apply Follows.ite | split

theorem execVfma_follows {s0 : State} {core : CoreId} {s : State} {t : State} (ht : execVfma core s = .next t) (h0 : Follows s0 s) :
    Follows s0 t := by
  unfold execVfma at ht; cases ht
  with_reducible repeat' first | exact h0 | apply State.vStart_follows

theorem execPnot_follows {s0 : State} {core : CoreId} {s : State} {t : State} (ht : execPnot core s = .next t) (h0 : Follows s0 s) :
    Follows s0 t := by
  unfold execPnot at ht; cases ht
  with_reducible repeat' first | exact h0 | apply State.vStart_follows

theorem execVadd_follows {s0 : State} {core : CoreId} {s : State} {t : State} (ht : execVadd core s = .next t) (h0 : Follows s0 s) :
    Follows s0 t := by
  unfold execVadd at ht; cases ht
  with_reducible repeat' first | exact h0 | apply State.vStart_follows

theorem execPor_follows {s0 : State} {core : CoreId} {s : State} {t : State} (ht : execPor core s = .next t) (h0 : Follows s0 s) :
    Follows s0 t := by
  unfold execPor at ht; cases ht
  with_reducible repeat' first | exact h0 | apply State.vStart_follows

theorem execVshr_follows {s0 : State} {core : CoreId} {s : State} {t : State} (ht : execVshr core s = .next t) (h0 : Follows s0 s) :
    Follows s0 t := by
  unfold execVshr at ht; cases ht
  with_reducible repeat' first | exact h0 | apply State.vStart_follows

theorem execVabs_follows {s0 : State} {core : CoreId} {s : State} {t : State} (ht : execVabs core s = .next t) (h0 : Follows s0 s) :
    Follows s0 t := by
  unfold execVabs at ht; cases ht
  with_reducible repeat' first | exact h0 | apply State.vStart_follows

theorem execVcmplt_follows {s0 : State} {core : CoreId} {s : State} {t : State} (ht : execVcmplt core s = .next t) (h0 : Follows s0 s) :
    Follows s0 t := by
  unfold execVcmplt at ht; cases ht
  with_reducible repeat' first | exact h0 | apply State.vStart_follows

theorem execVperm_follows {s0 : State} {core : CoreId} {s : State} {t : State} (ht : execVperm core s = .next t) (h0 : Follows s0 s) :
    Follows s0 t := by
  unfold execVperm at ht; cases ht
  with_reducible repeat' first | exact h0 | apply State.vStart_follows

theorem execVmin_follows {s0 : State} {core : CoreId} {s : State} {t : State} (ht : execVmin core s = .next t) (h0 : Follows s0 s) :
    Follows s0 t := by
  unfold execVmin at ht; cases ht
  with_reducible repeat' first | exact h0 | apply State.vStart_follows

theorem execVor_follows {s0 : State} {core : CoreId} {s : State} {t : State} (ht : execVor core s = .next t) (h0 : Follows s0 s) :
    Follows s0 t := by
  unfold execVor at ht; cases ht
  with_reducible repeat' first | exact h0 | apply State.vStart_follows

theorem execVrsqrt_follows {s0 : State} {core : CoreId} {s : State} {t : State} (ht : execVrsqrt core s = .next t) (h0 : Follows s0 s) :
    Follows s0 t := by
  unfold execVrsqrt at ht; cases ht
  with_reducible repeat' first | exact h0 | apply State.vStart_follows

theorem execVbcl_follows {s0 : State} {core : CoreId} {s : State} {t : State} (ht : execVbcl core s = .next t) (h0 : Follows s0 s) :
    Follows s0 t := by
  unfold execVbcl at ht; cases ht
  with_reducible repeat' first | exact h0 | apply State.vStart_follows

theorem execVtest_follows {s0 : State} {core : CoreId} {s : State} {t : State} (ht : execVtest core s = .next t) (h0 : Follows s0 s) :
    Follows s0 t := by
  unfold execVtest at ht; cases ht
  with_reducible repeat' first | exact h0 | apply State.vStart_follows

theorem execVneg_follows {s0 : State} {core : CoreId} {s : State} {t : State} (ht : execVneg core s = .next t) (h0 : Follows s0 s) :
    Follows s0 t := by
  unfold execVneg at ht; cases ht
  with_reducible repeat' first | exact h0 | apply State.vStart_follows

theorem execVmax_follows {s0 : State} {core : CoreId} {s : State} {t : State} (ht : execVmax core s = .next t) (h0 : Follows s0 s) :
    Follows s0 t := by
  unfold execVmax at ht; cases ht
  with_reducible repeat' first | exact h0 | apply State.vStart_follows

theorem execVsetvl_follows {s0 : State} {core : CoreId} {s : State} {t : State} (ht : execVsetvl core s = .next t) (h0 : Follows s0 s) :
    Follows s0 t := by
  unfold execVsetvl at ht; cases ht
  with_reducible repeat' first | exact h0 | apply State.vStart_follows

theorem execVlog2_follows {s0 : State} {core : CoreId} {s : State} {t : State} (ht : execVlog2 core s = .next t) (h0 : Follows s0 s) :
    Follows s0 t := by
  unfold execVlog2 at ht; cases ht
  with_reducible repeat' first | exact h0 | apply State.vStart_follows

theorem execVcvt_follows {s0 : State} {core : CoreId} {s : State} {t : State} (ht : execVcvt core s = .next t) (h0 : Follows s0 s) :
    Follows s0 t := by
  unfold execVcvt at ht; cases ht
  with_reducible repeat' first | exact h0 | apply State.vStart_follows

theorem execVcmpgt_follows {s0 : State} {core : CoreId} {s : State} {t : State} (ht : execVcmpgt core s = .next t) (h0 : Follows s0 s) :
    Follows s0 t := by
  unfold execVcmpgt at ht; cases ht
  with_reducible repeat' first | exact h0 | apply State.vStart_follows

theorem execVand_follows {s0 : State} {core : CoreId} {s : State} {t : State} (ht : execVand core s = .next t) (h0 : Follows s0 s) :
    Follows s0 t := by
  unfold execVand at ht; cases ht
  with_reducible repeat' first | exact h0 | apply State.vStart_follows

theorem execVxor_follows {s0 : State} {core : CoreId} {s : State} {t : State} (ht : execVxor core s = .next t) (h0 : Follows s0 s) :
    Follows s0 t := by
  unfold execVxor at ht; cases ht
  with_reducible repeat' first | exact h0 | apply State.vStart_follows

theorem execVrot_follows {s0 : State} {core : CoreId} {s : State} {t : State} (ht : execVrot core s = .next t) (h0 : Follows s0 s) :
    Follows s0 t := by
  unfold execVrot at ht; cases ht
  with_reducible repeat' first | exact h0 | apply State.vStart_follows

theorem execPclrl_follows {s0 : State} {core : CoreId} {s : State} {t : State} (ht : execPclrl core s = .next t) (h0 : Follows s0 s) :
    Follows s0 t := by
  unfold execPclrl at ht; cases ht
  with_reducible repeat' first | exact h0 | apply State.vStart_follows

theorem execVshl_follows {s0 : State} {core : CoreId} {s : State} {t : State} (ht : execVshl core s = .next t) (h0 : Follows s0 s) :
    Follows s0 t := by
  unfold execVshl at ht; cases ht
  with_reducible repeat' first | exact h0 | apply State.vStart_follows

theorem execVcmpeq_follows {s0 : State} {core : CoreId} {s : State} {t : State} (ht : execVcmpeq core s = .next t) (h0 : Follows s0 s) :
    Follows s0 t := by
  unfold execVcmpeq at ht; cases ht
  with_reducible repeat' first | exact h0 | apply State.vStart_follows

theorem execVred_follows {s0 : State} {core : CoreId} {s : State} {t : State} (ht : execVred core s = .next t) (h0 : Follows s0 s) :
    Follows s0 t := by
  unfold execVred at ht; cases ht
  with_reducible repeat' first | exact h0 | apply State.vStart_follows

theorem execVrcp_follows {s0 : State} {core : CoreId} {s : State} {t : State} (ht : execVrcp core s = .next t) (h0 : Follows s0 s) :
    Follows s0 t := by
  unfold execVrcp at ht; cases ht
  with_reducible repeat' first | exact h0 | apply State.vStart_follows

theorem execVcmple_follows {s0 : State} {core : CoreId} {s : State} {t : State} (ht : execVcmple core s = .next t) (h0 : Follows s0 s) :
    Follows s0 t := by
  unfold execVcmple at ht; cases ht
  with_reducible repeat' first | exact h0 | apply State.vStart_follows

theorem execVcmpun_follows {s0 : State} {core : CoreId} {s : State} {t : State} (ht : execVcmpun core s = .next t) (h0 : Follows s0 s) :
    Follows s0 t := by
  unfold execVcmpun at ht; cases ht
  with_reducible repeat' first | exact h0 | apply State.vStart_follows

theorem execVsel_follows {s0 : State} {core : CoreId} {s : State} {t : State} (ht : execVsel core s = .next t) (h0 : Follows s0 s) :
    Follows s0 t := by
  unfold execVsel at ht; cases ht
  with_reducible repeat' first | exact h0 | apply State.vStart_follows

theorem execVexp2_follows {s0 : State} {core : CoreId} {s : State} {t : State} (ht : execVexp2 core s = .next t) (h0 : Follows s0 s) :
    Follows s0 t := by
  unfold execVexp2 at ht; cases ht
  with_reducible repeat' first | exact h0 | apply State.vStart_follows

theorem execPsetl_follows {s0 : State} {core : CoreId} {s : State} {t : State} (ht : execPsetl core s = .next t) (h0 : Follows s0 s) :
    Follows s0 t := by
  unfold execPsetl at ht; cases ht
  with_reducible repeat' first | exact h0 | apply State.vStart_follows

theorem execVmov_follows {s0 : State} {core : CoreId} {s : State} {t : State} (ht : execVmov core s = .next t) (h0 : Follows s0 s) :
    Follows s0 t := by
  unfold execVmov at ht; cases ht
  with_reducible repeat' first | exact h0 | apply State.vStart_follows

theorem execPfill_follows {s0 : State} {core : CoreId} {s : State} {t : State} (ht : execPfill core s = .next t) (h0 : Follows s0 s) :
    Follows s0 t := by
  unfold execPfill at ht; cases ht
  with_reducible repeat' first | exact h0 | apply State.vStart_follows

theorem execVmul_follows {s0 : State} {core : CoreId} {s : State} {t : State} (ht : execVmul core s = .next t) (h0 : Follows s0 s) :
    Follows s0 t := by
  unfold execVmul at ht; cases ht
  with_reducible repeat' first | exact h0 | apply State.vStart_follows

theorem execPand_follows {s0 : State} {core : CoreId} {s : State} {t : State} (ht : execPand core s = .next t) (h0 : Follows s0 s) :
    Follows s0 t := by
  unfold execPand at ht; cases ht
  with_reducible repeat' first | exact h0 | apply State.vStart_follows

theorem execVcmpne_follows {s0 : State} {core : CoreId} {s : State} {t : State} (ht : execVcmpne core s = .next t) (h0 : Follows s0 s) :
    Follows s0 t := by
  unfold execVcmpne at ht; cases ht
  with_reducible repeat' first | exact h0 | apply State.vStart_follows

theorem execVsar_follows {s0 : State} {core : CoreId} {s : State} {t : State} (ht : execVsar core s = .next t) (h0 : Follows s0 s) :
    Follows s0 t := by
  unfold execVsar at ht; cases ht
  with_reducible repeat' first | exact h0 | apply State.vStart_follows

theorem execVcmpge_follows {s0 : State} {core : CoreId} {s : State} {t : State} (ht : execVcmpge core s = .next t) (h0 : Follows s0 s) :
    Follows s0 t := by
  unfold execVcmpge at ht; cases ht
  with_reducible repeat' first | exact h0 | apply State.vStart_follows

theorem execPtest_follows {s0 : State} {core : CoreId} {s : State} {t : State} (ht : execPtest core s = .next t) (h0 : Follows s0 s) :
    Follows s0 t := by
  unfold execPtest at ht; cases ht
  with_reducible repeat' first | exact h0 | apply State.vStart_follows

theorem execVnop_follows {s0 : State} {core : CoreId} {s : State} {t : State} (ht : execVnop core s = .next t) (h0 : Follows s0 s) :
    Follows s0 t := by
  unfold execVnop at ht; cases ht
  with_reducible repeat' first | exact h0 | apply State.vStart_follows

theorem execPxor_follows {s0 : State} {core : CoreId} {s : State} {t : State} (ht : execPxor core s = .next t) (h0 : Follows s0 s) :
    Follows s0 t := by
  unfold execPxor at ht; cases ht
  with_reducible repeat' first | exact h0 | apply State.vStart_follows

theorem execVsub_follows {s0 : State} {core : CoreId} {s : State} {t : State} (ht : execVsub core s = .next t) (h0 : Follows s0 s) :
    Follows s0 t := by
  unfold execVsub at ht; cases ht
  with_reducible repeat' first | exact h0 | apply State.vStart_follows

/-! ## VecMem -/

theorem State.vmStart_follows {s0 : State} {s : State} {k : Nat} {op : Nat} {run : Site → QEntry → Site × List WriteRuns} (h0 : Follows s0 s) :
    Follows s0 (State.vmStart s k op run) := by
  unfold State.vmStart
  with_reducible repeat' first
      | (intro x; clear_value x) | (intro x) | exact Follows.refl _ | assumption | apply State.setSite_follows
      | apply State.readChecked_follows | apply State.writeChecked_follows | apply Follows.ite | dsimp -zeta only | lift_lets | split

theorem execTopt_follows {s0 : State} {core : CoreId} {s : State} {t : State} (ht : execTopt core s = .next t) (h0 : Follows s0 s) :
    Follows s0 t := by
  unfold execTopt at ht; cases ht
  with_reducible repeat' first | exact h0 | apply State.vmStart_follows

theorem execVst_follows {s0 : State} {core : CoreId} {s : State} {t : State} (ht : execVst core s = .next t) (h0 : Follows s0 s) :
    Follows s0 t := by
  unfold execVst at ht; cases ht
  with_reducible repeat' first | exact h0 | apply State.vmStart_follows

theorem execPst_follows {s0 : State} {core : CoreId} {s : State} {t : State} (ht : execPst core s = .next t) (h0 : Follows s0 s) :
    Follows s0 t := by
  unfold execPst at ht; cases ht
  with_reducible repeat' first | exact h0 | apply State.vmStart_follows

theorem execTcopy_follows {s0 : State} {core : CoreId} {s : State} {t : State} (ht : execTcopy core s = .next t) (h0 : Follows s0 s) :
    Follows s0 t := by
  unfold execTcopy at ht; cases ht
  with_reducible repeat' first | exact h0 | apply State.vmStart_follows

theorem execTopv_follows {s0 : State} {core : CoreId} {s : State} {t : State} (ht : execTopv core s = .next t) (h0 : Follows s0 s) :
    Follows s0 t := by
  unfold execTopv at ht; cases ht
  with_reducible repeat' first | exact h0 | apply State.vmStart_follows

theorem execTred_follows {s0 : State} {core : CoreId} {s : State} {t : State} (ht : execTred core s = .next t) (h0 : Follows s0 s) :
    Follows s0 t := by
  unfold execTred at ht; cases ht
  with_reducible repeat' first | exact h0 | apply State.vmStart_follows

theorem execVld_follows {s0 : State} {core : CoreId} {s : State} {t : State} (ht : execVld core s = .next t) (h0 : Follows s0 s) :
    Follows s0 t := by
  unfold execVld at ht; cases ht
  with_reducible repeat' first | exact h0 | apply State.vmStart_follows

theorem execPld_follows {s0 : State} {core : CoreId} {s : State} {t : State} (ht : execPld core s = .next t) (h0 : Follows s0 s) :
    Follows s0 t := by
  unfold execPld at ht; cases ht
  with_reducible repeat' first | exact h0 | apply State.vmStart_follows

theorem execTzero_follows {s0 : State} {core : CoreId} {s : State} {t : State} (ht : execTzero core s = .next t) (h0 : Follows s0 s) :
    Follows s0 t := by
  unfold execTzero at ht; cases ht
  with_reducible repeat' first | exact h0 | apply State.vmStart_follows

theorem execVst4_follows {s0 : State} {core : CoreId} {s : State} {t : State} (ht : execVst4 core s = .next t) (h0 : Follows s0 s) :
    Follows s0 t := by
  unfold execVst4 at ht; cases ht
  with_reducible repeat' first | exact h0 | apply State.vmStart_follows

theorem execTld_follows {s0 : State} {core : CoreId} {s : State} {t : State} (ht : execTld core s = .next t) (h0 : Follows s0 s) :
    Follows s0 t := by
  unfold execTld at ht; cases ht
  with_reducible repeat' first | exact h0 | apply State.vmStart_follows

theorem execTget_follows {s0 : State} {core : CoreId} {s : State} {t : State} (ht : execTget core s = .next t) (h0 : Follows s0 s) :
    Follows s0 t := by
  unfold execTget at ht; cases ht
  with_reducible repeat' first | exact h0 | apply State.vmStart_follows

theorem execTput_follows {s0 : State} {core : CoreId} {s : State} {t : State} (ht : execTput core s = .next t) (h0 : Follows s0 s) :
    Follows s0 t := by
  unfold execTput at ht; cases ht
  with_reducible repeat' first | exact h0 | apply State.vmStart_follows

theorem execTst_follows {s0 : State} {core : CoreId} {s : State} {t : State} (ht : execTst core s = .next t) (h0 : Follows s0 s) :
    Follows s0 t := by
  unfold execTst at ht; cases ht
  with_reducible repeat' first | exact h0 | apply State.vmStart_follows

theorem execTmaskz_follows {s0 : State} {core : CoreId} {s : State} {t : State} (ht : execTmaskz core s = .next t) (h0 : Follows s0 s) :
    Follows s0 t := by
  unfold execTmaskz at ht; cases ht
  with_reducible repeat' first | exact h0 | apply State.vmStart_follows

/-! ## Fabric -/

theorem State.updRouter_follows {s0 : State} {s : State} {k : Nat} {f : Router → Router} (h0 : Follows s0 s) :
    Follows s0 (State.updRouter s k f) := by
  unfold State.updRouter
  exact h0.trans ⟨rfl, SecFlow.refl _⟩

theorem State.unroll_follows {s0 : State} {s : State} {k : Nat} {inPort : RPort} {o : RPort} {p : Packet} (h0 : Follows s0 s) :
    Follows s0 (State.unroll s k inPort o p) := by
  unfold State.unroll
  exact h0.trans ⟨rfl, SecFlow.refl _⟩

theorem State.discardBlocked_follows {s0 : State} {s : State} {k : Nat} {inPort : RPort} {p : Packet} (h0 : Follows s0 s) :
    Follows s0 (State.discardBlocked s k inPort p) := by
  unfold State.discardBlocked
  with_reducible repeat' first | exact h0 | apply State.updSite_follows | apply Follows.ite | split

theorem State.shed_follows {s0 : State} {s : State} {k : Nat} {o : RPort} {inPort : RPort} {key : Nat} {p : Packet} (h0 : Follows s0 s) :
    Follows s0 (State.shed s k o inPort key p) := by
  unfold State.shed
  with_reducible repeat' first
      | exact h0 | apply State.updRouter_follows | apply State.unroll_follows | apply State.discardBlocked_follows | apply Follows.ite

theorem State.inject_follows {s0 : State} {s : State} {k : Nat} {port : RPort} {p : Packet} (h0 : Follows s0 s) :
    Follows s0 (State.inject s k port p) := by
  unfold State.inject
  exact h0.trans ⟨rfl, SecFlow.refl _⟩

theorem State.deliver_follows {s0 : State} {s : State} {k : Nat} {o : RPort} {p : Packet} (h0 : Follows s0 s) :
    Follows s0 (State.deliver s k o p) := by
  unfold State.deliver
  with_reducible repeat' first
      | exact h0 | apply State.updHp_follows | apply State.updSite_follows | apply State.updPc_follows | apply State.updBay_follows
      | apply State.updStack_follows | apply Follows.ite | split

theorem State.sendOut_follows {s0 : State} {s : State} {k : Nat} {o : RPort} {inPort : RPort} {key : Nat} (h0 : Follows s0 s) :
    Follows s0 (State.sendOut s k o inPort key) := by
  unfold State.sendOut
  with_reducible repeat' first
      | exact h0 | apply State.updRouter_follows | apply State.inject_follows | apply State.deliver_follows | apply Follows.ite | split

theorem State.seamSent_follows {s0 : State} {s : State} {k : Nat} {o : RPort} (h0 : Follows s0 s) :
    Follows s0 (State.seamSent s k o) := by
  unfold State.seamSent
  with_reducible repeat' first | exact h0 | apply State.updRouter_follows | apply Follows.ite | split

theorem State.grant_follows {s0 : State} {s : State} {k : Nat} {o : RPort} (h0 : Follows s0 s) :
    Follows s0 (State.grant s k o) := by
  unfold State.grant
  with_reducible repeat' first
      | (intro x; refine_lift have hx : Follows s0 x := ?_; ?_; (on_goal 1 => clear_value x); (on_goal 2 => dsimp -zeta only [x]))
      | (intro x; clear_value x) | (intro x) | exact Follows.refl _ | assumption | apply State.updRouter_follows | apply State.shed_follows
      | apply State.sendOut_follows | apply State.seamSent_follows | apply Follows.ite | dsimp -zeta only | lift_lets | split

theorem execRouterAgeGrant_follows {s0 : State} {site : SiteId} {out : RPort} {inPort : RPort} {cls : TClass} {lane : Fin 2} {s : State} {t : State} (ht : execRouterAgeGrant site out inPort cls lane s = .next t) (h0 : Follows s0 s) :
    Follows s0 t := by
  unfold execRouterAgeGrant at ht; cases ht
  with_reducible repeat' first | exact h0 | apply State.updRouter_follows | apply State.grant_follows | apply Follows.ite

theorem execDsetFork_follows {s0 s t : State} {site : SiteId} {inPort : RPort} {lane : Fin 2} (ht : execDsetFork site inPort lane s = .next t)
    (h0 : Follows s0 s) : Follows s0 t := by
  unfold execDsetFork at ht
  extract_lets k key at ht
  injection ht with ht
  subst ht
  split
  · exact h0
  · refine Follows.ite h0 ?_
    exact Follows.foldl (State.updRouter_follows h0) (fun _ _ _ h => State.unroll_follows h)


theorem execRouterForward_follows {s0 : State} {site : SiteId} {inPort : RPort} {cls : TClass} {lane : Fin 2} {s : State} {t : State} (ht : execRouterForward site inPort cls lane s = .next t) (h0 : Follows s0 s) :
    Follows s0 t := by
  unfold execRouterForward at ht; cases ht
  with_reducible repeat' first | exact h0 | apply State.updRouter_follows | apply State.discardBlocked_follows | apply Follows.ite | split

theorem execSeamLinkRetry_follows {s0 : State} {_site : SiteId} {_port : RPort} {s : State} {t : State} (ht : execSeamLinkRetry _site _port s = .next t) (h0 : Follows s0 s) :
    Follows s0 t := by
  unfold execSeamLinkRetry at ht; cases ht
  exact h0.trans ⟨rfl, SecFlow.refl _⟩

theorem execCombineHoldExpire_follows {s0 : State} {site : SiteId} {inPort : RPort} {lane : Fin 2} {s : State} {t : State} (ht : execCombineHoldExpire site inPort lane s = .next t) (h0 : Follows s0 s) :
    Follows s0 t := by
  unfold execCombineHoldExpire at ht; cases ht
  exact h0.trans ⟨rfl, SecFlow.refl _⟩

theorem execOutputGrant_follows {s0 : State} {site : SiteId} {out : RPort} {s : State} {t : State} (ht : execOutputGrant site out s = .next t) (h0 : Follows s0 s) :
    Follows s0 t := by
  unfold execOutputGrant at ht; cases ht
  with_reducible repeat' first | exact h0 | apply State.grant_follows

theorem State.sendStack_follows {s0 : State} {s : State} {r : Nat} {p : Packet} (h0 : Follows s0 s) :
    Follows s0 (State.sendStack s r p) := by
  unfold State.sendStack
  exact h0.trans ⟨rfl, SecFlow.refl _⟩

theorem State.sendService_follows {s0 : State} {s : State} {v : Service} {p : Packet} (h0 : Follows s0 s) :
    Follows s0 (State.sendService s v p) := by
  unfold State.sendService
  exact h0.trans ⟨rfl, SecFlow.refl _⟩

theorem execCreditReturn_follows {s0 : State} {site : SiteId} {port : RPort} {cls : TClass} {lane : Fin 2} {s : State} {t : State} (ht : execCreditReturn site port cls lane s = .next t) (h0 : Follows s0 s) :
    Follows s0 t := by
  unfold execCreditReturn at ht; cases ht
  with_reducible repeat' first | exact h0 | apply State.updRouter_follows | apply Follows.ite | split

theorem State.sendFrom_follows {s0 : State} {s : State} {k : Nat} {p : Packet} (h0 : Follows s0 s) :
    Follows s0 (State.sendFrom s k p) := by
  unfold State.sendFrom
  with_reducible repeat' first | exact h0 | apply State.inject_follows | apply Follows.ite

theorem execLivenessSend_follows {s0 : State} {site : SiteId} {s : State} {t : State} (ht : execLivenessSend site s = .next t) (h0 : Follows s0 s) :
    Follows s0 t := by
  unfold execLivenessSend at ht; cases ht
  with_reducible repeat' first | exact h0 | apply State.updNeighbours_follows | apply Follows.ite

/-! ## Tempo -/

theorem State.panRefuse_follows {s0 : State} {s : State} {n : Nat} (h0 : Follows s0 s) :
    Follows s0 (State.panRefuse s n) := by
  unfold State.panRefuse
  exact h0.trans ⟨rfl, SecFlow.refl _⟩

theorem execPanForce_follows {s0 : State} {pan : Fin 1024} {s : State} {t : State} (ht : execPanForce pan s = .next t) (h0 : Follows s0 s) :
    Follows s0 t := by
  unfold execPanForce at ht; cases ht
  with_reducible repeat' first | exact h0 | apply State.panForceStop_follows | apply State.panRefuse_follows | apply Follows.ite

theorem execTempoStopArm_follows {s0 : State} {site : SiteId} {s : State} {t : State} (ht : execTempoStopArm site s = .next t) (h0 : Follows s0 s) :
    Follows s0 t := by
  unfold execTempoStopArm at ht; cases ht
  with_reducible repeat' first | exact h0 | apply State.updSite_follows | apply Follows.ite

theorem State.advance_follows {s0 : State} {s : State} {k : Nat} (h0 : Follows s0 s) :
    Follows s0 (State.advance s k) := by
  unfold State.advance
  with_reducible repeat' first | exact h0 | apply State.updSite_follows | apply State.trace_follows

theorem State.panStop_follows {s0 : State} {s : State} {n : Nat} (h0 : Follows s0 s) :
    Follows s0 (State.panStop s n) := by
  unfold State.panStop
  exact h0.trans ⟨rfl, SecFlow.refl _⟩

theorem execPanStop_follows {s0 : State} {pan : Fin 1024} {s : State} {t : State} (ht : execPanStop pan s = .next t) (h0 : Follows s0 s) :
    Follows s0 t := by
  unfold execPanStop at ht; cases ht
  with_reducible repeat' first | exact h0 | apply State.panRefuse_follows | apply State.panStop_follows | apply Follows.ite

theorem State.panStart_follows {s0 : State} {s : State} {n : Nat} (h0 : Follows s0 s) :
    Follows s0 (State.panStart s n) := by
  unfold State.panStart
  with_reducible repeat' first
      | (intro x) | exact Follows.refl _ | assumption | apply State.updSite_follows | apply State.updPan_follows
      | apply State.advance_follows | (apply Follows.foldl; case' h => intro s0 s x hk) | apply Follows.ite

theorem execPanRun_follows {s0 : State} {pan : Fin 1024} {s : State} {t : State} (ht : execPanRun pan s = .next t) (h0 : Follows s0 s) :
    Follows s0 t := by
  unfold execPanRun at ht; cases ht
  with_reducible repeat' first | exact h0 | apply State.panRefuse_follows | apply State.panStart_follows | apply Follows.ite

theorem execTempoAdvance_follows {s0 : State} {site : SiteId} {s : State} {t : State} (ht : execTempoAdvance site s = .next t) (h0 : Follows s0 s) :
    Follows s0 t := by
  unfold execTempoAdvance at ht; cases ht
  with_reducible repeat' first | exact h0 | apply State.updSite_follows | apply State.advance_follows | apply Follows.ite

theorem execPanStopped_follows {s0 : State} {pan : Fin 1024} {s : State} {t : State} (ht : execPanStopped pan s = .next t) (h0 : Follows s0 s) :
    Follows s0 t := by
  unfold execPanStopped at ht; cases ht
  with_reducible repeat' first | exact h0 | apply State.updPan_follows | apply Follows.ite

theorem execPanForcedStop_follows {s0 : State} {pan : Fin 1024} {s : State} {t : State} (ht : execPanForcedStop pan s = .next t) (h0 : Follows s0 s) :
    Follows s0 t := by
  unfold execPanForcedStop at ht; cases ht
  with_reducible repeat' first | exact h0 | apply State.panForceStop_follows | apply Follows.ite

theorem execTempoWrite_follows {s0 : State} {site : SiteId} {value : W32} {s : State} {t : State} (ht : execTempoWrite site value s = .next t) (h0 : Follows s0 s) :
    Follows s0 t := by
  unfold execTempoWrite at ht; cases ht
  exact h0.trans ⟨rfl, SecFlow.refl _⟩

theorem execPanStopTarget_follows {s0 : State} {pan : Fin 1024} {s : State} {t : State} (ht : execPanStopTarget pan s = .next t) (h0 : Follows s0 s) :
    Follows s0 t := by
  unfold execPanStopTarget at ht; cases ht
  with_reducible repeat' first | exact h0 | apply State.updPan_follows | apply Follows.ite

theorem execTempoTargetArrive_follows {s0 : State} {site : SiteId} {s : State} {t : State} (ht : execTempoTargetArrive site s = .next t) (h0 : Follows s0 s) :
    Follows s0 t := by
  unfold execTempoTargetArrive at ht; cases ht
  with_reducible repeat' first | exact h0 | apply State.updSite_follows | apply Follows.ite | split

theorem execTempoEnd_follows {s0 : State} {site : SiteId} {slots : BitVec 4} {s : State} {t : State} (ht : execTempoEnd site slots s = .next t) (h0 : Follows s0 s) :
    Follows s0 t := by
  unfold execTempoEnd at ht; cases ht
  exact h0.trans ⟨rfl, SecFlow.refl _⟩

/-! ## Hbm -/

theorem State.noteStackUe_follows {s0 : State} {s : State} {st : Nat} {line : Nat} (h0 : Follows s0 s) :
    Follows s0 (State.noteStackUe s st line) := by
  unfold State.noteStackUe
  with_reducible repeat' first | exact h0 | apply State.post_follows | apply State.updStack_follows

theorem State.readLines_follows {s0 : State} {s : State} {st : Nat} {off : Nat} {len : Nat} {named : List Nat} (h0 : Follows s0 s) :
    Follows s0 (State.readLines s st off len named).1 := by
  unfold State.readLines
  with_reducible repeat' first
      | (intro x) | exact Follows.refl _ | assumption | apply State.updStack_follows | apply State.noteStackUe_follows
      | (apply Follows.foldl; case' h => intro s0 s x hk)

theorem State.readStack_follows {s0 : State} {s : State} {st : Nat} {off : Nat} {len : Nat} (h0 : Follows s0 s) :
    Follows s0 (State.readStack s st off len).1 := by
  unfold State.readStack
  with_reducible repeat' first | exact h0 | apply State.readLines_follows

theorem State.sendBlock_follows {s0 : State} {s : State} {st : Nat} {block : Nat} {ms : List Member} {bs : List Byte} {bad : Bool} (h0 : Follows s0 s) :
    Follows s0 (State.sendBlock s st block ms bs bad) := by
  unfold State.sendBlock
  with_reducible repeat' first
      | (intro x) | exact Follows.refl _ | assumption | apply State.sendStack_follows | (apply Follows.foldl; case' h => intro s0 s x hk)

theorem State.poisonJob_follows {s0 : State} {s : State} {st : Nat} {j : StackJob} (h0 : Follows s0 s) :
    Follows s0 (State.poisonJob s st j) := by
  unfold State.poisonJob
  with_reducible repeat' first | exact h0 | apply State.sendStack_follows | apply State.sendBlock_follows | apply Follows.ite | split

theorem State.runJob_follows {s0 : State} {s : State} {st : Nat} {j : StackJob} (h0 : Follows s0 s) :
    Follows s0 (State.runJob s st j) := by
  unfold State.runJob
  with_reducible repeat' first
      | exact h0 | apply State.updStack_follows | apply State.sendStack_follows | apply State.readLines_follows
      | apply State.readStack_follows | apply State.sendBlock_follows | apply State.poisonJob_follows
      | refine Follows.of_fst (by assumption) (State.readLines_follows ?_)
      | refine Follows.of_fst (by assumption) (State.readStack_follows ?_) | apply Follows.ite | split

theorem State.stepJobs_follows {s0 : State} {s : State} {st : Nat} (h0 : Follows s0 s) :
    Follows s0 (State.stepJobs s st) := by
  unfold State.stepJobs
  with_reducible repeat' first | exact h0 | apply State.updStack_follows | apply State.runJob_follows | apply Follows.ite | split

theorem State.flushJobs_follows {s0 : State} {s : State} {st : Nat} (h0 : Follows s0 s) :
    Follows s0 (State.flushJobs s st) := by
  unfold State.flushJobs
  with_reducible repeat' first
      | (intro x) | exact Follows.refl _ | assumption | apply State.stepJobs_follows | (apply Follows.foldl; case' h => intro s0 s x hk)

theorem State.rmcStackOn_follows {s0 : State} {s : State} {st : Nat} (h0 : Follows s0 s) :
    Follows s0 (State.rmcStackOn s st) := by
  unfold State.rmcStackOn
  with_reducible repeat' first | exact h0 | apply State.updStack_follows | apply Follows.ite

theorem execRmcStackOnRequest_follows {s0 : State} {stack : Fin 192} {s : State} {t : State} (ht : execRmcStackOnRequest stack s = .next t) (h0 : Follows s0 s) :
    Follows s0 t := by
  unfold execRmcStackOnRequest at ht; cases ht
  with_reducible repeat' first | exact h0 | apply State.rmcStackOn_follows

theorem State.closeEntry_follows {s0 : State} {s : State} {st : Nat} {block : Nat} (h0 : Follows s0 s) :
    Follows s0 (State.closeEntry s st block) := by
  unfold State.closeEntry
  exact h0.trans ⟨rfl, SecFlow.refl _⟩

theorem execMergeClose_follows {s0 : State} {stack : Fin 192} {block : Nat} {s : State} {t : State} (ht : execMergeClose stack block s = .next t) (h0 : Follows s0 s) :
    Follows s0 t := by
  unfold execMergeClose at ht; cases ht
  with_reducible repeat' first | exact h0 | apply State.closeEntry_follows | apply Follows.ite

theorem State.powerRequest_follows {s0 : State} {s : State} {st : Nat} {whole : Bool} {bank : Fin 8} {target : BankState} (h0 : Follows s0 s) :
    Follows s0 (State.powerRequest s st whole bank target) := by
  unfold State.powerRequest
  exact h0.trans ⟨rfl, SecFlow.refl _⟩

theorem execHbmPwrOff_follows {s0 : State} {stack : Fin 192} {whole : Bool} {bank : Fin 8} {s : State} {t : State} (ht : execHbmPwrOff stack whole bank s = .next t) (h0 : Follows s0 s) :
    Follows s0 t := by
  unfold execHbmPwrOff at ht; cases ht
  with_reducible repeat' first | exact h0 | apply State.powerRequest_follows | apply Follows.ite

theorem State.answerDark_follows {s0 : State} {s : State} {st : Nat} {p : Packet} (h0 : Follows s0 s) :
    Follows s0 (State.answerDark s st p) := by
  unfold State.answerDark
  exact h0.trans ⟨rfl, SecFlow.refl _⟩

theorem State.answerUnpop_follows {s0 : State} {s : State} {st : Nat} {p : Packet} {a : Packet} (h0 : Follows s0 s) :
    Follows s0 (State.answerUnpop s st p a) := by
  unfold State.answerUnpop
  exact h0.trans ⟨rfl, SecFlow.refl _⟩

theorem State.closeBlock_follows {s0 : State} {s : State} {st : Nat} {block : Nat} (h0 : Follows s0 s) :
    Follows s0 (State.closeBlock s st block) := by
  unfold State.closeBlock
  exact h0.trans ⟨rfl, SecFlow.refl _⟩

theorem State.applyAtomic_follows {s0 : State} {s : State} {st : Nat} {line : Nat} {aop : Nat} {operand : List Byte} (h0 : Follows s0 s) :
    Follows s0 (State.applyAtomic s st line aop operand).1 := by
  unfold State.applyAtomic
  with_reducible repeat' first
      | exact h0 | apply State.updStack_follows | apply State.readStack_follows | apply State.flushJobs_follows
      | apply State.closeBlock_follows

theorem State.atomicReq_follows {s0 : State} {s : State} {stack : Fin 192} {aop : Nat} {p : Packet} (h0 : Follows s0 s) :
    Follows s0 (State.atomicReq s stack aop p) := by
  unfold State.atomicReq
  with_reducible repeat' first
      | exact h0 | apply State.updStack_follows | apply State.sendStack_follows | apply State.answerDark_follows
      | apply State.answerUnpop_follows | apply State.applyAtomic_follows
      | refine Follows.of_fst (by assumption) (State.applyAtomic_follows ?_) | apply Follows.ite

theorem execSwap_follows {s0 : State} {stack : Fin 192} {p : Packet} {s : State} {t : State} (ht : execSwap stack p s = .next t) (h0 : Follows s0 s) :
    Follows s0 t := by
  unfold execSwap at ht; cases ht
  with_reducible repeat' first | exact h0 | apply State.atomicReq_follows

theorem execHbmPwrRetain_follows {s0 : State} {stack : Fin 192} {whole : Bool} {bank : Fin 8} {s : State} {t : State} (ht : execHbmPwrRetain stack whole bank s = .next t) (h0 : Follows s0 s) :
    Follows s0 t := by
  unfold execHbmPwrRetain at ht; cases ht
  with_reducible repeat' first | exact h0 | apply State.powerRequest_follows | apply Follows.ite

theorem execMaxI32_follows {s0 : State} {stack : Fin 192} {p : Packet} {s : State} {t : State} (ht : execMaxI32 stack p s = .next t) (h0 : Follows s0 s) :
    Follows s0 t := by
  unfold execMaxI32 at ht; cases ht
  with_reducible repeat' first | exact h0 | apply State.atomicReq_follows

theorem execHbmWrite_follows {s0 : State} {stack : Fin 192} {p : Packet} {s : State} {t : State} (ht : execHbmWrite stack p s = .next t) (h0 : Follows s0 s) :
    Follows s0 t := by
  unfold execHbmWrite at ht; cases ht
  with_reducible repeat' first
      | exact h0 | apply State.updStack_follows | apply State.sendStack_follows | apply State.answerDark_follows
      | apply State.answerUnpop_follows | apply State.closeBlock_follows | apply Follows.ite

theorem execStackInitDone_follows {s0 : State} {stack : Fin 192} {s : State} {t : State} (ht : execStackInitDone stack s = .next t) (h0 : Follows s0 s) :
    Follows s0 t := by
  unfold execStackInitDone at ht; cases ht
  with_reducible repeat' first | exact h0 | apply State.updStack_follows | apply Follows.ite

theorem execAddI32_follows {s0 : State} {stack : Fin 192} {p : Packet} {s : State} {t : State} (ht : execAddI32 stack p s = .next t) (h0 : Follows s0 s) :
    Follows s0 t := by
  unfold execAddI32 at ht; cases ht
  with_reducible repeat' first | exact h0 | apply State.atomicReq_follows

theorem State.closeBank_follows {s0 : State} {s : State} {st : Nat} {b : Fin 8} (h0 : Follows s0 s) :
    Follows s0 (State.closeBank s st b) := by
  unfold State.closeBank
  with_reducible repeat' first
      | (intro x) | exact Follows.refl _ | assumption | apply State.closeBlock_follows | (apply Follows.foldl; case' h => intro s0 s x hk)

theorem State.enterBank_follows {s0 : State} {s : State} {st : Nat} {b : Fin 8} (h0 : Follows s0 s) :
    Follows s0 (State.enterBank s st b) := by
  unfold State.enterBank
  with_reducible repeat' first
      | (intro x) | exact Follows.refl _ | assumption | apply State.updStack_follows | apply State.poisonJob_follows
      | apply State.closeBank_follows | (apply Follows.foldl; case' h => intro s0 s x hk)

theorem execHbmBankDrained_follows {s0 : State} {stack : Fin 192} {bank : Fin 8} {s : State} {t : State} (ht : execHbmBankDrained stack bank s = .next t) (h0 : Follows s0 s) :
    Follows s0 t := by
  unfold execHbmBankDrained at ht; cases ht
  with_reducible repeat' first | exact h0 | apply State.enterBank_follows | apply Follows.ite

theorem execMinI32_follows {s0 : State} {stack : Fin 192} {p : Packet} {s : State} {t : State} (ht : execMinI32 stack p s = .next t) (h0 : Follows s0 s) :
    Follows s0 t := by
  unfold execMinI32 at ht; cases ht
  with_reducible repeat' first | exact h0 | apply State.atomicReq_follows

theorem execCas_follows {s0 : State} {stack : Fin 192} {p : Packet} {s : State} {t : State} (ht : execCas stack p s = .next t) (h0 : Follows s0 s) :
    Follows s0 t := by
  unfold execCas at ht; cases ht
  with_reducible repeat' first | exact h0 | apply State.atomicReq_follows

theorem State.hbmRead_follows {s0 : State} {s : State} {addr : Nat} {len : Nat} (h0 : Follows s0 s) :
    Follows s0 (State.hbmRead s addr len).1 := by
  unfold State.hbmRead
  with_reducible repeat' first
      | (intro x; refine_lift have hx : Follows s0 x := ?_; ?_; (on_goal 1 => clear_value x); (on_goal 2 => dsimp -zeta only [x]))
      | (intro x; clear_value x) | (intro x) | exact Follows.refl _ | assumption | apply State.updStack_follows
      | apply State.readStack_follows | apply State.flushJobs_follows | refine Follows.of_fst (by assumption) (State.readStack_follows ?_)
      | apply Follows.ite | dsimp -zeta only | lift_lets | split

theorem execMaxF32_follows {s0 : State} {stack : Fin 192} {p : Packet} {s : State} {t : State} (ht : execMaxF32 stack p s = .next t) (h0 : Follows s0 s) :
    Follows s0 t := by
  unfold execMaxF32 at ht; cases ht
  with_reducible repeat' first | exact h0 | apply State.atomicReq_follows

theorem execMinF32_follows {s0 : State} {stack : Fin 192} {p : Packet} {s : State} {t : State} (ht : execMinF32 stack p s = .next t) (h0 : Follows s0 s) :
    Follows s0 t := by
  unfold execMinF32 at ht; cases ht
  with_reducible repeat' first | exact h0 | apply State.atomicReq_follows

theorem execHbmDeviceAccessDone_follows {s0 : State} {stack : Fin 192} {s : State} {t : State} (ht : execHbmDeviceAccessDone stack s = .next t) (h0 : Follows s0 s) :
    Follows s0 t := by
  unfold execHbmDeviceAccessDone at ht; cases ht
  with_reducible repeat' first | exact h0 | apply State.stepJobs_follows

theorem execHbmDrainForced_follows {s0 : State} {stack : Fin 192} {bank : Fin 8} {s : State} {t : State} (ht : execHbmDrainForced stack bank s = .next t) (h0 : Follows s0 s) :
    Follows s0 t := by
  unfold execHbmDrainForced at ht; cases ht
  with_reducible repeat' first
      | (intro x) | exact Follows.refl _ | assumption | apply State.updStack_follows | apply State.sendStack_follows
      | apply State.enterBank_follows | (apply Follows.foldl; case' h => intro s0 s x hk) | apply Follows.ite

theorem execAddBf16_follows {s0 : State} {stack : Fin 192} {p : Packet} {s : State} {t : State} (ht : execAddBf16 stack p s = .next t) (h0 : Follows s0 s) :
    Follows s0 t := by
  unfold execAddBf16 at ht; cases ht
  with_reducible repeat' first | exact h0 | apply State.atomicReq_follows

theorem State.hbmStore_follows {s0 : State} {s : State} {addr : Nat} {bs : List Byte} {poison : Bool} (h0 : Follows s0 s) :
    Follows s0 (State.hbmStore s addr bs poison).1 := by
  unfold State.hbmStore
  with_reducible repeat' first
      | (intro x; refine_lift have hx : Follows s0 x := ?_; ?_; (on_goal 1 => clear_value x); (on_goal 2 => dsimp -zeta only [x]))
      | (intro x; clear_value x) | (intro x) | exact Follows.refl _ | assumption | apply State.updStack_follows
      | apply State.flushJobs_follows | apply State.closeBlock_follows | (apply Follows.foldl; case' h => intro s0 s x hk)
      | apply Follows.ite | dsimp -zeta only | lift_lets | split

theorem execRmcStackTempSample_follows {s0 : State} {stack : Fin 192} {celsius : BitVec 8} {s : State} {t : State} (ht : execRmcStackTempSample stack celsius s = .next t) (h0 : Follows s0 s) :
    Follows s0 t := by
  unfold execRmcStackTempSample at ht; cases ht
  with_reducible repeat' first | exact h0 | apply State.updStack_follows | apply Follows.ite

theorem execHbmBankOpened_follows {s0 : State} {stack : Fin 192} {bank : Fin 8} {s : State} {t : State} (ht : execHbmBankOpened stack bank s = .next t) (h0 : Follows s0 s) :
    Follows s0 t := by
  unfold execHbmBankOpened at ht; cases ht
  with_reducible repeat' first | exact h0 | apply State.updStack_follows | apply Follows.ite

theorem execAddF32_follows {s0 : State} {stack : Fin 192} {p : Packet} {s : State} {t : State} (ht : execAddF32 stack p s = .next t) (h0 : Follows s0 s) :
    Follows s0 t := by
  unfold execAddF32 at ht; cases ht
  with_reducible repeat' first | exact h0 | apply State.atomicReq_follows

theorem execHbmTempSample_follows {s0 : State} {stack : Fin 192} {celsius : BitVec 8} {s : State} {t : State} (ht : execHbmTempSample stack celsius s = .next t) (h0 : Follows s0 s) :
    Follows s0 t := by
  unfold execHbmTempSample at ht; cases ht
  with_reducible repeat' first
      | exact h0 | apply State.post_follows | apply State.updStack_follows | apply State.powerRequest_follows | apply Follows.ite

theorem execHbmPwrOn_follows {s0 : State} {stack : Fin 192} {whole : Bool} {bank : Fin 8} {s : State} {t : State} (ht : execHbmPwrOn stack whole bank s = .next t) (h0 : Follows s0 s) :
    Follows s0 t := by
  unfold execHbmPwrOn at ht; cases ht
  with_reducible repeat' first | exact h0 | apply State.powerRequest_follows | apply Follows.ite

theorem execHbmReadReq_follows {s0 : State} {stack : Fin 192} {p : Packet} {s : State} {t : State} (ht : execHbmReadReq stack p s = .next t) (h0 : Follows s0 s) :
    Follows s0 t := by
  unfold execHbmReadReq at ht; cases ht
  with_reducible repeat' first
      | exact h0 | apply State.updStack_follows | apply State.poisonJob_follows | apply State.closeEntry_follows
      | apply State.answerDark_follows | apply State.answerUnpop_follows | apply Follows.ite | split

theorem execHbmRefresh_follows {s0 : State} {_stack : Fin 192} {_bank : Fin 8} {s : State} {t : State} (ht : execHbmRefresh _stack _bank s = .next t) (h0 : Follows s0 s) :
    Follows s0 t := by
  unfold execHbmRefresh at ht; cases ht
  exact h0.trans ⟨rfl, SecFlow.refl _⟩

theorem State.hbmWrite_follows {s0 : State} {s : State} {addr : Nat} {bs : List Byte} {poison : Bool} (h0 : Follows s0 s) :
    Follows s0 (State.hbmWrite s addr bs poison).1 := by
  unfold State.hbmWrite
  with_reducible repeat' first
      | exact h0 | apply State.hbmStore_follows | refine Follows.of_fst (by assumption) (State.hbmStore_follows ?_) | apply Follows.ite
      | split

/-! ## Req -/

theorem State.finishReq_follows {s0 : State} {s : State} {k : Nat} {r : Req} {status : BitVec 3} {bs : List Byte} (h0 : Follows s0 s) :
    Follows s0 (State.finishReq s k r status bs) := by
  unfold State.finishReq
  with_reducible repeat' first | exact h0 | apply State.updSite_follows | apply State.writeRun_follows | apply Follows.ite

theorem State.finishNowhere_follows {s0 : State} {s : State} {k : Nat} {r : Req} (h0 : Follows s0 s) :
    Follows s0 (State.finishNowhere s k r) := by
  unfold State.finishNowhere
  with_reducible repeat' first | exact h0 | apply State.finishReq_follows | apply Follows.ite

theorem State.sendRequest_follows {s0 : State} {s : State} {k : Nat} {q : Ask} (h0 : Follows s0 s) :
    Follows s0 (State.sendRequest s k q) := by
  unfold State.sendRequest
  with_reducible repeat' first
      | exact h0 | apply State.updSite_follows | apply State.sendFrom_follows | apply State.finishNowhere_follows | apply Follows.ite
      | split

theorem State.streamRead_follows {s0 : State} {s : State} {k : Nat} {b : Option Nat} (h0 : Follows s0 s) :
    Follows s0 (State.streamRead s k b) := by
  unfold State.streamRead
  with_reducible repeat' first
      | (intro x; clear_value x) | (intro x) | exact Follows.refl _ | assumption | apply State.sendRequest_follows | apply Follows.ite
      | dsimp -zeta only | lift_lets | split

theorem State.streamPump_follows {s0 : State} {s : State} {k : Nat} (h0 : Follows s0 s) :
    Follows s0 (State.streamPump s k) := by
  unfold State.streamPump
  with_reducible repeat' first
      | (intro x; clear_value x) | (intro x) | exact Follows.refl _ | assumption | apply State.updSite_follows
      | apply State.streamRead_follows | (apply Follows.foldl; case' h => intro s0 s x hk) | apply Follows.ite | dsimp -zeta only
      | lift_lets | split

theorem State.takeAt_follows {s0 : State} {s : State} {n : Node} {p : Packet} (h0 : Follows s0 s) :
    Follows s0 (State.takeAt s n p) := by
  unfold State.takeAt
  with_reducible repeat' first
      | exact h0 | apply State.updHp_follows | apply State.updSite_follows | apply State.updPc_follows | apply State.updBay_follows
      | apply State.updStack_follows | apply Follows.ite | split

theorem State.ackUnit_follows {s0 : State} {s : State} {node : Node} {k : Nat} {p : Packet} (h0 : Follows s0 s) :
    Follows s0 (State.ackUnit s node k p) := by
  unfold State.ackUnit
  with_reducible repeat' first
      | exact h0 | apply State.finishReq_follows | apply State.streamPump_follows | apply State.takeAt_follows | apply Follows.ite | split

theorem State.sendNode_follows {s0 : State} {s : State} {n : Node} {p : Packet} (h0 : Follows s0 s) :
    Follows s0 (State.sendNode s n p) := by
  unfold State.sendNode
  with_reducible repeat' first
      | exact h0 | apply State.sendStack_follows | apply State.sendService_follows | apply State.sendFrom_follows | apply Follows.ite
      | split

theorem State.completionUnit_follows {s0 : State} {s : State} {node : Node} {k : Nat} {p : Packet} (h0 : Follows s0 s) :
    Follows s0 (State.completionUnit s node k p) := by
  unfold State.completionUnit
  with_reducible repeat' first
      | exact h0 | apply State.finishReq_follows | apply State.streamPump_follows | apply State.takeAt_follows | apply Follows.ite | split

theorem execReadRspArrive_follows {s0 : State} {node : Node} {p : Packet} {s : State} {t : State} (ht : execReadRspArrive node p s = .next t) (h0 : Follows s0 s) :
    Follows s0 t := by
  unfold execReadRspArrive at ht; cases ht
  with_reducible repeat' first
      | exact h0 | apply State.updSite_follows | apply State.finishReq_follows | apply State.streamPump_follows | apply State.takeAt_follows
      | apply Follows.ite | split

theorem State.addInbox_follows {s0 : State} {s : State} {n : Node} {p : Packet} (h0 : Follows s0 s) :
    Follows s0 (State.addInbox s n p) := by
  unfold State.addInbox
  with_reducible repeat' first
      | exact h0 | apply State.updHp_follows | apply State.updSite_follows | apply State.updPc_follows | apply State.updBay_follows
      | apply State.updStack_follows | apply Follows.ite | split

theorem execCtrlMsgArrive_follows {s0 : State} {node : Node} {p : Packet} {s : State} {t : State} (ht : execCtrlMsgArrive node p s = .next t) (h0 : Follows s0 s) :
    Follows s0 t := by
  unfold execCtrlMsgArrive at ht; cases ht
  with_reducible repeat' first
      | exact h0 | apply State.takeAt_follows | apply State.sendNode_follows | apply State.addInbox_follows | apply Follows.ite

theorem execPutArrive_follows {s0 : State} {site : SiteId} {p : Packet} {s : State} {t : State} (ht : execPutArrive site p s = .next t) (h0 : Follows s0 s) :
    Follows s0 t := by
  unfold execPutArrive at ht; cases ht
  with_reducible repeat' first
      | exact h0 | apply State.updSite_follows | apply State.writeRun_follows | apply State.sendFrom_follows | apply Follows.ite

/-! ## Ws -/

theorem execWsDescComplete_follows {s0 : State} {site : SiteId} {s : State} {t : State} (ht : execWsDescComplete site s = .next t) (h0 : Follows s0 s) :
    Follows s0 t := by
  unfold execWsDescComplete at ht; cases ht
  with_reducible repeat' first
      | (intro x) | exact Follows.refl _ | assumption | apply State.updSite_follows | apply State.post_follows
      | apply State.panForceStop_follows | apply Follows.ite | dsimp -zeta only | lift_lets | split

theorem State.wsKick_follows {s0 : State} {s : State} {k : Nat} {n : Fin 4} {v : W64} {pc : W64} (h0 : Follows s0 s) :
    Follows s0 (State.wsKick s k n v pc) := by
  unfold State.wsKick
  with_reducible repeat' first
      | (intro x; clear_value x) | (intro x) | exact Follows.refl _ | assumption | apply State.updSite_follows
      | apply State.taskFault_follows | apply State.readRuns_follows | apply Follows.ite | dsimp -zeta only | lift_lets | split

theorem execWsRetryDelay_follows {s0 : State} {site : SiteId} {s : State} {t : State} (ht : execWsRetryDelay site s = .next t) (h0 : Follows s0 s) :
    Follows s0 t := by
  unfold execWsRetryDelay at ht; cases ht
  with_reducible repeat' first | exact h0 | apply State.updSite_follows | apply State.streamRead_follows | apply Follows.ite

theorem execWsKick_follows {s0 : State} {site : SiteId} {slot : Fin 4} {value : W64} {s : State} {t : State} (ht : execWsKick site slot value s = .next t) (h0 : Follows s0 s) :
    Follows s0 t := by
  unfold execWsKick at ht; cases ht
  with_reducible repeat' first | exact h0 | apply State.wsKick_follows | apply Follows.ite

theorem execWsDescStart_follows {s0 : State} {site : SiteId} {s : State} {t : State} (ht : execWsDescStart site s = .next t) (h0 : Follows s0 s) :
    Follows s0 t := by
  unfold execWsDescStart at ht; cases ht
  with_reducible repeat' first | exact h0 | apply State.updSite_follows | apply State.streamRead_follows | apply Follows.ite

/-! ## Local -/

theorem State.reseed_follows {s0 : State} {s : State} {k : Nat} (h0 : Follows s0 s) :
    Follows s0 (State.reseed s k) := by
  unfold State.reseed
  with_reducible repeat' first
      | exact h0 | apply State.updSite_follows | apply State.draw_follows | refine Follows.of_snd (by assumption) (State.draw_follows ?_)
      | apply Follows.ite

theorem State.noiseReseed_follows {s0 : State} {s : State} {k : Nat} (h0 : Follows s0 s) :
    Follows s0 (State.noiseReseed s k) := by
  unfold State.noiseReseed
  with_reducible repeat' first | exact h0 | apply State.updSite_follows | apply State.reseed_follows

theorem execNoiseReseed_follows {s0 : State} {site : SiteId} {s : State} {t : State} (ht : execNoiseReseed site s = .next t) (h0 : Follows s0 s) :
    Follows s0 t := by
  unfold execNoiseReseed at ht; cases ht
  with_reducible repeat' first | exact h0 | apply State.noiseReseed_follows

theorem execNoiseHealthFail_follows {s0 : State} {site : SiteId} {s : State} {t : State} (ht : execNoiseHealthFail site s = .next t) (h0 : Follows s0 s) :
    Follows s0 t := by
  unfold execNoiseHealthFail at ht; cases ht
  exact h0.trans ⟨rfl, SecFlow.refl _⟩

theorem execSpadAgeGrant_follows {s0 : State} {g : SpadGrant} {s : State} {t : State} (ht : execSpadAgeGrant g s = .next t) (h0 : Follows s0 s) :
    Follows s0 t := by
  unfold execSpadAgeGrant at ht; cases ht
  with_reducible repeat' first | exact h0 | apply State.updSite_follows | apply Follows.ite

theorem execLivenessLost_follows {s0 : State} {site : SiteId} {port : RPort} {s : State} {t : State} (ht : execLivenessLost site port s = .next t) (h0 : Follows s0 s) :
    Follows s0 t := by
  unfold execLivenessLost at ht; cases ht
  with_reducible repeat' first
      | exact h0 | apply State.hwFault_follows | apply State.updRouter_follows | apply State.markDead_follows
      | apply State.postDisagree_follows | apply Follows.ite | split

theorem execScratchpadClearDone_follows {s0 : State} {site : SiteId} {s : State} {t : State} (ht : execScratchpadClearDone site s = .next t) (h0 : Follows s0 s) :
    Follows s0 t := by
  unfold execScratchpadClearDone at ht; cases ht
  exact h0.trans ⟨rfl, SecFlow.refl _⟩

theorem execNoiseSeed_follows {s0 : State} {site : SiteId} {seed : W64} {s : State} {t : State} (ht : execNoiseSeed site seed s = .next t) (h0 : Follows s0 s) :
    Follows s0 t := by
  unfold execNoiseSeed at ht; cases ht
  exact h0.trans ⟨rfl, SecFlow.refl _⟩

theorem execNoiseAutoReseed_follows {s0 : State} {site : SiteId} {s : State} {t : State} (ht : execNoiseAutoReseed site s = .next t) (h0 : Follows s0 s) :
    Follows s0 t := by
  unfold execNoiseAutoReseed at ht; cases ht
  with_reducible repeat' first | exact h0 | apply State.reseed_follows | apply Follows.ite

/-! ## Trace -/

theorem State.trcMark_follows {s0 : State} {s : State} {k : Nat} {slot : Option (Fin 4)} {v : W32} (h0 : Follows s0 s) :
    Follows s0 (State.trcMark s k slot v) := by
  unfold State.trcMark
  with_reducible repeat' first | exact h0 | apply State.trace_follows

theorem execTrcMark_follows {s0 : State} {site : SiteId} {slot : Option (Fin 4)} {value : W32} {s : State} {t : State} (ht : execTrcMark site slot value s = .next t) (h0 : Follows s0 s) :
    Follows s0 t := by
  unfold execTrcMark at ht; cases ht
  with_reducible repeat' first | exact h0 | apply State.trcMark_follows

theorem State.debugDeny_follows {s0 : State} {s : State} {k : Nat} (h0 : Follows s0 s) :
    Follows s0 (State.debugDeny s k) := by
  unfold State.debugDeny
  exact h0.trans ⟨rfl, SecFlow.refl _⟩

theorem State.debugWrite_follows {s0 : State} {s : State} {k : Nat} {i : Nat} {v : W32} (h0 : Follows s0 s) :
    Follows s0 (State.debugWrite s k i v) := by
  unfold State.debugWrite
  with_reducible repeat' first | exact h0 | apply State.updSite_follows | apply State.debugDeny_follows | apply Follows.ite

theorem State.traceLines_follows {s0 : State} {s : State} {k : Nat} {n : Nat} (h0 : Follows s0 s) :
    Follows s0 (State.traceLines s k n) := by
  unfold State.traceLines
  with_reducible repeat' first | exact h0 | apply State.updSite_follows | apply State.sendRequest_follows | apply Follows.ite

theorem State.traceLine_follows {s0 : State} {s : State} {k : Nat} (h0 : Follows s0 s) :
    Follows s0 (State.traceLine s k) := by
  unfold State.traceLine
  with_reducible repeat' first | exact h0 | apply State.traceLines_follows

theorem execTraceLineWrite_follows {s0 : State} {site : SiteId} {s : State} {t : State} (ht : execTraceLineWrite site s = .next t) (h0 : Follows s0 s) :
    Follows s0 t := by
  unfold execTraceLineWrite at ht; cases ht
  with_reducible repeat' first | exact h0 | apply State.traceLine_follows

theorem execDbgDataWrite_follows {s0 : State} {site : SiteId} {value : W64} {s : State} {t : State} (ht : execDbgDataWrite site value s = .next t) (h0 : Follows s0 s) :
    Follows s0 t := by
  unfold execDbgDataWrite at ht; cases ht
  with_reducible repeat' first | exact h0 | apply State.debugWrite_follows

theorem State.debugRead_follows {s0 : State} {s : State} {k : Nat} (h0 : Follows s0 s) :
    Follows s0 (State.debugRead s k).2 := by
  unfold State.debugRead
  with_reducible repeat' first | exact h0 | apply State.debugDeny_follows | apply Follows.ite | split

theorem execDbgDataRead_follows {s0 s t : State} {site : SiteId} (ht : execDbgDataRead site s = .next t) (h0 : Follows s0 s) : Follows s0 t := by
  unfold execDbgDataRead at ht
  injection ht with ht
  subst ht
  exact State.emit_follows (State.debugRead_follows h0)


theorem execTrcEnableWrite_follows {s0 : State} {site : SiteId} {enable : Bool} {mode : Bool} {src : BitVec 5} {s : State} {t : State} (ht : execTrcEnableWrite site enable mode src s = .next t) (h0 : Follows s0 s) :
    Follows s0 t := by
  unfold execTrcEnableWrite at ht; cases ht
  exact h0.trans ⟨rfl, SecFlow.refl _⟩

theorem execSyncMarker_follows {s0 : State} {s : State} {t : State} (ht : execSyncMarker s = .next t) (h0 : Follows s0 s) :
    Follows s0 t := by
  unfold execSyncMarker at ht; cases ht
  with_reducible repeat' first
      | (intro x) | exact Follows.refl _ | assumption | apply State.rmcNow_follows | apply State.trace_follows
      | (apply Follows.lit; first | assumption | exact Follows.refl _ | apply State.rmcNow_follows | apply State.trace_follows)
      | refine Follows.of_snd (by assumption) (State.rmcNow_follows ?_) | (apply Follows.foldl; case' h => intro s0 s x hk)
      | apply Follows.ite | dsimp -zeta only

end Sys2Proof.Machine
end

