-- ==== Sys2Proof/Laws/FlowUnits.lean ====
section
/-! SUPPORT. Laws/FlowUnits.lean: what every effect of links, reductions, update engines, control programs, queues, attention units and dispatch keeps. -/

namespace Sys2Proof.Machine

/-! ## Link -/

theorem State.countDiscard_follows {s0 : State} {s : State} {q : Nat} (h0 : Follows s0 s) :
    Follows s0 (State.countDiscard s q) := by
  unfold State.countDiscard
  exact h0.trans ⟨rfl, SecFlow.refl _⟩

theorem State.setPort_follows {s0 : State} {s : State} {n : Nat} {p : Port} (h0 : Follows s0 s) :
    Follows s0 (State.setPort s n p) := by
  unfold State.setPort
  exact h0.trans ⟨rfl, SecFlow.refl _⟩

theorem State.updPort_follows {s0 : State} {s : State} {n : Nat} {f : Port → Port} (h0 : Follows s0 s) :
    Follows s0 (State.updPort s n f) := by
  unfold State.updPort
  exact h0.trans ⟨rfl, SecFlow.refl _⟩

theorem State.flitOut_follows {s0 : State} {s : State} {n : Nat} {bs : List Byte} (h0 : Follows s0 s) :
    Follows s0 (State.flitOut s n bs) := by
  unfold State.flitOut
  exact h0.trans ⟨rfl, SecFlow.refl _⟩

theorem State.idleOut_follows {s0 s : State} {n : Nat} {nak : Bool} (h0 : Follows s0 s) : Follows s0 (s.idleOut n nak) := by
  unfold State.idleOut
  exact Follows.ite (State.flitOut_follows h0) h0


theorem State.freeFlits_follows {s0 : State} {s : State} {n : Nat} {cl : Nat} {session : Nat} {k : Nat} (h0 : Follows s0 s) :
    Follows s0 (State.freeFlits s n cl session k) := by
  unfold State.freeFlits
  with_reducible repeat' first | exact h0 | apply State.updPort_follows | apply State.idleOut_follows | apply Follows.ite

theorem State.release_follows {s0 : State} {s : State} {q : Nat} {h : FabHold} {k : Nat} (h0 : Follows s0 s) :
    Follows s0 (State.release s q h k) := by
  unfold State.release
  with_reducible repeat' first | exact h0 | apply State.updPc_follows | apply State.freeFlits_follows | apply Follows.ite | split

theorem State.sendFlit_follows {s0 : State} {s : State} {n : Nat} {t : TxPkt} {i : Nat} (h0 : Follows s0 s) :
    Follows s0 (State.sendFlit s n t i) := by
  unfold State.sendFlit
  exact h0.trans ⟨rfl, SecFlow.refl _⟩

theorem State.sendOne_follows {s0 : State} {s : State} {n : Nat} (h0 : Follows s0 s) :
    Follows s0 (State.sendOne s n) := by
  unfold State.sendOne
  with_reducible repeat' first
      | (intro x; clear_value x) | (intro x) | exact Follows.refl _ | assumption | apply State.setPort_follows | apply State.release_follows
      | apply State.sendFlit_follows | (apply Follows.foldl; case' h => intro s0 s x hk) | apply Follows.ite | dsimp -zeta only | lift_lets
      | split

theorem State.pump_follows {s0 : State} {s : State} {n : Nat} (h0 : Follows s0 s) :
    Follows s0 (State.pump s n) := by
  unfold State.pump
  with_reducible repeat' first
      | (intro x) | exact Follows.refl _ | assumption | apply State.sendOne_follows | (apply Follows.foldl; case' h => intro s0 s x hk)

theorem State.fabPut_follows {s0 : State} {s : State} {q : Nat} {t : TxPkt} (h0 : Follows s0 s) :
    Follows s0 (State.fabPut s q t) := by
  unfold State.fabPut
  with_reducible repeat' first
      | exact h0 | apply State.updPc_follows | apply State.updPort_follows | apply State.pump_follows | apply Follows.ite | split

theorem State.heartbeat_follows {s0 : State} {s : State} {n : Nat} (h0 : Follows s0 s) :
    Follows s0 (State.heartbeat s n) := by
  unfold State.heartbeat
  with_reducible repeat' first | exact h0 | apply State.countDiscard_follows | apply State.fabPut_follows | apply Follows.ite

theorem State.discardFlit_follows {s0 : State} {s : State} {n : Nat} (h0 : Follows s0 s) :
    Follows s0 (State.discardFlit s n) := by
  unfold State.discardFlit
  with_reducible repeat' first | exact h0 | apply State.updPort_follows | apply State.idleOut_follows | apply Follows.ite

theorem State.linkDown_follows {s0 : State} {s : State} {n : Nat} {to_ : PortState} (h0 : Follows s0 s) :
    Follows s0 (State.linkDown s n to_) := by
  unfold State.linkDown
  with_reducible repeat' first | exact h0 | apply State.post_follows | apply State.updPort_follows | apply Follows.ite

theorem State.resend_follows {s0 : State} {s : State} {n : Nat} (h0 : Follows s0 s) :
    Follows s0 (State.resend s n) := by
  unfold State.resend
  with_reducible repeat' first
      | (intro x) | exact Follows.refl _ | assumption | apply State.updPort_follows | apply State.flitOut_follows
      | apply State.linkDown_follows | (apply Follows.foldl; case' h => intro s0 s x hk) | apply Follows.ite

theorem State.crossOne_follows {s0 : State} {s : State} {q : Nat} (h0 : Follows s0 s) :
    Follows s0 (State.crossOne s q) := by
  unfold State.crossOne
  with_reducible repeat' first
      | (intro x; clear_value x) | (intro x) | exact Follows.refl _ | assumption | apply State.updPc_follows | apply State.release_follows
      | apply State.fabPut_follows | apply Follows.ite | dsimp -zeta only | lift_lets | split

theorem State.cross_follows {s0 : State} {s : State} {q : Nat} (h0 : Follows s0 s) :
    Follows s0 (State.cross s q) := by
  unfold State.cross
  with_reducible repeat' first
      | (intro x) | exact Follows.refl _ | assumption | apply State.crossOne_follows | (apply Follows.foldl; case' h => intro s0 s x hk)

theorem State.pumpPort_follows {s0 : State} {s : State} {n : Nat} (h0 : Follows s0 s) :
    Follows s0 (State.pumpPort s n) := by
  unfold State.pumpPort
  with_reducible repeat' first | exact h0 | apply State.pump_follows | apply State.cross_follows

theorem State.takeFlit_follows {s0 : State} {s : State} {n : Nat} {bs : List Byte} (h0 : Follows s0 s) :
    Follows s0 (State.takeFlit s n bs) := by
  unfold State.takeFlit
  with_reducible repeat' first
      | exact h0 | apply State.updPort_follows | apply State.idleOut_follows | apply State.discardFlit_follows | apply State.resend_follows
      | apply State.pumpPort_follows | apply Follows.ite

theorem execFlitReceive_follows {s0 : State} {port : Fin 96} {flit : List Byte} {s : State} {t : State} (ht : execFlitReceive port flit s = .next t) (h0 : Follows s0 s) :
    Follows s0 t := by
  unfold execFlitReceive at ht; cases ht
  with_reducible repeat' first | exact h0 | apply State.takeFlit_follows | apply Follows.ite

theorem State.linkctlOut_follows {s0 : State} {s : State} {n : Nat} (h0 : Follows s0 s) :
    Follows s0 (State.linkctlOut s n) := by
  unfold State.linkctlOut
  exact h0.trans ⟨rfl, SecFlow.refl _⟩

theorem State.fabPlace_follows {s0 : State} {s : State} {q : Nat} {d : Nat} {t : TxPkt} (h0 : Follows s0 s) :
    Follows s0 (State.fabPlace s q d t) := by
  unfold State.fabPlace
  with_reducible repeat' first
      | exact h0 | apply State.updPc_follows | apply State.fabPut_follows | apply State.cross_follows | apply Follows.ite

theorem State.takeFab_follows {s0 s : State} {q : Nat} {p : FabPkt} {t : State} (ht : s.takeFab q p = some t) (h0 : Follows s0 s) :
    Follows s0 t := by
  unfold State.takeFab at ht
  split at ht
  · cases ht
  · split at ht
    · cases ht
    · cases ht
      exact State.cross_follows (State.release_follows (State.updPc_follows h0))


theorem State.fabMove_follows {s0 : State} {s : State} {q : Nat} {p : FabPkt} {forwarding : Bool} {hold : FabHold} (h0 : Follows s0 s) :
    Follows s0 (State.fabMove s q p forwarding hold).1 := by
  unfold State.fabMove
  with_reducible repeat' first | exact h0 | apply State.countDiscard_follows | apply State.fabPlace_follows | apply Follows.ite | split

theorem State.fabStep_follows {s0 : State} {s : State} {q : Nat} {p : FabPkt} {forwarding : Bool} {hold : FabHold} (h0 : Follows s0 s) :
    Follows s0 (State.fabStep s q p forwarding hold) := by
  unfold State.fabStep
  with_reducible repeat' first
      | exact h0 | apply State.fabMove_follows | refine Follows.of_fst (by assumption) (State.fabMove_follows ?_) | apply Follows.ite
      | split

theorem execFabricPacketRoute_follows {s0 : State} {port : Fin 96} {s : State} {t : State} (ht : execFabricPacketRoute port s = .next t) (h0 : Follows s0 s) :
    Follows s0 t := by
  unfold execFabricPacketRoute at ht; cases ht
  with_reducible repeat' first
      | exact h0 | apply State.updPort_follows | apply State.freeFlits_follows | apply State.countDiscard_follows
      | apply State.fabStep_follows | apply Follows.ite | split

theorem State.portRetrain_follows {s0 : State} {s : State} {n : Nat} (h0 : Follows s0 s) :
    Follows s0 (State.portRetrain s n) := by
  unfold State.portRetrain
  with_reducible repeat' first | exact h0 | apply State.linkDown_follows | apply Follows.ite

theorem State.fenceWrite_follows {s0 : State} {s : State} {n : Fin 16} {v : W64} (h0 : Follows s0 s) :
    Follows s0 (State.fenceWrite s n v) := by
  unfold State.fenceWrite
  exact h0.trans ⟨rfl, SecFlow.refl _⟩

theorem execPortRetrain_follows {s0 : State} {port : Fin 96} {s : State} {t : State} (ht : execPortRetrain port s = .next t) (h0 : Follows s0 s) :
    Follows s0 t := by
  unfold execPortRetrain at ht; cases ht
  with_reducible repeat' first | exact h0 | apply State.portRetrain_follows

theorem execHeartbeatArrive_follows {s0 s t : State} {pc : Fin 8} {p : FabPkt} (ht : execHeartbeatArrive pc p s = .next t)
    (h0 : Follows s0 s) : Follows s0 t := by
  unfold execHeartbeatArrive at ht
  injection ht with ht
  subst ht
  refine Follows.ite ?_ h0
  cases e : s.takeFab pc.val p with
  | none => exact h0
  | some t => exact State.takeFab_follows e h0


theorem execModuleFenceWrite_follows {s0 : State} {n : Fin 16} {value : W64} {s : State} {t : State} (ht : execModuleFenceWrite n value s = .next t) (h0 : Follows s0 s) :
    Follows s0 t := by
  unfold execModuleFenceWrite at ht; cases ht
  exact h0.trans ⟨rfl, SecFlow.refl _⟩

theorem execModuleLost_follows {s0 : State} {address : W32} {s : State} {t : State} (ht : execModuleLost address s = .next t) (h0 : Follows s0 s) :
    Follows s0 t := by
  unfold execModuleLost at ht; cases ht
  with_reducible repeat' first | exact h0 | apply State.post_follows | apply Follows.ite

theorem execPcsLockLost_follows {s0 : State} {port : Fin 96} {s : State} {t : State} (ht : execPcsLockLost port s = .next t) (h0 : Follows s0 s) :
    Follows s0 t := by
  unfold execPcsLockLost at ht; cases ht
  with_reducible repeat' first | exact h0 | apply State.linkDown_follows | apply Follows.ite

theorem State.fabSend_follows {s0 : State} {s : State} {q : Nat} {p : FabPkt} (h0 : Follows s0 s) :
    Follows s0 (State.fabSend s q p) := by
  unfold State.fabSend
  with_reducible repeat' first | exact h0 | apply State.countDiscard_follows | apply State.fabStep_follows | apply Follows.ite

theorem State.portEnable_follows {s0 : State} {s : State} {n : Nat} {b : Bool} (h0 : Follows s0 s) :
    Follows s0 (State.portEnable s n b) := by
  unfold State.portEnable
  with_reducible repeat' first | exact h0 | apply State.updPort_follows | apply State.linkDown_follows | apply Follows.ite

theorem execPortEnableWrite_follows {s0 : State} {port : Fin 96} {enable : Bool} {s : State} {t : State} (ht : execPortEnableWrite port enable s = .next t) (h0 : Follows s0 s) :
    Follows s0 t := by
  unfold execPortEnableWrite at ht; cases ht
  with_reducible repeat' first | exact h0 | apply State.portEnable_follows

theorem State.fwdCommit_follows {s0 : State} {s : State} (h0 : Follows s0 s) :
    Follows s0 (State.fwdCommit s) := by
  unfold State.fwdCommit
  with_reducible repeat' first
      | (intro x; clear_value x) | (intro x) | exact Follows.refl _ | assumption
      | (apply Follows.lit; first | assumption | exact Follows.refl _) | apply Follows.ite | dsimp -zeta only | lift_lets | split

theorem execFwdCommit_follows {s0 : State} {s : State} {t : State} (ht : execFwdCommit s = .next t) (h0 : Follows s0 s) :
    Follows s0 t := by
  unfold execFwdCommit at ht; cases ht
  with_reducible repeat' first | exact h0 | apply State.fwdCommit_follows

theorem execReplayTimeout_follows {s0 : State} {port : Fin 96} {s : State} {t : State} (ht : execReplayTimeout port s = .next t) (h0 : Follows s0 s) :
    Follows s0 t := by
  unfold execReplayTimeout at ht; cases ht
  with_reducible repeat' first | exact h0 | apply State.resend_follows | apply Follows.ite

theorem execNakRepeat_follows {s0 : State} {port : Fin 96} {s : State} {t : State} (ht : execNakRepeat port s = .next t) (h0 : Follows s0 s) :
    Follows s0 t := by
  unfold execNakRepeat at ht; cases ht
  with_reducible repeat' first | exact h0 | apply State.idleOut_follows | apply Follows.ite

theorem execHeartbeatSend_follows {s0 : State} {pc : Fin 8} {s : State} {t : State} (ht : execHeartbeatSend pc s = .next t) (h0 : Follows s0 s) :
    Follows s0 t := by
  unfold execHeartbeatSend at ht; cases ht
  with_reducible repeat' first
      | (intro x) | exact Follows.refl _ | assumption | apply State.heartbeat_follows | (apply Follows.foldl; case' h => intro s0 s x hk)
      | apply Follows.ite

theorem execLinkctlExchange_follows {s0 : State} {port : Fin 96} {peer : W32} {peerPort : BitVec 7} {s : State} {t : State} (ht : execLinkctlExchange port peer peerPort s = .next t) (h0 : Follows s0 s) :
    Follows s0 t := by
  unfold execLinkctlExchange at ht; cases ht
  with_reducible repeat' first
      | exact h0 | apply State.updPort_follows | apply State.pumpPort_follows | apply State.linkctlOut_follows | apply Follows.ite

/-! ## Reduce -/

theorem State.updRed_follows {s0 : State} {s : State} {q : Nat} {f : Red → Red} (h0 : Follows s0 s) :
    Follows s0 (State.updRed s q f) := by
  unfold State.updRed
  exact h0.trans ⟨rfl, SecFlow.refl _⟩

theorem State.discardMesh_follows {s0 : State} {s : State} {q : Nat} {excess : Bool} (h0 : Follows s0 s) :
    Follows s0 (State.discardMesh s q excess) := by
  unfold State.discardMesh
  exact h0.trans ⟨rfl, SecFlow.refl _⟩

theorem State.updJob_follows {s0 : State} {s : State} {q : Nat} {j : Nat} {f : Job → Job} (h0 : Follows s0 s) :
    Follows s0 (State.updJob s q j f) := by
  unfold State.updJob
  exact h0.trans ⟨rfl, SecFlow.refl _⟩

theorem State.sendGrant_follows {s0 : State} {s : State} {q : Nat} {j : Nat} {i : Nat} (h0 : Follows s0 s) :
    Follows s0 (State.sendGrant s q j i) := by
  unfold State.sendGrant
  with_reducible repeat' first
      | exact h0 | apply State.updPc_follows | apply State.sendService_follows | apply State.updJob_follows | apply Follows.ite | split

theorem State.pumpGrants_follows {s0 : State} {s : State} {q : Nat} {j : Nat} (h0 : Follows s0 s) :
    Follows s0 (State.pumpGrants s q j) := by
  unfold State.pumpGrants
  with_reducible repeat' first
      | (intro x) | exact Follows.refl _ | assumption | apply State.sendGrant_follows | (apply Follows.foldl; case' h => intro s0 s x hk)
      | apply Follows.ite

theorem State.passOpen_follows {s0 : State} {s : State} {q : Nat} {j : Nat} (h0 : Follows s0 s) :
    Follows s0 (State.passOpen s q j) := by
  unfold State.passOpen
  with_reducible repeat' first | exact h0 | apply State.updJob_follows | apply State.pumpGrants_follows

theorem State.endPass_follows {s0 : State} {s : State} {q : Nat} {j : Nat} {t : RedTrailer} {abort : Bool} (h0 : Follows s0 s) :
    Follows s0 (State.endPass s q j t abort) := by
  unfold State.endPass
  with_reducible repeat' first
      | exact h0 | apply State.hbmWrite_follows | apply State.updRed_follows | apply State.updJob_follows | apply State.passOpen_follows
      | refine Follows.of_fst (by assumption) (State.hbmWrite_follows ?_) | apply Follows.ite

theorem State.reportShortfall_follows {s0 : State} {s : State} {q : Nat} {j : Nat} (h0 : Follows s0 s) :
    Follows s0 (State.reportShortfall s q j) := by
  unfold State.reportShortfall
  with_reducible repeat' first | exact h0 | apply State.post_follows | apply State.updRed_follows

theorem execDownTimeout_follows {s0 : State} {pc : Fin 8} {job : Fin 4096} {s : State} {t : State} (ht : execDownTimeout pc job s = .next t) (h0 : Follows s0 s) :
    Follows s0 t := by
  unfold execDownTimeout at ht; cases ht
  with_reducible repeat' first | exact h0 | apply State.endPass_follows | apply State.reportShortfall_follows | apply Follows.ite

theorem State.nextRound_follows {s0 : State} {s : State} {q : Nat} {j : Nat} (h0 : Follows s0 s) :
    Follows s0 (State.nextRound s q j) := by
  unfold State.nextRound
  with_reducible repeat' first | exact h0 | apply State.updJob_follows | apply State.passOpen_follows

theorem State.redResult_follows {s0 s : State} {q j : Nat} {r : State × Nat} (h0 : Follows s0 s) (hr : Follows s0 r.1) :
    Follows s0 (s.redResult q j r) := by
  unfold State.redResult
  exact Follows.ite (State.updRed_follows hr) h0

theorem State.readField_follows {s0 : State} {s : State} {addr : Nat} {len : Nat} (h0 : Follows s0 s) :
    Follows s0 (State.readField s addr len).1 := by
  unfold State.readField
  with_reducible repeat' first | exact h0 | apply State.hbmRead_follows

theorem State.readMap_follows {s0 s : State} {x : Job} {ms : List Nat} (h0 : Follows s0 s) : Follows s0 (s.readMap x ms).1 := by
  induction ms generalizing s with
  | nil => exact h0
  | cons m ms ih =>
    unfold State.readMap
    split
    · next e => exact Follows.of_fst e (State.readField_follows h0)
    · next e =>
      have h1 := Follows.of_fst e (State.readField_follows h0)
      split
      · next e => exact Follows.of_fst e (ih h1)
      · next e => exact Follows.of_fst e (ih h1)

theorem State.readGrants_follows {s0 s : State} {x : Job} {i n : Nat} (h0 : Follows s0 s) : Follows s0 (s.readGrants x i n).1 := by
  induction n generalizing s i with
  | zero => exact h0
  | succ n ih =>
    unfold State.readGrants
    split
    · next e => exact Follows.of_fst e (State.readField_follows h0)
    · next e =>
      have h1 := Follows.of_fst e (State.readField_follows h0)
      split
      · next e => exact Follows.of_fst e (ih h1)
      · next e => exact Follows.of_fst e (ih h1)

theorem State.updShadow_follows {s0 : State} {s : State} {q : Nat} {j : Nat} {f : ShadowJob → ShadowJob} (h0 : Follows s0 s) :
    Follows s0 (State.updShadow s q j f) := by
  unfold State.updShadow
  exact h0.trans ⟨rfl, SecFlow.refl _⟩

theorem State.redOpen_follows {s0 : State} {s : State} {q : Nat} {j : Nat} (h0 : Follows s0 s) :
    Follows s0 (State.redOpen s q j).1 := by
  unfold State.redOpen
  with_reducible repeat' first
      | (intro x; refine_lift have hx : Follows s0 x := ?_; ?_; (on_goal 1 => clear_value x); (on_goal 2 => dsimp -zeta only [x]))
      | (intro x; clear_value x) | (intro x) | exact Follows.refl _ | assumption | apply State.updJob_follows | apply State.readMap_follows
      | apply State.readGrants_follows | apply State.updShadow_follows | refine Follows.of_fst (by assumption) (State.readMap_follows ?_)
      | refine Follows.of_fst (by assumption) (State.readGrants_follows ?_) | apply Follows.ite | dsimp -zeta only | lift_lets | split

theorem execRedOpen_follows {s0 : State} {pc : Fin 8} {job : Fin 4096} {s : State} {t : State} (ht : execRedOpen pc job s = .next t) (h0 : Follows s0 s) :
    Follows s0 t := by
  unfold execRedOpen at ht; cases ht
  with_reducible repeat' first | exact h0 | apply State.redResult_follows | apply State.redOpen_follows

theorem State.checkMismatch_follows {s0 : State} {s : State} {q : Nat} {j : Nat} {c : Nat} (h0 : Follows s0 s) :
    Follows s0 (State.checkMismatch s q j c) := by
  unfold State.checkMismatch
  with_reducible repeat' first | exact h0 | apply State.post_follows | apply State.updRed_follows | apply State.updJob_follows

theorem State.redSend_follows {s0 : State} {s : State} {q : Nat} {j : Nat} {x0 : Job} {kind : Nat} {level : Nat} {to_ : Nat} {c : Nat} {chunks : List (List Byte)} {t : RedTrailer} (h0 : Follows s0 s) :
    Follows s0 (State.redSend s q j x0 kind level to_ c chunks t) := by
  unfold State.redSend
  with_reducible repeat' first | exact h0 | apply State.fabSend_follows

theorem State.sendDown_follows {s0 : State} {s : State} {q : Nat} {j : Nat} {x0 : Job} {kind : Nat} {c : Nat} {chunks : List (List Byte)} {t : RedTrailer} (h0 : Follows s0 s) :
    Follows s0 (State.sendDown s q j x0 kind c chunks t) := by
  unfold State.sendDown
  with_reducible repeat' first
      | (intro x) | exact Follows.refl _ | assumption | apply State.redSend_follows | (apply Follows.foldl; case' h => intro s0 s x hk)

theorem State.finishChunk_follows {s0 : State} {s : State} {q : Nat} {j : Nat} {c : Nat} {data : List Byte} {t : RedTrailer} {down : Bool} (h0 : Follows s0 s) :
    Follows s0 (State.finishChunk s q j c data t down) := by
  unfold State.finishChunk
  with_reducible repeat' first
      | exact h0 | apply State.hbmWrite_follows | apply State.updJob_follows | apply State.sendDown_follows
      | refine Follows.of_fst (by assumption) (State.hbmWrite_follows ?_) | apply Follows.ite

theorem State.tryCompare_follows {s0 s : State} {q j c : Nat} (h0 : Follows s0 s) : Follows s0 (s.tryCompare q j c) := by
  have h1 : ∀ f g, Follows s0 ((s.updRed q f).updJob q j g) := fun _ _ => State.updJob_follows (State.updRed_follows h0)
  unfold State.tryCompare
  dsimp only
  split
  · exact h0
  · split
    · refine Follows.ite h0 (Follows.ite (State.finishChunk_follows (Follows.ite (State.checkMismatch_follows (h1 _ _)) (h1 _ _)))
        (Follows.ite (State.checkMismatch_follows (h1 _ _)) (h1 _ _)))
    · exact h0

theorem State.rootResult_follows {s0 : State} {s : State} {q : Nat} {j : Nat} {c : Nat} {h : Chunk} (h0 : Follows s0 s) :
    Follows s0 (State.rootResult s q j c h) := by
  unfold State.rootResult
  with_reducible repeat' first
      | exact h0 | apply State.updJob_follows | apply State.reportShortfall_follows | apply State.finishChunk_follows
      | apply State.tryCompare_follows | apply Follows.ite

theorem State.redStart_follows {s0 : State} {s : State} {q : Nat} {j : Nat} (h0 : Follows s0 s) :
    Follows s0 (State.redStart s q j).1 := by
  unfold State.redStart
  with_reducible repeat' first | exact h0 | apply State.updJob_follows | apply State.passOpen_follows | apply Follows.ite | split

theorem State.takeDownChunk_follows {s0 : State} {s : State} {q : Nat} {m : RedMsg} {i : Nat} (h0 : Follows s0 s) :
    Follows s0 (State.takeDownChunk s q m i) := by
  unfold State.takeDownChunk
  with_reducible repeat' first
      | (intro x; clear_value x) | (intro x) | exact Follows.refl _ | assumption | apply State.updJob_follows
      | apply State.finishChunk_follows | apply State.tryCompare_follows | apply Follows.ite | dsimp -zeta only | lift_lets | split

theorem State.putUnit_follows {s0 : State} {s : State} {q : Nat} {u : Nat} {off : Nat} {bs : List Byte} (h0 : Follows s0 s) :
    Follows s0 (State.putUnit s q u off bs) := by
  unfold State.putUnit
  exact h0.trans ⟨rfl, SecFlow.refl _⟩

theorem State.recordNf_follows {s0 : State} {s : State} {q : Nat} {j : Nat} {c : Nat} {f : Option (Nat × Nat)} (h0 : Follows s0 s) :
    Follows s0 (State.recordNf s q j c f) := by
  unfold State.recordNf
  exact h0.trans ⟨rfl, SecFlow.refl _⟩

theorem State.takeSum_follows {s0 : State} {s : State} {q : Nat} {j : Nat} {c : Nat} {es : List (Nat × RedTrailer)} (h0 : Follows s0 s) :
    Follows s0 (State.takeSum s q j c es) := by
  unfold State.takeSum
  with_reducible repeat' first
      | exact h0 | apply State.updJob_follows | apply State.putUnit_follows | apply State.recordNf_follows | apply Follows.ite

theorem State.sumSampled_follows {s0 : State} {s : State} {q : Nat} {j : Nat} {c : Nat} (h0 : Follows s0 s) :
    Follows s0 (State.sumSampled s q j c) := by
  unfold State.sumSampled
  with_reducible repeat' first
      | (intro x; clear_value x) | (intro x) | exact Follows.refl _ | assumption | apply State.takeSum_follows | apply Follows.ite
      | dsimp -zeta only | lift_lets | split

theorem State.collect_follows {s0 : State} {s : State} {q : Nat} {j : Nat} {c : Nat} (h0 : Follows s0 s) :
    Follows s0 (State.collect s q j c) := by
  unfold State.collect
  with_reducible repeat' first
      | (intro x; clear_value x) | (intro x) | exact Follows.refl _ | assumption | apply State.updRed_follows | apply State.updJob_follows
      | apply State.putUnit_follows | apply Follows.ite | dsimp -zeta only | lift_lets | split

theorem State.sendUp_follows {s0 : State} {s : State} {q : Nat} {j : Nat} {c : Nat} {n : Nat} (h0 : Follows s0 s) :
    Follows s0 (State.sendUp s q j c n) := by
  unfold State.sendUp
  with_reducible repeat' first
      | (intro x; refine_lift have hx : Follows s0 x := ?_; ?_; (on_goal 1 => clear_value x); (on_goal 2 => dsimp -zeta only [x]))
      | (intro x; clear_value x) | (intro x) | exact Follows.refl _ | assumption | apply State.updJob_follows | apply State.redSend_follows
      | apply Follows.ite | dsimp -zeta only | lift_lets | split

theorem State.advanceChunk_follows {s0 : State} {s : State} {q : Nat} {j : Nat} {c : Nat} (h0 : Follows s0 s) :
    Follows s0 (State.advanceChunk s q j c) := by
  unfold State.advanceChunk
  with_reducible repeat' first
      | (intro x; refine_lift have hx : Follows s0 x := ?_; ?_; (on_goal 1 => clear_value x); (on_goal 2 => dsimp -zeta only [x]))
      | (intro x; clear_value x) | (intro x) | exact Follows.refl _ | assumption | apply State.rootResult_follows
      | apply State.sumSampled_follows | apply State.collect_follows | apply State.sendUp_follows | apply Follows.ite | dsimp -zeta only
      | lift_lets | split

theorem State.pumpAllGrants_follows {s0 : State} {s : State} {q : Nat} (h0 : Follows s0 s) :
    Follows s0 (State.pumpAllGrants s q) := by
  unfold State.pumpAllGrants
  with_reducible repeat' first
      | (intro x) | exact Follows.refl _ | assumption | apply State.pumpGrants_follows | (apply Follows.foldl; case' h => intro s0 s x hk)

theorem execRedStart_follows {s0 : State} {pc : Fin 8} {job : Fin 4096} {s : State} {t : State} (ht : execRedStart pc job s = .next t) (h0 : Follows s0 s) :
    Follows s0 t := by
  unfold execRedStart at ht; cases ht
  with_reducible repeat' first | exact h0 | apply State.redResult_follows | apply State.redStart_follows

theorem State.withRed_follows {s0 : State} {s : State} {q : Nat} {p : FabPkt} {kind : Nat} {jobAt : Nat} {from_ : Job → RedMsg → Option Nat} {f : State → Job → RedMsg → State} (hf : ∀ s0 y0 y1 y2, Follows s0 y0 → Follows s0 (f y0 y1 y2)) (h0 : Follows s0 s) :
    Follows s0 (State.withRed s q p kind jobAt from_ f) := by
  unfold State.withRed
  with_reducible repeat' first
      | (intro x; refine_lift have hfn : ∀ t, Follows s0 t → Follows s0 (x t) := ?_; ?_; (on_goal 1 => clear_value x); (on_goal 2 => intro t ht; dsimp -zeta only [x]))
      | (intro x) | exact Follows.refl _ | assumption | apply State.updRed_follows | apply hf
      | (apply Follows.lit; first | assumption | exact Follows.refl _ | apply State.updRed_follows | apply hf)
      | refine Follows.trans ?_ (State.takeFab_follows (by assumption) (Follows.refl _)) | apply hfn | apply Follows.ite | dsimp -zeta only
      | lift_lets | split

theorem execShadowDownArrive_follows {s0 : State} {pc : Fin 8} {p : FabPkt} {s : State} {t : State} (ht : execShadowDownArrive pc p s = .next t) (h0 : Follows s0 s) :
    Follows s0 t := by
  unfold execShadowDownArrive at ht; cases ht
  with_reducible repeat' first
      | (intro x; clear_value x) | (intro x) | exact Follows.refl _ | assumption | apply State.updRed_follows | apply State.sendDown_follows
      | apply State.withRed_follows

theorem State.redAdvance_follows {s0 : State} {s : State} {q : Nat} {j : Nat} (h0 : Follows s0 s) :
    Follows s0 (State.redAdvance s q j) := by
  unfold State.redAdvance
  with_reducible repeat' first
      | (intro x) | exact Follows.refl _ | assumption | apply State.collect_follows | apply State.advanceChunk_follows
      | (apply Follows.foldl; case' h => intro s0 s x hk)

theorem State.takeUpChunk_follows {s0 : State} {s : State} {q : Nat} {m : RedMsg} {i : Nat} (h0 : Follows s0 s) :
    Follows s0 (State.takeUpChunk s q m i) := by
  unfold State.takeUpChunk
  with_reducible repeat' first
      | (intro x; clear_value x) | (intro x) | exact Follows.refl _ | assumption | apply State.updJob_follows | apply State.putUnit_follows
      | apply State.recordNf_follows | apply Follows.ite | dsimp -zeta only | lift_lets | split

theorem execUpArrive_follows {s0 : State} {pc : Fin 8} {p : FabPkt} {s : State} {t : State} (ht : execUpArrive pc p s = .next t) (h0 : Follows s0 s) :
    Follows s0 t := by
  unfold execUpArrive at ht; cases ht
  with_reducible repeat' first
      | (intro x; clear_value x) | (intro x) | exact Follows.refl _ | assumption | apply State.updRed_follows | apply State.updJob_follows
      | apply State.withRed_follows | apply State.redAdvance_follows | apply State.takeUpChunk_follows
      | (apply Follows.foldl; case' h => intro s0 s x hk) | apply Follows.ite

theorem State.raiseStraggler_follows {s0 : State} {s : State} {q : Nat} {j : Nat} {level : Nat} {member : Nat} {lag : Nat} (h0 : Follows s0 s) :
    Follows s0 (State.raiseStraggler s q j level member lag) := by
  unfold State.raiseStraggler
  with_reducible repeat' first | exact h0 | apply State.updPc_follows | apply State.post_follows

theorem State.stragglerChild_follows {s0 : State} {s : State} {q : Nat} {j : Nat} {k : Nat × Nat} (h0 : Follows s0 s) :
    Follows s0 (State.stragglerChild s q j k) := by
  unfold State.stragglerChild
  with_reducible repeat' first
      | exact h0 | apply State.draw_follows | apply State.updJob_follows | apply State.raiseStraggler_follows
      | refine Follows.of_snd (by assumption) (State.draw_follows ?_) | apply Follows.ite

theorem State.straggler_follows {s0 : State} {s : State} {q : Nat} {j : Nat} (h0 : Follows s0 s) :
    Follows s0 (State.straggler s q j) := by
  unfold State.straggler
  with_reducible repeat' first
      | (intro x) | exact Follows.refl _ | assumption | apply State.updJob_follows | apply State.stragglerChild_follows
      | (apply Follows.foldl; case' h => intro s0 s x hk) | apply Follows.ite

theorem State.forceChunk_follows {s0 : State} {s : State} {q : Nat} {j : Nat} {c : Nat} (h0 : Follows s0 s) :
    Follows s0 (State.forceChunk s q j c) := by
  unfold State.forceChunk
  with_reducible repeat' first
      | (intro x; refine_lift have hx : Follows s0 x := ?_; ?_; (on_goal 1 => clear_value x); (on_goal 2 => dsimp -zeta only [x]))
      | (intro x; clear_value x) | (intro x) | exact Follows.refl _ | assumption | apply State.updJob_follows
      | apply State.finishChunk_follows | apply State.putUnit_follows | apply State.takeSum_follows
      | (apply Follows.foldl; case' h => intro s0 s x hk) | apply Follows.ite | dsimp -zeta only | lift_lets | split

theorem execShortfallTimeout_follows {s0 : State} {pc : Fin 8} {job : Fin 4096} {s : State} {t : State} (ht : execShortfallTimeout pc job s = .next t) (h0 : Follows s0 s) :
    Follows s0 t := by
  unfold execShortfallTimeout at ht; cases ht
  with_reducible repeat' first
      | (intro x) | exact Follows.refl _ | assumption | apply State.reportShortfall_follows | apply State.redAdvance_follows
      | apply State.forceChunk_follows | (apply Follows.foldl; case' h => intro s0 s x hk) | apply Follows.ite

theorem State.addLine_follows {s0 : State} {s : State} {q : Nat} {j : Nat} {l : Nat} {count : Nat} {bs : List Byte} (h0 : Follows s0 s) :
    Follows s0 (State.addLine s q j l count bs) := by
  unfold State.addLine
  with_reducible repeat' first
      | (intro x; refine_lift have hx : Follows s0 x := ?_; ?_; (on_goal 1 => clear_value x); (on_goal 2 => dsimp -zeta only [x]))
      | (intro x; clear_value x) | (intro x) | exact Follows.refl _ | assumption | apply State.updJob_follows | apply State.putUnit_follows
      | apply State.recordNf_follows | apply Follows.ite | dsimp -zeta only | lift_lets | split

theorem State.meshReduce_follows {s0 : State} {s : State} {q : Nat} {p : Packet} (h0 : Follows s0 s) :
    Follows s0 (State.meshReduce s q p) := by
  unfold State.meshReduce
  with_reducible repeat' first
      | (intro x) | exact Follows.refl _ | assumption | apply State.discardMesh_follows | apply State.updJob_follows
      | apply State.reportShortfall_follows | apply State.recordNf_follows | apply State.redAdvance_follows | apply State.addLine_follows
      | (apply Follows.foldl; case' h => intro s0 s x hk) | apply Follows.ite | dsimp -zeta only | lift_lets | split

theorem execDownArrive_follows {s0 : State} {pc : Fin 8} {p : FabPkt} {s : State} {t : State} (ht : execDownArrive pc p s = .next t) (h0 : Follows s0 s) :
    Follows s0 t := by
  unfold execDownArrive at ht; cases ht
  with_reducible repeat' first
      | (intro x; clear_value x) | (intro x) | exact Follows.refl _ | assumption | apply State.sendDown_follows
      | apply State.takeDownChunk_follows | apply State.withRed_follows | (apply Follows.foldl; case' h => intro s0 s x hk)

theorem State.shadowBack_follows {s0 : State} {s : State} {q : Nat} {j : Nat} {h : ShadowJob} {data : List Byte} {t : RedTrailer} (h0 : Follows s0 s) :
    Follows s0 (State.shadowBack s q j h data t) := by
  unfold State.shadowBack
  exact h0.trans ⟨rfl, SecFlow.refl _⟩

theorem State.shadowSum_follows {s0 : State} {s : State} {q : Nat} {j : Nat} (h0 : Follows s0 s) :
    Follows s0 (State.shadowSum s q j) := by
  unfold State.shadowSum
  with_reducible repeat' first
      | exact h0 | apply State.updShadow_follows | apply State.redSend_follows | apply State.sendDown_follows
      | apply State.shadowBack_follows | apply Follows.ite | split

theorem State.shadowPlace_follows {s0 : State} {s : State} {q : Nat} {j : Nat} {round : BitVec 16} {pass : W32} {chunk : Nat} {level : Nat} {data : List Byte} {t : RedTrailer} (h0 : Follows s0 s) :
    Follows s0 (State.shadowPlace s q j round pass chunk level data t) := by
  unfold State.shadowPlace
  with_reducible repeat' first | exact h0 | apply State.updShadow_follows | apply State.putUnit_follows | apply State.shadowSum_follows

theorem execGrantArrive_follows {s0 : State} {site : SiteId} {s : State} {t : State} (ht : execGrantArrive site s = .next t) (h0 : Follows s0 s) :
    Follows s0 t := by
  unfold execGrantArrive at ht; cases ht
  exact h0.trans ⟨rfl, SecFlow.refl _⟩

theorem execShadowCopyArrive_follows {s0 : State} {pc : Fin 8} {job : Fin 4096} {s : State} {t : State} (ht : execShadowCopyArrive pc job s = .next t) (h0 : Follows s0 s) :
    Follows s0 t := by
  unfold execShadowCopyArrive at ht; cases ht
  with_reducible repeat' first
      | exact h0 | apply State.updRed_follows | apply State.updJob_follows | apply State.tryCompare_follows
      | apply State.shadowPlace_follows | apply Follows.ite | split

theorem execGrantRetry_follows {s0 : State} {pc : Fin 8} {job : Fin 4096} {row : Fin 192} {col : Fin 192} {s : State} {t : State} (ht : execGrantRetry pc job row col s = .next t) (h0 : Follows s0 s) :
    Follows s0 t := by
  unfold execGrantRetry at ht; cases ht
  with_reducible repeat' first | exact h0 | apply State.updJob_follows | apply State.pumpGrants_follows

theorem State.dropCopies_follows {s0 : State} {s : State} {q : Nat} {j : Nat} (h0 : Follows s0 s) :
    Follows s0 (State.dropCopies s q j) := by
  unfold State.dropCopies
  exact h0.trans ⟨rfl, SecFlow.refl _⟩

theorem State.freeJob_follows {s0 : State} {s : State} {q : Nat} {j : Nat} (h0 : Follows s0 s) :
    Follows s0 (State.freeJob s q j) := by
  unfold State.freeJob
  exact h0.trans ⟨rfl, SecFlow.refl _⟩

theorem State.grantAnswered_follows {s0 : State} {s : State} {q : Nat} {tag : BitVec 12} {busy : Bool} (h0 : Follows s0 s) :
    Follows s0 (State.grantAnswered s q tag busy) := by
  unfold State.grantAnswered
  with_reducible repeat' first | exact h0 | apply State.updPc_follows | apply State.updRed_follows | apply State.pumpAllGrants_follows

theorem execPcReduceArrive_follows {s0 : State} {pc : Fin 8} {p : Packet} {s : State} {t : State} (ht : execPcReduceArrive pc p s = .next t) (h0 : Follows s0 s) :
    Follows s0 t := by
  unfold execPcReduceArrive at ht; cases ht
  with_reducible repeat' first
      | exact h0 | apply State.updPc_follows | apply State.sendService_follows | apply State.meshReduce_follows | apply Follows.ite

theorem execPassComplete_follows {s0 : State} {pc : Fin 8} {job : Fin 4096} {s : State} {t : State} (ht : execPassComplete pc job s = .next t) (h0 : Follows s0 s) :
    Follows s0 t := by
  unfold execPassComplete at ht; cases ht
  with_reducible repeat' first | exact h0 | apply State.endPass_follows | apply State.straggler_follows | apply Follows.ite

theorem execShadowUpArrive_follows {s0 : State} {pc : Fin 8} {p : FabPkt} {s : State} {t : State} (ht : execShadowUpArrive pc p s = .next t) (h0 : Follows s0 s) :
    Follows s0 t := by
  unfold execShadowUpArrive at ht; cases ht
  with_reducible repeat' first
      | (intro x; clear_value x) | (intro x) | exact Follows.refl _ | assumption | apply State.withRed_follows
      | apply State.shadowPlace_follows

/-! ## Ue -/

theorem State.updUe_follows {s0 : State} {s : State} {q : Nat} {f : UeCtl → UeCtl} (h0 : Follows s0 s) :
    Follows s0 (State.updUe s q f) := by
  unfold State.updUe
  exact h0.trans ⟨rfl, SecFlow.refl _⟩

theorem State.updLayer_follows {s0 : State} {s : State} {q : Nat} {n : Nat} {f : LayerEntry → LayerEntry} (h0 : Follows s0 s) :
    Follows s0 (State.updLayer s q n f) := by
  unfold State.updLayer
  exact h0.trans ⟨rfl, SecFlow.refl _⟩

theorem State.resumeEntry_follows {s0 : State} {s : State} {q : Nat} {n : Nat} (h0 : Follows s0 s) :
    Follows s0 (State.resumeEntry s q n) := by
  unfold State.resumeEntry
  with_reducible repeat' first | exact h0 | apply State.entryFault_follows | apply State.updLayer_follows | apply Follows.ite

theorem State.leaveHeld_follows {s0 : State} {s : State} {q : Nat} {j : Nat} (h0 : Follows s0 s) :
    Follows s0 (State.leaveHeld s q j) := by
  unfold State.leaveHeld
  with_reducible repeat' first | exact h0 | apply State.nextRound_follows | apply Follows.ite

theorem State.releaseEntry_follows {s0 : State} {s : State} {q : Nat} {n : Nat} {code : Nat} (h0 : Follows s0 s) :
    Follows s0 (State.releaseEntry s q n code) := by
  unfold State.releaseEntry
  with_reducible repeat' first
      | exact h0 | apply State.updJob_follows | apply State.updUe_follows | apply State.updLayer_follows | apply State.resumeEntry_follows
      | apply State.leaveHeld_follows | apply Follows.ite

theorem State.freeEngines_follows {s0 : State} {s : State} {q : Nat} {n : Nat} (h0 : Follows s0 s) :
    Follows s0 (State.freeEngines s q n) := by
  unfold State.freeEngines
  with_reducible repeat' first
      | (intro x) | exact Follows.refl _ | assumption | apply State.updSite_follows | (apply Follows.foldl; case' h => intro s0 s x hk)
      | apply Follows.ite

theorem State.ueAbandon_follows {s0 : State} {s : State} {q : Nat} {n : Nat} (h0 : Follows s0 s) :
    Follows s0 (State.ueAbandon s q n) := by
  unfold State.ueAbandon
  with_reducible repeat' first | exact h0 | apply State.releaseEntry_follows | apply State.freeEngines_follows | apply Follows.ite

theorem execUeAbandon_follows {s0 : State} {pc : Fin 8} {entry : BitVec 12} {s : State} {t : State} (ht : execUeAbandon pc entry s = .next t) (h0 : Follows s0 s) :
    Follows s0 t := by
  unfold execUeAbandon at ht; cases ht
  with_reducible repeat' first | exact h0 | apply State.ueAbandon_follows

theorem State.ueRelease_follows {s0 : State} {s : State} {k : Nat} {code : BitVec 3} (h0 : Follows s0 s) :
    Follows s0 (State.ueRelease s k code) := by
  unfold State.ueRelease
  with_reducible repeat' first
      | exact h0 | apply State.updSite_follows | apply State.releaseEntry_follows | apply State.freeEngines_follows | apply Follows.ite

theorem execUeRelease_follows {s0 : State} {pc : Fin 8} {e : Fin 16} {code : BitVec 3} {s : State} {t : State} (ht : execUeRelease pc e code s = .next t) (h0 : Follows s0 s) :
    Follows s0 t := by
  unfold execUeRelease at ht; cases ht
  with_reducible repeat' first | exact h0 | apply State.ueRelease_follows

theorem State.dropTasks_follows {s0 : State} {s : State} {q : Nat} {j : Nat} (h0 : Follows s0 s) :
    Follows s0 (State.dropTasks s q j) := by
  unfold State.dropTasks
  exact h0.trans ⟨rfl, SecFlow.refl _⟩

theorem State.redAbort_follows {s0 : State} {s : State} {q : Nat} {j : Nat} (h0 : Follows s0 s) :
    Follows s0 (State.redAbort s q j).1 := by
  unfold State.redAbort
  with_reducible repeat' first
      | (intro x; clear_value x) | (intro x) | exact Follows.refl _ | assumption | apply State.updJob_follows
      | apply State.dropCopies_follows | apply State.dropTasks_follows | apply Follows.ite | dsimp -zeta only | lift_lets | split

theorem execRedAbort_follows {s0 : State} {pc : Fin 8} {job : Fin 4096} {s : State} {t : State} (ht : execRedAbort pc job s = .next t) (h0 : Follows s0 s) :
    Follows s0 t := by
  unfold execRedAbort at ht; cases ht
  with_reducible repeat' first | exact h0 | apply State.redResult_follows | apply State.redAbort_follows

theorem State.readRun_follows {s0 s : State} {addr n : Nat} (h0 : Follows s0 s) : Follows s0 (s.readRun addr n).1 := by
  induction n generalizing s addr with
  | zero => exact h0
  | succ n ih =>
    unfold State.readRun
    dsimp -zeta only
    exact ih (State.hbmRead_follows h0)

theorem State.schedule_follows {s0 : State} {s : State} {q : Nat} {group : Nat} {step : Nat} (h0 : Follows s0 s) :
    Follows s0 (State.schedule s q group step).1 := by
  unfold State.schedule
  with_reducible repeat' first
      | exact h0 | apply State.updUe_follows | apply State.readRun_follows
      | refine Follows.of_fst (by assumption) (State.readRun_follows ?_) | apply Follows.ite

theorem State.layerWrite_follows {s0 : State} {s : State} {q : Nat} {n : Nat} {w : Nat} {v : W64} (h0 : Follows s0 s) :
    Follows s0 (State.layerWrite s q n w v) := by
  unfold State.layerWrite
  with_reducible repeat' first | exact h0 | apply State.updUe_follows | apply State.updLayer_follows | apply Follows.ite

theorem State.redClose_follows {s0 : State} {s : State} {q : Nat} {j : Nat} (h0 : Follows s0 s) :
    Follows s0 (State.redClose s q j).1 := by
  unfold State.redClose
  with_reducible repeat' first
      | (intro x; clear_value x) | (intro x) | exact Follows.refl _ | assumption | apply State.freeJob_follows
      | apply State.dropTasks_follows | apply Follows.ite | dsimp -zeta only | lift_lets | split

theorem execRedClose_follows {s0 : State} {pc : Fin 8} {job : Fin 4096} {s : State} {t : State} (ht : execRedClose pc job s = .next t) (h0 : Follows s0 s) :
    Follows s0 t := by
  unfold execRedClose at ht; cases ht
  with_reducible repeat' first | exact h0 | apply State.redResult_follows | apply State.redClose_follows

theorem execLayerEntryWrite_follows {s0 : State} {pc : Fin 8} {entry : BitVec 12} {word : Fin 16} {value : W64} {s : State} {t : State} (ht : execLayerEntryWrite pc entry word value s = .next t) (h0 : Follows s0 s) :
    Follows s0 t := by
  unfold execLayerEntryWrite at ht; cases ht
  with_reducible repeat' first | exact h0 | apply State.layerWrite_follows

theorem State.recordFlags_follows {s0 : State} {s : State} {x0 : Job} (h0 : Follows s0 s) :
    Follows s0 (State.recordFlags s x0).1 := by
  unfold State.recordFlags
  with_reducible repeat' first
      | (intro x) | exact Follows.refl _ | assumption | apply State.hbmRead_follows
      | (apply Follows.lit; first | assumption | exact Follows.refl _ | apply State.hbmRead_follows)
      | refine Follows.of_fst (by assumption) (State.hbmRead_follows ?_) | apply hfn | (apply Follows.foldl_fst; case' h => intro s0 p x hk)

theorem State.queueEntry_follows {s0 : State} {s : State} {q : Nat} {n : Nat} {x0 : Job} {flags : Bool × Bool × Bool} (h0 : Follows s0 s) :
    Follows s0 (State.queueEntry s q n x0 flags) := by
  unfold State.queueEntry
  with_reducible repeat' first
      | exact h0 | apply State.entryFault_follows | apply State.updUe_follows | apply State.updLayer_follows | apply State.schedule_follows
      | refine Follows.of_fst (by assumption) (State.schedule_follows ?_) | apply Follows.ite

theorem execUeTasksQueued_follows {s0 : State} {pc : Fin 8} {job : Fin 4096} {s : State} {t : State} (ht : execUeTasksQueued pc job s = .next t) (h0 : Follows s0 s) :
    Follows s0 t := by
  unfold execUeTasksQueued at ht; cases ht
  with_reducible repeat' first
      | (intro x) | exact Follows.refl _ | assumption | apply State.updJob_follows | apply State.updUe_follows
      | apply State.leaveHeld_follows | apply State.recordFlags_follows | apply State.queueEntry_follows
      | refine Follows.of_fst (by assumption) (State.recordFlags_follows ?_) | (apply Follows.foldl; case' h => intro s0 s x hk)
      | apply Follows.ite

theorem execUeTaskStart_follows {s0 s t : State} {pc : Fin 8} (ht : execUeTaskStart pc s = .next t) (h0 : Follows s0 s) : Follows s0 t := by
  unfold execUeTaskStart at ht
  extract_lets q at ht
  injection ht with ht
  subst ht
  split
  · exact h0
  · extract_lets e idle
    refine Follows.ite ?_ h0
    exact Follows.foldl (State.updLayer_follows (State.updUe_follows h0)) (fun _ _ _ h => State.updSite_follows h)


theorem execUeBarrier_follows {s0 : State} {pc : Fin 8} {e : Fin 16} {s : State} {t : State} (ht : execUeBarrier pc e s = .next t) (h0 : Follows s0 s) :
    Follows s0 t := by
  unfold execUeBarrier at ht; cases ht
  exact h0.trans ⟨rfl, SecFlow.refl _⟩

theorem State.ueCtlWrite_follows {s0 : State} {s : State} {q : Nat} {enable : Bool} {engines : BitVec 16} (h0 : Follows s0 s) :
    Follows s0 (State.ueCtlWrite s q enable engines) := by
  unfold State.ueCtlWrite
  with_reducible repeat' first
      | (intro x) | exact Follows.refl _ | assumption | apply State.updUe_follows | apply State.leaveHeld_follows
      | (apply Follows.foldl; case' h => intro s0 s x hk) | apply Follows.ite

theorem execUeReleaseLine_follows {s0 : State} {pc : Fin 8} {p : Packet} {s : State} {t : State} (ht : execUeReleaseLine pc p s = .next t) (h0 : Follows s0 s) :
    Follows s0 t := by
  unfold execUeReleaseLine at ht; cases ht
  with_reducible repeat' first
      | exact h0 | apply State.updPc_follows | apply State.sendService_follows | apply State.updUe_follows
      | apply State.releaseEntry_follows | apply Follows.ite

/-! ## Ctl -/

theorem State.instrFault_follows {s0 : State} {s : State} {k : Nat} {n : Fin 4} {code : Nat} (h0 : Follows s0 s) :
    Follows s0 (State.instrFault s k n code) := by
  unfold State.instrFault
  with_reducible repeat' first | exact h0 | apply State.taskFault_follows

theorem State.issue_follows {s0 : State} {s : State} {k : Nat} {n : Fin 4} {op : CtlOp} {body : W32 → State → State} (hbody : ∀ s0 y0 y1, Follows s0 y1 → Follows s0 (body y0 y1)) (h0 : Follows s0 s) :
    Follows s0 (State.issue s k n op body) := by
  unfold State.issue
  with_reducible repeat' first
      | (intro x; clear_value x) | (intro x) | exact Follows.refl _ | assumption | apply State.updSite_follows
      | apply State.readChecked_follows | apply State.instrFault_follows | apply hbody | apply Follows.ite | dsimp -zeta only | lift_lets
      | split

theorem State.issueSlot_follows {s0 : State} {s : State} {k : Nat} {n : Fin 4} {op : CtlOp} {f : W32 → Slot → Slot} (h0 : Follows s0 s) :
    Follows s0 (State.issueSlot s k n op f) := by
  unfold State.issueSlot
  with_reducible repeat' first
      | (intro x; clear_value x) | (intro x) | exact Follows.refl _ | assumption | apply State.updSlot_follows | apply State.issue_follows

theorem execBeq_follows {s0 : State} {core : CoreId} {slot : Fin 4} {s : State} {t : State} (ht : execBeq core slot s = .next t) (h0 : Follows s0 s) :
    Follows s0 t := by
  unfold execBeq at ht; cases ht
  with_reducible repeat' first | exact h0 | apply State.issueSlot_follows

theorem State.jr_follows {s0 : State} {s : State} {k : Nat} {n : Fin 4} {w : W32} (h0 : Follows s0 s) :
    Follows s0 (State.jr s k n w) := by
  unfold State.jr
  with_reducible repeat' first | exact h0 | apply State.updSlot_follows | apply State.instrFault_follows | apply Follows.ite

theorem execJr_follows {s0 : State} {core : CoreId} {slot : Fin 4} {s : State} {t : State} (ht : execJr core slot s = .next t) (h0 : Follows s0 s) :
    Follows s0 t := by
  unfold execJr at ht; cases ht
  with_reducible repeat' first
      | (intro x; clear_value x) | (intro x) | exact Follows.refl _ | assumption | apply State.issue_follows | apply State.jr_follows

theorem execHalt_follows {s0 : State} {core : CoreId} {slot : Fin 4} {s : State} {t : State} (ht : execHalt core slot s = .next t) (h0 : Follows s0 s) :
    Follows s0 t := by
  unfold execHalt at ht; cases ht
  with_reducible repeat' first | exact h0 | apply State.issueSlot_follows

theorem execBne_follows {s0 : State} {core : CoreId} {slot : Fin 4} {s : State} {t : State} (ht : execBne core slot s = .next t) (h0 : Follows s0 s) :
    Follows s0 t := by
  unfold execBne at ht; cases ht
  with_reducible repeat' first | exact h0 | apply State.issueSlot_follows

theorem execShl_follows {s0 : State} {core : CoreId} {slot : Fin 4} {s : State} {t : State} (ht : execShl core slot s = .next t) (h0 : Follows s0 s) :
    Follows s0 t := by
  unfold execShl at ht; cases ht
  with_reducible repeat' first | exact h0 | apply State.issueSlot_follows

theorem execTaskStop_follows {s0 : State} {core : CoreId} {slot : Fin 4} {s : State} {t : State} (ht : execTaskStop core slot s = .next t) (h0 : Follows s0 s) :
    Follows s0 t := by
  unfold execTaskStop at ht; cases ht
  exact h0.trans ⟨rfl, SecFlow.refl _⟩

theorem State.load_follows {s0 : State} {s : State} {k : Nat} {n : Fin 4} {w : W32} (h0 : Follows s0 s) :
    Follows s0 (State.load s k n w) := by
  unfold State.load
  with_reducible repeat' first
      | (intro x; clear_value x) | (intro x) | exact Follows.refl _ | assumption | apply State.updSlot_follows
      | apply State.readChecked_follows | apply State.instrFault_follows | apply Follows.ite | dsimp -zeta only | lift_lets | split

theorem execLoad_follows {s0 : State} {core : CoreId} {slot : Fin 4} {s : State} {t : State} (ht : execLoad core slot s = .next t) (h0 : Follows s0 s) :
    Follows s0 t := by
  unfold execLoad at ht; cases ht
  with_reducible repeat' first
      | (intro x; clear_value x) | (intro x) | exact Follows.refl _ | assumption | apply State.issue_follows | apply State.load_follows

theorem execYield_follows {s0 : State} {core : CoreId} {slot : Fin 4} {s : State} {t : State} (ht : execYield core slot s = .next t) (h0 : Follows s0 s) :
    Follows s0 t := by
  unfold execYield at ht; cases ht
  with_reducible repeat' first | exact h0 | apply State.issueSlot_follows

theorem execXori_follows {s0 : State} {core : CoreId} {slot : Fin 4} {s : State} {t : State} (ht : execXori core slot s = .next t) (h0 : Follows s0 s) :
    Follows s0 t := by
  unfold execXori at ht; cases ht
  with_reducible repeat' first | exact h0 | apply State.issueSlot_follows

theorem execBltu_follows {s0 : State} {core : CoreId} {slot : Fin 4} {s : State} {t : State} (ht : execBltu core slot s = .next t) (h0 : Follows s0 s) :
    Follows s0 t := by
  unfold execBltu at ht; cases ht
  with_reducible repeat' first | exact h0 | apply State.issueSlot_follows

theorem execBgeu_follows {s0 : State} {core : CoreId} {slot : Fin 4} {s : State} {t : State} (ht : execBgeu core slot s = .next t) (h0 : Follows s0 s) :
    Follows s0 t := by
  unfold execBgeu at ht; cases ht
  with_reducible repeat' first | exact h0 | apply State.issueSlot_follows

theorem execSqpopResume_follows {s0 : State} {core : CoreId} {slot : Fin 4} {s : State} {t : State} (ht : execSqpopResume core slot s = .next t) (h0 : Follows s0 s) :
    Follows s0 t := by
  unfold execSqpopResume at ht; cases ht
  with_reducible repeat' first | exact h0 | apply State.updSlot_follows | apply State.instrFault_follows | apply Follows.ite | split

theorem execLuih_follows {s0 : State} {core : CoreId} {slot : Fin 4} {s : State} {t : State} (ht : execLuih core slot s = .next t) (h0 : Follows s0 s) :
    Follows s0 t := by
  unfold execLuih at ht; cases ht
  with_reducible repeat' first | exact h0 | apply State.issueSlot_follows

theorem execSqcnt_follows {s0 : State} {core : CoreId} {slot : Fin 4} {s : State} {t : State} (ht : execSqcnt core slot s = .next t) (h0 : Follows s0 s) :
    Follows s0 t := by
  unfold execSqcnt at ht; cases ht
  with_reducible repeat' first | exact h0 | apply State.issueSlot_follows

theorem State.waitInstr_follows {s0 : State} {s : State} {k : Nat} {n : Fin 4} {w : W32} (h0 : Follows s0 s) :
    Follows s0 (State.waitInstr s k n w) := by
  unfold State.waitInstr
  with_reducible repeat' first | exact h0 | apply State.updSlot_follows | apply Follows.ite

theorem execBlt_follows {s0 : State} {core : CoreId} {slot : Fin 4} {s : State} {t : State} (ht : execBlt core slot s = .next t) (h0 : Follows s0 s) :
    Follows s0 t := by
  unfold execBlt at ht; cases ht
  with_reducible repeat' first | exact h0 | apply State.issueSlot_follows

theorem State.sqpop_follows {s0 : State} {s : State} {k : Nat} {n : Fin 4} {w : W32} (h0 : Follows s0 s) :
    Follows s0 (State.sqpop s k n w) := by
  unfold State.sqpop
  with_reducible repeat' first | exact h0 | apply State.updSlot_follows | apply State.instrFault_follows | apply Follows.ite

theorem execSqpop_follows {s0 : State} {core : CoreId} {slot : Fin 4} {s : State} {t : State} (ht : execSqpop core slot s = .next t) (h0 : Follows s0 s) :
    Follows s0 t := by
  unfold execSqpop at ht; cases ht
  with_reducible repeat' first
      | (intro x; clear_value x) | (intro x) | exact Follows.refl _ | assumption | apply State.issue_follows | apply State.sqpop_follows

theorem execWait_follows {s0 : State} {core : CoreId} {slot : Fin 4} {s : State} {t : State} (ht : execWait core slot s = .next t) (h0 : Follows s0 s) :
    Follows s0 t := by
  unfold execWait at ht; cases ht
  with_reducible repeat' first
      | (intro x; clear_value x) | (intro x) | exact Follows.refl _ | assumption | apply State.issue_follows | apply State.waitInstr_follows

theorem execShi_follows {s0 : State} {core : CoreId} {slot : Fin 4} {s : State} {t : State} (ht : execShi core slot s = .next t) (h0 : Follows s0 s) :
    Follows s0 t := by
  unfold execShi at ht; cases ht
  with_reducible repeat' first | exact h0 | apply State.issueSlot_follows

theorem execSltu_follows {s0 : State} {core : CoreId} {slot : Fin 4} {s : State} {t : State} (ht : execSltu core slot s = .next t) (h0 : Follows s0 s) :
    Follows s0 t := by
  unfold execSltu at ht; cases ht
  with_reducible repeat' first | exact h0 | apply State.issueSlot_follows

theorem execAddi_follows {s0 : State} {core : CoreId} {slot : Fin 4} {s : State} {t : State} (ht : execAddi core slot s = .next t) (h0 : Follows s0 s) :
    Follows s0 t := by
  unfold execAddi at ht; cases ht
  with_reducible repeat' first | exact h0 | apply State.issueSlot_follows

theorem execWaitRelease_follows {s0 : State} {core : CoreId} {slot : Fin 4} {s : State} {t : State} (ht : execWaitRelease core slot s = .next t) (h0 : Follows s0 s) :
    Follows s0 t := by
  unfold execWaitRelease at ht; cases ht
  with_reducible repeat' first | exact h0 | apply State.updSlot_follows | apply Follows.ite | split

theorem execHaltAll_follows {s0 : State} {core : CoreId} {s : State} {t : State} (ht : execHaltAll core s = .next t) (h0 : Follows s0 s) :
    Follows s0 t := by
  unfold execHaltAll at ht; cases ht
  exact h0.trans ⟨rfl, SecFlow.refl _⟩

theorem execAndi_follows {s0 : State} {core : CoreId} {slot : Fin 4} {s : State} {t : State} (ht : execAndi core slot s = .next t) (h0 : Follows s0 s) :
    Follows s0 t := by
  unfold execAndi at ht; cases ht
  with_reducible repeat' first | exact h0 | apply State.issueSlot_follows

theorem State.store_follows {s0 : State} {s : State} {k : Nat} {n : Fin 4} {w : W32} (h0 : Follows s0 s) :
    Follows s0 (State.store s k n w) := by
  unfold State.store
  with_reducible repeat' first
      | (intro x; clear_value x) | (intro x) | exact Follows.refl _ | assumption | apply State.updSlot_follows
      | apply State.writeChecked_follows | apply State.instrFault_follows | apply Follows.ite | dsimp -zeta only | lift_lets | split

theorem execSlt_follows {s0 : State} {core : CoreId} {slot : Fin 4} {s : State} {t : State} (ht : execSlt core slot s = .next t) (h0 : Follows s0 s) :
    Follows s0 t := by
  unfold execSlt at ht; cases ht
  with_reducible repeat' first | exact h0 | apply State.issueSlot_follows

theorem execSub_follows {s0 : State} {core : CoreId} {slot : Fin 4} {s : State} {t : State} (ht : execSub core slot s = .next t) (h0 : Follows s0 s) :
    Follows s0 t := by
  unfold execSub at ht; cases ht
  with_reducible repeat' first | exact h0 | apply State.issueSlot_follows

theorem execOr_follows {s0 : State} {core : CoreId} {slot : Fin 4} {s : State} {t : State} (ht : execOr core slot s = .next t) (h0 : Follows s0 s) :
    Follows s0 t := by
  unfold execOr at ht; cases ht
  with_reducible repeat' first | exact h0 | apply State.issueSlot_follows

theorem execJal_follows {s0 : State} {core : CoreId} {slot : Fin 4} {s : State} {t : State} (ht : execJal core slot s = .next t) (h0 : Follows s0 s) :
    Follows s0 t := by
  unfold execJal at ht; cases ht
  with_reducible repeat' first | exact h0 | apply State.issueSlot_follows

theorem execShr_follows {s0 : State} {core : CoreId} {slot : Fin 4} {s : State} {t : State} (ht : execShr core slot s = .next t) (h0 : Follows s0 s) :
    Follows s0 t := by
  unfold execShr at ht; cases ht
  with_reducible repeat' first | exact h0 | apply State.issueSlot_follows

theorem execTaskStart_follows {s0 : State} {core : CoreId} {slot : Fin 4} {s : State} {t : State} (ht : execTaskStart core slot s = .next t) (h0 : Follows s0 s) :
    Follows s0 t := by
  unfold execTaskStart at ht; cases ht
  with_reducible repeat' first | exact h0 | apply State.updSlot_follows | apply Follows.ite

theorem execMul_follows {s0 : State} {core : CoreId} {slot : Fin 4} {s : State} {t : State} (ht : execMul core slot s = .next t) (h0 : Follows s0 s) :
    Follows s0 t := by
  unfold execMul at ht; cases ht
  with_reducible repeat' first | exact h0 | apply State.issueSlot_follows

theorem execOri_follows {s0 : State} {core : CoreId} {slot : Fin 4} {s : State} {t : State} (ht : execOri core slot s = .next t) (h0 : Follows s0 s) :
    Follows s0 t := by
  unfold execOri at ht; cases ht
  with_reducible repeat' first | exact h0 | apply State.issueSlot_follows

theorem execXor_follows {s0 : State} {core : CoreId} {slot : Fin 4} {s : State} {t : State} (ht : execXor core slot s = .next t) (h0 : Follows s0 s) :
    Follows s0 t := by
  unfold execXor at ht; cases ht
  with_reducible repeat' first | exact h0 | apply State.issueSlot_follows

theorem execSlotStopDone_follows {s0 : State} {core : CoreId} {slot : Fin 4} {s : State} {t : State} (ht : execSlotStopDone core slot s = .next t) (h0 : Follows s0 s) :
    Follows s0 t := by
  unfold execSlotStopDone at ht; cases ht
  exact h0.trans ⟨rfl, SecFlow.refl _⟩

theorem execLui_follows {s0 : State} {core : CoreId} {slot : Fin 4} {s : State} {t : State} (ht : execLui core slot s = .next t) (h0 : Follows s0 s) :
    Follows s0 t := by
  unfold execLui at ht; cases ht
  with_reducible repeat' first | exact h0 | apply State.issueSlot_follows

theorem execStore_follows {s0 : State} {core : CoreId} {slot : Fin 4} {s : State} {t : State} (ht : execStore core slot s = .next t) (h0 : Follows s0 s) :
    Follows s0 t := by
  unfold execStore at ht; cases ht
  with_reducible repeat' first
      | (intro x; clear_value x) | (intro x) | exact Follows.refl _ | assumption | apply State.issue_follows | apply State.store_follows

theorem execAnd_follows {s0 : State} {core : CoreId} {slot : Fin 4} {s : State} {t : State} (ht : execAnd core slot s = .next t) (h0 : Follows s0 s) :
    Follows s0 t := by
  unfold execAnd at ht; cases ht
  with_reducible repeat' first | exact h0 | apply State.issueSlot_follows

theorem execSar_follows {s0 : State} {core : CoreId} {slot : Fin 4} {s : State} {t : State} (ht : execSar core slot s = .next t) (h0 : Follows s0 s) :
    Follows s0 t := by
  unfold execSar at ht; cases ht
  with_reducible repeat' first | exact h0 | apply State.issueSlot_follows

theorem execSlti_follows {s0 : State} {core : CoreId} {slot : Fin 4} {s : State} {t : State} (ht : execSlti core slot s = .next t) (h0 : Follows s0 s) :
    Follows s0 t := by
  unfold execSlti at ht; cases ht
  with_reducible repeat' first | exact h0 | apply State.issueSlot_follows

theorem execAdd_follows {s0 : State} {core : CoreId} {slot : Fin 4} {s : State} {t : State} (ht : execAdd core slot s = .next t) (h0 : Follows s0 s) :
    Follows s0 t := by
  unfold execAdd at ht; cases ht
  with_reducible repeat' first | exact h0 | apply State.issueSlot_follows

theorem execBge_follows {s0 : State} {core : CoreId} {slot : Fin 4} {s : State} {t : State} (ht : execBge core slot s = .next t) (h0 : Follows s0 s) :
    Follows s0 t := by
  unfold execBge at ht; cases ht
  with_reducible repeat' first | exact h0 | apply State.issueSlot_follows

theorem execMulh_follows {s0 : State} {core : CoreId} {slot : Fin 4} {s : State} {t : State} (ht : execMulh core slot s = .next t) (h0 : Follows s0 s) :
    Follows s0 t := by
  unfold execMulh at ht; cases ht
  with_reducible repeat' first | exact h0 | apply State.issueSlot_follows

/-! ## Dma -/

theorem State.dmaPutStep_follows {s0 : State} {s : State} {k : Nat} {e : Fin 2} {x0 : QEntry} (h0 : Follows s0 s) :
    Follows s0 (State.dmaPutStep s k e x0) := by
  unfold State.dmaPutStep
  with_reducible repeat' first
      | (intro x; clear_value x) | (intro x) | exact Follows.refl _ | assumption | apply State.updSite_follows
      | apply State.carryOut_follows | apply State.sendRequest_follows | apply Follows.ite

theorem State.dmaStep_follows {s0 s : State} {k : Nat} {e : Fin 2} {op : Nat} {f : QEntry → State} (h0 : Follows s0 s)
    (hf : ∀ x, Follows s0 (f x)) : Follows s0 (s.dmaStep k e op f) := by
  unfold State.dmaStep
  split
  · exact Follows.ite (hf _) h0
  · exact h0

theorem State.dmaReadAt_follows {s0 : State} {s : State} {k : Nat} {e : Fin 2} {x0 : QEntry} {remote : Nat} {dst : Nat} {len : Nat} {nomerge : Bool} (h0 : Follows s0 s) :
    Follows s0 (State.dmaReadAt s k e x0 remote dst len nomerge) := by
  unfold State.dmaReadAt
  with_reducible repeat' first | exact h0 | apply State.updSite_follows | apply State.sendRequest_follows

theorem State.dmaReadStep_follows {s0 : State} {s : State} {k : Nat} {e : Fin 2} {x0 : QEntry} (h0 : Follows s0 s) :
    Follows s0 (State.dmaReadStep s k e x0) := by
  unfold State.dmaReadStep
  with_reducible repeat' first | exact h0 | apply State.dmaReadAt_follows | apply Follows.ite

theorem execDmaRead_follows {s0 : State} {core : CoreId} {engine : Fin 2} {s : State} {t : State} (ht : execDmaRead core engine s = .next t) (h0 : Follows s0 s) :
    Follows s0 t := by
  unfold execDmaRead at ht; cases ht
  with_reducible repeat' first
      | (intro x; clear_value x) | (intro x) | exact Follows.refl _ | assumption | apply State.dmaStep_follows
      | apply State.dmaReadStep_follows

theorem execDmaCompletion_follows {s0 : State} {core : CoreId} {engine : Fin 2} {s : State} {t : State} (ht : execDmaCompletion core engine s = .next t) (h0 : Follows s0 s) :
    Follows s0 t := by
  unfold execDmaCompletion at ht; cases ht
  with_reducible repeat' first | exact h0 | apply State.updSite_follows | apply State.taskFault_follows | apply Follows.ite | split

theorem State.dmaGatherStep_follows {s0 : State} {s : State} {k : Nat} {e : Fin 2} {x0 : QEntry} (h0 : Follows s0 s) :
    Follows s0 (State.dmaGatherStep s k e x0) := by
  unfold State.dmaGatherStep
  with_reducible repeat' first
      | (intro x; clear_value x) | (intro x) | exact Follows.refl _ | assumption | apply State.updSite_follows
      | apply State.readRuns_follows | apply State.writeRun_follows | apply State.dmaReadAt_follows | apply Follows.ite

theorem State.dmaAtomicStep_follows {s0 : State} {s : State} {k : Nat} {e : Fin 2} {x0 : QEntry} (h0 : Follows s0 s) :
    Follows s0 (State.dmaAtomicStep s k e x0) := by
  unfold State.dmaAtomicStep
  with_reducible repeat' first
      | (intro x; clear_value x) | (intro x) | exact Follows.refl _ | assumption | apply State.updSite_follows
      | apply State.readRuns_follows | apply State.sendRequest_follows

theorem execDmaAtomic_follows {s0 : State} {core : CoreId} {engine : Fin 2} {s : State} {t : State} (ht : execDmaAtomic core engine s = .next t) (h0 : Follows s0 s) :
    Follows s0 t := by
  unfold execDmaAtomic at ht; cases ht
  with_reducible repeat' first
      | (intro x; clear_value x) | (intro x) | exact Follows.refl _ | assumption | apply State.dmaStep_follows
      | apply State.dmaAtomicStep_follows

theorem State.dmaWriteStep_follows {s0 : State} {s : State} {k : Nat} {e : Fin 2} {x0 : QEntry} (h0 : Follows s0 s) :
    Follows s0 (State.dmaWriteStep s k e x0) := by
  unfold State.dmaWriteStep
  with_reducible repeat' first
      | (intro x; clear_value x) | (intro x) | exact Follows.refl _ | assumption | apply State.updSite_follows
      | apply State.carryOut_follows | apply State.sendFrom_follows | apply State.sendRequest_follows | apply Follows.ite | dsimp -zeta only
      | lift_lets | split

theorem execDmaWrite_follows {s0 : State} {core : CoreId} {engine : Fin 2} {s : State} {t : State} (ht : execDmaWrite core engine s = .next t) (h0 : Follows s0 s) :
    Follows s0 t := by
  unfold execDmaWrite at ht; cases ht
  with_reducible repeat' first
      | (intro x; clear_value x) | (intro x) | exact Follows.refl _ | assumption | apply State.dmaStep_follows
      | apply State.dmaWriteStep_follows

theorem execDmaGather_follows {s0 : State} {core : CoreId} {engine : Fin 2} {s : State} {t : State} (ht : execDmaGather core engine s = .next t) (h0 : Follows s0 s) :
    Follows s0 t := by
  unfold execDmaGather at ht; cases ht
  with_reducible repeat' first
      | (intro x; clear_value x) | (intro x) | exact Follows.refl _ | assumption | apply State.dmaStep_follows
      | apply State.dmaGatherStep_follows

theorem execDmaPut_follows {s0 : State} {core : CoreId} {engine : Fin 2} {s : State} {t : State} (ht : execDmaPut core engine s = .next t) (h0 : Follows s0 s) :
    Follows s0 t := by
  unfold execDmaPut at ht; cases ht
  with_reducible repeat' first
      | (intro x; clear_value x) | (intro x) | exact Follows.refl _ | assumption | apply State.dmaPutStep_follows
      | apply State.dmaStep_follows

/-! ## Queue -/

theorem State.pushEntry_follows {s0 : State} {s : State} {k : Nat} {n : Fin 4} {q : Fin 4} {b : BitVec 256} {pc : W64} (h0 : Follows s0 s) :
    Follows s0 (State.pushEntry s k n q b pc).1 := by
  unfold State.pushEntry
  with_reducible repeat' first
      | exact h0 | apply State.setSite_follows | apply State.updSite_follows | apply State.taskFault_follows | apply Follows.ite | split

theorem State.pushEntries_follows {s0 s : State} {k : Nat} {n q : Fin 4} {pc : W64} {es : List (List (Nat × Nat) × BitVec 256)} (h0 : Follows s0 s) :
    Follows s0 (s.pushEntries k n q pc es).1 := by
  induction es generalizing s with
  | nil => exact h0
  | cons e es ih =>
    obtain ⟨rs, b⟩ := e
    unfold State.pushEntries
    have hr : Follows s0 (s.readRuns k rs id) := State.readRuns_follows (fun _ _ h => h) h0
    split
    · exact hr
    · split
      · next e => exact ih (Follows.of_fst e (State.pushEntry_follows hr))
      · next e => exact Follows.of_fst e (State.pushEntry_follows hr)


theorem State.doPush_follows {s0 : State} {s : State} {k : Nat} {n : Fin 4} {w : W32} (h0 : Follows s0 s) :
    Follows s0 (State.doPush s k n w) := by
  unfold State.doPush
  with_reducible repeat' first
      | exact h0 | apply State.updSlot_follows | apply State.latchOps_follows | apply State.pushEntries_follows
      | refine Follows.of_fst (by assumption) (State.pushEntries_follows ?_) | apply Follows.ite | split

theorem State.pushInstr_follows {s0 : State} {s : State} {k : Nat} {n : Fin 4} {w : W32} (h0 : Follows s0 s) :
    Follows s0 (State.pushInstr s k n w) := by
  unfold State.pushInstr
  with_reducible repeat' first
      | exact h0 | apply State.updSlot_follows | apply State.instrFault_follows | apply State.doPush_follows | apply Follows.ite | split

theorem execQueueSpaceResume_follows {s0 : State} {core : CoreId} {slot : Fin 4} {s : State} {t : State} (ht : execQueueSpaceResume core slot s = .next t) (h0 : Follows s0 s) :
    Follows s0 t := by
  unfold execQueueSpaceResume at ht; cases ht
  with_reducible repeat' first | exact h0 | apply State.doPush_follows | apply Follows.ite | split

theorem execQload_follows {s0 : State} {core : CoreId} {slot : Fin 4} {s : State} {t : State} (ht : execQload core slot s = .next t) (h0 : Follows s0 s) :
    Follows s0 t := by
  unfold execQload at ht; cases ht
  with_reducible repeat' first
      | (intro x; clear_value x) | (intro x) | exact Follows.refl _ | assumption | apply State.issue_follows | apply State.pushInstr_follows

theorem execQueueEntryComplete_follows {s0 : State} {core : CoreId} {queue : Fin 4} {s : State} {t : State} (ht : execQueueEntryComplete core queue s = .next t) (h0 : Follows s0 s) :
    Follows s0 t := by
  unfold execQueueEntryComplete at ht; cases ht
  with_reducible repeat' first | exact h0 | apply State.updSite_follows | apply State.trace_follows | apply Follows.ite | split

theorem execQpush_follows {s0 : State} {core : CoreId} {slot : Fin 4} {s : State} {t : State} (ht : execQpush core slot s = .next t) (h0 : Follows s0 s) :
    Follows s0 t := by
  unfold execQpush at ht; cases ht
  with_reducible repeat' first
      | (intro x; clear_value x) | (intro x) | exact Follows.refl _ | assumption | apply State.issue_follows | apply State.pushInstr_follows

theorem execEngineHang_follows {s0 : State} {core : CoreId} {queue : Fin 4} {s : State} {t : State} (ht : execEngineHang core queue s = .next t) (h0 : Follows s0 s) :
    Follows s0 t := by
  unfold execEngineHang at ht; cases ht
  with_reducible repeat' first | exact h0 | apply State.hwFault_follows | apply Follows.ite | split

/-! ## Acu -/

theorem State.padLine_follows {s0 : State} {s : State} {bs : List Byte} (h0 : Follows s0 s) :
    Follows s0 (State.padLine s bs).2 := by
  unfold State.padLine
  exact h0.trans ⟨rfl, SecFlow.refl _⟩

theorem State.acuPoison_follows {s0 : State} {s : State} {k : Nat} {p : Packet} (h0 : Follows s0 s) :
    Follows s0 (State.acuPoison s k p) := by
  unfold State.acuPoison
  with_reducible repeat' first | exact h0 | apply State.sendNode_follows

theorem State.updAcu_follows {s0 : State} {s : State} {k : Nat} {f : Acu → Acu} (h0 : Follows s0 s) :
    Follows s0 (State.updAcu s k f) := by
  unfold State.updAcu
  with_reducible repeat' first | exact h0 | apply State.updHp_follows | apply State.updPc_follows | apply Follows.ite

theorem State.spillCorrupt_follows {s0 : State} {s : State} {k : Nat} {q : AcuReq} {reason : Nat} (h0 : Follows s0 s) :
    Follows s0 (State.spillCorrupt s k q reason) := by
  unfold State.spillCorrupt
  with_reducible repeat' first
      | (intro x; refine_lift have hx : Follows s0 x := ?_; ?_; (on_goal 1 => clear_value x); (on_goal 2 => dsimp -zeta only [x]))
      | (intro x; clear_value x) | (intro x) | exact Follows.refl _ | assumption | apply State.post_follows
      | apply State.panForceStop_follows | apply State.acuPoison_follows | apply State.updAcu_follows
      | (apply Follows.foldl; case' h => intro s0 s x hk) | apply Follows.ite | dsimp -zeta only | lift_lets | split

theorem State.acuSweep_follows {s0 : State} {s : State} {k : Nat} (h0 : Follows s0 s) :
    Follows s0 (State.acuSweep s k) := by
  unfold State.acuSweep
  with_reducible repeat' first
      | (intro x) | exact Follows.refl _ | assumption | apply State.acuPoison_follows | apply State.updAcu_follows
      | (apply Follows.foldl; case' h => intro s0 s x hk)

theorem State.hostRead_follows {s0 s : State} {k : Nat} {b : Bool} {o : HostReqOwner} {addr len : Nat} {t : State}
    (ht : s.hostRead k b o addr len = some t) (h0 : Follows s0 s) : Follows s0 t := by
  unfold State.hostRead at ht
  obtain ⟨_, _, rfl⟩ := Option.map_eq_some_iff.mp ht
  exact State.emit_follows (State.updHp_follows h0)

theorem State.hostReads_follows {s0 s : State} {k : Nat} {o : HostReqOwner} {addr n : Nat} {t : State}
    (ht : s.hostReads k o addr n = some t) (h0 : Follows s0 s) : Follows s0 t := by
  have key : ∀ (l : List (Nat × Nat)) (r : Option State), (∀ u, r = some u → Follows s0 u) →
      ∀ u, l.foldl (fun r e => r.bind (fun s => s.hostRead k true o (addr + e.1) e.2)) r = some u → Follows s0 u := by
    intro l
    induction l with
    | nil => exact fun r hr u hu => hr u hu
    | cons e l ih =>
      refine fun r hr u hu => ih _ (fun v hv => ?_) u hu
      obtain ⟨w, hw, hv⟩ := Option.bind_eq_some_iff.mp hv
      exact State.hostRead_follows hv (hr w hw)
  exact key _ _ (fun u hu => by cases hu; exact h0) t ht


theorem State.acuFetch_follows {s0 s : State} {k : Nat} {q : AcuReq} {p : Packet} {t : State} (ht : s.acuFetch k q p = some t)
    (h0 : Follows s0 s) : Follows s0 t := by
  unfold State.acuFetch at ht
  dsimp only at ht
  split at ht
  · cases ht; exact State.updAcu_follows h0
  · split at ht
    · obtain ⟨_, h1, rfl⟩ := Option.map_eq_some_iff.mp ht
      exact State.updAcu_follows (State.hostReads_follows h1 h0)
    · cases ht; exact State.spillCorrupt_follows (State.updAcu_follows h0)


theorem State.acuServe_follows {s0 : State} {s : State} {k : Nat} {p : Packet} {q : AcuReq} {data : List Byte} (h0 : Follows s0 s) :
    Follows s0 (State.acuServe s k p q data) := by
  unfold State.acuServe
  with_reducible repeat' first | exact h0 | apply State.sendNode_follows

theorem execAcuWrite_follows {s0 : State} {acu : Fin 12} {p : Packet} {s : State} {t : State} (ht : execAcuWrite acu p s = .next t) (h0 : Follows s0 s) :
    Follows s0 t := by
  unfold execAcuWrite at ht; cases ht
  with_reducible repeat' first
      | exact h0 | apply State.takeAt_follows | apply State.sendNode_follows | apply State.updAcu_follows | apply Follows.ite | split

theorem State.hbmGet_follows {s0 s : State} {addr len : Nat} (h0 : Follows s0 s) : Follows s0 (s.hbmGet addr len).1 := by
  unfold State.hbmGet
  exact Follows.foldl_fst h0 (fun _ _ _ h => State.hbmRead_follows h)

theorem State.acuReadReq_follows {s0 s : State} {k : Nat} {p : Packet} {q : AcuReq} {t : State} (ht : s.acuReadReq k p q = some t)
    (h0 : Follows s0 s) : Follows s0 t := by
  unfold State.acuReadReq at ht
  dsimp only at ht
  split at ht
  · cases ht; exact State.spillCorrupt_follows (State.updAcu_follows h0)
  · split at ht
    · cases ht; exact State.acuServe_follows h0
    · split at ht
      · cases ht; exact State.acuServe_follows (State.updAcu_follows h0)
      · split at ht
        · cases ht; exact State.updAcu_follows h0
        · exact State.acuFetch_follows ht h0


theorem State.acuServeWaiters_follows {s0 s : State} {k no : Nat} (h0 : Follows s0 s) : Follows s0 (s.acuServeWaiters k no) := by
  unfold State.acuServeWaiters
  refine Follows.foldl (State.updAcu_follows h0) (fun s0 s p h => ?_)
  split
  · cases e : s.acuReadReq k p _ with
    | none => exact State.acuPoison_follows h
    | some t => exact State.acuReadReq_follows e h
  · exact State.acuPoison_follows h

theorem State.acuFetched_follows {s0 : State} {s : State} {k : Nat} {q : AcuReq} {fallback : Bool} {bs : Option (List Byte)} (h0 : Follows s0 s) :
    Follows s0 (State.acuFetched s k q fallback bs) := by
  unfold State.acuFetched
  with_reducible repeat' first
      | exact h0 | apply State.updAcu_follows | apply State.spillCorrupt_follows | apply State.acuServeWaiters_follows | apply Follows.ite
      | split

theorem execAcuRecordFetched_follows {s0 : State} {acu : Fin 12} {block : Nat} {data : List Byte} {s : State} {t : State} (ht : execAcuRecordFetched acu block data s = .next t) (h0 : Follows s0 s) :
    Follows s0 t := by
  unfold execAcuRecordFetched at ht; cases ht
  with_reducible repeat' first
      | exact h0 | apply State.updHp_follows | apply State.hbmGet_follows | apply State.acuFetched_follows
      | refine Follows.of_fst (by assumption) (State.hbmGet_follows ?_) | apply Follows.ite | split

theorem execAcuRead_follows {s0 s t : State} {acu : Fin 12} {p : Packet} (ht : execAcuRead acu p s = .next t)
    (h0 : Follows s0 s) : Follows s0 t := by
  unfold execAcuRead at ht
  extract_lets k n at ht
  injection ht with ht
  subst ht
  refine Follows.ite h0 ?_
  split
  · exact State.acuPoison_follows (State.takeAt_follows h0)
  · refine Follows.ite h0 ?_
    cases e : (s.takeAt n p).acuReadReq k p _ with
    | none => exact h0
    | some t => exact State.acuReadReq_follows e (State.takeAt_follows h0)


theorem State.hbmPut_follows {s0 s : State} {addr : Nat} {bs : List Byte} (h0 : Follows s0 s) : Follows s0 (s.hbmPut addr bs).1 := by
  unfold State.hbmPut
  exact Follows.foldl_fst h0 (fun _ _ _ h => State.hbmWrite_follows h)

theorem State.hostStore_follows {s0 : State} {s : State} {k : Nat} {addr : Nat} {bs : List Byte} (h0 : Follows s0 s) :
    Follows s0 (State.hostStore s k addr bs) := by
  unfold State.hostStore
  with_reducible repeat' first
      | (intro x) | exact Follows.refl _ | assumption | apply State.emit_follows | (apply Follows.foldl; case' h => intro s0 s x hk)

theorem State.acuSetWrite_follows {s0 : State} {s : State} {k : Nat} {n : Nat} {j : Nat} {v : W64} (h0 : Follows s0 s) :
    Follows s0 (State.acuSetWrite s k n j v) := by
  unfold State.acuSetWrite
  with_reducible repeat' first | exact h0 | apply State.updAcu_follows | apply State.acuSweep_follows

theorem execAcuSetWrite_follows {s0 : State} {acu : Fin 12} {set : Fin 256} {word : Fin 4} {value : W64} {s : State} {t : State} (ht : execAcuSetWrite acu set word value s = .next t) (h0 : Follows s0 s) :
    Follows s0 t := by
  unfold execAcuSetWrite at ht; cases ht
  with_reducible repeat' first | exact h0 | apply State.acuSetWrite_follows

theorem execAcuRecordSent_follows {s0 : State} {acu : Fin 12} {fallback : Bool} {s : State} {t : State} (ht : execAcuRecordSent acu fallback s = .next t) (h0 : Follows s0 s) :
    Follows s0 t := by
  unfold execAcuRecordSent at ht; cases ht
  with_reducible repeat' first
      | exact h0 | apply State.padLine_follows | apply State.updAcu_follows | apply State.hbmPut_follows | apply State.hostStore_follows
      | refine Follows.of_snd (by assumption) (State.padLine_follows ?_) | refine Follows.of_fst (by assumption) (State.hbmPut_follows ?_)
      | apply Follows.ite | split

/-! ## Disp -/

theorem State.updDisp_follows {s0 : State} {s : State} {q : Nat} {f : Disp → Disp} (h0 : Follows s0 s) :
    Follows s0 (State.updDisp s q f) := by
  unfold State.updDisp
  exact h0.trans ⟨rfl, SecFlow.refl _⟩

theorem State.updOrigin_follows {s0 : State} {s : State} {q : Nat} {l : Nat} {f : OriginLayer → OriginLayer} (h0 : Follows s0 s) :
    Follows s0 (State.updOrigin s q l f) := by
  unfold State.updOrigin
  exact h0.trans ⟨rfl, SecFlow.refl _⟩

theorem State.dispLayer_follows {s0 : State} {s : State} {q : Nat} {l : Nat} (h0 : Follows s0 s) :
    Follows s0 (State.dispLayer s q l).1 := by
  unfold State.dispLayer
  with_reducible repeat' first | exact h0 | apply State.hbmGet_follows

theorem State.fabRequest_follows {s0 : State} {s : State} {q : Nat} {p : FabPkt} {chan : Nat} {mesh : Option Packet} (h0 : Follows s0 s) :
    Follows s0 (State.fabRequest s q p chan mesh) := by
  unfold State.fabRequest
  with_reducible repeat' first | exact h0 | apply State.fabSend_follows | apply State.updDisp_follows

theorem State.sendTok_follows {s0 : State} {s : State} {q : Nat} {ty : BitVec 8} {dst : W32} {step : W32} {layer : Nat} {segments : Nat} {end_ : Bool} {body : List Byte} (h0 : Follows s0 s) :
    Follows s0 (State.sendTok s q ty dst step layer segments end_ body) := by
  unfold State.sendTok
  with_reducible repeat' first | exact h0 | apply State.fabRequest_follows

theorem State.flushPacks_follows {s0 : State} {s : State} {q : Nat} {l : Nat} (h0 : Follows s0 s) :
    Follows s0 (State.flushPacks s q l) := by
  unfold State.flushPacks
  with_reducible repeat' first
      | (intro x) | exact Follows.refl _ | assumption | apply State.updOrigin_follows | apply State.sendTok_follows
      | (apply Follows.foldl; case' h => intro s0 s x hk) | apply Follows.ite

theorem State.hbmField_follows {s0 : State} {s : State} {addr : Nat} {n : Nat} (h0 : Follows s0 s) :
    Follows s0 (State.hbmField s addr n).1 := by
  unfold State.hbmField
  with_reducible repeat' first | exact h0 | apply State.hbmGet_follows

theorem State.hbmMerge_follows {s0 : State} {s : State} {addr : Nat} {bs : List Byte} (h0 : Follows s0 s) :
    Follows s0 (State.hbmMerge s addr bs) := by
  unfold State.hbmMerge
  with_reducible repeat' first | exact h0 | apply State.hbmGet_follows | apply State.hbmPut_follows

theorem State.originFinish_follows {s0 : State} {s : State} {q : Nat} {l : Nat} {d : DispLayer} (h0 : Follows s0 s) :
    Follows s0 (State.originFinish s q l d) := by
  unfold State.originFinish
  with_reducible repeat' first | exact h0 | apply State.hbmMerge_follows | apply Follows.ite

theorem State.endLine_follows {s0 : State} {s : State} {q : Nat} {l : Nat} {bs : List Byte} (h0 : Follows s0 s) :
    Follows s0 (State.endLine s q l bs) := by
  unfold State.endLine
  with_reducible repeat' first
      | (intro x) | exact Follows.refl _ | assumption | apply State.updOrigin_follows | apply State.dispLayer_follows
      | apply State.sendTok_follows | apply State.flushPacks_follows | apply State.hbmField_follows | apply State.originFinish_follows
      | refine Follows.of_fst (by assumption) (State.dispLayer_follows ?_)
      | refine Follows.of_fst (by assumption) (State.hbmField_follows ?_) | (apply Follows.foldl; case' h => intro s0 s x hk)
      | apply Follows.ite

theorem State.originStep_follows {s0 : State} {s : State} {q : Nat} {l : Nat} {step : W32} (h0 : Follows s0 s) :
    Follows s0 (State.originStep s q l step) := by
  unfold State.originStep
  with_reducible repeat' first | exact h0 | apply State.updOrigin_follows | apply State.flushPacks_follows | apply Follows.ite

theorem State.apertureRead_follows {s0 : State} {s : State} {pc : Fin 8} {p : Packet} (h0 : Follows s0 s) :
    Follows s0 (State.apertureRead s pc p) := by
  unfold State.apertureRead
  exact h0.trans ⟨rfl, SecFlow.refl _⟩

theorem State.lineDone_follows {s0 : State} {s : State} {q : Nat} {p : Packet} (h0 : Follows s0 s) :
    Follows s0 (State.lineDone s q p) := by
  unfold State.lineDone
  with_reducible repeat' first
      | exact h0 | apply State.takeAt_follows | apply State.sendNode_follows | apply State.updDisp_follows | apply Follows.ite

theorem State.countBad_follows {s0 : State} {s : State} {q : Nat} (h0 : Follows s0 s) :
    Follows s0 (State.countBad s q) := by
  unfold State.countBad
  exact h0.trans ⟨rfl, SecFlow.refl _⟩

theorem State.routeLine_follows {s0 s : State} {pc : Fin 8} {p : Packet} {kind : Nat} {f : Nat → List Byte → State → State}
    (hf : ∀ s0 l bs t, Follows s0 t → Follows s0 (f l bs t)) (h0 : Follows s0 s) : Follows s0 (s.routeLine pc p kind f) := by
  unfold State.routeLine
  extract_lets q n bs act
  have ha : ∀ l, Follows s0 (act l) := by
    intro l
    dsimp -zeta only [act]
    refine Follows.ite h0 (Follows.ite (State.apertureRead_follows h0) (Follows.ite h0
      (Follows.ite (State.sendNode_follows (State.takeAt_follows (State.updDisp_follows h0))) ?_)))
    refine Follows.ite (State.lineDone_follows (State.countBad_follows h0)) (Follows.ite h0 ?_)
    extract_lets r
    have hd : Follows s0 r.1 := State.dispLayer_follows h0
    exact Follows.ite (State.lineDone_follows (hf _ _ _ _ hd)) (State.lineDone_follows (State.countBad_follows hd))
  cases routeAperture q p.addr.toNat with
  | none => exact h0
  | some l => exact ha l


theorem execRouteEnd_follows {s0 s t : State} {pc : Fin 8} {p : Packet} (ht : execRouteEnd pc p s = .next t) (h0 : Follows s0 s) :
    Follows s0 t := by
  unfold execRouteEnd at ht
  injection ht with ht
  subst ht
  exact State.routeLine_follows (fun _ _ _ _ h => State.endLine_follows h) h0


theorem State.expertField_follows {s0 : State} {s : State} {d : DispLayer} {e : Nat} {off : Nat} {n : Nat} (h0 : Follows s0 s) :
    Follows s0 (State.expertField s d e off n).1 := by
  unfold State.expertField
  with_reducible repeat' first | exact h0 | apply State.hbmField_follows

theorem execSendChannelWrite_follows {s0 s t : State} {pc : Fin 8} {p : Packet} (ht : execSendChannelWrite pc p s = .next t)
    (h0 : Follows s0 s) : Follows s0 t := by
  unfold execSendChannelWrite at ht
  extract_lets q n u act at ht
  have hs : ∀ a, Follows s0 ((s.takeAt n p).sendNode n a) := fun _ => State.sendNode_follows (State.takeAt_follows h0)
  have ha : ∀ e, Follows s0 (act e) := by
    intro e
    dsimp -zeta only [act]
    refine Follows.ite h0 (Follows.ite (hs _) (Follows.ite h0 ?_))
    extract_lets c
    split
    · exact hs _
    · exact State.fabRequest_follows (State.takeAt_follows h0)
  injection ht with ht
  subst ht
  cases sendAperture q p.addr.toNat with
  | none => exact h0
  | some e => exact ha e


theorem State.fabComplete_follows {s0 : State} {s : State} {q : Nat} {r : FabReq} {st : BitVec 8} (h0 : Follows s0 s) :
    Follows s0 (State.fabComplete s q r st) := by
  unfold State.fabComplete
  with_reducible repeat' first | exact h0 | apply State.sendNode_follows | apply State.updDisp_follows | apply Follows.ite | split

theorem State.fabAnswered_follows {s0 : State} {s : State} {q : Nat} {p : FabPkt} (h0 : Follows s0 s) :
    Follows s0 (State.fabAnswered s q p) := by
  unfold State.fabAnswered
  with_reducible repeat' first
      | exact h0 | apply State.countDiscard_follows | apply State.fabComplete_follows
      | refine Follows.trans ?_ (State.takeFab_follows (by assumption) (Follows.refl _)) | apply Follows.ite | split

theorem execCtrlPacketArrive_follows {s0 : State} {pc : Fin 8} {p : FabPkt} {s : State} {t : State} (ht : execCtrlPacketArrive pc p s = .next t) (h0 : Follows s0 s) :
    Follows s0 t := by
  unfold execCtrlPacketArrive at ht; cases ht
  with_reducible repeat' first
      | exact h0 | apply State.fabSend_follows | apply State.updDisp_follows | apply State.fabAnswered_follows
      | refine Follows.trans ?_ (State.takeFab_follows (by assumption) (Follows.refl _)) | apply Follows.ite | split

theorem State.hbmAtomic_follows {s0 : State} {s : State} {addr : Nat} {aop : Nat} {operand : List Byte} (h0 : Follows s0 s) :
    Follows s0 (State.hbmAtomic s addr aop operand) := by
  unfold State.hbmAtomic
  with_reducible repeat' first
      | exact h0 | apply State.applyAtomic_follows | refine Follows.of_fst (by assumption) (State.applyAtomic_follows ?_)
      | apply Follows.ite

theorem execWinClose_follows {s0 : State} {pc : Fin 8} {window : Fin 1024} {s : State} {t : State} (ht : execWinClose pc window s = .next t) (h0 : Follows s0 s) :
    Follows s0 t := by
  unfold execWinClose at ht; cases ht
  exact h0.trans ⟨rfl, SecFlow.refl _⟩

theorem State.resultSeg_follows {s0 : State} {s : State} {q : Nat} {l : Nat} {d : DispLayer} {f : DispLayer} {g : Seg} (h0 : Follows s0 s) :
    Follows s0 (State.resultSeg s q l d f g) := by
  unfold State.resultSeg
  with_reducible repeat' first
      | (intro x) | exact Follows.refl _ | assumption | apply State.updOrigin_follows | apply State.hbmField_follows
      | apply State.hbmAtomic_follows | refine Follows.of_fst (by assumption) (State.hbmField_follows ?_)
      | (apply Follows.foldl; case' h => intro s0 s x hk)

theorem State.updHome_follows {s0 : State} {s : State} {q : Nat} {l : Nat} {f : HomeLayer → HomeLayer} (h0 : Follows s0 s) :
    Follows s0 (State.updHome s q l f) := by
  unfold State.updHome
  exact h0.trans ⟨rfl, SecFlow.refl _⟩

theorem State.homeStep_follows {s0 : State} {s : State} {q : Nat} {l : Nat} {d : DispLayer} {step : W32} (h0 : Follows s0 s) :
    Follows s0 (State.homeStep s q l d step) := by
  unfold State.homeStep
  with_reducible repeat' first
      | exact h0 | apply State.hbmPut_follows | apply State.updHome_follows
      | refine Follows.of_fst (by assumption) (State.hbmPut_follows ?_) | apply Follows.ite

theorem State.touchBits_follows {s0 : State} {s : State} {base : Nat} {lo : Nat} {n : Nat} (h0 : Follows s0 s) :
    Follows s0 (State.touchBits s base lo n) := by
  unfold State.touchBits
  with_reducible repeat' first
      | exact h0 | apply State.hbmField_follows | apply State.hbmMerge_follows
      | refine Follows.of_fst (by assumption) (State.hbmField_follows ?_) | apply Follows.ite

theorem State.tokenSeg_follows {s0 : State} {s : State} {q : Nat} {l : Nat} {d : DispLayer} {step : W32} {src : W32} {poison : Bool} {g : Seg} (h0 : Follows s0 s) :
    Follows s0 (State.tokenSeg s q l d step src poison g) := by
  unfold State.tokenSeg
  with_reducible repeat' first
      | (intro x) | exact Follows.refl _ | assumption | apply State.hbmWrite_follows | apply State.hbmField_follows
      | apply State.countBad_follows | apply State.expertField_follows | apply State.updHome_follows | apply State.touchBits_follows
      | refine Follows.of_fst (by assumption) (State.hbmWrite_follows ?_)
      | refine Follows.of_fst (by assumption) (State.hbmField_follows ?_)
      | refine Follows.of_fst (by assumption) (State.expertField_follows ?_) | (apply Follows.foldl; case' h => intro s0 s x hk)
      | apply Follows.ite

theorem State.writeCounts_follows {s0 : State} {s : State} {q : Nat} {l : Nat} {d : DispLayer} (h0 : Follows s0 s) :
    Follows s0 (State.writeCounts s q l d) := by
  unfold State.writeCounts
  with_reducible repeat' first
      | (intro x) | exact Follows.refl _ | assumption | apply State.hbmMerge_follows | apply State.expertField_follows
      | refine Follows.of_fst (by assumption) (State.expertField_follows ?_) | (apply Follows.foldl; case' h => intro s0 s x hk)
      | apply Follows.ite

theorem State.tokenPacket_follows {s0 : State} {s : State} {q : Nat} {p : FabPkt} (h0 : Follows s0 s) :
    Follows s0 (State.tokenPacket s q p) := by
  unfold State.tokenPacket
  with_reducible repeat' first
      | (intro x) | exact Follows.refl _ | assumption | apply State.fabSend_follows | apply State.dispLayer_follows
      | apply State.hbmMerge_follows | apply State.updHome_follows | apply State.homeStep_follows | apply State.tokenSeg_follows
      | apply State.writeCounts_follows | refine Follows.of_fst (by assumption) (State.dispLayer_follows ?_)
      | (apply Follows.foldl; case' h => intro s0 s x hk) | apply Follows.ite

theorem execTokenArrive_follows {s0 : State} {pc : Fin 8} {p : FabPkt} {s : State} {t : State} (ht : execTokenArrive pc p s = .next t) (h0 : Follows s0 s) :
    Follows s0 t := by
  unfold execTokenArrive at ht; cases ht
  with_reducible repeat' first
      | exact h0 | apply State.tokenPacket_follows | refine Follows.trans ?_ (State.takeFab_follows (by assumption) (Follows.refl _))
      | apply Follows.ite | split

theorem State.originSend_follows {s0 : State} {s : State} {q : Nat} {l : Nat} {dst : W32} {expert : Nat} {n : Nat} {source : Nat} {bs : List Byte} (h0 : Follows s0 s) :
    Follows s0 (State.originSend s q l dst expert n source bs) := by
  unfold State.originSend
  with_reducible repeat' first
      | (intro x) | exact Follows.refl _ | assumption | apply State.updOrigin_follows | apply State.sendTok_follows
      | (apply Follows.foldl; case' h => intro s0 s x hk)

theorem State.tokenBackward_follows {s0 : State} {s : State} {q : Nat} {l : Nat} {d : DispLayer} {bs : List Byte} {vec : List Byte} (h0 : Follows s0 s) :
    Follows s0 (State.tokenBackward s q l d bs vec) := by
  unfold State.tokenBackward
  with_reducible repeat' first
      | (intro x) | exact Follows.refl _ | assumption | apply State.updOrigin_follows | apply State.dispLayer_follows
      | apply State.hbmField_follows | apply State.expertField_follows | apply State.originSend_follows
      | refine Follows.of_fst (by assumption) (State.dispLayer_follows ?_)
      | refine Follows.of_fst (by assumption) (State.hbmField_follows ?_)
      | refine Follows.of_fst (by assumption) (State.expertField_follows ?_) | (apply Follows.foldl; case' h => intro s0 s x hk)
      | apply Follows.ite

theorem State.tokenChoice_follows {s0 : State} {s : State} {q : Nat} {l : Nat} {d : DispLayer} {bs : List Byte} {vec : List Byte} {k : Nat} (h0 : Follows s0 s) :
    Follows s0 (State.tokenChoice s q l d bs vec k).1 := by
  unfold State.tokenChoice
  with_reducible repeat' first
      | (intro x; refine_lift have hx : Follows s0 x := ?_; ?_; (on_goal 1 => clear_value x); (on_goal 2 => dsimp -zeta only [x]))
      | (intro x; clear_value x) | (intro x) | exact Follows.refl _ | assumption | apply State.updDisp_follows
      | apply State.updOrigin_follows | apply State.hbmMerge_follows | apply State.expertField_follows | apply State.originSend_follows
      | refine Follows.of_fst (by assumption) (State.expertField_follows ?_) | apply Follows.ite | dsimp -zeta only | lift_lets | split

theorem State.tokenForward_follows {s0 : State} {s : State} {q : Nat} {l : Nat} {d : DispLayer} {bs : List Byte} {vec : List Byte} (h0 : Follows s0 s) :
    Follows s0 (State.tokenForward s q l d bs vec) := by
  unfold State.tokenForward
  with_reducible repeat' first
      | (intro x) | exact Follows.refl _ | assumption | apply State.hbmMerge_follows | apply State.tokenChoice_follows
      | (apply Follows.lit; first | assumption | exact Follows.refl _ | apply State.hbmMerge_follows | apply State.tokenChoice_follows)
      | refine Follows.of_fst (by assumption) (State.tokenChoice_follows ?_) | apply hfn
      | (apply Follows.foldl_fst; case' h => intro s0 p x hk)

theorem State.tokenLine_follows {s0 : State} {s : State} {q : Nat} {l : Nat} {bs : List Byte} (h0 : Follows s0 s) :
    Follows s0 (State.tokenLine s q l bs) := by
  unfold State.tokenLine
  with_reducible repeat' first
      | exact h0 | apply State.hbmGet_follows | apply State.hbmPut_follows | apply State.updDisp_follows | apply State.dispLayer_follows
      | apply State.originStep_follows | apply State.tokenBackward_follows | apply State.tokenForward_follows
      | refine Follows.of_fst (by assumption) (State.hbmGet_follows ?_) | refine Follows.of_fst (by assumption) (State.hbmPut_follows ?_)
      | refine Follows.of_fst (by assumption) (State.dispLayer_follows ?_) | apply Follows.ite

theorem execWackArrive_follows {s0 : State} {pc : Fin 8} {p : FabPkt} {s : State} {t : State} (ht : execWackArrive pc p s = .next t) (h0 : Follows s0 s) :
    Follows s0 t := by
  unfold execWackArrive at ht; cases ht
  with_reducible repeat' first | exact h0 | apply State.fabAnswered_follows | apply Follows.ite

theorem execAnswerTimeout_follows {s0 : State} {pc : Fin 8} {tag : BitVec 16} {s : State} {t : State} (ht : execAnswerTimeout pc tag s = .next t) (h0 : Follows s0 s) :
    Follows s0 t := by
  unfold execAnswerTimeout at ht; cases ht
  with_reducible repeat' first | exact h0 | apply State.fabComplete_follows | apply Follows.ite | split

theorem execWinClosed_follows {s0 : State} {pc : Fin 8} {window : Fin 1024} {s : State} {t : State} (ht : execWinClosed pc window s = .next t) (h0 : Follows s0 s) :
    Follows s0 t := by
  unfold execWinClosed at ht; cases ht
  exact h0.trans ⟨rfl, SecFlow.refl _⟩

theorem State.returnLine_follows {s0 : State} {s : State} {q : Nat} {l : Nat} {bs : List Byte} (h0 : Follows s0 s) :
    Follows s0 (State.returnLine s q l bs) := by
  unfold State.returnLine
  with_reducible repeat' first
      | (intro x; refine_lift have hx : Follows s0 x := ?_; ?_; (on_goal 1 => clear_value x); (on_goal 2 => dsimp -zeta only [x]))
      | (intro x; clear_value x) | (intro x) | exact Follows.refl _ | assumption | apply State.hbmGet_follows
      | apply State.dispLayer_follows | apply State.sendTok_follows | apply State.hbmField_follows | apply State.expertField_follows
      | (apply Follows.lit; first | assumption | exact Follows.refl _ | apply State.hbmGet_follows | apply State.dispLayer_follows | apply State.sendTok_follows | apply State.hbmField_follows | apply State.expertField_follows)
      | refine Follows.of_fst (by assumption) (State.hbmGet_follows ?_) | refine Follows.of_fst (by assumption) (State.dispLayer_follows ?_)
      | refine Follows.of_fst (by assumption) (State.hbmField_follows ?_)
      | refine Follows.of_fst (by assumption) (State.expertField_follows ?_) | apply hfn | (apply Follows.foldl; case' h => intro s0 s x hk)
      | (apply Follows.foldl_fst; case' h => intro s0 p x hk) | apply Follows.ite | dsimp -zeta only | lift_lets | split

theorem execWinOpen_follows {s0 : State} {pc : Fin 8} {window : Fin 1024} {s : State} {t : State} (ht : execWinOpen pc window s = .next t) (h0 : Follows s0 s) :
    Follows s0 t := by
  unfold execWinOpen at ht; cases ht
  exact h0.trans ⟨rfl, SecFlow.refl _⟩

theorem State.resultPacket_follows {s0 : State} {s : State} {q : Nat} {p : FabPkt} (h0 : Follows s0 s) :
    Follows s0 (State.resultPacket s q p) := by
  unfold State.resultPacket
  with_reducible repeat' first
      | (intro x) | exact Follows.refl _ | assumption | apply State.fabSend_follows | apply State.dispLayer_follows
      | apply State.originFinish_follows | apply State.resultSeg_follows
      | refine Follows.of_fst (by assumption) (State.dispLayer_follows ?_) | (apply Follows.foldl; case' h => intro s0 s x hk)
      | apply Follows.ite | dsimp -zeta only | lift_lets | split

theorem State.wwrite_follows {s0 : State} {s : State} {q : Nat} {p : FabPkt} (h0 : Follows s0 s) :
    Follows s0 (State.wwrite s q p).1 := by
  unfold State.wwrite
  with_reducible repeat' first
      | (intro x; refine_lift have hfn : ∀ y, Follows s0 (x y).1 := ?_; ?_; (on_goal 1 => clear_value x); (on_goal 2 => intro y; dsimp -zeta only [x]))
      | (intro x; clear_value x) | (intro x) | exact Follows.refl _ | assumption | apply State.hbmWrite_follows
      | apply State.updDisp_follows
      | (apply Follows.lit; first | assumption | exact Follows.refl _ | apply State.hbmWrite_follows | apply State.updDisp_follows)
      | refine Follows.of_fst (by assumption) (State.hbmWrite_follows ?_) | apply hfn
      | (apply Follows.foldl_fst; case' h => intro s0 p x hk) | apply Follows.ite | dsimp -zeta only | lift_lets | split

theorem execRouteToken_follows {s0 s t : State} {pc : Fin 8} {p : Packet} (ht : execRouteToken pc p s = .next t) (h0 : Follows s0 s) :
    Follows s0 t := by
  unfold execRouteToken at ht
  injection ht with ht
  subst ht
  exact State.routeLine_follows (fun _ _ _ _ h => State.tokenLine_follows h) h0


theorem execWwrite_follows {s0 : State} {pc : Fin 8} {p : FabPkt} {s : State} {t : State} (ht : execWwrite pc p s = .next t) (h0 : Follows s0 s) :
    Follows s0 t := by
  unfold execWwrite at ht; cases ht
  with_reducible repeat' first
      | exact h0 | apply State.fabSend_follows | apply State.wwrite_follows
      | refine Follows.trans ?_ (State.takeFab_follows (by assumption) (Follows.refl _))
      | refine Follows.of_fst (by assumption) (State.wwrite_follows ?_) | apply Follows.ite | split

theorem execRouteReturn_follows {s0 s t : State} {pc : Fin 8} {p : Packet} (ht : execRouteReturn pc p s = .next t) (h0 : Follows s0 s) :
    Follows s0 t := by
  unfold execRouteReturn at ht
  injection ht with ht
  subst ht
  exact State.routeLine_follows (fun _ _ _ _ h => State.returnLine_follows h) h0


theorem execResultArrive_follows {s0 : State} {pc : Fin 8} {p : FabPkt} {s : State} {t : State} (ht : execResultArrive pc p s = .next t) (h0 : Follows s0 s) :
    Follows s0 t := by
  unfold execResultArrive at ht; cases ht
  with_reducible repeat' first
      | exact h0 | apply State.resultPacket_follows | refine Follows.trans ?_ (State.takeFab_follows (by assumption) (Follows.refl _))
      | apply Follows.ite | split

theorem execTackArrive_follows {s0 : State} {pc : Fin 8} {p : FabPkt} {s : State} {t : State} (ht : execTackArrive pc p s = .next t) (h0 : Follows s0 s) :
    Follows s0 t := by
  unfold execTackArrive at ht; cases ht
  with_reducible repeat' first | exact h0 | apply State.fabAnswered_follows | apply Follows.ite

end Sys2Proof.Machine
end

