-- ==== Sys2Proof/Laws/FlowModule.lean ====
section
/-! SUPPORT. Laws/FlowModule.lean: what every effect of store bays, islands, registers of an array, images, power, reset and service keeps. -/

namespace Sys2Proof.Machine

/-! ## Store -/

theorem State.cryptoErase_follows {s0 : State} {s : State} {n : Nat} (h0 : Follows s0 s) :
    Follows s0 (State.cryptoErase s n) := by
  unfold State.cryptoErase
  exact h0.trans ⟨rfl, SecFlow.refl _⟩

theorem State.postBay_follows {s0 : State} {s : State} {n : Nat} {sev : Nat} (h0 : Follows s0 s) :
    Follows s0 (State.postBay s n sev) := by
  unfold State.postBay
  with_reducible repeat' first | exact h0 | apply State.post_follows

theorem State.retireBlock_follows {s0 : State} {s : State} {n : Nat} {blk : Nat} (h0 : Follows s0 s) :
    Follows s0 (State.retireBlock s n blk) := by
  unfold State.retireBlock
  with_reducible repeat' first
      | exact h0 | apply State.draw_follows | apply State.updBay_follows | apply State.postBay_follows
      | refine Follows.of_snd (by assumption) (State.draw_follows ?_) | apply Follows.ite

theorem State.program_follows {s0 : State} {s : State} {n : Nat} {no : Nat} (h0 : Follows s0 s) :
    Follows s0 (State.program s n no) := by
  unfold State.program
  with_reducible repeat' first
      | (intro x; refine_lift have hx : Follows s0 x := ?_; ?_; (on_goal 1 => clear_value x); (on_goal 2 => dsimp -zeta only [x]))
      | (intro x) | exact Follows.refl _ | assumption | apply State.draw_follows | apply State.updBay_follows
      | apply State.retireBlock_follows | refine Follows.of_snd (by assumption) (State.draw_follows ?_) | apply Follows.ite
      | dsimp -zeta only | lift_lets | split

theorem State.bufferPage_follows {s0 : State} {s : State} {n : Nat} {no : Nat} (h0 : Follows s0 s) :
    Follows s0 (State.bufferPage s n no) := by
  unfold State.bufferPage
  with_reducible repeat' first
      | (intro x; refine_lift have hx : Follows s0 x := ?_; ?_; (on_goal 1 => clear_value x); (on_goal 2 => dsimp -zeta only [x]))
      | (intro x) | exact Follows.refl _ | assumption | apply State.updBay_follows | apply State.program_follows | apply Follows.ite
      | dsimp -zeta only | lift_lets | split

theorem State.keepPage_follows {s0 : State} {s : State} {n : Nat} {l : StoreLine} {no : Nat} {p : StorePage} (h0 : Follows s0 s) :
    Follows s0 (State.keepPage s n l no p) := by
  unfold State.keepPage
  with_reducible repeat' first
      | exact h0 | apply State.draw_follows | apply State.updBay_follows | apply State.bufferPage_follows
      | refine Follows.of_snd (by assumption) (State.draw_follows ?_) | apply Follows.ite

theorem State.writePage_follows {s0 : State} {s : State} {n : Nat} {l : StoreLine} {no : Nat} (h0 : Follows s0 s) :
    Follows s0 (State.writePage s n l no).1 := by
  unfold State.writePage
  with_reducible repeat' first | exact h0 | apply State.hbmGet_follows | apply State.keepPage_follows

theorem execReclaimDone_follows {s0 : State} {bay : Fin 16} {slot : Fin 16} {s : State} {t : State} (ht : execReclaimDone bay slot s = .next t) (h0 : Follows s0 s) :
    Follows s0 t := by
  unfold execReclaimDone at ht; cases ht
  exact h0.trans ⟨rfl, SecFlow.refl _⟩

theorem State.mountDone_follows {s0 : State} {s : State} {n : Nat} (h0 : Follows s0 s) :
    Follows s0 (State.mountDone s n) := by
  unfold State.mountDone
  with_reducible repeat' first
      | exact h0 | apply State.rmcNow_follows | apply State.updBay_follows | apply State.postBay_follows
      | refine Follows.of_snd (by assumption) (State.rmcNow_follows ?_) | apply Follows.ite | split

theorem execWearLevel_follows {s0 : State} {bay : Fin 16} {s : State} {t : State} (ht : execWearLevel bay s = .next t) (h0 : Follows s0 s) :
    Follows s0 t := by
  unfold execWearLevel at ht; cases ht
  with_reducible repeat' first
      | (intro x) | exact Follows.refl _ | assumption | apply State.draw_follows | apply State.updBay_follows
      | (apply Follows.lit; first | assumption | exact Follows.refl _ | apply State.draw_follows | apply State.updBay_follows)
      | refine Follows.of_snd (by assumption) (State.draw_follows ?_) | apply Follows.ite | dsimp -zeta only | lift_lets | split

theorem State.storeCmd_follows {s0 : State} {s : State} {n : Nat} {unmount : Bool} {f : State → State} (hf : ∀ s0 y0, Follows s0 y0 → Follows s0 (f y0)) (h0 : Follows s0 s) :
    Follows s0 (State.storeCmd s n unmount f) := by
  unfold State.storeCmd
  with_reducible repeat' first | exact h0 | apply State.updBay_follows | apply hf | apply Follows.ite

theorem execTrim_follows {s0 : State} {bay : Fin 16} {s : State} {t : State} (ht : execTrim bay s = .next t) (h0 : Follows s0 s) :
    Follows s0 t := by
  unfold execTrim at ht; cases ht
  with_reducible repeat' first
      | (intro x; clear_value x) | (intro x) | exact Follows.refl _ | assumption | apply State.updBay_follows | apply State.storeCmd_follows

theorem State.answerPkt_follows {s0 : State} {s : State} {n : Nat} {p : Packet} (h0 : Follows s0 s) :
    Follows s0 (State.answerPkt s n p) := by
  unfold State.answerPkt
  with_reducible repeat' first
      | exact h0 | apply State.updBay_follows | apply State.takeAt_follows | apply State.sendNode_follows | apply Follows.ite

theorem State.finishLine_follows {s0 : State} {s : State} {n : Nat} {p : Packet} {i : Nat} {st : BitVec 4} (h0 : Follows s0 s) :
    Follows s0 (State.finishLine s n p i st) := by
  unfold State.finishLine
  with_reducible repeat' first | exact h0 | apply State.updBay_follows | apply State.answerPkt_follows

theorem State.storeLine_follows {s0 : State} {s : State} {bay : Fin 16} {p : Packet} {write : Bool} (h0 : Follows s0 s) :
    Follows s0 (State.storeLine s bay p write) := by
  unfold State.storeLine
  with_reducible repeat' first | exact h0 | apply State.updBay_follows | apply State.finishLine_follows | apply Follows.ite | split

theorem execStoreWrite_follows {s0 : State} {bay : Fin 16} {p : Packet} {s : State} {t : State} (ht : execStoreWrite bay p s = .next t) (h0 : Follows s0 s) :
    Follows s0 t := by
  unfold execStoreWrite at ht; cases ht
  with_reducible repeat' first | exact h0 | apply State.storeLine_follows

theorem State.flushBuffer_follows {s0 : State} {s : State} {n : Nat} (h0 : Follows s0 s) :
    Follows s0 (State.flushBuffer s n) := by
  unfold State.flushBuffer
  with_reducible repeat' first
      | (intro x) | exact Follows.refl _ | assumption | apply State.program_follows | (apply Follows.foldl; case' h => intro s0 s x hk)

theorem execCartridgeInsert_follows {s0 : State} {bay : Fin 16} {serial : W32} {s : State} {t : State} (ht : execCartridgeInsert bay serial s = .next t) (h0 : Follows s0 s) :
    Follows s0 t := by
  unfold execCartridgeInsert at ht; cases ht
  with_reducible repeat' first
      | (intro x) | exact Follows.refl _ | assumption | apply State.draw_follows | apply State.updBay_follows
      | (apply Follows.lit; first | assumption | exact Follows.refl _ | apply State.draw_follows | apply State.updBay_follows)
      | refine Follows.of_snd (by assumption) (State.draw_follows ?_) | apply Follows.ite

theorem State.readPage_follows {s0 : State} {s : State} {n : Nat} {l : StoreLine} {no : Nat} {uncorrectable : Bool} (h0 : Follows s0 s) :
    Follows s0 (State.readPage s n l no uncorrectable).1 := by
  unfold State.readPage
  with_reducible repeat' first
      | (intro x; refine_lift have hx : Follows s0 x := ?_; ?_; (on_goal 1 => clear_value x); (on_goal 2 => dsimp -zeta only [x]))
      | (intro x; clear_value x) | (intro x) | exact Follows.refl _ | assumption | apply State.updBay_follows | apply State.hbmWrite_follows
      | apply State.hbmPut_follows | refine Follows.of_fst (by assumption) (State.hbmWrite_follows ?_)
      | refine Follows.of_fst (by assumption) (State.hbmPut_follows ?_) | (apply Follows.foldl; case' h => intro s0 s x hk)
      | apply Follows.ite | dsimp -zeta only | lift_lets | split

theorem State.mediumRead_follows {s0 : State} {s : State} {n : Nat} {no : Nat} {levels : List (Nat × Nat)} {soft : Bool} {uncorrectable : Bool} (h0 : Follows s0 s) :
    Follows s0 (State.mediumRead s n no levels soft uncorrectable) := by
  unfold State.mediumRead
  with_reducible repeat' first | exact h0 | apply State.updBay_follows | apply State.retireBlock_follows | apply Follows.ite | split

theorem execStorePageDone_follows {s0 : State} {bay : Fin 16} {line : Nat} {levels : List (Nat × Nat)} {soft : Bool} {uncorrectable : Bool} {s : State} {t : State} (ht : execStorePageDone bay line levels soft uncorrectable s = .next t) (h0 : Follows s0 s) :
    Follows s0 t := by
  unfold execStorePageDone at ht; cases ht
  with_reducible repeat' first
      | exact h0 | apply State.updBay_follows | apply State.writePage_follows | apply State.finishLine_follows
      | apply State.readPage_follows | apply State.mediumRead_follows | refine Follows.of_fst (by assumption) (State.writePage_follows ?_)
      | refine Follows.of_fst (by assumption) (State.readPage_follows ?_) | apply Follows.ite | split

theorem execHarvestOpen_follows {s0 : State} {bay : Fin 16} {s : State} {t : State} (ht : execHarvestOpen bay s = .next t) (h0 : Follows s0 s) :
    Follows s0 t := by
  unfold execHarvestOpen at ht; cases ht
  with_reducible repeat' first
      | (intro x; clear_value x) | (intro x) | exact Follows.refl _ | assumption | apply State.updBay_follows | apply State.storeCmd_follows

theorem State.abortLines_follows {s0 : State} {s : State} {n : Nat} {st : BitVec 4} (h0 : Follows s0 s) :
    Follows s0 (State.abortLines s n st) := by
  unfold State.abortLines
  with_reducible repeat' first
      | (intro x) | exact Follows.refl _ | assumption | apply State.updBay_follows | apply State.finishLine_follows
      | (apply Follows.foldl; case' h => intro s0 s x hk)

theorem execSanitize_follows {s0 : State} {bay : Fin 16} {s : State} {t : State} (ht : execSanitize bay s = .next t) (h0 : Follows s0 s) :
    Follows s0 t := by
  unfold execSanitize at ht; cases ht
  with_reducible repeat' first
      | (intro x; clear_value x) | (intro x) | exact Follows.refl _ | assumption | apply State.updBay_follows
      | apply State.cryptoErase_follows | apply State.storeCmd_follows | apply State.abortLines_follows | apply Follows.ite

theorem execUnmount_follows {s0 : State} {bay : Fin 16} {s : State} {t : State} (ht : execUnmount bay s = .next t) (h0 : Follows s0 s) :
    Follows s0 t := by
  unfold execUnmount at ht; cases ht
  with_reducible repeat' first
      | (intro x; clear_value x) | (intro x) | exact Follows.refl _ | assumption | apply State.updBay_follows | apply State.storeCmd_follows

theorem execHarvestCommitDone_follows {s0 : State} {bay : Fin 16} {s : State} {t : State} (ht : execHarvestCommitDone bay s = .next t) (h0 : Follows s0 s) :
    Follows s0 t := by
  unfold execHarvestCommitDone at ht; cases ht
  with_reducible repeat' first
      | exact h0 | apply State.updBay_follows | apply State.hbmGet_follows | refine Follows.of_fst (by assumption) (State.hbmGet_follows ?_)
      | apply Follows.ite

theorem State.failBlock_follows {s0 : State} {s : State} {n : Nat} {x0 : Nat} (h0 : Follows s0 s) :
    Follows s0 (State.failBlock s n x0) := by
  unfold State.failBlock
  with_reducible repeat' first | exact h0 | apply State.updBay_follows | apply State.retireBlock_follows

theorem State.scrubbed_follows {s0 : State} {s : State} {n : Nat} {x0 : Nat} {percent : BitVec 8} {f : ScrubFinding} (h0 : Follows s0 s) :
    Follows s0 (State.scrubbed s n x0 percent f) := by
  unfold State.scrubbed
  with_reducible repeat' first
      | exact h0 | apply State.updBay_follows | apply State.retireBlock_follows | apply State.failBlock_follows | apply Follows.ite

theorem execScrubBlock_follows {s0 : State} {bay : Fin 16} {percent : BitVec 8} {hard : ScrubFinding} {s : State} {t : State} (ht : execScrubBlock bay percent hard s = .next t) (h0 : Follows s0 s) :
    Follows s0 t := by
  unfold execScrubBlock at ht; cases ht
  with_reducible repeat' first | exact h0 | apply State.updBay_follows | apply State.scrubbed_follows | apply Follows.ite | split

theorem State.loseBuffered_follows {s0 : State} {s : State} {n : Nat} (h0 : Follows s0 s) :
    Follows s0 (State.loseBuffered s n) := by
  unfold State.loseBuffered
  with_reducible repeat' first
      | (intro x) | exact Follows.refl _ | assumption | apply State.draw_follows | apply State.updBay_follows
      | refine Follows.of_snd (by assumption) (State.draw_follows ?_) | (apply Follows.foldl; case' h => intro s0 s x hk)
      | apply Follows.ite

theorem execHarvestCommit_follows {s0 : State} {bay : Fin 16} {s : State} {t : State} (ht : execHarvestCommit bay s = .next t) (h0 : Follows s0 s) :
    Follows s0 t := by
  unfold execHarvestCommit at ht; cases ht
  with_reducible repeat' first
      | (intro x; clear_value x) | (intro x) | exact Follows.refl _ | assumption | apply State.updBay_follows | apply State.storeCmd_follows

theorem execRetryTableSave_follows {s0 : State} {bay : Fin 16} {s : State} {t : State} (ht : execRetryTableSave bay s = .next t) (h0 : Follows s0 s) :
    Follows s0 t := by
  unfold execRetryTableSave at ht; cases ht
  exact h0.trans ⟨rfl, SecFlow.refl _⟩

theorem execCartridgeRemove_follows {s0 : State} {bay : Fin 16} {s : State} {t : State} (ht : execCartridgeRemove bay s = .next t) (h0 : Follows s0 s) :
    Follows s0 t := by
  unfold execCartridgeRemove at ht; cases ht
  with_reducible repeat' first
      | (intro x; refine_lift have hx : Follows s0 x := ?_; ?_; (on_goal 1 => clear_value x); (on_goal 2 => dsimp -zeta only [x]))
      | (intro x) | exact Follows.refl _ | assumption | apply State.updBay_follows | apply State.abortLines_follows
      | apply State.loseBuffered_follows
      | (apply Follows.lit; first | assumption | exact Follows.refl _ | apply State.updBay_follows | apply State.abortLines_follows | apply State.loseBuffered_follows)
      | apply Follows.ite | dsimp -zeta only | lift_lets | split

theorem execMount_follows {s0 : State} {bay : Fin 16} {s : State} {t : State} (ht : execMount bay s = .next t) (h0 : Follows s0 s) :
    Follows s0 t := by
  unfold execMount at ht; cases ht
  with_reducible repeat' first
      | (intro x; clear_value x) | (intro x) | exact Follows.refl _ | assumption | apply State.updBay_follows | apply State.storeCmd_follows

theorem State.unmountDone_follows {s0 : State} {s : State} {n : Nat} (h0 : Follows s0 s) :
    Follows s0 (State.unmountDone s n) := by
  unfold State.unmountDone
  with_reducible repeat' first | exact h0 | apply State.rmcNow_follows | apply State.updBay_follows | apply State.flushBuffer_follows

theorem execStoreCmdDone_follows {s0 : State} {bay : Fin 16} {s : State} {t : State} (ht : execStoreCmdDone bay s = .next t) (h0 : Follows s0 s) :
    Follows s0 t := by
  unfold execStoreCmdDone at ht; cases ht
  with_reducible repeat' first
      | exact h0 | apply State.draw_follows | apply State.updBay_follows | apply State.postBay_follows | apply State.mountDone_follows
      | apply State.unmountDone_follows | refine Follows.of_snd (by assumption) (State.draw_follows ?_) | apply Follows.ite

theorem execFormat_follows {s0 : State} {bay : Fin 16} {s : State} {t : State} (ht : execFormat bay s = .next t) (h0 : Follows s0 s) :
    Follows s0 t := by
  unfold execFormat at ht; cases ht
  with_reducible repeat' first
      | (intro x; clear_value x) | (intro x) | exact Follows.refl _ | assumption | apply State.updBay_follows
      | apply State.cryptoErase_follows | apply State.storeCmd_follows | apply Follows.ite

theorem execCartridgeTempSample_follows {s0 : State} {bay : Fin 16} {celsius : BitVec 8} {s : State} {t : State} (ht : execCartridgeTempSample bay celsius s = .next t) (h0 : Follows s0 s) :
    Follows s0 t := by
  unfold execCartridgeTempSample at ht; cases ht
  with_reducible repeat' first
      | exact h0 | apply State.draw_follows | apply State.updBay_follows | apply State.postBay_follows
      | refine Follows.of_snd (by assumption) (State.draw_follows ?_) | apply Follows.ite | split

theorem execScrubAgeTick_follows {s0 : State} {bay : Fin 16} {s : State} {t : State} (ht : execScrubAgeTick bay s = .next t) (h0 : Follows s0 s) :
    Follows s0 t := by
  unfold execScrubAgeTick at ht; cases ht
  exact h0.trans ⟨rfl, SecFlow.refl _⟩

theorem execHarvestDrop_follows {s0 : State} {bay : Fin 16} {s : State} {t : State} (ht : execHarvestDrop bay s = .next t) (h0 : Follows s0 s) :
    Follows s0 t := by
  unfold execHarvestDrop at ht; cases ht
  with_reducible repeat' first
      | (intro x; clear_value x) | (intro x) | exact Follows.refl _ | assumption | apply State.updBay_follows | apply State.storeCmd_follows

theorem execStoreRead_follows {s0 : State} {bay : Fin 16} {p : Packet} {s : State} {t : State} (ht : execStoreRead bay p s = .next t) (h0 : Follows s0 s) :
    Follows s0 t := by
  unfold execStoreRead at ht; cases ht
  with_reducible repeat' first | exact h0 | apply State.storeLine_follows

/-! ## Isl -/

theorem execOscLockChange_follows {s0 : State} {site : SiteId} {locked : Bool} {s : State} {t : State} (ht : execOscLockChange site locked s = .next t) (h0 : Follows s0 s) :
    Follows s0 t := by
  unfold execOscLockChange at ht; cases ht
  with_reducible repeat' first | exact h0 | apply State.updSite_follows | apply State.clockLoss_follows | apply Follows.ite

theorem State.retune_follows {s0 : State} {s : State} {k : Nat} {f : Isl → Isl} (h0 : Follows s0 s) :
    Follows s0 (State.retune s k f) := by
  unfold State.retune
  with_reducible repeat' first | exact h0 | apply State.updSite_follows | apply State.trace_follows | apply Follows.ite

theorem State.islCfgWrite_follows {s0 : State} {s : State} {k : Nat} {mhz : BitVec 12} {voff : BitVec 6} (h0 : Follows s0 s) :
    Follows s0 (State.islCfgWrite s k mhz voff) := by
  unfold State.islCfgWrite
  with_reducible repeat' first | exact h0 | apply State.retune_follows

theorem execIslFreqWrite_follows {s0 : State} {site : SiteId} {mhz : BitVec 12} {voff : BitVec 6} {s : State} {t : State} (ht : execIslFreqWrite site mhz voff s = .next t) (h0 : Follows s0 s) :
    Follows s0 t := by
  unfold execIslFreqWrite at ht; cases ht
  with_reducible repeat' first | exact h0 | apply State.islCfgWrite_follows

theorem execCapUpdate_follows {s0 s t : State} {p v : BitVec 16} (ht : execCapUpdate p v s = .next t) (h0 : Follows s0 s) : Follows s0 t := by
  unfold execCapUpdate at ht
  injection ht with ht
  subst ht
  exact Follows.foldl (Follows.lit h0) (fun _ _ _ h => State.retune_follows h)

/-! ## ArrayRegs -/

theorem reg_follows {fs : List RegField} (h : FieldsOk fs) : RegOk (reg fs) := ⟨h, fun _ _ h => h, fun _ _ h => h⟩


theorem rw_follows {lo : Nat} {len : Nat} {get : State → Nat} {put : Nat → State → State} (hput : ∀ s0 y0 y1, Follows s0 y1 → Follows s0 (put y0 y1)) :
    FieldOk (rw lo len get put) := by
  unfold rw
  with_reducible repeat' first
      | (intro x; clear_value x) | (intro x) | assumption | apply hput | apply PlaceOk.ite | exact PlaceOk.none | apply PlaceOk.some
      | apply RegOk.ite | apply RegOk.mk_ | apply FieldsOk.ite | exact FieldsOk.nil | apply FieldsOk.cons | apply FieldOk.mk_

theorem srw_follows {k : Nat} {lo : Nat} {len : Nat} {g : Site → Nat} {p : Nat → Site → Site} :
    FieldOk (srw k lo len g p) := by
  unfold srw
  with_reducible repeat' first | (intro x; clear_value x) | (intro x) | assumption | apply State.updSite_follows | apply rw_follows

theorem w1c_follows {lo : Nat} {len : Nat} {get : State → Nat} {put : Nat → State → State} (hput : ∀ s0 y0 y1, Follows s0 y1 → Follows s0 (put y0 y1)) :
    FieldOk (w1c lo len get put) := by
  unfold w1c
  with_reducible repeat' first
      | (intro x; clear_value x) | (intro x) | assumption | apply hput | apply PlaceOk.ite | exact PlaceOk.none | apply PlaceOk.some
      | apply RegOk.ite | apply RegOk.mk_ | apply FieldsOk.ite | exact FieldsOk.nil | apply FieldsOk.cons | apply FieldOk.mk_

theorem ro_follows {lo : Nat} {len : Nat} {get : State → Nat} :
    FieldOk (ro lo len get) := by
  unfold ro
  with_reducible repeat' first
      | (intro x; clear_value x) | (intro x) | assumption | apply PlaceOk.ite | exact PlaceOk.none | apply PlaceOk.some | apply RegOk.ite
      | apply RegOk.mk_ | apply FieldsOk.ite | exact FieldsOk.nil | apply FieldsOk.cons | apply FieldOk.mk_

theorem sro_follows {k : Nat} {lo : Nat} {len : Nat} {g : Site → Nat} :
    FieldOk (sro k lo len g) := by
  unfold sro
  with_reducible repeat' first | (intro x) | assumption | apply ro_follows

theorem rc_follows {lo : Nat} {len : Nat} {get : State → Nat} {put : Nat → State → State} (hput : ∀ s0 y0 y1, Follows s0 y1 → Follows s0 (put y0 y1)) :
    FieldOk (rc lo len get put) := by
  unfold rc
  with_reducible repeat' first
      | (intro x; clear_value x) | (intro x) | assumption | apply hput | apply PlaceOk.ite | exact PlaceOk.none | apply PlaceOk.some
      | apply RegOk.ite | apply RegOk.mk_ | apply FieldsOk.ite | exact FieldsOk.nil | apply FieldsOk.cons | apply FieldOk.mk_

theorem src_follows {k : Nat} {lo : Nat} {len : Nat} {g : Site → Nat} {p : Site → Site} :
    FieldOk (src k lo len g p) := by
  unfold src
  with_reducible repeat' first | (intro x; clear_value x) | (intro x) | assumption | apply State.updSite_follows | apply rc_follows

theorem vxRegs_follows {k : Nat} {off : Nat} :
    PlaceOk (vxRegs k off) := by
  unfold vxRegs
  with_reducible repeat' first
      | (intro x; clear_value x) | (intro x) | assumption | apply State.updSite_follows | apply reg_follows | apply srw_follows
      | apply w1c_follows | apply ro_follows | apply sro_follows | apply src_follows | apply PlaceOk.ite | exact PlaceOk.none
      | apply PlaceOk.some | apply RegOk.ite | apply RegOk.mk_ | apply FieldsOk.ite | exact FieldsOk.nil | apply FieldsOk.cons

theorem Reg.readAt_follows {s0 s : State} {r : Option Reg} {h : Half} (hr : PlaceOk r) (h0 : Follows s0 s) :
    Follows s0 (Reg.readAt r h s).2 := by
  cases r with
  | none => exact h0
  | some r =>
    have hr := hr.all _ rfl
    unfold Reg.readAt Reg.read
    have key : ∀ (fs : List RegField), FieldsOk fs → ∀ t, Follows s0 t →
        Follows s0 (fs.foldl (fun s f => if f.acc = .rc ∧ f.cover h ≠ 0 then f.put (f.cover h) s else s) t) := by
      intro fs
      induction fs with
      | nil => exact fun _ _ ht => ht
      | cons f fs ih =>
        intro hf t ht
        exact ih ⟨fun g hg => hf.all g (List.mem_cons_of_mem _ hg)⟩ _ (Follows.ite ((hf.all f List.mem_cons_self).put _ _ _ ht) ht)
    exact key _ hr.fields _ (hr.before _ _ h0)


theorem Reg.writeAt_follows {s0 s : State} {r : Option Reg} {h : Half} {v : W64} (hr : PlaceOk r) (h0 : Follows s0 s) :
    Follows s0 (Reg.writeAt r h v s) := by
  cases r with
  | none => exact h0
  | some r =>
    have hr := hr.all _ rfl
    unfold Reg.writeAt Reg.write
    have key : ∀ (fs : List RegField), FieldsOk fs → ∀ t, Follows s0 t → Follows s0 (fs.foldl (fun s f => f.write h v s) t) := by
      intro fs
      induction fs with
      | nil => exact fun _ _ ht => ht
      | cons f fs ih =>
        intro hf t ht
        refine ih ⟨fun g hg => hf.all g (List.mem_cons_of_mem _ hg)⟩ _ ?_
        have hp := (hf.all f List.mem_cons_self).put s0
        unfold RegField.write
        dsimp only
        split
        · exact ht
        · exact ht
        · exact Follows.ite ht (hp _ _ ht)
        · exact Follows.ite (hp _ _ ht) ht
        · exact Follows.ite ht (hp _ _ ht)
    exact Follows.ite (key _ hr.fields _ h0) (hr.refused _ _ h0)


theorem wo_follows {lo : Nat} {len : Nat} {put : Nat → State → State} (hput : ∀ s0 y0 y1, Follows s0 y1 → Follows s0 (put y0 y1)) :
    FieldOk (wo lo len put) := by
  unfold wo
  with_reducible repeat' first
      | (intro x; clear_value x) | (intro x) | assumption | apply hput | apply PlaceOk.ite | exact PlaceOk.none | apply PlaceOk.some
      | apply RegOk.ite | apply RegOk.mk_ | apply FieldsOk.ite | exact FieldsOk.nil | apply FieldsOk.cons | apply FieldOk.mk_

theorem guarded_follows {k : Nat} {fs : List RegField} (h : FieldsOk fs) : RegOk (guarded k fs) := by
  unfold guarded
  refine ⟨h, fun _ _ h => h, fun _ _ h => ?_⟩
  dsimp only
  exact State.updSite_follows h


theorem hbmBaseFields_follows {get : State → HbmRange} {upd : (HbmRange → HbmRange) → State → State} (hupd : ∀ s0 y0 y1, Follows s0 y1 → Follows s0 (upd y0 y1)) :
    FieldsOk (hbmBaseFields get upd) := by
  unfold hbmBaseFields
  with_reducible repeat' first
      | (intro x; clear_value x) | (intro x) | assumption | apply rw_follows | apply hupd | apply PlaceOk.ite | exact PlaceOk.none
      | apply PlaceOk.some | apply RegOk.ite | apply RegOk.mk_ | apply FieldsOk.ite | exact FieldsOk.nil | apply FieldsOk.cons

theorem hbmBoundFields_follows {get : State → HbmRange} {upd : (HbmRange → HbmRange) → State → State} (hupd : ∀ s0 y0 y1, Follows s0 y1 → Follows s0 (upd y0 y1)) :
    FieldsOk (hbmBoundFields get upd) := by
  unfold hbmBoundFields
  with_reducible repeat' first
      | (intro x; clear_value x) | (intro x) | assumption | apply rw_follows | apply hupd | apply PlaceOk.ite | exact PlaceOk.none
      | apply PlaceOk.some | apply RegOk.ite | apply RegOk.mk_ | apply FieldsOk.ite | exact FieldsOk.nil | apply FieldsOk.cons

theorem arrayBlock_follows {k : Nat} {off : Nat} :
    PlaceOk (arrayBlock k off) := by
  unfold arrayBlock
  with_reducible repeat' first
      | (intro x; clear_value x) | (intro x) | assumption | apply State.updSite_follows | apply reg_follows | apply srw_follows
      | apply w1c_follows | apply ro_follows | apply sro_follows | apply wo_follows | apply guarded_follows | apply hbmBaseFields_follows
      | apply hbmBoundFields_follows | apply PlaceOk.ite | exact PlaceOk.none | apply PlaceOk.some | apply RegOk.ite | apply RegOk.mk_
      | apply FieldsOk.ite | exact FieldsOk.nil | apply FieldsOk.cons | apply FieldOk.mk_ | apply Follows.ite

theorem State.taskCtl_follows {s0 : State} {s : State} {k : Nat} {n : Fin 4} {v : Nat} (h0 : Follows s0 s) :
    Follows s0 (State.taskCtl s k n v) := by
  unfold State.taskCtl
  with_reducible repeat' first | exact h0 | apply State.updSite_follows | apply State.updSlot_follows | apply Follows.ite

theorem slotRw_follows {k : Nat} {n : Fin 4} {lo : Nat} {len : Nat} {g : Slot → Nat} {p : Nat → Slot → Slot} :
    FieldOk (slotRw k n lo len g p) := by
  unfold slotRw
  with_reducible repeat' first | (intro x; clear_value x) | (intro x) | assumption | apply State.updSlot_follows | apply rw_follows

theorem slotRegs_follows {k : Nat} {n : Fin 4} {off : Nat} :
    PlaceOk (slotRegs k n off) := by
  unfold slotRegs
  with_reducible repeat' first
      | (intro x; clear_value x) | (intro x) | assumption | apply reg_follows | apply ro_follows | apply wo_follows
      | apply State.taskCtl_follows | apply slotRw_follows | apply PlaceOk.ite | exact PlaceOk.none | apply PlaceOk.some | apply RegOk.ite
      | apply RegOk.mk_ | apply FieldsOk.ite | exact FieldsOk.nil | apply FieldsOk.cons

theorem ccRegs_follows {k : Nat} {off : Nat} :
    PlaceOk (ccRegs k off) := by
  unfold ccRegs
  with_reducible repeat' first
      | (intro x; clear_value x) | (intro x) | assumption | apply State.updSite_follows | apply reg_follows | apply srw_follows
      | apply sro_follows | apply src_follows | apply wo_follows | apply PlaceOk.ite | exact PlaceOk.none | apply PlaceOk.some
      | apply RegOk.ite | apply RegOk.mk_ | apply FieldsOk.ite | exact FieldsOk.nil | apply FieldsOk.cons

theorem w1all_follows {lo : Nat} {get : State → Nat} {clear : State → State} (hclear : ∀ s0 y0, Follows s0 y0 → Follows s0 (clear y0)) :
    FieldOk (w1all lo get clear) := by
  unfold w1all
  with_reducible repeat' first
      | (intro x; clear_value x) | (intro x) | assumption | apply w1c_follows | apply hclear | apply PlaceOk.ite | exact PlaceOk.none
      | apply PlaceOk.some | apply RegOk.ite | apply RegOk.mk_ | apply FieldsOk.ite | exact FieldsOk.nil | apply FieldsOk.cons
      | apply FieldOk.mk_ | apply Follows.ite

theorem dmaRegs_follows {k : Nat} {e : Fin 2} {off : Nat} :
    PlaceOk (dmaRegs k e off) := by
  unfold dmaRegs
  with_reducible repeat' first
      | (intro x; clear_value x) | (intro x) | assumption | apply State.updSite_follows | apply reg_follows | apply srw_follows
      | apply sro_follows | apply src_follows | apply w1all_follows | apply PlaceOk.ite | exact PlaceOk.none | apply PlaceOk.some
      | apply RegOk.ite | apply RegOk.mk_ | apply FieldsOk.ite | exact FieldsOk.nil | apply FieldsOk.cons

theorem wsRegs_follows {k : Nat} {off : Nat} :
    PlaceOk (wsRegs k off) := by
  unfold wsRegs
  with_reducible repeat' first
      | (intro x; clear_value x) | (intro x) | assumption | apply State.updSite_follows | apply reg_follows | apply srw_follows
      | apply sro_follows | apply src_follows | apply w1all_follows | apply PlaceOk.ite | exact PlaceOk.none | apply PlaceOk.some
      | apply RegOk.ite | apply RegOk.mk_ | apply FieldsOk.ite | exact FieldsOk.nil | apply FieldsOk.cons

theorem w1bit_follows {lo : Nat} {get : State → Bool} {clear : State → State} (hclear : ∀ s0 y0, Follows s0 y0 → Follows s0 (clear y0)) :
    FieldOk (w1bit lo get clear) := by
  unfold w1bit
  with_reducible repeat' first | (intro x; clear_value x) | (intro x) | assumption | apply w1c_follows | apply hclear

theorem sw1_follows {k : Nat} {lo : Nat} {g : Site → Bool} {p : Site → Site} :
    FieldOk (sw1 k lo g p) := by
  unfold sw1
  with_reducible repeat' first | (intro x; clear_value x) | (intro x) | assumption | apply State.updSite_follows | apply w1bit_follows

theorem spwRegs_follows {k : Nat} {off : Nat} :
    PlaceOk (spwRegs k off) := by
  unfold spwRegs
  with_reducible repeat' first
      | (intro x) | assumption | apply reg_follows | apply srw_follows | apply sro_follows | apply src_follows | apply guarded_follows
      | apply sw1_follows | apply PlaceOk.ite | exact PlaceOk.none | apply PlaceOk.some | apply RegOk.ite | apply RegOk.mk_
      | apply FieldsOk.ite | exact FieldsOk.nil | apply FieldsOk.cons

theorem mxRegs_follows {k : Nat} {off : Nat} :
    PlaceOk (mxRegs k off) := by
  unfold mxRegs
  with_reducible repeat' first
      | (intro x; clear_value x) | (intro x) | assumption | apply reg_follows | apply srw_follows | apply sro_follows | apply src_follows
      | apply sw1_follows | apply PlaceOk.ite | exact PlaceOk.none | apply PlaceOk.some | apply RegOk.ite | apply RegOk.mk_
      | apply FieldsOk.ite | exact FieldsOk.nil | apply FieldsOk.cons | apply FieldOk.mk_ | apply Follows.ite | dsimp -zeta only | lift_lets
      | split

theorem rtRegs_follows {k : Nat} {off : Nat} :
    PlaceOk (rtRegs k off) := by
  unfold rtRegs
  with_reducible repeat' first
      | (intro x; clear_value x) | (intro x) | assumption | apply State.updSite_follows | apply reg_follows | apply srw_follows
      | apply w1c_follows | apply ro_follows | apply sro_follows | apply src_follows | apply sw1_follows | apply PlaceOk.ite
      | exact PlaceOk.none | apply PlaceOk.some | apply RegOk.ite | apply RegOk.mk_ | apply FieldsOk.ite | exact FieldsOk.nil
      | apply FieldsOk.cons | apply FieldOk.mk_

theorem islRegs_follows {k : Nat} {off : Nat} :
    PlaceOk (islRegs k off) := by
  unfold islRegs
  with_reducible repeat' first
      | (intro x; clear_value x) | (intro x) | assumption | apply State.updSite_follows | apply State.noiseReseed_follows
      | apply State.islCfgWrite_follows | apply reg_follows | apply rw_follows | apply sro_follows | apply src_follows | apply wo_follows
      | apply sw1_follows | apply PlaceOk.ite | exact PlaceOk.none | apply PlaceOk.some | apply RegOk.ite | apply RegOk.mk_
      | apply FieldsOk.ite | exact FieldsOk.nil | apply FieldsOk.cons | apply FieldOk.mk_ | apply Follows.ite

theorem trcRegs_follows {who : Option (Fin 4)} {k off : Nat} : PlaceOk (trcRegs who k off) := by
  have hb : ∀ s0 s, Follows s0 s → Follows s0 (s.cycleNow k).2 := fun _ _ h => State.cycleNow_follows h
  have hd : ∀ s0 s, Follows s0 s → Follows s0 (s.debugRead k).2 := fun _ _ h => State.debugRead_follows h
  have hid : ∀ s0 s, Follows s0 s → Follows s0 (id s) := fun _ _ h => h
  unfold trcRegs
  with_reducible repeat' first
      | apply PlaceOk.ite | exact PlaceOk.none | apply PlaceOk.some | apply reg_follows | exact FieldsOk.nil | apply FieldsOk.cons
      | apply srw_follows | apply sro_follows | apply src_follows | apply sw1_follows
  · exact wo_follows (fun _ _ _ h => State.trcMark_follows h)
  · exact ⟨FieldsOk.cons sro_follows FieldsOk.nil, hb, hid⟩
  · exact ⟨FieldsOk.cons (rw_follows (fun _ _ _ h => State.debugWrite_follows h))
      (FieldsOk.cons (rw_follows (fun _ _ _ h => State.debugWrite_follows h)) FieldsOk.nil), hd, hid⟩


theorem ueRegs_follows {k : Nat} {off : Nat} :
    PlaceOk (ueRegs k off) := by
  unfold ueRegs
  with_reducible repeat' first
      | (intro x; clear_value x) | (intro x) | assumption | apply State.updSite_follows | apply State.ueRelease_follows | apply reg_follows
      | apply rw_follows | apply srw_follows | apply ro_follows | apply sro_follows | apply wo_follows | apply PlaceOk.ite
      | exact PlaceOk.none | apply PlaceOk.some | apply RegOk.ite | apply RegOk.mk_ | apply FieldsOk.ite | exact FieldsOk.nil
      | apply FieldsOk.cons

theorem csrReg_follows {who : Option (Fin 4)} {k : Nat} {off : Nat} :
    PlaceOk (csrReg who k off) := by
  unfold csrReg
  with_reducible repeat' first
      | (intro x; clear_value x) | (intro x) | assumption | apply vxRegs_follows | apply arrayBlock_follows | apply slotRegs_follows
      | apply ccRegs_follows | apply dmaRegs_follows | apply wsRegs_follows | apply spwRegs_follows | apply mxRegs_follows
      | apply rtRegs_follows | apply islRegs_follows | apply trcRegs_follows | apply ueRegs_follows | apply PlaceOk.ite | exact PlaceOk.none
      | apply PlaceOk.some | apply RegOk.ite | apply RegOk.mk_ | apply FieldsOk.ite | exact FieldsOk.nil | apply FieldsOk.cons
      | apply FieldOk.mk_ | apply Follows.ite | dsimp -zeta only | lift_lets | split

theorem State.csrw_follows {s0 s : State} {k : Nat} {n : Fin 4} {w : W32} (h0 : Follows s0 s) : Follows s0 (s.csrw k n w) := by
  unfold State.csrw
  exact Follows.ite (State.instrFault_follows h0)
    (State.updSlot_follows (Follows.ite (State.wsKick_follows h0) (Reg.writeAt_follows csrReg_follows h0)))


theorem execCsrw_follows {s0 : State} {core : CoreId} {slot : Fin 4} {s : State} {t : State} (ht : execCsrw core slot s = .next t) (h0 : Follows s0 s) :
    Follows s0 t := by
  unfold execCsrw at ht; cases ht
  with_reducible repeat' first
      | (intro x; clear_value x) | (intro x) | exact Follows.refl _ | assumption | apply State.issue_follows | apply State.csrw_follows

theorem State.csrr_follows {s0 s : State} {k : Nat} {n : Fin 4} {w : W32} (h0 : Follows s0 s) : Follows s0 (s.csrr k n w) := by
  unfold State.csrr
  exact Follows.ite (State.instrFault_follows h0) (State.updSlot_follows (Reg.readAt_follows csrReg_follows h0))


theorem execCsrr_follows {s0 : State} {core : CoreId} {slot : Fin 4} {s : State} {t : State} (ht : execCsrr core slot s = .next t) (h0 : Follows s0 s) :
    Follows s0 t := by
  unfold execCsrr at ht; cases ht
  with_reducible repeat' first
      | (intro x; clear_value x) | (intro x) | exact Follows.refl _ | assumption | apply State.issue_follows | apply State.csrr_follows

/-! ## Domain -/

theorem State.siteOff_follows {s0 : State} {s : State} {k : Nat} (h0 : Follows s0 s) :
    Follows s0 (State.siteOff s k) := by
  unfold State.siteOff
  with_reducible repeat' first | exact h0 | apply State.updSite_follows | apply State.isolate_follows

theorem State.couple_follows {s0 : State} {s : State} {k : Nat} (h0 : Follows s0 s) :
    Follows s0 (State.couple s k) := by
  unfold State.couple
  with_reducible repeat' first
      | (intro x; refine_lift have hx : Follows s0 x := ?_; ?_; (on_goal 1 => clear_value x); (on_goal 2 => dsimp -zeta only [x]))
      | (intro x) | exact Follows.refl _ | assumption | apply State.updSite_follows | (apply Follows.foldl; case' h => intro s0 s x hk)
      | apply Follows.ite | dsimp -zeta only | lift_lets | split

theorem State.stackCut_follows {s0 : State} {s : State} {st : Nat} (h0 : Follows s0 s) :
    Follows s0 (State.stackCut s st) := by
  unfold State.stackCut
  exact h0.trans ⟨rfl, SecFlow.refl _⟩

theorem State.siteOn_follows {s0 : State} {s : State} {k : Nat} (h0 : Follows s0 s) :
    Follows s0 (State.siteOn s k) := by
  unfold State.siteOn
  with_reducible repeat' first
      | exact h0 | apply State.updSite_follows | apply State.reseed_follows | apply State.retune_follows | apply State.couple_follows

theorem State.bayCut_follows {s0 : State} {s : State} {n : Nat} (h0 : Follows s0 s) :
    Follows s0 (State.bayCut s n) := by
  unfold State.bayCut
  exact h0.trans ⟨rfl, SecFlow.refl _⟩

theorem State.lockClocks_follows {s0 : State} {s : State} {ks : List Nat} (h0 : Follows s0 s) :
    Follows s0 (State.lockClocks s ks) := by
  unfold State.lockClocks
  with_reducible repeat' first | exact h0 | apply State.updSites_follows

theorem State.pcOff_follows {s0 : State} {s : State} {q : Nat} (h0 : Follows s0 s) :
    Follows s0 (State.pcOff s q) := by
  unfold State.pcOff
  with_reducible repeat' first
      | (intro x) | exact Follows.refl _ | assumption | apply State.setSite_follows | apply State.updPc_follows
      | apply State.updPort_follows | apply State.release_follows | apply State.linkDown_follows
      | (apply Follows.foldl; case' h => intro s0 s x hk)

theorem State.bridgeOff_follows {s0 : State} {s : State} {m : Nat} (h0 : Follows s0 s) :
    Follows s0 (State.bridgeOff s m) := by
  unfold State.bridgeOff
  with_reducible repeat' first
      | (intro x) | exact Follows.refl _ | assumption | apply State.updSite_follows
      | (apply Follows.lit; first | assumption | exact Follows.refl _ | apply State.updSite_follows)
      | (apply Follows.foldl; case' h => intro s0 s x hk)

/-! ## Image -/

theorem State.updLoad_follows {s0 s : State} {f : ImgLoad → ImgLoad} (h0 : Follows s0 s) : Follows s0 (s.updLoad f) := by
  unfold State.updLoad
  split
  · exact Follows.lit h0
  · exact h0


theorem State.loaderPut_follows {s0 : State} {s : State} {addr : Nat} {bs : List Byte} (h0 : Follows s0 s) :
    Follows s0 (State.loaderPut s addr bs) := by
  unfold State.loaderPut
  with_reducible repeat' first
      | (intro x) | exact Follows.refl _ | assumption | apply State.hbmStore_follows
      | refine Follows.of_fst (by assumption) (State.hbmStore_follows ?_) | (apply Follows.foldl; case' h => intro s0 s x hk)

theorem State.stageCopy_follows {s0 : State} {s : State} {l : ImgLoad} (h0 : Follows s0 s) :
    Follows s0 (State.stageCopy s l).1 := by
  unfold State.stageCopy
  with_reducible repeat' first
      | exact h0 | apply State.hbmGet_follows | apply State.loaderPut_follows
      | refine Follows.of_fst (by assumption) (State.hbmGet_follows ?_) | apply Follows.ite | split

theorem State.applyPlans_follows {s0 : State} {s : State} {b : List Byte} (h0 : Follows s0 s) :
    Follows s0 (State.applyPlans s b) := by
  unfold State.applyPlans
  with_reducible repeat' first
      | (intro x) | exact Follows.refl _ | assumption | apply State.updSites_follows | apply State.applyPatches_follows
      | (apply Follows.lit; first | assumption | exact Follows.refl _ | apply State.updSites_follows | apply State.applyPatches_follows)
      | (apply Follows.foldl; case' h => intro s0 s x hk) | apply Follows.ite

theorem State.imgWrite_follows {s0 s : State} {k off : Nat} {v : W64} (h0 : Follows s0 s) : Follows s0 (s.imgWrite k off v) := by
  have hw : ∀ w, Follows s0 (Reg.writeAt (csrReg none k off) .whole w s) := fun _ => Reg.writeAt_follows csrReg_follows h0
  unfold State.imgWrite
  exact Follows.ite (State.updSite_follows (hw _)) (hw _)


theorem State.putBlob_follows {s0 : State} {s : State} {k : Nat} {e : Config.ImgBlob} (h0 : Follows s0 s) :
    Follows s0 (State.putBlob s k e) := by
  unfold State.putBlob
  exact h0.trans ⟨rfl, SecFlow.refl _⟩

theorem State.applyEngine_follows {s0 s : State} {k : Nat} {regs : List (Nat × W64)} {blobs : List Config.ImgBlob} (h0 : Follows s0 s) :
    Follows s0 (s.applyEngine k regs blobs) := by
  unfold State.applyEngine
  exact Follows.foldl (Follows.foldl (State.updSite_follows h0) (fun _ _ _ h => Follows.ite (State.imgWrite_follows h) h))
    (fun _ _ _ h => State.putBlob_follows h)


theorem State.applyUpdate_follows {s0 s : State} {us : List Config.ImgUpdate} (h0 : Follows s0 s) : Follows s0 (s.applyUpdate us) := by
  unfold State.applyUpdate
  exact Follows.foldl h0 (fun _ _ _ h =>
    State.updUe_follows (State.ueCtlWrite_follows (Follows.foldl h (fun _ _ _ h => State.applyEngine_follows h))))


theorem State.sweepSets_follows {s0 : State} {s : State} {ps : List PanEntry} (h0 : Follows s0 s) :
    Follows s0 (State.sweepSets s ps) := by
  unfold State.sweepSets
  with_reducible repeat' first
      | (intro x) | exact Follows.refl _ | assumption | apply State.updAcu_follows | apply State.acuSweep_follows
      | (apply Follows.foldl; case' h => intro s0 s x hk)

theorem State.updHq_follows {s0 : State} {s : State} {k : Nat} {q : Nat} {f : HostQueue → HostQueue} (h0 : Follows s0 s) :
    Follows s0 (State.updHq s k q f) := by
  unfold State.updHq
  exact h0.trans ⟨rfl, SecFlow.refl _⟩

theorem State.finishCmd_follows {s0 : State} {s : State} {k : Nat} {q : Nat} {status : BitVec 8} {result : W64} (h0 : Follows s0 s) :
    Follows s0 (State.finishCmd s k q status result) := by
  unfold State.finishCmd
  exact h0.trans ⟨rfl, SecFlow.refl _⟩

theorem State.endLoad_follows {s0 s : State} {code : BitVec 8} (h0 : Follows s0 s) : Follows s0 (s.endLoad code) := by
  unfold State.endLoad
  split
  · exact Follows.lit (State.finishCmd_follows h0)
  · exact h0


theorem State.loadRead_follows {s0 s : State} {l : ImgLoad} (h0 : Follows s0 s) : Follows s0 (s.loadRead l) := by
  unfold State.loadRead
  extract_lets n
  cases e : s.hostRead l.port false (.image l.number l.copied n) (l.src + l.copied) n with
  | none => exact h0
  | some t => exact State.hostRead_follows e h0


theorem State.startLoad_follows {s0 s : State} (h0 : Follows s0 s) : Follows s0 s.startLoad := by
  have hb : ∀ f c, Follows s0 ((s.updLoad f).endLoad c) := fun _ _ => State.endLoad_follows (State.updLoad_follows h0)
  unfold State.startLoad
  split
  · exact h0
  · refine Follows.ite h0 (Follows.ite (hb _ _) (Follows.ite h0 ?_))
    extract_lets fits
    split
    · exact hb _ _
    · exact Follows.ite (hb _ _) (Follows.ite (State.updLoad_follows h0) (State.loadRead_follows (State.updLoad_follows h0)))


theorem State.startLoads_follows {s0 s : State} (h0 : Follows s0 s) : Follows s0 s.startLoads :=
  Follows.foldl h0 (fun _ _ _ h => State.startLoad_follows h)


theorem State.closeLoad_follows {s0 : State} {s : State} {code : BitVec 8} (h0 : Follows s0 s) :
    Follows s0 (State.closeLoad s code) := by
  unfold State.closeLoad
  with_reducible repeat' first | exact h0 | apply State.endLoad_follows | apply State.startLoads_follows

theorem State.failLoad_follows {s0 : State} {s : State} {step : Nat} {code : BitVec 8} (h0 : Follows s0 s) :
    Follows s0 (State.failLoad s step code) := by
  unfold State.failLoad
  with_reducible repeat' first | exact h0 | apply State.updLoad_follows | apply State.closeLoad_follows

theorem State.planBank_follows {s0 : State} {s : State} {plan : List (Nat × Nat × Nat)} {st : Nat} {bank : Nat} {target : Nat} (h0 : Follows s0 s) :
    Follows s0 (State.planBank s plan st bank target) := by
  unfold State.planBank
  with_reducible repeat' first | exact h0 | apply State.rmcStackOn_follows | apply State.powerRequest_follows | apply Follows.ite

theorem State.putIsland_follows {s0 : State} {s : State} {b : List Byte} {scope : Nat} {k : Nat} (h0 : Follows s0 s) :
    Follows s0 (State.putIsland s b scope k) := by
  unfold State.putIsland
  with_reducible repeat' first
      | (intro x) | exact Follows.refl _ | assumption | apply State.islCfgWrite_follows | (apply Follows.foldl; case' h => intro s0 s x hk)

theorem State.putIslands_follows {s0 : State} {s : State} {k : Nat} {pan : Option Nat} (h0 : Follows s0 s) :
    Follows s0 (State.putIslands s k pan) := by
  unfold State.putIslands
  with_reducible repeat' first
      | (intro x; refine_lift have hx : Follows s0 x := ?_; ?_; (on_goal 1 => clear_value x); (on_goal 2 => dsimp -zeta only [x]))
      | (intro x) | exact Follows.refl _ | assumption | apply State.putIsland_follows | apply Follows.ite | dsimp -zeta only | lift_lets
      | split

theorem State.auditFail_follows {s0 s : State} {r : Nat × List AuditNode} (h0 : Follows s0 s) : Follows s0 (s.auditFail r) :=
  State.closeLoad_follows (Follows.lit (State.draw_follows h0))


theorem State.reconfig_follows {s0 s : State} {k : Nat} {c : PanConf} {t : TempoKeep} (h0 : Follows s0 s) : Follows s0 (s.reconfig k c t) := by
  unfold State.reconfig
  refine State.noiseReseed_follows (State.updSite_follows (Follows.foldl ?_ (fun _ _ _ h => Follows.ite (State.imgWrite_follows h) h)))
  refine State.updSite_follows (Follows.foldl (State.updSite_follows ?_) (fun _ _ _ h => State.putBlob_follows h))
  exact Follows.foldl (State.updSite_follows h0) (fun _ _ _ h => Follows.ite (State.imgWrite_follows h) h)


theorem State.reconfigActive_follows {s0 s : State} {k n : Nat} {t : TempoKeep} (h0 : Follows s0 s) : Follows s0 (s.reconfigActive k n t) := by
  unfold State.reconfigActive
  apply State.putIslands_follows
  split
  · exact State.reconfig_follows h0
  · exact State.updSite_follows h0


theorem State.putRoutes_follows {s0 : State} {s : State} {k : Nat} {isPartial : Bool} {pan : Nat} {c : ImgCopy} (h0 : Follows s0 s) :
    Follows s0 (State.putRoutes s k isPartial pan c) := by
  unfold State.putRoutes
  with_reducible repeat' first | exact h0 | apply State.updSite_follows | apply Follows.ite

theorem State.writeMap_follows {s0 : State} {s : State} {whole : Bool} {ws : List (Nat × Byte)} (h0 : Follows s0 s) :
    Follows s0 (State.writeMap s whole ws) := by
  unfold State.writeMap
  with_reducible repeat' first
      | (intro x) | exact Follows.refl _ | assumption | apply State.updSites_follows
      | (apply Follows.lit; first | assumption | exact Follows.refl _ | apply State.updSites_follows)

theorem State.panLoaded_follows {s0 : State} {s : State} {id : W64} {n : Nat} (h0 : Follows s0 s) :
    Follows s0 (State.panLoaded s id n) := by
  unfold State.panLoaded
  with_reducible repeat' first | exact h0 | apply State.updPan_follows | apply State.panStart_follows | apply Follows.ite

theorem State.writeRoutes_follows {s0 : State} {s : State} {b : List Byte} {isPartial : Bool} {pan : Nat} (h0 : Follows s0 s) :
    Follows s0 (State.writeRoutes s b isPartial pan) := by
  unfold State.writeRoutes
  with_reducible repeat' first | exact h0 | apply State.updSites_follows

theorem State.writeIslands_follows {s0 : State} {s : State} {b : List Byte} {scope : Nat} (h0 : Follows s0 s) :
    Follows s0 (State.writeIslands s b scope) := by
  unfold State.writeIslands
  with_reducible repeat' first
      | (intro x) | exact Follows.refl _ | assumption | apply State.islCfgWrite_follows | (apply Follows.foldl; case' h => intro s0 s x hk)
      | apply Follows.ite

theorem State.applyPans_follows {s0 s : State} {b : List Byte} {t : TempoKeep} (h0 : Follows s0 s) : Follows s0 (s.applyPans b t) := by
  unfold State.applyPans
  refine Follows.foldl h0 (fun s0 s p h => ?_)
  dsimp only
  split
  · exact Follows.foldl (State.updPan_follows h) (fun _ _ _ h => State.reconfig_follows (State.updSite_follows h))
  · exact State.updPan_follows h


theorem State.applyPartial_follows {s0 s : State} {b : List Byte} {n : Nat} (h0 : Follows s0 s) : Follows s0 (s.applyPartial b n) := by
  unfold State.applyPartial
  exact State.sweepSets_follows (State.applyPans_follows (State.writeIslands_follows (State.writeMap_follows (State.writeRoutes_follows h0))))


theorem State.domainOff_follows {s0 : State} {s : State} {kind : Nat} {index : Nat} (h0 : Follows s0 s) :
    Follows s0 (State.domainOff s kind index) := by
  unfold State.domainOff
  with_reducible repeat' first
      | exact h0 | apply State.updHp_follows | apply State.powerRequest_follows | apply State.siteOff_follows | apply State.bayCut_follows
      | apply State.pcOff_follows | apply State.bridgeOff_follows | apply Follows.ite | split

theorem State.applyPower_follows {s0 : State} {s : State} {p : Config.ImgPower} (h0 : Follows s0 s) :
    Follows s0 (State.applyPower s p) := by
  unfold State.applyPower
  with_reducible repeat' first
      | (intro x; refine_lift have hx : Follows s0 x := ?_; ?_; (on_goal 1 => clear_value x); (on_goal 2 => dsimp -zeta only [x]))
      | (intro x; clear_value x) | (intro x) | exact Follows.refl _ | assumption | apply State.clockCheck_follows
      | apply State.planBank_follows | apply State.domainOff_follows
      | (apply Follows.lit; first | assumption | exact Follows.refl _ | apply State.clockCheck_follows | apply State.planBank_follows | apply State.domainOff_follows)
      | (apply Follows.foldl; case' h => intro s0 s x hk) | apply Follows.ite | dsimp -zeta only | lift_lets

theorem State.applyWhole_follows {s0 s : State} {b : List Byte} (h0 : Follows s0 s) : Follows s0 (s.applyWhole b) := by
  unfold State.applyWhole
  extract_lets s0' s1 s2 s3 s4 s5 s6 s7 s8 s9
  have h3 : Follows s0 s3 := State.updSites_follows (State.writeMap_follows (State.writeRoutes_follows (State.unconfigure_follows h0)))
  have h4 : Follows s0 s4 := by
    dsimp only [s4]
    split
    · exact State.applyPower_follows h3
    · exact h3
  exact State.sweepSets_follows (State.applyUpdate_follows
    (State.applyPans_follows (State.writeIslands_follows (State.applyPlans_follows h4))))


theorem execImageApply_follows {s0 s t : State} (ht : execImageApply s = .next t) (h0 : Follows s0 s) : Follows s0 t := by
  unfold execImageApply at ht
  injection ht with ht
  subst ht
  split
  · refine Follows.ite h0 (Follows.ite (State.failLoad_follows h0) (State.updLoad_follows ?_))
    exact Follows.ite (State.applyPartial_follows h0) (State.applyWhole_follows h0)
  · exact h0


theorem State.abortLoad_follows {s0 s : State} (h0 : Follows s0 s) : Follows s0 s.abortLoad := by
  unfold State.abortLoad
  split
  · exact State.closeLoad_follows (Follows.ite (State.unconfigure_follows h0) h0)
  · exact h0


theorem State.dropLoads_follows {s0 s : State} {k : Nat} (h0 : Follows s0 s) : Follows s0 (s.dropLoads k) := by
  unfold State.dropLoads
  extract_lets i t
  have ht : Follows s0 t := Follows.lit h0
  exact Follows.ite (State.abortLoad_follows ht) ht


theorem State.acuLose_follows {s0 : State} {s : State} {k : Nat} (h0 : Follows s0 s) :
    Follows s0 (State.acuLose s k) := by
  unfold State.acuLose
  with_reducible repeat' first
      | (intro x) | exact Follows.refl _ | assumption | apply State.updAcu_follows | apply State.spillCorrupt_follows
      | (apply Follows.foldl; case' h => intro s0 s x hk) | apply Follows.ite

theorem State.hostPortReset_follows {s0 : State} {s : State} {k : Nat} (h0 : Follows s0 s) :
    Follows s0 (State.hostPortReset s k) := by
  unfold State.hostPortReset
  with_reducible repeat' first | exact h0 | apply State.updHp_follows | apply State.dropLoads_follows | apply State.acuLose_follows

theorem execHostPortReset_follows {s0 : State} {port : Fin 4} {s : State} {t : State} (ht : execHostPortReset port s = .next t) (h0 : Follows s0 s) :
    Follows s0 t := by
  unfold execHostPortReset at ht; cases ht
  with_reducible repeat' first | exact h0 | apply State.hostPortReset_follows

theorem State.queueLoad_follows {s0 s : State} {k q : Nat} {c : HostCmd} (h0 : Follows s0 s) : Follows s0 (s.queueLoad k q c) := by
  unfold State.queueLoad
  exact State.startLoads_follows (Follows.lit h0)


theorem State.placeActive_follows {s0 : State} {s : State} {k : Nat} (h0 : Follows s0 s) :
    Follows s0 (State.placeActive s k) := by
  unfold State.placeActive
  with_reducible repeat' first
      | (intro x) | exact Follows.refl _ | assumption | apply State.updSite_follows | apply State.putRoutes_follows
      | (apply Follows.foldl; case' h => intro s0 s x hk) | apply Follows.ite | dsimp -zeta only | lift_lets | split

theorem State.loadStep5_follows {s0 : State} {s : State} (h0 : Follows s0 s) :
    Follows s0 (State.loadStep5 s) := by
  unfold State.loadStep5
  with_reducible repeat' first
      | (intro x; refine_lift have hx : Follows s0 x := ?_; ?_; (on_goal 1 => clear_value x); (on_goal 2 => dsimp -zeta only [x]))
      | (intro x; clear_value x) | (intro x) | exact Follows.refl _ | assumption | apply State.updLoad_follows
      | apply State.failLoad_follows
      | (apply Follows.lit; first | assumption | exact Follows.refl _ | apply State.updLoad_follows | apply State.failLoad_follows)
      | apply Follows.ite | dsimp -zeta only | lift_lets | split

theorem State.verifyCopy_follows {s0 : State} {s : State} {l : ImgLoad} (h0 : Follows s0 s) :
    Follows s0 (State.verifyCopy s l) := by
  unfold State.verifyCopy
  with_reducible repeat' first | exact h0 | apply State.updLoad_follows | apply State.failLoad_follows | apply Follows.ite

theorem execImageStaged_follows {s0 s t : State} (ht : execImageStaged s = .next t) (h0 : Follows s0 s) : Follows s0 t := by
  unfold execImageStaged at ht
  injection ht with ht
  subst ht
  split
  · next l _ _ =>
    have h1 : Follows s0 (s.stageCopy l).1 := State.stageCopy_follows h0
    generalize s.stageCopy l = r at h1
    obtain ⟨u, ok⟩ := r
    exact Follows.ite (Follows.ite (State.failLoad_follows h1) (Follows.ite (State.failLoad_follows h1)
      (State.loadStep5_follows (State.verifyCopy_follows h1)))) (State.loadStep5_follows h0)
  · exact h0


theorem State.auditPass_follows {s0 s : State} (h0 : Follows s0 s) : Follows s0 s.auditPass := Follows.lit (State.updLoad_follows h0)


theorem execImageLoadComplete_follows {s0 s t : State} (ht : execImageLoadComplete s = .next t) (h0 : Follows s0 s) : Follows s0 t := by
  unfold execImageLoadComplete at ht
  injection ht with ht
  subst ht
  split
  · refine Follows.ite h0 (Follows.ite (State.closeLoad_follows h0) ?_)
    exact State.closeLoad_follows (Follows.foldl (Follows.lit h0) (fun _ _ _ h => State.panLoaded_follows h))
  · exact h0


theorem execRouteAuditDone_follows {s0 s t : State} (ht : execRouteAuditDone s = .next t) (h0 : Follows s0 s) : Follows s0 t := by
  unfold execRouteAuditDone at ht
  injection ht with ht
  subst ht
  split
  · refine Follows.ite h0 ?_
    cases routeAudit _ with
    | none => exact State.auditPass_follows h0
    | some r => exact State.auditFail_follows h0
  · exact h0

/-! ## Power -/

theorem State.feedLimits_follows {s0 : State} {s : State} {report : State → State} (hreport : ∀ s0 y0, Follows s0 y0 → Follows s0 (report y0)) (h0 : Follows s0 s) :
    Follows s0 (State.feedLimits s report) := by
  unfold State.feedLimits
  with_reducible repeat' first
      | (intro x) | exact Follows.refl _ | assumption | apply hreport
      | (apply Follows.lit; first | assumption | exact Follows.refl _ | apply hreport) | apply Follows.ite

theorem State.postFeed_follows {s0 : State} {s : State} {kind : Nat} {index : Nat} {volts : Nat} {amps : Nat} (h0 : Follows s0 s) :
    Follows s0 (State.postFeed s kind index volts amps) := by
  unfold State.postFeed
  with_reducible repeat' first | exact h0 | apply State.post_follows

theorem State.feedCheck_follows {s0 : State} {s : State} {feed : Nat} {volts : Nat} {amps : Nat} (h0 : Follows s0 s) :
    Follows s0 (State.feedCheck s feed volts amps) := by
  unfold State.feedCheck
  with_reducible repeat' first
      | (intro x; clear_value x) | (intro x) | exact Follows.refl _ | assumption | apply State.feedLimits_follows
      | apply State.postFeed_follows

theorem execFeedFault_follows {s0 : State} {feed : Fin 8} {volts : BitVec 16} {amps : BitVec 16} {s : State} {t : State} (ht : execFeedFault feed volts amps s = .next t) (h0 : Follows s0 s) :
    Follows s0 t := by
  unfold execFeedFault at ht; cases ht
  with_reducible repeat' first
      | (intro x) | exact Follows.refl _ | assumption | apply State.feedCheck_follows | (apply Follows.lit; assumption)

theorem State.stopPans_follows {s0 : State} {s : State} {ns : List Nat} (h0 : Follows s0 s) :
    Follows s0 (State.stopPans s ns) := by
  unfold State.stopPans
  with_reducible repeat' first
      | (intro x) | exact Follows.refl _ | assumption | apply State.panStop_follows | (apply Follows.foldl; case' h => intro s0 s x hk)
      | apply Follows.ite

theorem State.parkRefuse_follows {s0 : State} {s : State} (h0 : Follows s0 s) :
    Follows s0 (State.parkRefuse s) := by
  unfold State.parkRefuse
  exact h0.trans ⟨rfl, SecFlow.refl _⟩

theorem execParkBlockIdle_follows {s0 : State} {overdue : Bool} {s : State} {t : State} (ht : execParkBlockIdle overdue s = .next t) (h0 : Follows s0 s) :
    Follows s0 t := by
  unfold execParkBlockIdle at ht; cases ht
  with_reducible repeat' first
      | (intro x) | exact Follows.refl _ | assumption | apply State.updSites_follows | apply State.applyPatches_follows
      | apply State.stopPans_follows
      | (apply Follows.lit; first | assumption | exact Follows.refl _ | apply State.updSites_follows | apply State.applyPatches_follows | apply State.stopPans_follows)
      | apply Follows.ite | dsimp -zeta only | lift_lets | split

theorem State.postUnsampled_follows {s0 : State} {s : State} {kind : Nat} {index : Nat} (h0 : Follows s0 s) :
    Follows s0 (State.postUnsampled s kind index) := by
  unfold State.postUnsampled
  with_reducible repeat' first | exact h0 | apply State.draw_follows | apply State.postFeed_follows

theorem State.feedCheckAll_follows {s0 : State} {s : State} (h0 : Follows s0 s) :
    Follows s0 (State.feedCheckAll s) := by
  unfold State.feedCheckAll
  with_reducible repeat' first
      | (intro x; clear_value x) | (intro x) | exact Follows.refl _ | assumption | apply State.feedLimits_follows
      | apply State.postUnsampled_follows

theorem State.stageSet_follows {s0 : State} {s : State} {st : Nat} {b : Bool} (h0 : Follows s0 s) :
    Follows s0 (State.stageSet s st b) := by
  unfold State.stageSet
  exact h0.trans ⟨rfl, SecFlow.refl _⟩

theorem execPstageOnline_follows {s0 : State} {stage : Fin 40} {s : State} {t : State} (ht : execPstageOnline stage s = .next t) (h0 : Follows s0 s) :
    Follows s0 t := by
  unfold execPstageOnline at ht; cases ht
  with_reducible repeat' first | exact h0 | apply State.feedCheckAll_follows | apply State.stageSet_follows

theorem State.flashOnly_follows {s0 : State} {s : State} {code : Nat} {sev : Nat} {path : Nat} {kind : Nat} {index : Nat} {detail : List Nat} (h0 : Follows s0 s) :
    Follows s0 (State.flashOnly s code sev path kind index detail) := by
  unfold State.flashOnly
  exact h0.trans ⟨rfl, SecFlow.refl _⟩

theorem State.parkBegin_follows {s0 : State} {s : State} {b : Nat} (h0 : Follows s0 s) :
    Follows s0 (State.parkBegin s b) := by
  unfold State.parkBegin
  with_reducible repeat' first
      | (intro x) | exact Follows.refl _ | assumption | apply State.updSites_follows | apply State.stopPans_follows
      | (apply Follows.lit; first | assumption | exact Follows.refl _ | apply State.updSites_follows)

theorem State.parkNext_follows {s0 : State} {s : State} (h0 : Follows s0 s) :
    Follows s0 (State.parkNext s) := by
  unfold State.parkNext
  with_reducible repeat' first
      | (intro x; clear_value x) | (intro x) | exact Follows.refl _ | assumption | apply State.parkBegin_follows
      | (apply Follows.lit; first | assumption | exact Follows.refl _ | apply State.parkBegin_follows) | apply Follows.ite
      | dsimp -zeta only | lift_lets | split

theorem State.inputGone_follows {s0 s : State} {cause : BitVec 4} (h0 : Follows s0 s) : Follows s0 (s.inputGone cause) :=
  h0.trans ⟨rfl, fun _ => Nat.le_refl _, BitVec.and_self, BitVec.and_self, fun _ => ⟨fun h => (by cases h), .inl ⟨rfl, fun h => ⟨h, rfl⟩⟩⟩⟩


theorem State.resetRefuse_follows {s0 : State} {s : State} (h0 : Follows s0 s) :
    Follows s0 (State.resetRefuse s) := by
  unfold State.resetRefuse
  exact h0.trans ⟨rfl, SecFlow.refl _⟩

theorem State.hostOff_follows {s0 : State} {s : State} {k : Nat} (h0 : Follows s0 s) :
    Follows s0 (State.hostOff s k) := by
  unfold State.hostOff
  with_reducible repeat' first | exact h0 | apply State.updHp_follows | apply State.dropLoads_follows

theorem State.flushTrace_follows {s0 : State} {s : State} {k : Nat} (h0 : Follows s0 s) :
    Follows s0 (State.flushTrace s k) := by
  unfold State.flushTrace
  with_reducible repeat' first
      | (intro x) | exact Follows.refl _ | assumption | apply State.traceLines_follows | (apply Follows.foldl; case' h => intro s0 s x hk)

theorem State.panResetNow_follows {s0 s : State} {n : Nat} (h0 : Follows s0 s) : Follows s0 (s.panResetNow n) := by
  unfold State.panResetNow
  exact State.updPan_follows (Follows.foldl (State.panForceStop_follows h0)
    (fun _ _ _ h => State.reconfigActive_follows (State.flushTrace_follows h)))


theorem State.panResetGoOn_follows {s0 : State} {s : State} (h0 : Follows s0 s) :
    Follows s0 (State.panResetGoOn s) := by
  unfold State.panResetGoOn
  with_reducible repeat' first
      | (intro x) | exact Follows.refl _ | assumption | apply State.resetRefuse_follows | apply State.panResetNow_follows
      | (apply Follows.lit; first | assumption | exact Follows.refl _ | apply State.resetRefuse_follows | apply State.panResetNow_follows)
      | apply Follows.ite

theorem State.waferOff_follows {s0 s : State} {w : Nat} (h0 : Follows s0 s) : Follows s0 (s.waferOff w) := by
  unfold State.waferOff
  extract_lets s1 s2 s3 s4 s5 mine park queue
  refine State.panResetGoOn_follows (State.parkNext_follows (Follows.lit (State.clockCheck_follows ?_)))
  refine Follows.foldl (Follows.foldl ?_ (fun _ _ _ h => State.bayCut_follows h)) (fun _ _ _ h => State.bridgeOff_follows h)
  refine State.hostOff_follows (State.pcOff_follows (State.pcOff_follows ?_))
  exact Follows.foldl (Follows.foldl h0 (fun _ _ _ h => Follows.ite h (State.siteOff_follows h))) (fun _ _ _ h => State.stackCut_follows h)


theorem State.abortLoads_follows {s0 : State} {s : State} (h0 : Follows s0 s) :
    Follows s0 (State.abortLoads s) := by
  unfold State.abortLoads
  with_reducible repeat' first
      | (intro x) | exact Follows.refl _ | assumption | apply State.abortLoad_follows | (apply Follows.lit; assumption)

theorem State.allOff_follows {s0 : State} {s : State} (h0 : Follows s0 s) :
    Follows s0 (State.allOff s) := by
  unfold State.allOff
  with_reducible repeat' first
      | (intro x; refine_lift have hx : Follows s0 x := ?_; ?_; (on_goal 1 => clear_value x); (on_goal 2 => dsimp -zeta only [x]))
      | (intro x; clear_value x) | (intro x) | exact Follows.refl _ | assumption | apply State.pcOff_follows | apply State.hostOff_follows
      | apply State.abortLoads_follows
      | (apply Follows.lit; first | assumption | exact Follows.refl _ | apply State.pcOff_follows | apply State.hostOff_follows | apply State.abortLoads_follows)
      | (apply Follows.foldl; case' h => intro s0 s x hk) | apply Follows.ite | dsimp -zeta only | lift_lets

theorem State.secondWafer_follows {s0 : State} {s : State} (h0 : Follows s0 s) :
    Follows s0 (State.secondWafer s) := by
  unfold State.secondWafer
  with_reducible repeat' first
      | (intro x) | exact Follows.refl _ | assumption | apply State.allOff_follows
      | (apply Follows.lit; first | assumption | exact Follows.refl _ | apply State.allOff_follows)

theorem State.retire_follows {s0 : State} {s : State} {no : Nat} (h0 : Follows s0 s) :
    Follows s0 (State.retire s no) := by
  unfold State.retire
  exact h0.trans ⟨rfl, SecFlow.refl _⟩

theorem State.waferFence_follows {s0 s : State} {w c : Nat} (h0 : Follows s0 s) : Follows s0 (s.waferFence w c) := by
  unfold State.waferFence
  exact State.post_follows (Follows.lit (State.retire_follows (State.applyPatches_follows (State.waferOff_follows h0))))


theorem State.waferTrip_follows {s0 s : State} {w k t : Nat} (h0 : Follows s0 s) : Follows s0 (s.waferTrip w k t) := by
  unfold State.waferTrip
  extract_lets p s1 s2 ns s3 s4
  have h2 : Follows s0 s2 := State.post_follows (Follows.lit h0)
  refine Follows.ite (State.secondWafer_follows h2) (State.waferFence_follows ?_)
  exact Follows.foldl (Follows.ite (State.abortLoad_follows h2) h2) (fun _ _ _ h => State.panForceStop_follows h)


theorem execPstageInsert_follows {s0 : State} {stage : Fin 40} {s : State} {t : State} (ht : execPstageInsert stage s = .next t) (h0 : Follows s0 s) :
    Follows s0 t := by
  unfold execPstageInsert at ht; cases ht
  with_reducible repeat' first | exact h0 | apply State.feedCheckAll_follows | apply State.stageSet_follows

theorem State.parkThermal_follows {s0 : State} {s : State} {b : Nat} (h0 : Follows s0 s) :
    Follows s0 (State.parkThermal s b) := by
  unfold State.parkThermal
  with_reducible repeat' first
      | (intro x) | exact Follows.refl _ | assumption | apply State.parkNext_follows
      | (apply Follows.lit; first | assumption | exact Follows.refl _ | apply State.parkNext_follows) | apply Follows.ite

theorem execSiteTempSample_follows {s0 s t : State} {site : SiteId} {c : BitVec 8} (ht : execSiteTempSample site c s = .next t)
    (h0 : Follows s0 s) : Follows s0 t := by
  unfold execSiteTempSample at ht
  injection ht with ht
  subst ht
  have h1 : Follows s0 (s.updSite site.key (fun a => { a with isl := a.isl.sample c })) := State.updSite_follows h0
  exact Follows.ite (State.waferTrip_follows h1) (Follows.ite (State.parkThermal_follows (State.post_follows h1)) h1)


theorem State.rejoin_follows {s0 s : State} {k : Nat} (h0 : Follows s0 s) : Follows s0 (s.rejoin k) := by
  unfold State.rejoin
  split
  · exact State.reconfigActive_follows (State.updSite_follows h0)
  · exact State.putIslands_follows (State.updSite_follows h0)


theorem State.unparkSite_follows {s0 s : State} {k : Nat} (h0 : Follows s0 s) : Follows s0 (s.unparkSite k) := by
  unfold State.unparkSite
  exact State.rejoin_follows (State.siteOn_follows (State.placeActive_follows (State.updSite_follows h0)))


theorem execStageTempSample_follows {s0 : State} {stages : BitVec 40} {cages : BitVec 48} {s : State} {t : State} (ht : execStageTempSample stages cages s = .next t) (h0 : Follows s0 s) :
    Follows s0 t := by
  unfold execStageTempSample at ht; cases ht
  with_reducible repeat' first
      | (intro x) | exact Follows.refl _ | assumption | apply State.portEnable_follows | apply State.postUnsampled_follows
      | apply State.feedCheckAll_follows | apply State.stageSet_follows | (apply Follows.foldl; case' h => intro s0 s x hk)
      | apply Follows.ite

theorem State.parkLinks_follows {s0 : State} {s : State} {k : Nat} (h0 : Follows s0 s) :
    Follows s0 (State.parkLinks s k) := by
  unfold State.parkLinks
  with_reducible repeat' first | exact h0 | apply State.updSite_follows | apply State.updNeighbours_follows

theorem State.parkEnd_follows {s0 : State} {s : State} {b : Nat} (h0 : Follows s0 s) :
    Follows s0 (State.parkEnd s b) := by
  unfold State.parkEnd
  with_reducible repeat' first
      | (intro x) | exact Follows.refl _ | assumption | apply State.updSite_follows | apply State.rmcNow_follows
      | apply State.clockCheck_follows | apply State.isolate_follows | apply State.parkNext_follows | apply State.parkLinks_follows
      | (apply Follows.lit; first | assumption | exact Follows.refl _ | apply State.updSite_follows | apply State.rmcNow_follows | apply State.clockCheck_follows | apply State.isolate_follows | apply State.parkNext_follows | apply State.parkLinks_follows)
      | refine Follows.of_snd (by assumption) (State.rmcNow_follows ?_) | (apply Follows.foldl; case' h => intro s0 s x hk)

theorem State.parkEmpty_follows {s0 : State} {s : State} (h0 : Follows s0 s) :
    Follows s0 (State.parkEmpty s) := by
  unfold State.parkEmpty
  with_reducible repeat' first | exact h0 | apply State.parkEnd_follows | apply Follows.ite | split

theorem State.baysOff_follows {s0 : State} {s : State} (h0 : Follows s0 s) :
    Follows s0 (State.baysOff s) := by
  unfold State.baysOff
  with_reducible repeat' first
      | (intro x) | exact Follows.refl _ | assumption | apply State.bayCut_follows | (apply Follows.foldl; case' h => intro s0 s x hk)

theorem execInputLost_follows {s0 : State} {volts : Vector (BitVec 16) 8} {s : State} {t : State} (ht : execInputLost volts s = .next t) (h0 : Follows s0 s) :
    Follows s0 t := by
  unfold execInputLost at ht; cases ht
  with_reducible repeat' first
      | exact h0 | apply State.flashOnly_follows | apply State.inputGone_follows | apply State.allOff_follows | apply State.baysOff_follows
      | apply Follows.ite

theorem execFeedRestored_follows {s0 : State} {s : State} {t : State} (ht : execFeedRestored s = .next t) (h0 : Follows s0 s) :
    Follows s0 t := by
  unfold execFeedRestored at ht; cases ht
  with_reducible repeat' first
      | (intro x) | exact Follows.refl _ | assumption | apply State.feedCheckAll_follows | (apply Follows.lit; assumption)

theorem State.parkLast_follows {s0 : State} {s : State} {w : Fin 4} {j : BitVec 8} (h0 : Follows s0 s) :
    Follows s0 (State.parkLast s w j) := by
  unfold State.parkLast
  exact h0.trans ⟨rfl, SecFlow.refl _⟩

theorem State.faultRefuse_follows {s0 : State} {s : State} (h0 : Follows s0 s) :
    Follows s0 (State.faultRefuse s) := by
  unfold State.faultRefuse
  exact h0.trans ⟨rfl, SecFlow.refl _⟩

theorem execPstageOffline_follows {s0 : State} {stage : Fin 40} {s : State} {t : State} (ht : execPstageOffline stage s = .next t) (h0 : Follows s0 s) :
    Follows s0 t := by
  unfold execPstageOffline at ht; cases ht
  with_reducible repeat' first
      | (intro x) | exact Follows.refl _ | assumption | apply State.stageSet_follows | apply State.faultRefuse_follows
      | (apply Follows.lit; first | assumption | exact Follows.refl _ | apply State.stageSet_follows | apply State.faultRefuse_follows)
      | apply Follows.ite

theorem execCoolantShutdown_follows {s0 : State} {s : State} {t : State} (ht : execCoolantShutdown s = .next t) (h0 : Follows s0 s) :
    Follows s0 t := by
  unfold execCoolantShutdown at ht; cases ht
  with_reducible repeat' first | exact h0 | apply State.allOff_follows | apply Follows.ite

theorem State.openLinks_follows {s0 : State} {s : State} {k : Nat} (h0 : Follows s0 s) :
    Follows s0 (State.openLinks s k) := by
  unfold State.openLinks
  with_reducible repeat' first
      | (intro x) | exact Follows.refl _ | assumption | apply State.updSite_follows | (apply Follows.foldl; case' h => intro s0 s x hk)
      | apply Follows.ite | dsimp -zeta only | lift_lets | split

theorem State.unpark_follows {s0 s : State} {b : Nat} (h0 : Follows s0 s) : Follows s0 (s.unpark b) := by
  unfold State.unpark
  exact Follows.lit (State.applyPatches_follows (Follows.foldl (State.lockClocks_follows (Follows.foldl h0 (fun _ _ _ h => State.unparkSite_follows h)))
    (fun _ _ _ h => State.openLinks_follows h)))


theorem execUnpark_follows {s0 s t : State} {w : Fin 4} {b : BitVec 8} (ht : execUnpark w b s = .next t) (h0 : Follows s0 s) : Follows s0 t := by
  unfold execUnpark at ht
  injection ht with ht
  subst ht
  refine Follows.ite h0 ?_
  extract_lets b' s1
  have h1 : Follows s0 s1.rmcNow.2 := State.rmcNow_follows (State.parkLast_follows h0)
  dsimp only
  split
  · exact State.parkRefuse_follows h1
  · exact Follows.ite (State.unpark_follows h1) (State.parkRefuse_follows h1)


theorem State.joinTempo_follows {s0 : State} {s : State} {k : Nat} (h0 : Follows s0 s) :
    Follows s0 (State.joinTempo s k) := by
  unfold State.joinTempo
  with_reducible repeat' first | exact h0 | apply State.updSite_follows | apply Follows.ite | split

theorem execCoolantSample_follows {s0 : State} {flow : BitVec 8} {inlet : BitVec 8} {outlet : BitVec 8} {s : State} {t : State} (ht : execCoolantSample flow inlet outlet s = .next t) (h0 : Follows s0 s) :
    Follows s0 t := by
  unfold execCoolantSample at ht; cases ht
  exact h0.trans ⟨rfl, SecFlow.refl _⟩

theorem execPark_follows {s0 : State} {wafer : Fin 4} {block : BitVec 8} {s : State} {t : State} (ht : execPark wafer block s = .next t) (h0 : Follows s0 s) :
    Follows s0 t := by
  unfold execPark at ht; cases ht
  with_reducible repeat' first
      | exact h0 | apply State.parkRefuse_follows | apply State.parkBegin_follows | apply State.parkLast_follows | apply Follows.ite

theorem execPstageFail_follows {s0 : State} {stage : Fin 40} {volts : BitVec 16} {amps : BitVec 16} {s : State} {t : State} (ht : execPstageFail stage volts amps s = .next t) (h0 : Follows s0 s) :
    Follows s0 t := by
  unfold execPstageFail at ht; cases ht
  with_reducible repeat' first | exact h0 | apply State.postFeed_follows | apply State.feedCheck_follows | apply State.stageSet_follows

theorem State.parkTimeout_follows {s0 : State} {s : State} (h0 : Follows s0 s) :
    Follows s0 (State.parkTimeout s) := by
  unfold State.parkTimeout
  with_reducible repeat' first
      | (intro x; refine_lift have hx : Follows s0 x := ?_; ?_; (on_goal 1 => clear_value x); (on_goal 2 => dsimp -zeta only [x]))
      | (intro x; clear_value x) | (intro x) | exact Follows.refl _ | assumption | apply State.post_follows | apply State.parkEnd_follows
      | (apply Follows.lit; first | assumption | exact Follows.refl _ | apply State.post_follows | apply State.parkEnd_follows)
      | apply Follows.ite | dsimp -zeta only | lift_lets | split

theorem execOvervoltageShutdown_follows {s0 s t : State} (ht : execOvervoltageShutdown s = .next t) (h0 : Follows s0 s) : Follows s0 t := by
  unfold execOvervoltageShutdown at ht
  injection ht with ht
  subst ht
  exact State.inputGone_follows (State.baysOff_follows (State.allOff_follows h0))

/-! ## Reset -/

theorem State.alwaysOnReset_follows {s0 s : State} (h0 : Follows s0 s) : Follows s0 s.alwaysOnReset := by
  refine h0.trans ⟨rfl, ⟨fun _ => Nat.le_refl _, BitVec.and_self, BitVec.and_self, fun _ => ⟨?_, .inl ⟨rfl, fun h => ⟨h, rfl⟩⟩⟩⟩⟩
  intro h
  cases h


theorem State.refence_follows {s0 s : State} {no : Nat} (h0 : Follows s0 s) : Follows s0 (s.refence no) := by
  unfold State.refence
  dsimp only
  split
  · exact State.isolate_follows (State.updSite_follows h0)
  · exact State.updStack_follows h0
  · exact State.updPc_follows (State.pcOff_follows h0)
  · exact State.updHp_follows h0
  · exact State.updBay_follows h0
  · exact Follows.lit (State.waferOff_follows h0)
  · exact h0


theorem State.updFw_follows {s0 : State} {s : State} {n : Nat} {f : FwUnit → FwUnit} (h0 : Follows s0 s) :
    Follows s0 (State.updFw s n f) := by
  unfold State.updFw
  exact h0.trans ⟨rfl, SecFlow.refl _⟩

theorem State.postFw_follows {s0 : State} {s : State} {n : Nat} {status : Nat} (h0 : Follows s0 s) :
    Follows s0 (State.postFw s n status) := by
  unfold State.postFw
  with_reducible repeat' first | exact h0 | apply State.post_follows

theorem State.bootUnit_follows {s0 : State} {s : State} {n : Nat} (h0 : Follows s0 s) :
    Follows s0 (State.bootUnit s n) := by
  unfold State.bootUnit
  with_reducible repeat' first
      | exact h0 | apply State.stackCut_follows | apply State.bayCut_follows | apply State.pcOff_follows | apply State.updFw_follows
      | apply State.postFw_follows | apply Follows.ite | split

theorem State.bootUnits_follows {s0 : State} {s : State} (h0 : Follows s0 s) :
    Follows s0 (State.bootUnits s) := by
  unfold State.bootUnits
  with_reducible repeat' first
      | (intro x) | exact Follows.refl _ | assumption | apply State.bootUnit_follows | (apply Follows.foldl; case' h => intro s0 s x hk)

theorem State.powerUp_follows {s0 s : State} (h0 : Follows s0 s) : Follows s0 s.powerUp := by
  unfold State.powerUp
  extract_lets bays f1 fault p1 power r1 resets m1 rmc hbms ports p2 sec1 t u v
  have ht : Follows s0 t := h0.trans ⟨rfl, SecFlow.of_eq rfl rfl rfl rfl rfl rfl rfl⟩
  have hu : Follows s0 u := Follows.foldl ht (fun _ _ _ h => State.updSite_follows (State.noiseReseed_follows h))
  have hv : Follows s0 v := Follows.foldl (State.bootUnits_follows hu) (fun _ _ _ h => State.refence_follows h)
  exact Follows.ite (Follows.foldl (State.allOff_follows hv) (fun _ _ _ h => State.bayCut_follows h)) hv


theorem State.recordReset_follows {s0 : State} {s : State} {cause : BitVec 4} (h0 : Follows s0 s) :
    Follows s0 (State.recordReset s cause) := by
  unfold State.recordReset
  exact h0.trans ⟨rfl, SecFlow.refl _⟩

theorem State.resetRecord_follows {s0 : State} {s : State} {cause : BitVec 4} (h0 : Follows s0 s) :
    Follows s0 (State.resetRecord s cause) := by
  unfold State.resetRecord
  exact h0.trans ⟨rfl, SecFlow.refl _⟩

theorem State.testPower_follows {s0 : State} {s : State} {no : Nat} (h0 : Follows s0 s) :
    Follows s0 (State.testPower s no) := by
  unfold State.testPower
  with_reducible repeat' first | exact h0 | apply State.updSite_follows | apply Follows.ite

theorem State.scanTo_follows {s0 : State} {s : State} {unit : Option Nat} (h0 : Follows s0 s) :
    Follows s0 (State.scanTo s unit) := by
  unfold State.scanTo
  with_reducible repeat' first
      | (intro x) | exact Follows.refl _ | assumption | apply State.testPower_follows
      | (apply Follows.lit; first | assumption | exact Follows.refl _ | apply State.testPower_follows)
      | (apply Follows.foldl; case' h => intro s0 s x hk)

theorem State.closeTap_follows {s0 : State} {s : State} (h0 : Follows s0 s) :
    Follows s0 (State.closeTap s) := by
  unfold State.closeTap
  with_reducible repeat' first | exact h0 | apply State.scanTo_follows | apply Follows.ite

theorem State.eraseSteps_follows {s0 s : State} (hp : s.sec.erasePending = true ∨ s.sec.erasing = true) (h0 : Follows s0 s) : Follows s0 s.eraseSteps := by
  unfold State.eraseSteps
  apply State.closeTap_follows
  have h2 : Follows s0 ((List.range 192).foldl (fun (s : State) st => s.stackCut st)
      ((List.range 16).foldl (fun (s : State) b => if (s.bay b).cart.isSome then s.cryptoErase b else s) s)) :=
    Follows.foldl (Follows.foldl h0 (fun _ _ _ h => Follows.ite (State.cryptoErase_follows h) h)) (fun _ _ _ h => State.stackCut_follows h)
  refine Follows.sec_ (State.draw_follows h2) (Sec.erased_flow ?_)
  dsimp only [State.draw]
  rw [State.cutFold_sec, State.eraseFold_sec]
  exact hp


theorem State.eraseResume_follows {s0 s : State} (h0 : Follows s0 s) : Follows s0 s.eraseResume := by
  unfold State.eraseResume
  split
  · next h => exact State.resetRecord_follows <| State.eraseSteps_follows (.inl h) h0
  · exact h0


theorem State.moduleNow_follows {s0 s : State} (h0 : Follows s0 s) : Follows s0 s.moduleNow :=
  State.powerUp_follows (State.eraseResume_follows (State.allOff_follows h0))


theorem State.resetTake_follows {s0 : State} {s : State} {f : State → State} (hf : ∀ s0 y0, Follows s0 y0 → Follows s0 (f y0)) (h0 : Follows s0 s) :
    Follows s0 (State.resetTake s f) := by
  unfold State.resetTake
  with_reducible repeat' first | exact h0 | apply State.resetRefuse_follows | apply hf | apply Follows.ite

theorem State.resetStart_follows {s0 : State} {s : State} {ty : BitVec 3} {target : BitVec 16} {busy : Bool} (h0 : Follows s0 s) :
    Follows s0 (State.resetStart s ty target busy) := by
  unfold State.resetStart
  exact h0.trans ⟨rfl, SecFlow.refl _⟩

theorem execArrayReset_follows {s0 : State} {site : SiteId} {s : State} {t : State} (ht : execArrayReset site s = .next t) (h0 : Follows s0 s) :
    Follows s0 t := by
  unfold execArrayReset at ht; cases ht
  with_reducible repeat' first
      | (intro x; clear_value x) | (intro x) | exact Follows.refl _ | assumption | apply State.updSite_follows
      | apply State.panForceStop_follows | apply State.resetRefuse_follows | apply State.resetTake_follows | apply State.resetStart_follows
      | apply State.flushTrace_follows
      | (apply Follows.lit; first | assumption | exact Follows.refl _ | apply State.updSite_follows | apply State.panForceStop_follows | apply State.resetRefuse_follows | apply State.resetTake_follows | apply State.resetStart_follows | apply State.flushTrace_follows)
      | apply Follows.ite | dsimp -zeta only | lift_lets | split

theorem State.moduleGoOn_follows {s0 s : State} (h0 : Follows s0 s) : Follows s0 s.moduleGoOn := by
  unfold State.moduleGoOn
  exact Follows.ite (State.moduleNow_follows h0) h0


theorem execFabricPortReset_follows {s0 : State} {port : Fin 96} {s : State} {t : State} (ht : execFabricPortReset port s = .next t) (h0 : Follows s0 s) :
    Follows s0 t := by
  unfold execFabricPortReset at ht; cases ht
  with_reducible repeat' first
      | (intro x; clear_value x) | (intro x) | exact Follows.refl _ | assumption | apply State.portRetrain_follows
      | apply State.resetTake_follows | apply State.resetStart_follows

theorem execPanReset_follows {s0 : State} {pan : Fin 1024} {s : State} {t : State} (ht : execPanReset pan s = .next t) (h0 : Follows s0 s) :
    Follows s0 t := by
  unfold execPanReset at ht; cases ht
  with_reducible repeat' first
      | (intro x; clear_value x) | (intro x) | exact Follows.refl _ | assumption | apply State.resetRefuse_follows
      | apply State.resetTake_follows | apply State.resetStart_follows | apply State.panResetNow_follows | apply Follows.ite

theorem State.arrayResetEnd_follows {s0 : State} {s : State} {k : Nat} (h0 : Follows s0 s) :
    Follows s0 (State.arrayResetEnd s k) := by
  unfold State.arrayResetEnd
  exact h0.trans ⟨rfl, SecFlow.refl _⟩

theorem execArrayResetQuiesced_follows {s0 : State} {site : SiteId} {s : State} {t : State} (ht : execArrayResetQuiesced site s = .next t) (h0 : Follows s0 s) :
    Follows s0 t := by
  unfold execArrayResetQuiesced at ht; cases ht
  with_reducible repeat' first | exact h0 | apply State.rejoin_follows | apply State.arrayResetEnd_follows | apply Follows.ite

theorem State.moduleBegin_follows {s0 : State} {s : State} {cause : BitVec 4} (h0 : Follows s0 s) :
    Follows s0 (State.moduleBegin s cause) := by
  unfold State.moduleBegin
  exact h0.trans ⟨rfl, SecFlow.refl _⟩

theorem State.eraseGoOn_follows {s0 s : State} (h0 : Follows s0 s) : Follows s0 s.eraseGoOn := by
  unfold State.eraseGoOn
  split
  · next h => exact State.moduleBegin_follows (State.eraseSteps_follows (.inr (Bool.and_eq_true_iff.mp h).1) h0)
  · exact h0


theorem State.fenceGoOn_follows {s0 s : State} (h0 : Follows s0 s) : Follows s0 s.fenceGoOn := by
  unfold State.fenceGoOn
  split
  · exact h0
  · extract_lets bays s1 f2 s2
    have h2 : Follows s0 s2 := Follows.lit (Follows.foldl h0 (fun _ _ _ h => State.updBay_follows h))
    exact Follows.ite (Follows.ite h0 (Follows.ite h2 (State.waferFence_follows h2))) (Follows.ite h0 (State.waferFence_follows h0))


theorem State.goOn_follows {s0 : State} {s : State} (h0 : Follows s0 s) :
    Follows s0 (State.goOn s) := by
  unfold State.goOn
  with_reducible repeat' first | exact h0 | apply State.moduleGoOn_follows | apply State.eraseGoOn_follows | apply State.fenceGoOn_follows

theorem execBayReset_follows {s0 s t : State} {bay : Fin 16} (ht : execBayReset bay s = .next t) (h0 : Follows s0 s) : Follows s0 t := by
  unfold execBayReset at ht
  injection ht with ht
  subst ht
  refine State.resetTake_follows (fun s0 s h0 => ?_) h0
  have h1 : Follows s0 (s.resetStart 4 (BitVec.ofNat 16 bay.val) false) := State.resetStart_follows h0
  exact Follows.ite h1 (State.goOn_follows (State.updBay_follows (State.abortLines_follows h1)))


theorem execCartridgeRemoveGoOn_follows {s0 : State} {bay : Fin 16} {s : State} {t : State} (ht : execCartridgeRemoveGoOn bay s = .next t) (h0 : Follows s0 s) :
    Follows s0 t := by
  unfold execCartridgeRemoveGoOn at ht; cases ht
  with_reducible repeat' first
      | exact h0 | apply State.goOn_follows | (apply nextOf_follows; (intro t ht; refine execCartridgeRemove_follows ht ?_))

theorem execParkRoutersEmpty_follows {s0 : State} {s : State} {t : State} (ht : execParkRoutersEmpty s = .next t) (h0 : Follows s0 s) :
    Follows s0 t := by
  unfold execParkRoutersEmpty at ht; cases ht
  with_reducible repeat' first | exact h0 | apply State.parkEmpty_follows | apply State.panResetGoOn_follows

theorem execArrayResetTimeout_follows {s0 : State} {site : SiteId} {s : State} {t : State} (ht : execArrayResetTimeout site s = .next t) (h0 : Follows s0 s) :
    Follows s0 t := by
  unfold execArrayResetTimeout at ht; cases ht
  with_reducible repeat' first | exact h0 | apply State.hwFault_follows | apply State.arrayResetEnd_follows | apply Follows.ite

theorem State.eraseAgain_follows {s0 s : State} (h0 : Follows s0 s) : Follows s0 s.eraseAgain := by
  have h := State.allOff_follows h0
  unfold State.eraseAgain
  generalize s.allOff = t at h ⊢
  exact h.trans ⟨rfl, fun _ => Nat.le_refl _, BitVec.and_self, BitVec.and_self, fun _ => ⟨fun h => h, .inl ⟨rfl, fun h => ⟨h, rfl⟩⟩⟩⟩


theorem State.bootRmc_follows {s0 : State} {s : State} {verified : Bool} (h0 : Follows s0 s) :
    Follows s0 (State.bootRmc s verified) := by
  unfold State.bootRmc
  with_reducible repeat' first
      | (intro x; clear_value x) | (intro x) | exact Follows.refl _ | assumption | apply State.updFw_follows
      | (apply Follows.lit; first | assumption | exact Follows.refl _ | apply State.updFw_follows) | apply Follows.ite | dsimp -zeta only
      | lift_lets | split

theorem execRstReqAssert_follows {s0 : State} {s : State} {t : State} (ht : execRstReqAssert s = .next t) (h0 : Follows s0 s) :
    Follows s0 t := by
  unfold execRstReqAssert at ht; cases ht
  with_reducible repeat' first
      | exact h0 | apply State.resetStart_follows | apply State.moduleBegin_follows | apply State.goOn_follows | apply Follows.ite

theorem execPanStoppedGoOn_follows {s0 : State} {pan : Fin 1024} {s : State} {t : State} (ht : execPanStoppedGoOn pan s = .next t) (h0 : Follows s0 s) :
    Follows s0 t := by
  unfold execPanStoppedGoOn at ht; cases ht
  with_reducible repeat' first
      | exact h0 | apply State.goOn_follows | (apply nextOf_follows; (intro t ht; refine execPanStopped_follows ht ?_))

theorem execModuleReset_follows {s0 : State} {confirm : BitVec 16} {byRmc : Bool} {s : State} {t : State} (ht : execModuleReset confirm byRmc s = .next t) (h0 : Follows s0 s) :
    Follows s0 t := by
  unfold execModuleReset at ht; cases ht
  with_reducible repeat' first
      | exact h0 | apply State.resetRefuse_follows | apply State.resetStart_follows | apply State.moduleBegin_follows
      | apply State.goOn_follows | apply Follows.ite

theorem execParkDrainTimeout_follows {s0 : State} {s : State} {t : State} (ht : execParkDrainTimeout s = .next t) (h0 : Follows s0 s) :
    Follows s0 t := by
  unfold execParkDrainTimeout at ht; cases ht
  with_reducible repeat' first | exact h0 | apply State.parkTimeout_follows | apply State.panResetGoOn_follows

theorem State.startPower_follows {s0 : State} {s : State} {feeds : BitVec 8} {stages : BitVec 40} (h0 : Follows s0 s) :
    Follows s0 (State.startPower s feeds stages) := by
  unfold State.startPower
  exact h0.trans ⟨rfl, SecFlow.refl _⟩

theorem execPowerUpReady_follows {s0 : State} {s : State} {t : State} (ht : execPowerUpReady s = .next t) (h0 : Follows s0 s) :
    Follows s0 t := by
  unfold execPowerUpReady at ht; cases ht
  with_reducible repeat' first
      | (intro x) | exact Follows.refl _ | assumption | (apply Follows.lit; first | assumption | exact Follows.refl _) | apply Follows.ite

theorem execStoreCmdDoneGoOn_follows {s0 : State} {bay : Fin 16} {s : State} {t : State} (ht : execStoreCmdDoneGoOn bay s = .next t) (h0 : Follows s0 s) :
    Follows s0 t := by
  unfold execStoreCmdDoneGoOn at ht; cases ht
  with_reducible repeat' first
      | exact h0 | apply State.goOn_follows | (apply nextOf_follows; (intro t ht; refine execStoreCmdDone_follows ht ?_))

theorem execPowerOnReset_follows {s0 : State} {feeds : BitVec 8} {stages : BitVec 40} {verified : Bool} {s : State} {t : State} (ht : execPowerOnReset feeds stages verified s = .next t) (h0 : Follows s0 s) :
    Follows s0 t := by
  unfold execPowerOnReset at ht; cases ht
  with_reducible repeat' first
      | exact h0 | apply State.feedCheckAll_follows | apply State.allOff_follows | apply State.baysOff_follows
      | apply State.alwaysOnReset_follows | apply State.powerUp_follows | apply State.recordReset_follows | apply State.eraseAgain_follows
      | apply State.bootRmc_follows | apply State.startPower_follows | apply Follows.ite

/-! ## Service -/

theorem State.fwRestart_follows {s0 : State} {s : State} {n : Nat} (h0 : Follows s0 s) :
    Follows s0 (State.fwRestart s n) := by
  unfold State.fwRestart
  with_reducible repeat' first
      | (intro x; clear_value x) | (intro x) | exact Follows.refl _ | assumption | apply State.updBay_follows
      | apply State.portRetrain_follows | (apply Follows.foldl; case' h => intro s0 s x hk) | apply Follows.ite | dsimp -zeta only
      | lift_lets | split

theorem State.fenceUnit_follows {s0 : State} {s : State} {x1 : UnitId} (h0 : Follows s0 s) :
    Follows s0 (State.fenceUnit s x1) := by
  unfold State.fenceUnit
  with_reducible repeat' first
      | exact h0 | apply State.updHp_follows | apply State.updPc_follows | apply State.updBay_follows | apply State.updStack_follows
      | apply State.recordFence_follows | apply State.failSite_follows | apply State.pcOff_follows | apply State.hostOff_follows
      | apply Follows.ite | split

theorem State.livenessEvent_follows {s0 : State} {s : State} {k : Nat} {reporter : Option Nat} (h0 : Follows s0 s) :
    Follows s0 (State.livenessEvent s k reporter) := by
  unfold State.livenessEvent
  with_reducible repeat' first
      | exact h0 | apply State.draw_follows | apply State.post_follows | refine Follows.of_snd (by assumption) (State.draw_follows ?_)
      | apply Follows.ite | split

theorem State.ownEvent_follows {s0 : State} {s : State} {u : UnitId} (h0 : Follows s0 s) :
    Follows s0 (State.ownEvent s u) := by
  unfold State.ownEvent
  with_reducible repeat' first | exact h0 | apply State.post_follows | apply State.livenessEvent_follows | apply Follows.ite | split

theorem State.disagree_follows {s0 : State} {s : State} {u : UnitId} {alive : Bool} {view : PollView} (h0 : Follows s0 s) :
    Follows s0 (State.disagree s u alive view) := by
  unfold State.disagree
  with_reducible repeat' first | exact h0 | apply State.postDisagree_follows | apply State.fenceUnit_follows | apply State.ownEvent_follows

theorem execControllerHang_follows {s0 : State} {unit : UnitId} {s : State} {t : State} (ht : execControllerHang unit s = .next t) (h0 : Follows s0 s) :
    Follows s0 t := by
  unfold execControllerHang at ht; cases ht
  with_reducible repeat' first
      | (intro x) | exact Follows.refl _ | assumption | apply State.markDead_follows | apply State.disagree_follows
      | (apply Follows.lit; first | assumption | exact Follows.refl _ | apply State.markDead_follows | apply State.disagree_follows)
      | apply Follows.ite

theorem State.postPromos_follows {s0 : State} {s : State} {n : Nat} {rs : List (Nat × Option Nat)} {bad : Bool} (h0 : Follows s0 s) :
    Follows s0 (State.postPromos s n rs bad) := by
  unfold State.postPromos
  with_reducible repeat' first
      | (intro x) | exact Follows.refl _ | assumption | apply State.post_follows | (apply Follows.foldl; case' h => intro s0 s x hk)

theorem execFwHealthTimeout_follows {s0 : State} {unit : Fin 217} {s : State} {t : State} (ht : execFwHealthTimeout unit s = .next t) (h0 : Follows s0 s) :
    Follows s0 t := by
  unfold execFwHealthTimeout at ht; cases ht
  with_reducible repeat' first
      | exact h0 | apply State.fwRestart_follows | apply State.postFw_follows | apply State.updFw_follows | apply Follows.ite

theorem State.mapSpare_follows {s0 : State} {s : State} {k : Nat} {j : Nat} (h0 : Follows s0 s) :
    Follows s0 (State.mapSpare s k j) := by
  unfold State.mapSpare
  with_reducible repeat' first | exact h0 | apply State.updSite_follows | apply State.writeMap_follows | apply State.joinTempo_follows

theorem State.mapSpares_follows {s0 : State} {s : State} {ks : List Nat} (h0 : Follows s0 s) :
    Follows s0 (State.mapSpares s ks).1 := by
  unfold State.mapSpares
  with_reducible repeat' first
      | (intro x) | exact Follows.refl _ | assumption | apply State.mapSpare_follows
      | (apply Follows.lit; first | assumption | exact Follows.refl _ | apply State.mapSpare_follows) | apply hfn
      | (apply Follows.foldl_fst; case' h => intro s0 p x hk) | apply Follows.ite | dsimp -zeta only | lift_lets | split

theorem State.reconfPan_follows {s0 : State} {s : State} {n : Nat} (h0 : Follows s0 s) :
    Follows s0 (State.reconfPan s n) := by
  unfold State.reconfPan
  with_reducible repeat' first
      | (intro x) | exact Follows.refl _ | assumption | apply State.reconfigActive_follows
      | (apply Follows.foldl; case' h => intro s0 s x hk)

theorem State.promote_follows {s0 s : State} {p : Promo} (h0 : Follows s0 s) : Follows s0 (s.promote p) := by
  unfold State.promote
  extract_lets f1 s1
  have h1 : Follows s0 (s1.mapSpares p.failed).1 := State.mapSpares_follows (Follows.lit h0)
  dsimp only
  exact Follows.ite h1 (Follows.ite (State.postPromos_follows (State.updPan_follows h1))
    (Follows.ite (State.postPromos_follows (State.updPan_follows (State.reconfPan_follows h1))) (State.postPromos_follows (State.unconfigure_follows h1))))


theorem execPromotion_follows {s0 : State} {s : State} {t : State} (ht : execPromotion s = .next t) (h0 : Follows s0 s) :
    Follows s0 t := by
  unfold execPromotion at ht; cases ht
  with_reducible repeat' first | exact h0 | apply State.promote_follows | apply Follows.ite | split

theorem State.setOptics_follows {s0 : State} {s : State} {n : Nat} {o : Optics} (h0 : Follows s0 s) :
    Follows s0 (State.setOptics s n o) := by
  unfold State.setOptics
  with_reducible repeat' first | exact h0 | apply State.updPort_follows | apply State.linkDown_follows | apply Follows.ite

theorem execOsfpRemove_follows {s0 : State} {cage : Fin 48} {s : State} {t : State} (ht : execOsfpRemove cage s = .next t) (h0 : Follows s0 s) :
    Follows s0 t := by
  unfold execOsfpRemove at ht; cases ht
  with_reducible repeat' first | exact h0 | apply State.setOptics_follows

theorem State.returnSite_follows {s0 : State} {s : State} {k : Nat} (h0 : Follows s0 s) :
    Follows s0 (State.returnSite s k) := by
  unfold State.returnSite
  with_reducible repeat' first
      | exact h0 | apply State.updSite_follows | apply State.siteOn_follows | apply State.lockClocks_follows | apply State.rejoin_follows
      | apply State.openLinks_follows | apply Follows.ite

theorem State.returnUnit_follows {s0 : State} {s : State} {x1 : UnitId} (h0 : Follows s0 s) :
    Follows s0 (State.returnUnit s x1) := by
  unfold State.returnUnit
  with_reducible repeat' first
      | exact h0 | apply State.setHp_follows | apply State.setPc_follows | apply State.updBay_follows | apply State.setStack_follows
      | apply State.returnSite_follows | apply Follows.ite | split

theorem State.fwRecheck_follows {s0 : State} {s : State} (h0 : Follows s0 s) :
    Follows s0 (State.fwRecheck s) := by
  unfold State.fwRecheck
  exact h0.trans ⟨rfl, SecFlow.refl _⟩

theorem execFwHealthy_follows {s0 s t : State} {unit : Fin 217} (ht : execFwHealthy unit s = .next t) (h0 : Follows s0 s) : Follows s0 t := by
  unfold execFwHealthy at ht
  injection ht with ht
  subst ht
  exact Follows.ite (State.postFw_follows (State.fwRecheck_follows (State.updFw_follows
    (Follows.sec_ h0 Sec.accept_flow)))) h0


theorem State.fwSwitch_follows {s0 : State} {s : State} {n : Nat} (h0 : Follows s0 s) :
    Follows s0 (State.fwSwitch s n) := by
  unfold State.fwSwitch
  with_reducible repeat' first
      | (intro x) | exact Follows.refl _ | assumption | apply State.faultRefuse_follows | apply State.updFw_follows
      | apply State.postFw_follows | apply State.fwRestart_follows
      | (apply Follows.lit; first | assumption | exact Follows.refl _ | apply State.faultRefuse_follows | apply State.updFw_follows | apply State.postFw_follows | apply State.fwRestart_follows)
      | apply Follows.ite

theorem execFwRevert_follows {s0 : State} {unit : Fin 217} {s : State} {t : State} (ht : execFwRevert unit s = .next t) (h0 : Follows s0 s) :
    Follows s0 t := by
  unfold execFwRevert at ht; cases ht
  with_reducible repeat' first | exact h0 | apply State.fwSwitch_follows

theorem execControllerHeartbeat_follows {s0 : State} {unit : UnitId} {s : State} {t : State} (ht : execControllerHeartbeat unit s = .next t) (h0 : Follows s0 s) :
    Follows s0 t := by
  unfold execControllerHeartbeat at ht; cases ht
  with_reducible repeat' first
      | (intro x) | exact Follows.refl _ | assumption | apply State.disagree_follows
      | (apply Follows.lit; first | assumption | exact Follows.refl _ | apply State.disagree_follows) | apply Follows.ite

theorem execRetestResult_follows {s0 s t : State} {unit : UnitId} {pass : Bool} (ht : execRetestResult unit pass s = .next t) (h0 : Follows s0 s) :
    Follows s0 t := by
  unfold execRetestResult at ht
  injection ht with ht
  subst ht
  refine Follows.ite ?_ h0
  exact Follows.ite (State.returnUnit_follows (Follows.lit (Follows.lit (Follows.lit h0)))) (State.testPower_follows <| State.retire_follows (Follows.lit (Follows.lit h0)))


theorem execDomainPowerPoll_follows {s0 : State} {unit : UnitId} {on : PollView} {s : State} {t : State} (ht : execDomainPowerPoll unit on s = .next t) (h0 : Follows s0 s) :
    Follows s0 t := by
  unfold execDomainPowerPoll at ht; cases ht
  with_reducible repeat' first | exact h0 | apply State.disagree_follows | apply Follows.ite

theorem State.livenessDisagree_follows {s0 : State} {s : State} {k : Nat} {j : Nat} (h0 : Follows s0 s) :
    Follows s0 (State.livenessDisagree s k j) := by
  unfold State.livenessDisagree
  with_reducible repeat' first
      | exact h0 | apply State.failSite_follows | apply State.postDisagree_follows | apply State.livenessEvent_follows

theorem execFenceWafer_follows {s0 : State} {wafer : Fin 4} {s : State} {t : State} (ht : execFenceWafer wafer s = .next t) (h0 : Follows s0 s) :
    Follows s0 t := by
  unfold execFenceWafer at ht; cases ht
  with_reducible repeat' first
      | (intro x) | exact Follows.refl _ | assumption | apply State.stopPans_follows | apply State.secondWafer_follows
      | apply State.goOn_follows
      | (apply Follows.lit; first | assumption | exact Follows.refl _ | apply State.stopPans_follows | apply State.secondWafer_follows | apply State.goOn_follows)
      | apply Follows.ite

theorem execLivenessArrive_follows {s0 : State} {site : SiteId} {port : RPort} {s : State} {t : State} (ht : execLivenessArrive site port s = .next t) (h0 : Follows s0 s) :
    Follows s0 t := by
  unfold execLivenessArrive at ht; cases ht
  with_reducible repeat' first | exact h0 | apply State.updRouter_follows | apply State.livenessDisagree_follows | apply Follows.ite | split

theorem execRetest_follows {s0 : State} {unit : UnitId} {s : State} {t : State} (ht : execRetest unit s = .next t) (h0 : Follows s0 s) :
    Follows s0 t := by
  unfold execRetest at ht; cases ht
  with_reducible repeat' first
      | (intro x) | exact Follows.refl _ | assumption | apply State.faultRefuse_follows | apply State.testPower_follows
      | (apply Follows.lit; first | assumption | exact Follows.refl _ | apply State.faultRefuse_follows | apply State.testPower_follows)
      | apply Follows.ite

theorem execPromote_follows {s0 : State} {site : SiteId} {s : State} {t : State} (ht : execPromote site s = .next t) (h0 : Follows s0 s) :
    Follows s0 t := by
  unfold execPromote at ht; cases ht
  with_reducible repeat' first
      | (intro x) | exact Follows.refl _ | assumption | apply State.faultRefuse_follows
      | (apply Follows.lit; first | assumption | exact Follows.refl _ | apply State.faultRefuse_follows) | apply Follows.ite

theorem execFenceSite_follows {s0 : State} {site : SiteId} {s : State} {t : State} (ht : execFenceSite site s = .next t) (h0 : Follows s0 s) :
    Follows s0 t := by
  unfold execFenceSite at ht; cases ht
  with_reducible repeat' first | exact h0 | apply State.fenceSite_follows | apply Follows.ite

theorem execOsfpInsert_follows {s0 : State} {cage : Fin 48} {cmis : BitVec 8} {supported : Bool} {fits : Bool} {s : State} {t : State} (ht : execOsfpInsert cage cmis supported fits s = .next t) (h0 : Follows s0 s) :
    Follows s0 t := by
  unfold execOsfpInsert at ht; cases ht
  with_reducible repeat' first | exact h0 | apply State.post_follows | apply State.setOptics_follows | apply Follows.ite

theorem execFwSwitch_follows {s0 : State} {unit : Fin 217} {s : State} {t : State} (ht : execFwSwitch unit s = .next t) (h0 : Follows s0 s) :
    Follows s0 t := by
  unfold execFwSwitch at ht; cases ht
  with_reducible repeat' first | exact h0 | apply State.fwSwitch_follows

end Sys2Proof.Machine
end

