-- ==== Sys2Proof/Laws/FlowHost.lean ====
section
/-! SUPPORT. Laws/FlowHost.lean: what every effect of security, the registers of units and of the module, and host ports keeps. -/

namespace Sys2Proof.Machine

/-! ## Security -/

theorem State.nonceDraw_follows {s0 s : State} (h0 : Follows s0 s) : Follows s0 s.nonceDraw := by
  unfold State.nonceDraw
  have h : ∀ (l : List Nat) (r : List W64 × State), Follows s0 r.2 →
      Follows s0 (l.foldl (fun (r : List W64 × State) _ => let (v, s) := r.2.draw; (r.1 ++ [v], s)) r).2 := by
    intro l
    induction l with
    | nil => exact fun _ h => h
    | cons a l ih => exact fun r h => ih _ (State.draw_follows h)
  exact (h _ ([], s) h0).trans ⟨rfl, SecFlow.of_eq rfl rfl rfl rfl rfl rfl rfl⟩


theorem State.secRun_follows {s0 s : State} {op : Nat} {f : State → State} (hf : ∀ s0 s, Follows s0 s → Follows s0 (f s)) (h0 : Follows s0 s) :
    Follows s0 (s.secRun op f) := by
  unfold State.secRun
  refine Follows.ite h0 (Follows.ite (Follows.sec_ h0 (SecFlow.of_eq rfl rfl rfl rfl rfl rfl rfl)) ?_)
  exact Follows.sec_ (Follows.ite (hf _ _ h0) h0) Sec.endRequest_flow


theorem State.debugUnlock_follows {s0 s : State} (h0 : Follows s0 s) : Follows s0 s.debugUnlock :=
  h0.trans ⟨rfl, SecFlow.of_eq rfl rfl rfl rfl rfl rfl rfl⟩


theorem State.secDebug_follows {s0 s : State} (h0 : Follows s0 s) : Follows s0 s.secDebug := State.secRun_follows (fun _ _ h => State.debugUnlock_follows h) h0


theorem State.spdm_follows {s0 s : State} {p : MgmtPath} {f : State → State × SpdmAnswer} (hf : ∀ s0 s, Follows s0 s → Follows s0 (f s).1)
    (h0 : Follows s0 s) : Follows s0 (s.spdm p f) := by
  unfold State.spdm
  exact Follows.ite (State.emit_follows (hf _ _ h0)) h0


theorem State.spdmAt_follows {s0 s : State} {p : MgmtPath} {n : Nat} {f : State → State × SpdmAnswer} (hf : ∀ s0 s, Follows s0 s → Follows s0 (f s).1)
    (h0 : Follows s0 s) : Follows s0 (s.spdmAt p n f) := by
  unfold State.spdmAt
  refine State.spdm_follows (fun s0 s h => ?_) h0
  split
  · exact hf _ _ h
  · exact h


theorem execGetMeasurements_follows {s0 s t : State} {p : MgmtPath} {i : BitVec 8} (ht : execGetMeasurements p i s = .next t) (h0 : Follows s0 s) : Follows s0 t := by
  unfold execGetMeasurements at ht
  injection ht with ht
  subst ht
  refine State.spdmAt_follows (fun s0 s h => ?_) h0
  dsimp only
  repeat' split
  all_goals first | exact h | exact Follows.lit h | exact State.freeBytes_follows h | exact Follows.lit (State.freeBytes_follows h) | exact State.draw_follows h | exact h.trans ⟨rfl, SecFlow.of_eq rfl rfl rfl rfl rfl rfl rfl⟩


theorem execNonceDraw_follows {s0 s t : State} (ht : execNonceDraw s = .next t) (h0 : Follows s0 s) : Follows s0 t := by
  unfold execNonceDraw at ht
  injection ht with ht
  subst ht
  exact State.nonceDraw_follows h0


theorem execNegotiateAlgorithms_follows {s0 s t : State} {p : MgmtPath} {o : Bool} (ht : execNegotiateAlgorithms p o s = .next t) (h0 : Follows s0 s) : Follows s0 t := by
  unfold execNegotiateAlgorithms at ht
  injection ht with ht
  subst ht
  refine State.spdmAt_follows (fun s0 s h => ?_) h0
  repeat' split
  all_goals first | exact h | exact Follows.lit h | exact State.freeBytes_follows h | exact Follows.lit (State.freeBytes_follows h) | exact State.draw_follows h | exact h.trans ⟨rfl, SecFlow.of_eq rfl rfl rfl rfl rfl rfl rfl⟩


theorem execJtagScanSelect_follows {s0 : State} {unit : UnitId} {select : Bool} {s : State} {t : State} (ht : execJtagScanSelect unit select s = .next t) (h0 : Follows s0 s) :
    Follows s0 t := by
  unfold execJtagScanSelect at ht; cases ht
  with_reducible repeat' first | exact h0 | apply State.scanTo_follows | apply Follows.ite

theorem execChallenge_follows {s0 s t : State} {p : MgmtPath} {n : Fin 8} (ht : execChallenge p n s = .next t) (h0 : Follows s0 s) : Follows s0 t := by
  unfold execChallenge at ht
  injection ht with ht
  subst ht
  refine State.spdmAt_follows (fun s0 s h => ?_) h0
  dsimp only
  repeat' split
  all_goals first | exact h | exact Follows.lit h | exact State.freeBytes_follows h | exact Follows.lit (State.freeBytes_follows h) | exact State.draw_follows h | exact h.trans ⟨rfl, SecFlow.of_eq rfl rfl rfl rfl rfl rfl rfl⟩


theorem execGetCsr_follows {s0 s t : State} {p : MgmtPath} (ht : execGetCsr p s = .next t) (h0 : Follows s0 s) : Follows s0 t := by
  unfold execGetCsr at ht
  injection ht with ht
  subst ht
  refine State.spdmAt_follows (fun s0 s h => ?_) h0
  dsimp only
  repeat' split
  all_goals first | exact h | exact Follows.lit h | exact State.freeBytes_follows h | exact Follows.lit (State.freeBytes_follows h) | exact State.draw_follows h | exact h.trans ⟨rfl, SecFlow.of_eq rfl rfl rfl rfl rfl rfl rfl⟩


theorem State.inSession_follows {s0 s : State} {p : MgmtPath} {n : Nat} {f : State → State × SpdmAnswer} (hf : ∀ s0 s, Follows s0 s → Follows s0 (f s).1)
    (h0 : Follows s0 s) : Follows s0 (s.inSession p n f) := by
  unfold State.inSession
  refine State.spdm_follows (fun s0 s h => ?_) h0
  split
  · exact hf _ _ h
  · exact h


theorem execKeyUpdate_follows {s0 s t : State} {p : MgmtPath} {n : Nat} (ht : execKeyUpdate p n s = .next t) (h0 : Follows s0 s) : Follows s0 t := by
  unfold execKeyUpdate at ht
  injection ht with ht
  subst ht
  refine State.inSession_follows (fun s0 s h => ?_) h0
  dsimp only
  repeat' split
  all_goals first | exact h | exact Follows.lit h | exact State.freeBytes_follows h | exact Follows.lit (State.freeBytes_follows h) | exact State.draw_follows h | exact h.trans ⟨rfl, SecFlow.of_eq rfl rfl rfl rfl rfl rfl rfl⟩


theorem execFinish_follows {s0 s t : State} {p : MgmtPath} {n : Nat} (ht : execFinish p n s = .next t) (h0 : Follows s0 s) : Follows s0 t := by
  unfold execFinish at ht
  injection ht with ht
  subst ht
  refine State.spdmAt_follows (fun s0 s h => ?_) h0
  repeat' split
  all_goals first | exact h | exact Follows.lit h | exact State.freeBytes_follows h | exact Follows.lit (State.freeBytes_follows h) | exact State.draw_follows h | exact h.trans ⟨rfl, SecFlow.of_eq rfl rfl rfl rfl rfl rfl rfl⟩


theorem execPldmMessagingControl_follows {s0 : State} {path : MgmtPath} {s : State} {t : State} (ht : execPldmMessagingControl path s = .next t) (h0 : Follows s0 s) :
    Follows s0 t := by
  unfold execPldmMessagingControl at ht; cases ht
  with_reducible repeat' first | exact h0 | apply State.emit_follows | apply Follows.ite

theorem execEndSession_follows {s0 s t : State} {p : MgmtPath} {n : Nat} (ht : execEndSession p n s = .next t) (h0 : Follows s0 s) : Follows s0 t := by
  unfold execEndSession at ht
  injection ht with ht
  subst ht
  refine State.inSession_follows (fun s0 s h => ?_) h0
  dsimp only
  repeat' split
  all_goals first | exact h | exact Follows.lit h | exact State.freeBytes_follows h | exact Follows.lit (State.freeBytes_follows h) | exact State.draw_follows h | exact h.trans ⟨rfl, SecFlow.of_eq rfl rfl rfl rfl rfl rfl rfl⟩


theorem execDebugUnlock_follows {s0 s t : State} (ht : execDebugUnlock s = .next t) (h0 : Follows s0 s) : Follows s0 t := by
  unfold execDebugUnlock at ht
  injection ht with ht
  subst ht
  exact State.secDebug_follows h0


theorem execDynamicAddressAssign_follows {s0 : State} {address : BitVec 7} {s : State} {t : State} (ht : execDynamicAddressAssign address s = .next t) (h0 : Follows s0 s) :
    Follows s0 t := by
  unfold execDynamicAddressAssign at ht; cases ht
  exact h0.trans ⟨rfl, SecFlow.refl _⟩

theorem execGetCapabilities_follows {s0 s t : State} {p : MgmtPath} {v : BitVec 8} (ht : execGetCapabilities p v s = .next t) (h0 : Follows s0 s) : Follows s0 t := by
  unfold execGetCapabilities at ht
  injection ht with ht
  subst ht
  refine State.spdmAt_follows (fun s0 s h => ?_) h0
  repeat' split
  all_goals first | exact h | exact Follows.lit h | exact State.freeBytes_follows h | exact Follows.lit (State.freeBytes_follows h) | exact State.draw_follows h | exact h.trans ⟨rfl, SecFlow.of_eq rfl rfl rfl rfl rfl rfl rfl⟩


theorem execGetDigests_follows {s0 s t : State} {p : MgmtPath} (ht : execGetDigests p s = .next t) (h0 : Follows s0 s) : Follows s0 t := by
  unfold execGetDigests at ht
  injection ht with ht
  subst ht
  refine State.spdmAt_follows (fun s0 s h => ?_) h0
  dsimp only
  repeat' split
  all_goals first | exact h | exact Follows.lit h | exact State.freeBytes_follows h | exact Follows.lit (State.freeBytes_follows h) | exact State.draw_follows h | exact h.trans ⟨rfl, SecFlow.of_eq rfl rfl rfl rfl rfl rfl rfl⟩


theorem execTelemetrySample_follows {s0 : State} {s : State} {t : State} (ht : execTelemetrySample s = .next t) (h0 : Follows s0 s) :
    Follows s0 t := by
  unfold execTelemetrySample at ht; cases ht
  exact h0.trans ⟨rfl, SecFlow.refl _⟩

theorem execKeyExchange_follows {s0 s t : State} {p : MgmtPath} (ht : execKeyExchange p s = .next t) (h0 : Follows s0 s) : Follows s0 t := by
  unfold execKeyExchange at ht
  injection ht with ht
  subst ht
  refine State.spdmAt_follows (fun s0 s h => ?_) h0
  dsimp only
  repeat' split
  all_goals first | exact h | exact Follows.lit h | exact State.freeBytes_follows h | exact Follows.lit (State.freeBytes_follows h) | exact State.draw_follows h | exact h.trans ⟨rfl, SecFlow.of_eq rfl rfl rfl rfl rfl rfl rfl⟩


theorem execSpdmHeartbeat_follows {s0 s t : State} {p : MgmtPath} {n : Nat} (ht : execSpdmHeartbeat p n s = .next t) (h0 : Follows s0 s) : Follows s0 t := by
  unfold execSpdmHeartbeat at ht
  injection ht with ht
  subst ht
  refine State.inSession_follows (fun s0 s h => ?_) h0
  dsimp only
  repeat' split
  all_goals first | exact h | exact Follows.lit h | exact State.freeBytes_follows h | exact Follows.lit (State.freeBytes_follows h) | exact State.draw_follows h | exact h.trans ⟨rfl, SecFlow.of_eq rfl rfl rfl rfl rfl rfl rfl⟩


theorem State.rotate_follows {s0 s : State} (h0 : Follows s0 s) : Follows s0 s.rotate :=
  h0.trans ⟨rfl, SecFlow.of_eq rfl rfl rfl rfl rfl rfl rfl⟩


theorem State.secRotate_follows {s0 s : State} (h0 : Follows s0 s) : Follows s0 s.secRotate := State.secRun_follows (fun _ _ h => State.rotate_follows h) h0


theorem execRotateOwner_follows {s0 s t : State} (ht : execRotateOwner s = .next t) (h0 : Follows s0 s) : Follows s0 t := by
  unfold execRotateOwner at ht
  injection ht with ht
  subst ht
  exact State.secRotate_follows h0


theorem execSetCertificate_follows {s0 s t : State} {p : MgmtPath} {n : Fin 8} {c : List Byte} (ht : execSetCertificate p n c s = .next t) (h0 : Follows s0 s) : Follows s0 t := by
  unfold execSetCertificate at ht
  injection ht with ht
  subst ht
  refine Follows.ite h0 (State.spdmAt_follows (fun s0 s h => ?_) h0)
  dsimp only
  repeat' split
  all_goals first | exact h | exact h.trans ⟨rfl, SecFlow.of_eq rfl rfl rfl rfl rfl rfl rfl⟩


theorem execGetCertificate_follows {s0 s t : State} {p : MgmtPath} {n : Fin 8} (ht : execGetCertificate p n s = .next t) (h0 : Follows s0 s) : Follows s0 t := by
  unfold execGetCertificate at ht
  injection ht with ht
  subst ht
  refine State.spdmAt_follows (fun s0 s h => ?_) h0
  repeat' split
  all_goals first | exact h | exact Follows.lit h | exact State.freeBytes_follows h | exact Follows.lit (State.freeBytes_follows h) | exact State.draw_follows h | exact h.trans ⟨rfl, SecFlow.of_eq rfl rfl rfl rfl rfl rfl rfl⟩


theorem execIdeKm_follows {s0 : State} {port : Fin 4} {session : Nat} {op : BitVec 2} {s : State} {t : State} (ht : execIdeKm port session op s = .next t) (h0 : Follows s0 s) :
    Follows s0 t := by
  unfold execIdeKm at ht; cases ht
  with_reducible repeat' first | exact h0 | apply State.updHp_follows | apply State.emit_follows | apply Follows.ite

theorem execGetVersion_follows {s0 s t : State} {p : MgmtPath} (ht : execGetVersion p s = .next t) (h0 : Follows s0 s) : Follows s0 t := by
  unfold execGetVersion at ht
  injection ht with ht
  subst ht
  refine State.spdm_follows (fun s0 s h => ?_) h0
  dsimp only
  repeat' split
  all_goals first | exact h | exact Follows.lit h | exact State.freeBytes_follows h | exact Follows.lit (State.freeBytes_follows h) | exact State.draw_follows h | exact h.trans ⟨rfl, SecFlow.of_eq rfl rfl rfl rfl rfl rfl rfl⟩


theorem execNonceExpire_follows {s0 s t : State} (ht : execNonceExpire s = .next t) (h0 : Follows s0 s) : Follows s0 t := by
  unfold execNonceExpire at ht
  injection ht with ht
  subst ht
  exact h0.trans ⟨rfl, SecFlow.of_eq rfl rfl rfl rfl rfl rfl rfl⟩


theorem execPldmPlatform_follows {s0 : State} {path : MgmtPath} {request : PldmRequest} {s : State} {t : State} (ht : execPldmPlatform path request s = .next t) (h0 : Follows s0 s) :
    Follows s0 t := by
  unfold execPldmPlatform at ht; cases ht
  with_reducible repeat' first
      | (intro x; clear_value x) | (intro x) | exact Follows.refl _ | assumption | apply State.emit_follows
      | (apply Follows.lit; first | assumption | exact Follows.refl _ | apply State.emit_follows) | apply Follows.ite | dsimp -zeta only
      | lift_lets | split

theorem execPldmFwUpdate_follows {s0 : State} {path : MgmtPath} {unit : Fin 217} {object : List Byte} {s : State} {t : State} (ht : execPldmFwUpdate path unit object s = .next t) (h0 : Follows s0 s) :
    Follows s0 t := by
  unfold execPldmFwUpdate at ht; cases ht
  with_reducible repeat' first
      | exact h0 | apply State.draw_follows | apply State.emit_follows | apply State.updFw_follows
      | refine Follows.of_snd (by assumption) (State.draw_follows ?_) | apply Follows.ite

theorem execDoeDiscovery_follows {s0 : State} {port : Fin 4} {mailbox : Fin 2} {s : State} {t : State} (ht : execDoeDiscovery port mailbox s = .next t) (h0 : Follows s0 s) :
    Follows s0 t := by
  unfold execDoeDiscovery at ht; cases ht
  with_reducible repeat' first | exact h0 | apply State.emit_follows | apply Follows.ite

/-! ## UnitRegs -/

theorem State.ueCmd_follows {s0 : State} {s : State} {q : Nat} {v : Nat} (h0 : Follows s0 s) :
    Follows s0 (State.ueCmd s q v) := by
  unfold State.ueCmd
  with_reducible repeat' first | exact h0 | (apply nextOf_follows; (intro t ht; refine execUeAbandon_follows ht ?_)) | apply Follows.ite

theorem rcCount_follows {lo : Nat} {len : Nat} {get : State → BitVec len} {clear : State → State} (hclear : ∀ s0 y0, Follows s0 y0 → Follows s0 (clear y0)) :
    FieldOk (rcCount lo len get clear) := by
  unfold rcCount
  with_reducible repeat' first | (intro x; clear_value x) | (intro x) | assumption | apply rc_follows | apply hclear

theorem wordReg_follows {mask : Nat} {get : State → W64} {put : W64 → State → State}
    (h : ∀ s0 v s, Follows s0 s → Follows s0 (put v s)) : RegOk (wordReg mask get put) :=
  reg_follows (FieldsOk.cons ⟨fun s0 _ s hs => h s0 _ s hs⟩ FieldsOk.nil)


theorem ueCtlRegs_follows {q : Nat} {off : Nat} :
    PlaceOk (ueCtlRegs q off) := by
  unfold ueCtlRegs
  with_reducible repeat' first
      | (intro x; clear_value x) | (intro x) | assumption | apply State.updUe_follows | apply State.ueCtlWrite_follows | apply reg_follows
      | apply rw_follows | apply ro_follows | apply wo_follows | apply w1bit_follows | apply State.ueCmd_follows | apply rcCount_follows
      | apply wordReg_follows | apply PlaceOk.ite | exact PlaceOk.none | apply PlaceOk.some | apply RegOk.ite | apply RegOk.mk_
      | apply FieldsOk.ite | exact FieldsOk.nil | apply FieldsOk.cons

theorem rwIn_follows {lo : Nat} {len : Nat} {least : Nat} {greatest : Nat} {get : State → Nat} {put : Nat → State → State} (hput : ∀ s0 y0 y1, Follows s0 y1 → Follows s0 (put y0 y1)) :
    FieldOk (rwIn lo len least greatest get put) := by
  unfold rwIn
  with_reducible repeat' first
      | (intro x; clear_value x) | (intro x) | assumption | apply rw_follows | apply hput | apply PlaceOk.ite | exact PlaceOk.none
      | apply PlaceOk.some | apply RegOk.ite | apply RegOk.mk_ | apply FieldsOk.ite | exact FieldsOk.nil | apply FieldsOk.cons
      | apply FieldOk.mk_ | apply Follows.ite

theorem State.pwrCtl_follows {s0 : State} {s : State} {st : Nat} {v : Nat} (h0 : Follows s0 s) :
    Follows s0 (State.pwrCtl s st v) := by
  unfold State.pwrCtl
  with_reducible repeat' first | exact h0 | apply State.rmcStackOn_follows | apply State.powerRequest_follows | apply Follows.ite | split

theorem stackAlways_follows {st : Nat} {off : Nat} :
    PlaceOk (stackAlways st off) := by
  unfold stackAlways
  with_reducible repeat' first
      | (intro x; clear_value x) | (intro x) | assumption | apply State.updStack_follows | apply reg_follows | apply ro_follows
      | apply wo_follows | apply w1bit_follows | apply rcCount_follows | apply State.pwrCtl_follows | apply PlaceOk.ite | exact PlaceOk.none
      | apply PlaceOk.some | apply RegOk.ite | apply RegOk.mk_ | apply FieldsOk.ite | exact FieldsOk.nil | apply FieldsOk.cons
      | apply FieldOk.mk_ | apply Follows.ite

theorem winRw_follows {q : Nat} {n : Nat} {len : Nat} {get : Win → BitVec len} {put : BitVec len → Win → Win} :
    FieldOk (winRw q n len get put) := by
  unfold winRw
  with_reducible repeat' first
      | (intro x; clear_value x) | (intro x) | assumption | apply State.updDisp_follows | apply rw_follows | apply PlaceOk.ite
      | exact PlaceOk.none | apply PlaceOk.some | apply RegOk.ite | apply RegOk.mk_ | apply FieldsOk.ite | exact FieldsOk.nil
      | apply FieldsOk.cons | apply FieldOk.mk_ | apply Follows.ite

theorem winReg_follows {q : Nat} {n : Nat} {j : Nat} :
    RegOk (winReg q n j) := by
  unfold winReg
  with_reducible repeat' first
      | (intro x; clear_value x) | (intro x) | assumption | apply State.updDisp_follows | apply reg_follows | apply ro_follows
      | apply rcCount_follows | apply winRw_follows | apply PlaceOk.ite | exact PlaceOk.none | apply PlaceOk.some | apply RegOk.ite
      | apply Follows.id_ | apply FieldsOk.ite | exact FieldsOk.nil | apply FieldsOk.cons | apply Follows.ite | dsimp -zeta only | lift_lets
      | split

theorem chanReg_follows {q : Nat} {n : Nat} {j : Nat} :
    PlaceOk (chanReg q n j) := by
  unfold chanReg
  with_reducible repeat' first
      | (intro x; clear_value x) | (intro x) | assumption | apply State.updDisp_follows | apply reg_follows | apply rcCount_follows
      | apply wordReg_follows | apply PlaceOk.ite | exact PlaceOk.none | apply PlaceOk.some | apply RegOk.ite | apply RegOk.mk_
      | apply FieldsOk.ite | exact FieldsOk.nil | apply FieldsOk.cons

theorem State.redCmd_follows {s0 : State} {s : State} {q : Nat} {v : Nat} (h0 : Follows s0 s) :
    Follows s0 (State.redCmd s q v) := by
  unfold State.redCmd
  with_reducible repeat' first
      | exact h0 | apply State.redResult_follows | apply State.redOpen_follows | apply State.redStart_follows | apply State.redAbort_follows
      | apply State.redClose_follows | refine Follows.of_fst (by assumption) (State.redOpen_follows ?_)
      | refine Follows.of_fst (by assumption) (State.redStart_follows ?_)
      | refine Follows.of_fst (by assumption) (State.redAbort_follows ?_)
      | refine Follows.of_fst (by assumption) (State.redClose_follows ?_) | apply Follows.ite | split

theorem State.storeOp_follows {s0 : State} {s : State} {n : Nat} {v : Nat} (h0 : Follows s0 s) :
    Follows s0 (State.storeOp s n v) := by
  unfold State.storeOp
  with_reducible repeat' first
      | exact h0 | (apply nextOf_follows; (intro t ht; refine execTrim_follows ht ?_))
      | (apply nextOf_follows; (intro t ht; refine execHarvestOpen_follows ht ?_))
      | (apply nextOf_follows; (intro t ht; refine execSanitize_follows ht ?_))
      | (apply nextOf_follows; (intro t ht; refine execUnmount_follows ht ?_))
      | (apply nextOf_follows; (intro t ht; refine execHarvestCommit_follows ht ?_))
      | (apply nextOf_follows; (intro t ht; refine execMount_follows ht ?_))
      | (apply nextOf_follows; (intro t ht; refine execFormat_follows ht ?_))
      | (apply nextOf_follows; (intro t ht; refine execHarvestDrop_follows ht ?_)) | apply Follows.ite | split

theorem State.queueCtl_follows {s0 : State} {s : State} {k : Nat} {q : Nat} {v : W64} (h0 : Follows s0 s) :
    Follows s0 (State.queueCtl s k q v) := by
  unfold State.queueCtl
  with_reducible repeat' first | exact h0 | apply State.updHp_follows | apply State.updHq_follows | apply Follows.ite

theorem queueReg_follows {k : Nat} {q : Nat} {j : Nat} :
    RegOk (queueReg k q j) := by
  unfold queueReg
  with_reducible repeat' first
      | (intro x; clear_value x) | (intro x) | assumption | apply reg_follows | apply ro_follows | apply w1bit_follows
      | apply State.updHq_follows | apply wordReg_follows | apply State.queueCtl_follows | apply PlaceOk.ite | exact PlaceOk.none
      | apply PlaceOk.some | apply RegOk.ite | apply Follows.id_ | apply FieldsOk.ite | exact FieldsOk.nil | apply FieldsOk.cons
      | apply Follows.ite | dsimp -zeta only | lift_lets | split

theorem dispRegs_follows {q : Nat} {off : Nat} :
    PlaceOk (dispRegs q off) := by
  unfold dispRegs
  with_reducible repeat' first
      | (intro x; clear_value x) | (intro x) | assumption | apply State.updPort_follows | apply State.portRetrain_follows
      | apply State.portEnable_follows | apply State.updDisp_follows | apply reg_follows | apply rw_follows | apply ro_follows
      | apply wo_follows | apply w1bit_follows | apply rcCount_follows | apply rwIn_follows | apply PlaceOk.ite | exact PlaceOk.none
      | apply PlaceOk.some | apply RegOk.ite | apply RegOk.mk_ | apply FieldsOk.ite | exact FieldsOk.nil | apply FieldsOk.cons
      | apply FieldOk.mk_ | apply Follows.ite

theorem acuRegs_follows {k : Nat} {off : Nat} :
    PlaceOk (acuRegs k off) := by
  unfold acuRegs
  with_reducible repeat' first
      | (intro x; clear_value x) | (intro x) | assumption | apply State.updAcu_follows | apply State.acuSweep_follows
      | apply State.acuSetWrite_follows | apply reg_follows | apply rw_follows | apply ro_follows | apply w1bit_follows
      | apply rcCount_follows | apply wordReg_follows | apply rwIn_follows | apply PlaceOk.ite | exact PlaceOk.none | apply PlaceOk.some
      | apply RegOk.ite | apply RegOk.mk_ | apply FieldsOk.ite | exact FieldsOk.nil | apply FieldsOk.cons

theorem redRegs_follows {q : Nat} {off : Nat} :
    PlaceOk (redRegs q off) := by
  unfold redRegs
  with_reducible repeat' first
      | (intro x; clear_value x) | (intro x) | assumption | apply State.updRed_follows | apply reg_follows | apply rw_follows
      | apply ro_follows | apply wo_follows | apply w1bit_follows | apply rcCount_follows | apply rwIn_follows | apply State.redCmd_follows
      | apply PlaceOk.ite | exact PlaceOk.none | apply PlaceOk.some | apply RegOk.ite | apply RegOk.mk_ | apply FieldsOk.ite
      | exact FieldsOk.nil | apply FieldsOk.cons

theorem State.jobWrite_follows {s0 : State} {s : State} {q : Nat} {j : Nat} {w : Nat} {v : W64} (h0 : Follows s0 s) :
    Follows s0 (State.jobWrite s q j w v) := by
  unfold State.jobWrite
  with_reducible repeat' first | exact h0 | apply State.updJob_follows | apply Follows.ite

theorem pcReg_follows {q : Nat} {off : Nat} :
    PlaceOk (pcReg q off) := by
  unfold pcReg
  with_reducible repeat' first
      | (intro x; clear_value x) | (intro x) | assumption | apply State.layerWrite_follows | apply reg_follows | apply ro_follows
      | apply csrReg_follows | apply wordReg_follows | apply ueCtlRegs_follows | apply winReg_follows | apply chanReg_follows
      | apply dispRegs_follows | apply acuRegs_follows | apply redRegs_follows | apply State.jobWrite_follows | apply PlaceOk.ite
      | exact PlaceOk.none | apply PlaceOk.some | apply RegOk.ite | apply Follows.id_ | apply FieldsOk.ite | exact FieldsOk.nil
      | apply FieldsOk.cons

theorem State.msixWrite_follows {s0 : State} {s : State} {k : Nat} {v : Nat} {f : MsixEntry → MsixEntry} (h0 : Follows s0 s) :
    Follows s0 (State.msixWrite s k v f) := by
  unfold State.msixWrite
  with_reducible repeat' first | exact h0 | apply State.updHp_follows | apply State.msixFlush_follows

theorem msixReg_follows {k : Nat} {off : Nat} :
    PlaceOk (msixReg k off) := by
  unfold msixReg
  with_reducible repeat' first
      | (intro x; clear_value x) | (intro x) | assumption | apply reg_follows | apply rw_follows | apply ro_follows | apply wordReg_follows
      | apply State.msixWrite_follows | apply PlaceOk.ite | exact PlaceOk.none | apply PlaceOk.some | apply RegOk.ite | apply RegOk.mk_
      | apply FieldsOk.ite | exact FieldsOk.nil | apply FieldsOk.cons

theorem hostReg_follows {k : Nat} {off : Nat} :
    PlaceOk (hostReg k off) := by
  unfold hostReg
  with_reducible repeat' first
      | (intro x; clear_value x) | (intro x) | assumption | apply State.updHp_follows | apply reg_follows | apply rw_follows
      | apply ro_follows | apply hbmBaseFields_follows | apply hbmBoundFields_follows | apply w1bit_follows | apply rcCount_follows
      | apply wordReg_follows | apply rwIn_follows | apply queueReg_follows | apply acuRegs_follows | apply msixReg_follows
      | apply PlaceOk.ite | exact PlaceOk.none | apply PlaceOk.some | apply RegOk.ite | apply Follows.id_ | apply FieldsOk.ite
      | exact FieldsOk.nil | apply FieldsOk.cons | apply Follows.ite

theorem stackOn_follows {st : Nat} {off : Nat} :
    PlaceOk (stackOn st off) := by
  unfold stackOn
  with_reducible repeat' first
      | (intro x; clear_value x) | (intro x) | assumption | apply State.updStack_follows | apply reg_follows | apply rw_follows
      | apply ro_follows | apply w1bit_follows | apply rcCount_follows | apply rwIn_follows | apply PlaceOk.ite | exact PlaceOk.none
      | apply PlaceOk.some | apply RegOk.ite | apply RegOk.mk_ | apply FieldsOk.ite | exact FieldsOk.nil | apply FieldsOk.cons

theorem State.stackReg_follows {s : State} {st off : Nat} : PlaceOk (s.stackReg st off) := by
  unfold State.stackReg
  split
  · next h => exact ⟨fun r e => by cases e; exact stackAlways_follows.all _ h⟩
  · exact PlaceOk.ite PlaceOk.none stackOn_follows


theorem storeReg_follows {n : Nat} {off : Nat} :
    PlaceOk (storeReg n off) := by
  unfold storeReg
  with_reducible repeat' first
      | (intro x; clear_value x) | (intro x) | assumption | apply State.updBay_follows | apply reg_follows | apply rw_follows
      | apply w1c_follows | apply ro_follows | apply wo_follows | apply hbmBaseFields_follows | apply hbmBoundFields_follows
      | apply rcCount_follows | apply wordReg_follows | apply rwIn_follows | apply State.storeOp_follows | apply PlaceOk.ite
      | exact PlaceOk.none | apply PlaceOk.some | apply RegOk.ite | apply RegOk.mk_ | apply FieldsOk.ite | exact FieldsOk.nil
      | apply FieldsOk.cons

/-! ## ModRegs -/

theorem fwdReg_follows {n len : Nat} {get : State → BitVec n} {put : BitVec n → State → State}
    (h : ∀ s0 v s, Follows s0 s → Follows s0 (put v s)) : RegOk (fwdReg len get put) :=
  reg_follows (FieldsOk.cons ⟨fun s0 _ s hs => h s0 _ s hs⟩ FieldsOk.nil)


theorem woCmd_follows {i : Nat} {f : State → State} (hf : ∀ s0 y0, Follows s0 y0 → Follows s0 (f y0)) :
    FieldOk (woCmd i f) := by
  unfold woCmd
  with_reducible repeat' first
      | (intro x; clear_value x) | (intro x) | assumption | apply wo_follows | apply hf | apply PlaceOk.ite | exact PlaceOk.none
      | apply PlaceOk.some | apply RegOk.ite | apply RegOk.mk_ | apply FieldsOk.ite | exact FieldsOk.nil | apply FieldsOk.cons
      | apply FieldOk.mk_ | apply Follows.ite

theorem State.fenceCmd_follows {s0 : State} {s : State} {v : Nat} (h0 : Follows s0 s) :
    Follows s0 (State.fenceCmd s v) := by
  unfold State.fenceCmd
  with_reducible repeat' first
      | (intro x; clear_value x) | (intro x) | exact Follows.refl _ | assumption
      | (apply nextOf_follows; (intro t ht; refine execFenceWafer_follows ht ?_))
      | (apply nextOf_follows; (intro t ht; refine execPromote_follows ht ?_))
      | (apply nextOf_follows; (intro t ht; refine execRetest_follows ht ?_))
      | (apply nextOf_follows; (intro t ht; refine execFenceSite_follows ht ?_)) | apply Follows.ite | dsimp -zeta only | lift_lets | split

theorem State.fwCmd_follows {s0 : State} {s : State} {v : Nat} (h0 : Follows s0 s) :
    Follows s0 (State.fwCmd s v) := by
  unfold State.fwCmd
  with_reducible repeat' first
      | exact h0 | (apply nextOf_follows; (intro t ht; refine execFwRevert_follows ht ?_))
      | (apply nextOf_follows; (intro t ht; refine execFwSwitch_follows ht ?_)) | apply Follows.ite | split

theorem syncReg_follows :
    RegOk (syncReg) := by
  unfold syncReg
  with_reducible repeat' first
      | (intro x; clear_value x) | (intro x) | assumption | apply reg_follows | apply ro_follows | apply rwIn_follows | apply PlaceOk.ite
      | exact PlaceOk.none | apply PlaceOk.some | apply RegOk.ite | apply RegOk.mk_ | apply FieldsOk.ite | exact FieldsOk.nil
      | apply FieldsOk.cons | apply FieldOk.mk_ | apply Follows.ite | (apply Follows.lit; assumption)

theorem fabGlobal_follows {off : Nat} :
    PlaceOk (fabGlobal off) := by
  unfold fabGlobal
  with_reducible repeat' first
      | (intro x; clear_value x) | (intro x) | assumption | apply State.fenceWrite_follows | apply State.fwdCommit_follows
      | apply reg_follows | apply rw_follows | apply ro_follows | apply wo_follows | apply fwdReg_follows | apply PlaceOk.ite
      | exact PlaceOk.none | apply PlaceOk.some | apply RegOk.ite | apply Follows.id_ | apply FieldsOk.ite | exact FieldsOk.nil
      | apply FieldsOk.cons | apply Follows.ite | (apply Follows.lit; assumption) | dsimp -zeta only | lift_lets | split | apply RegOk.mk_

theorem stageReg_follows {get : Images → BitVec 28} {put : BitVec 28 → Images → Images} : RegOk (stageReg get put) :=
  ⟨FieldsOk.cons ⟨fun _ _ _ h => Follows.lit h⟩ FieldsOk.nil, fun _ _ h => h, fun _ _ h => h⟩


theorem imageReg_follows {off : Nat} :
    PlaceOk (imageReg off) := by
  unfold imageReg
  with_reducible repeat' first
      | (intro x) | assumption | apply reg_follows | apply ro_follows | apply stageReg_follows | apply PlaceOk.ite | exact PlaceOk.none
      | apply PlaceOk.some | apply RegOk.ite | apply RegOk.mk_ | apply FieldsOk.ite | exact FieldsOk.nil | apply FieldsOk.cons

theorem panReg_follows {n : Nat} {off : Nat} :
    PlaceOk (panReg n off) := by
  unfold panReg
  with_reducible repeat' first
      | (intro x; clear_value x) | (intro x) | assumption | apply State.updPan_follows | apply reg_follows | apply ro_follows
      | apply w1bit_follows | apply woCmd_follows | apply PlaceOk.ite | exact PlaceOk.none | apply PlaceOk.some | apply RegOk.ite
      | apply RegOk.mk_ | apply FieldsOk.ite | exact FieldsOk.nil | apply FieldsOk.cons | apply FieldOk.mk_ | apply Follows.ite
      | (apply nextOf_follows; (intro t ht; refine execPanForce_follows ht ?_))
      | (apply nextOf_follows; (intro t ht; refine execPanStop_follows ht ?_))
      | (apply nextOf_follows; (intro t ht; refine execPanRun_follows ht ?_))

theorem State.parkCmd_follows {s0 : State} {s : State} {v : Nat} (h0 : Follows s0 s) :
    Follows s0 (State.parkCmd s v) := by
  unfold State.parkCmd
  with_reducible repeat' first
      | exact h0 | (apply nextOf_follows; (intro t ht; refine execUnpark_follows ht ?_))
      | (apply nextOf_follows; (intro t ht; refine execPark_follows ht ?_)) | apply Follows.ite | split

theorem powerReg_follows {off : Nat} :
    PlaceOk (powerReg off) := by
  unfold powerReg
  with_reducible repeat' first
      | (intro x; clear_value x) | (intro x) | assumption | apply reg_follows | apply ro_follows | apply wo_follows | apply w1bit_follows
      | apply rwIn_follows | apply State.parkCmd_follows | apply PlaceOk.ite | exact PlaceOk.none | apply PlaceOk.some | apply RegOk.ite
      | apply RegOk.mk_ | apply FieldsOk.ite | exact FieldsOk.nil | apply FieldsOk.cons | apply FieldOk.mk_ | apply Follows.ite
      | (apply Follows.lit; assumption)

theorem State.resetCmd_follows {s0 : State} {s : State} {v : Nat} (h0 : Follows s0 s) :
    Follows s0 (State.resetCmd s v) := by
  unfold State.resetCmd
  with_reducible repeat' first
      | (intro x; clear_value x) | (intro x) | exact Follows.refl _ | assumption
      | (apply nextOf_follows; (intro t ht; refine execArrayReset_follows ht ?_))
      | (apply nextOf_follows; (intro t ht; refine execFabricPortReset_follows ht ?_))
      | (apply nextOf_follows; (intro t ht; refine execBayReset_follows ht ?_))
      | (apply nextOf_follows; (intro t ht; refine execPanReset_follows ht ?_))
      | (apply nextOf_follows; (intro t ht; refine execModuleReset_follows ht ?_)) | apply Follows.ite | dsimp -zeta only | lift_lets
      | split

theorem resetReg_follows {off : Nat} :
    PlaceOk (resetReg off) := by
  unfold resetReg
  with_reducible repeat' first
      | (intro x; clear_value x) | (intro x) | assumption | apply reg_follows | apply rw_follows | apply ro_follows | apply w1bit_follows
      | apply State.resetCmd_follows | apply PlaceOk.ite | exact PlaceOk.none | apply PlaceOk.some | apply RegOk.ite | apply Follows.id_
      | apply FieldsOk.ite | exact FieldsOk.nil | apply FieldsOk.cons | apply Follows.ite | (apply Follows.lit; assumption)

theorem State.pstageCmd_follows {s0 : State} {s : State} {v : Nat} (h0 : Follows s0 s) :
    Follows s0 (State.pstageCmd s v) := by
  unfold State.pstageCmd
  with_reducible repeat' first
      | exact h0 | (apply nextOf_follows; (intro t ht; refine execPstageOnline_follows ht ?_))
      | (apply nextOf_follows; (intro t ht; refine execPstageOffline_follows ht ?_)) | apply Follows.ite | split

theorem faultReg_follows {off : Nat} :
    PlaceOk (faultReg off) := by
  unfold faultReg
  with_reducible repeat' first
      | (intro x; clear_value x) | (intro x) | assumption | apply reg_follows | apply rw_follows | apply ro_follows | apply wo_follows
      | apply w1bit_follows | apply State.fenceCmd_follows | apply State.fwCmd_follows | apply State.pstageCmd_follows | apply PlaceOk.ite
      | exact PlaceOk.none | apply PlaceOk.some | apply RegOk.ite | apply Follows.id_ | apply FieldsOk.ite | exact FieldsOk.nil
      | apply FieldsOk.cons | apply Follows.ite | (apply Follows.lit; assumption)

/-! ## Host -/

theorem State.refuseAccess_follows {s0 : State} {s : State} {port : Fin 4} {counted : Bool} {read : Bool} (h0 : Follows s0 s) :
    Follows s0 (State.refuseAccess s port counted read) := by
  unfold State.refuseAccess
  with_reducible repeat' first | exact h0 | apply State.updHp_follows | apply State.emit_follows | apply Follows.ite

theorem State.apertureWrite_follows {s0 : State} {s : State} {port : Fin 4} {addr : Nat} {bs : List Byte} (h0 : Follows s0 s) :
    Follows s0 (State.apertureWrite s port addr bs) := by
  unfold State.apertureWrite
  with_reducible repeat' first
      | (intro x) | exact Follows.refl _ | assumption | apply State.updHp_follows | apply State.sendService_follows
      | (apply Follows.foldl; case' h => intro s0 s x hk) | apply Follows.ite | dsimp -zeta only | lift_lets | split

theorem State.readBlocks_follows {s0 : State} {s : State} {addr : Nat} {n : Nat} (h0 : Follows s0 s) :
    Follows s0 (State.readBlocks s addr n).1 := by
  unfold State.readBlocks
  with_reducible repeat' first
      | (intro x) | exact Follows.refl _ | assumption | apply State.hbmRead_follows
      | (apply Follows.lit; first | assumption | exact Follows.refl _ | apply State.hbmRead_follows)
      | refine Follows.of_fst (by assumption) (State.hbmRead_follows ?_) | apply hfn | (apply Follows.foldl_fst; case' h => intro s0 p x hk)

theorem State.runHbmRead_follows {s0 : State} {s : State} {port : Fin 4} {addr : Nat} {len : Nat} (h0 : Follows s0 s) :
    Follows s0 (State.runHbmRead s port addr len) := by
  unfold State.runHbmRead
  with_reducible repeat' first
      | exact h0 | apply State.emit_follows | apply State.updHp_follows | apply State.readBlocks_follows
      | refine Follows.of_fst (by assumption) (State.readBlocks_follows ?_) | apply Follows.ite

theorem State.lineWrite_follows {s0 : State} {s : State} {k : Nat} {line : Nat} {lo : Nat} {bs : List Byte} (h0 : Follows s0 s) :
    Follows s0 (State.lineWrite s k line lo bs) := by
  unfold State.lineWrite
  with_reducible repeat' first
      | exact h0 | apply State.updHp_follows | apply State.hbmRead_follows | apply State.hbmWrite_follows
      | refine Follows.of_fst (by assumption) (State.hbmRead_follows ?_) | refine Follows.of_fst (by assumption) (State.hbmWrite_follows ?_)
      | apply Follows.ite

theorem State.lineWrites_follows {s0 : State} {s : State} {k : Nat} {addr : Nat} {data : List Byte} (h0 : Follows s0 s) :
    Follows s0 (State.lineWrites s k addr data) := by
  unfold State.lineWrites
  with_reducible repeat' first
      | (intro x) | exact Follows.refl _ | assumption | apply State.lineWrite_follows | (apply Follows.foldl; case' h => intro s0 s x hk)

theorem State.runHbmWrite_follows {s0 : State} {s : State} {port : Fin 4} {offset : Nat} {data : List Byte} (h0 : Follows s0 s) :
    Follows s0 (State.runHbmWrite s port offset data) := by
  unfold State.runHbmWrite
  with_reducible repeat' first | exact h0 | apply State.refuseAccess_follows | apply State.lineWrites_follows | apply Follows.ite

theorem State.updCmd_follows {s0 : State} {s : State} {k : Nat} {q : Nat} {f : HostCmd → HostCmd} (h0 : Follows s0 s) :
    Follows s0 (State.updCmd s k q f) := by
  unfold State.updCmd
  exact h0.trans ⟨rfl, SecFlow.refl _⟩

theorem State.copyEnd_follows {s0 : State} {s : State} {k : Nat} {q : Nat} (h0 : Follows s0 s) :
    Follows s0 (State.copyEnd s k q) := by
  unfold State.copyEnd
  with_reducible repeat' first | exact h0 | apply State.finishCmd_follows | apply Follows.ite | split

theorem State.copyPiece_follows {s0 : State} {s : State} {k : Nat} {q : Nat} {off : Nat} {bs : Option (List Byte)} (h0 : Follows s0 s) :
    Follows s0 (State.copyPiece s k q off bs) := by
  unfold State.copyPiece
  with_reducible repeat' first
      | exact h0 | apply State.hbmWrite_follows | apply State.updCmd_follows | apply State.copyEnd_follows
      | refine Follows.of_fst (by assumption) (State.hbmWrite_follows ?_) | apply Follows.ite | split

theorem State.loadRetry_follows {s0 : State} {s : State} (h0 : Follows s0 s) :
    Follows s0 (State.loadRetry s) := by
  unfold State.loadRetry
  with_reducible repeat' first | exact h0 | apply State.loadRead_follows | apply Follows.ite | split

theorem State.finishFree_follows {s0 : State} {s : State} {k : Nat} {q : Nat} {status : BitVec 8} (h0 : Follows s0 s) :
    Follows s0 (State.finishFree s k q status) := by
  unfold State.finishFree
  exact h0.trans ⟨rfl, SecFlow.refl _⟩

theorem State.waitPoll_follows {s0 : State} {s : State} {k : Nat} {q : Nat} {c : HostCmd} (h0 : Follows s0 s) :
    Follows s0 (State.waitPoll s k q c) := by
  unfold State.waitPoll
  with_reducible repeat' first
      | exact h0 | apply State.hbmRead_follows | apply State.finishCmd_follows | apply State.finishFree_follows
      | refine Follows.of_fst (by assumption) (State.hbmRead_follows ?_) | apply Follows.ite

theorem State.startCmd_follows {s0 : State} {s : State} {k : Nat} {q : Nat} {op : BitVec 8} {f : HostCmd → State → State} (hf : ∀ s0 y0 y1, Follows s0 y1 → Follows s0 (f y0 y1)) (h0 : Follows s0 s) :
    Follows s0 (State.startCmd s k q op f) := by
  unfold State.startCmd
  with_reducible repeat' first | exact h0 | apply State.updCmd_follows | apply hf | apply Follows.ite | split

theorem State.writeEntry_follows {s0 : State} {s : State} {k : Nat} {q : Nat} {c : HostCmd} {status : BitVec 8} {result : W64} (h0 : Follows s0 s) :
    Follows s0 (State.writeEntry s k q c status result) := by
  unfold State.writeEntry
  with_reducible repeat' first
      | exact h0 | apply State.emit_follows | apply State.sendMsix_follows | apply State.updHq_follows | apply Follows.ite

theorem State.configure_follows {s0 : State} {s : State} {port : Fin 4} {w : ConfigWrite} (h0 : Follows s0 s) :
    Follows s0 (State.configure s port w) := by
  unfold State.configure
  with_reducible repeat' first
      | exact h0 | apply State.emit_follows | apply State.updHp_follows | apply State.msixFlush_follows | apply State.hostPortReset_follows
      | apply Follows.ite | split

theorem execConfigurationWrite_follows {s0 : State} {port : Fin 4} {w : ConfigWrite} {s : State} {t : State} (ht : execConfigurationWrite port w s = .next t) (h0 : Follows s0 s) :
    Follows s0 t := by
  unfold execConfigurationWrite at ht; cases ht
  with_reducible repeat' first | exact h0 | apply State.emit_follows | apply State.configure_follows | apply Follows.ite

theorem State.copyOutNext_follows {s0 : State} {s : State} {k : Nat} {q : Nat} (h0 : Follows s0 s) :
    Follows s0 (State.copyOutNext s k q) := by
  unfold State.copyOutNext
  with_reducible repeat' first
      | exact h0 | apply State.hbmRead_follows | apply State.hostStore_follows | apply State.updCmd_follows | apply State.copyEnd_follows
      | refine Follows.of_fst (by assumption) (State.hbmRead_follows ?_) | apply Follows.ite | split

theorem execIdeIntegrityFail_follows {s0 : State} {port : Fin 4} {s : State} {t : State} (ht : execIdeIntegrityFail port s = .next t) (h0 : Follows s0 s) :
    Follows s0 t := by
  unfold execIdeIntegrityFail at ht; cases ht
  with_reducible repeat' first | exact h0 | apply State.updHp_follows | apply State.post_follows | apply Follows.ite

theorem execCmdWaitPoll_follows {s0 : State} {port : Fin 4} {queue : Fin 256} {s : State} {t : State} (ht : execCmdWaitPoll port queue s = .next t) (h0 : Follows s0 s) :
    Follows s0 t := by
  unfold execCmdWaitPoll at ht; cases ht
  with_reducible repeat' first | exact h0 | apply State.updCmd_follows | apply State.waitPoll_follows | apply Follows.ite | split

theorem State.completeCmd_follows {s0 : State} {s : State} {k : Nat} {q : Nat} {c : HostCmd} {status : BitVec 8} {result : W64} (h0 : Follows s0 s) :
    Follows s0 (State.completeCmd s k q c status result) := by
  unfold State.completeCmd
  with_reducible repeat' first | exact h0 | apply State.updHq_follows | apply State.writeEntry_follows | apply Follows.ite

theorem execCommandComplete_follows {s0 : State} {port : Fin 4} {queue : Fin 256} {s : State} {t : State} (ht : execCommandComplete port queue s = .next t) (h0 : Follows s0 s) :
    Follows s0 t := by
  unfold execCommandComplete at ht; cases ht
  with_reducible repeat' first
      | exact h0 | apply State.updCmd_follows | apply State.finishFree_follows | apply State.completeCmd_follows | apply Follows.ite | split

theorem execCommandFetch_follows {s0 : State} {port : Fin 4} {s : State} {t : State} (ht : execCommandFetch port s = .next t) (h0 : Follows s0 s) :
    Follows s0 t := by
  unfold execCommandFetch at ht; cases ht
  with_reducible repeat' first
      | (intro x; clear_value x) | (intro x) | exact Follows.refl _ | assumption | apply State.updHp_follows
      | refine Follows.trans ?_ (State.hostRead_follows (by assumption) (Follows.refl _)) | apply Follows.ite | dsimp -zeta only | lift_lets
      | split

theorem State.dropReq_follows {s0 : State} {s : State} {k : Nat} {tag : Nat} (h0 : Follows s0 s) :
    Follows s0 (State.dropReq s k tag) := by
  unfold State.dropReq
  exact h0.trans ⟨rfl, SecFlow.refl _⟩

theorem execHostCompletionTimeout_follows {s0 : State} {port : Fin 4} {tag : Nat} {s : State} {t : State} (ht : execHostCompletionTimeout port tag s = .next t) (h0 : Follows s0 s) :
    Follows s0 t := by
  unfold execHostCompletionTimeout at ht; cases ht
  with_reducible repeat' first
      | (intro x; refine_lift have hx : Follows s0 x := ?_; ?_; (on_goal 1 => clear_value x); (on_goal 2 => dsimp -zeta only [x]))
      | (intro x) | exact Follows.refl _ | assumption | apply State.updHp_follows | apply State.acuFetched_follows
      | apply State.failLoad_follows | apply State.copyPiece_follows | apply State.loadRetry_follows | apply State.dropReq_follows
      | apply Follows.ite | dsimp -zeta only | lift_lets | split

theorem State.fetched_follows {s0 s : State} {k q n : Nat} {bs : List Byte} (h0 : Follows s0 s) : Follows s0 (s.fetched k q n bs) := by
  induction n generalizing s bs with
  | zero => exact h0
  | succ n ih => exact ih (State.updHp_follows (State.updHq_follows h0))


theorem State.copy_follows {s0 : State} {s : State} {k : Nat} {q : Nat} {op : BitVec 8} {inward : Bool} {next : State → State} (hnext : ∀ s0 y0, Follows s0 y0 → Follows s0 (next y0)) (h0 : Follows s0 s) :
    Follows s0 (State.copy s k q op inward next) := by
  unfold State.copy
  with_reducible repeat' first
      | (intro x; clear_value x) | (intro x) | exact Follows.refl _ | assumption | apply State.finishCmd_follows
      | apply State.startCmd_follows | apply hnext | apply Follows.ite | dsimp -zeta only | lift_lets | split

theorem execCopyOut_follows {s0 : State} {port : Fin 4} {queue : Fin 256} {s : State} {t : State} (ht : execCopyOut port queue s = .next t) (h0 : Follows s0 s) :
    Follows s0 t := by
  unfold execCopyOut at ht; cases ht
  with_reducible repeat' first
      | (intro x; clear_value x) | (intro x) | exact Follows.refl _ | assumption | apply State.copyOutNext_follows
      | apply State.copy_follows

theorem State.imagePiece_follows {s0 : State} {s : State} {n : Nat} {off : Nat} {bs : List Byte} (h0 : Follows s0 s) :
    Follows s0 (State.imagePiece s n off bs) := by
  unfold State.imagePiece
  with_reducible repeat' first
      | exact h0 | apply State.updLoad_follows | apply State.loaderPut_follows | apply State.failLoad_follows | apply Follows.ite | split

theorem execHostReadCompletion_follows {s0 : State} {port : Fin 4} {tag : Nat} {data : List Byte} {s : State} {t : State} (ht : execHostReadCompletion port tag data s = .next t) (h0 : Follows s0 s) :
    Follows s0 t := by
  unfold execHostReadCompletion at ht; cases ht
  with_reducible repeat' first
      | exact h0 | apply State.copyPiece_follows | apply State.loadRetry_follows | apply State.dropReq_follows | apply State.fetched_follows
      | apply State.imagePiece_follows | apply Follows.ite | split

theorem execMsixCoalesceTimeout_follows {s0 : State} {port : Fin 4} {queue : Fin 256} {s : State} {t : State} (ht : execMsixCoalesceTimeout port queue s = .next t) (h0 : Follows s0 s) :
    Follows s0 t := by
  unfold execMsixCoalesceTimeout at ht; cases ht
  with_reducible repeat' first | exact h0 | apply State.sendMsix_follows | apply Follows.ite

theorem State.copyInNext_follows {s0 : State} {s : State} {k : Nat} {q : Nat} (h0 : Follows s0 s) :
    Follows s0 (State.copyInNext s k q) := by
  unfold State.copyInNext
  with_reducible repeat' first
      | exact h0 | apply State.updCmd_follows | refine Follows.trans ?_ (State.hostRead_follows (by assumption) (Follows.refl _))
      | apply Follows.ite | split

theorem execCopyIn_follows {s0 : State} {port : Fin 4} {queue : Fin 256} {s : State} {t : State} (ht : execCopyIn port queue s = .next t) (h0 : Follows s0 s) :
    Follows s0 t := by
  unfold execCopyIn at ht; cases ht
  with_reducible repeat' first
      | (intro x; clear_value x) | (intro x) | exact Follows.refl _ | assumption | apply State.copy_follows | apply State.copyInNext_follows

theorem execImageLoad_follows {s0 : State} {port : Fin 4} {queue : Fin 256} {s : State} {t : State} (ht : execImageLoad port queue s = .next t) (h0 : Follows s0 s) :
    Follows s0 t := by
  unfold execImageLoad at ht; cases ht
  with_reducible repeat' first
      | (intro x; clear_value x) | (intro x) | exact Follows.refl _ | assumption | apply State.finishCmd_follows
      | apply State.queueLoad_follows | apply State.startCmd_follows | apply Follows.ite

theorem execNop_follows {s0 : State} {port : Fin 4} {queue : Fin 256} {s : State} {t : State} (ht : execNop port queue s = .next t) (h0 : Follows s0 s) :
    Follows s0 t := by
  unfold execNop at ht; cases ht
  with_reducible repeat' first
      | (intro x; clear_value x) | (intro x) | exact Follows.refl _ | assumption | apply State.finishCmd_follows
      | apply State.startCmd_follows

theorem execHostLinkUp_follows {s0 : State} {port : Fin 4} {width : LinkWidth} {speed : BitVec 3} {flit : Bool} {s : State} {t : State} (ht : execHostLinkUp port width speed flit s = .next t) (h0 : Follows s0 s) :
    Follows s0 t := by
  unfold execHostLinkUp at ht; cases ht
  with_reducible repeat' first | exact h0 | apply State.updHp_follows | apply Follows.ite

theorem execCmdWait_follows {s0 : State} {port : Fin 4} {queue : Fin 256} {s : State} {t : State} (ht : execCmdWait port queue s = .next t) (h0 : Follows s0 s) :
    Follows s0 t := by
  unfold execCmdWait at ht; cases ht
  with_reducible repeat' first
      | (intro x; clear_value x) | (intro x) | exact Follows.refl _ | assumption | apply State.finishFree_follows
      | apply State.waitPoll_follows | apply State.startCmd_follows | apply Follows.ite

/-! ## Idle -/

theorem State.softError_follows {s0 : State} {s : State} (h0 : Follows s0 s) :
    Follows s0 (State.softError s) := by
  unfold State.softError
  with_reducible repeat' first
      | exact h0 | apply State.updSite_follows | apply State.draw_follows | apply State.updStack_follows | apply State.hwFault_follows
      | refine Follows.of_snd (by assumption) (State.draw_follows ?_) | apply Follows.ite | split

theorem State.fwGoOn_follows {s0 : State} {s : State} (h0 : Follows s0 s) :
    Follows s0 (State.fwGoOn s) := by
  unfold State.fwGoOn
  with_reducible repeat' first
      | (intro x; clear_value x) | (intro x) | exact Follows.refl _ | assumption | apply State.fwSwitch_follows
      | (apply Follows.lit; first | assumption | exact Follows.refl _ | apply State.fwSwitch_follows) | apply Follows.ite | dsimp -zeta only
      | lift_lets | split

theorem State.sramReport_follows {s0 : State} {s : State} (h0 : Follows s0 s) :
    Follows s0 (State.sramReport s) := by
  unfold State.sramReport
  with_reducible repeat' first | exact h0 | apply State.updSite_follows | apply State.hwFault_follows | apply Follows.ite | split

/-! ## Life-cycle requests -/

/-- The security state as any command may change it: at most one move of the life cycle, by R446. -/
structure SecStep (c d : Sec) : Prop where
  svn : ∀ i, (vget 0 c.svn i).toNat ≤ (vget 0 d.svn i).toNat
  fw : c.fwRevoked &&& d.fwRevoked = c.fwRevoked
  svc : c.svcRevoked &&& d.svcRevoked = c.svcRevoked
  lc : c.LcOk → d.LcOk ∧ (d.lc = c.lc ∨ (LcMay c.lc d.lc ∧ d.erasePending = false))

theorem LcMay.le {a b : BitVec 3} (h : LcMay a b) : b.toNat ≤ 4 := by
  rcases h with ⟨_, rfl⟩ | ⟨_, rfl⟩ | ⟨_, rfl⟩ | ⟨_, rfl⟩ | ⟨_, rfl⟩ | ⟨_, rfl⟩ <;> decide

theorem SecFlow.step {c d : Sec} (h : SecFlow c d) : SecStep c d := by
  refine ⟨h.svn, h.fw, h.svc, fun hc => ?_⟩
  obtain ⟨he, h⟩ := h.erase hc.erasing
  rcases h with ⟨a, b⟩ | ⟨a, b, e⟩
  · exact ⟨⟨by rw [a]; exact hc.le, he, fun p => by rw [a, (b p).2]; exact hc.pending (b p).1⟩, .inl a⟩
  · have hm := hc.pending a
    exact ⟨⟨by rw [b]; exact hm.le, he, fun p => by rw [e] at p; cases p⟩, .inr ⟨by rw [b]; exact hm, e⟩⟩

theorem SecStep.flow {c d e : Sec} (h : SecStep c d) (g : SecFlow d e) : SecStep c e := by
  refine ⟨fun i => (h.svn i).trans (g.svn i), ?_, ?_, fun hc => ?_⟩
  · have h1 := h.fw; have h2 := g.fw; rw [← h1, BitVec.and_assoc, h2]
  · have h1 := h.svc; have h2 := g.svc; rw [← h1, BitVec.and_assoc, h2]
  · obtain ⟨hd, m⟩ := h.lc hc
    obtain ⟨he, n⟩ := g.step.lc hd
    refine ⟨he, ?_⟩
    rcases m with m | ⟨m, p⟩
    · rw [← m]; exact n
    · obtain ⟨_, g⟩ := g.erase hd.erasing
      rcases g with ⟨a, b⟩ | ⟨a, _, _⟩
      · refine .inr ⟨by rw [a]; exact m, ?_⟩
        cases q : e.erasePending with
        | false => rfl
        | true => rw [p] at b; cases (b q).1
      · rw [p] at a; cases a

/-- t follows from s with at most one move of the life cycle. -/
structure Moves (s t : State) : Prop where
  pending : t.pending = s.pending
  sec : SecStep s.sec t.sec

theorem Follows.moves {s t : State} (h : Follows s t) : Moves s t := ⟨h.pending, h.sec.step⟩

theorem Moves.follows {s t u : State} (h : Moves s t) (g : Follows t u) : Moves s u := ⟨g.pending.trans h.pending, h.sec.flow g.sec⟩

theorem Moves.ite {c : Prop} [Decidable c] {s a b : State} (ha : Moves s a) (hb : Moves s b) : Moves s (if c then a else b) := by
  split <;> assumption

theorem Sec.endRequest_lcOk {c : Sec} {r : BitVec 3} (h : c.LcOk) : (c.endRequest r).LcOk := ⟨h.le, h.erasing, h.pending⟩

theorem State.secRun_moves {s : State} {op : Nat} {f : State → State} (hf : s.sec.stateOk = true → s.sec.objOp = op → Moves s (f s)) :
    Moves s (s.secRun op f) := by
  unfold State.secRun
  split
  · exact (Follows.refl s).moves
  split
  · exact (Follows.refl s).moves.follows ⟨rfl, by constructor <;> first | exact fun _ => Nat.le_refl _ | exact BitVec.and_self | exact fun h => ⟨h, .inl ⟨rfl, fun p => ⟨p, rfl⟩⟩⟩⟩
  · next h _ =>
    by_cases hr : s.secResult = 0
    · have hok : s.sec.stateOk = true := by
        cases e : s.sec.stateOk with
        | true => rfl
        | false =>
          unfold State.secResult at hr
          simp only [e] at hr
          revert hr
          repeat' split
          all_goals simp_all
      have h1 := hf hok (by by_contra e; exact h (.inr e))
      rw [hr]
      exact h1.follows (Follows.sec_ (Follows.refl _) Sec.endRequest_flow)
    · have e : (if s.secResult = 0 then f s else s) = s := if_neg hr
      show Moves s { (if s.secResult = 0 then f s else s) with sec := (if s.secResult = 0 then f s else s).sec.endRequest s.secResult }
      rw [e]
      exact (Follows.sec_ (Follows.refl _) Sec.endRequest_flow).moves

theorem Sec.stateOk_pending {c : Sec} (h : c.stateOk = true) : c.erasePending = false := by
  unfold Sec.stateOk at h
  cases e : c.erasePending with
  | false => rfl
  | true => rw [e] at h; cases h

theorem Sec.stateOk_lc {c : Sec} (h : c.stateOk = true) :
    (c.objOp = 1 → c.lc = 0) ∧ (c.objOp = 3 → c.lc = 1) ∧ (c.objOp = 4 → c.lc = 1 ∨ c.lc = 2) ∧ (c.objOp = 6 → c.lc = 3) ∧ (c.objOp = 7 → c.lc ≠ 4) := by
  unfold Sec.stateOk at h
  refine ⟨fun e => ?_, fun e => ?_, fun e => ?_, fun e => ?_, fun e => ?_⟩ <;> rw [e] at h <;> simp_all

theorem State.provision_moves {s : State} (h : s.sec.stateOk = true) (ho : s.sec.objOp = 1) : Moves s s.provision := by
  refine ⟨rfl, ⟨fun _ => Nat.le_refl _, BitVec.and_self, BitVec.and_self, fun hc => ⟨⟨show (1 : BitVec 3).toNat ≤ 4 by decide, hc.erasing, fun p => ?_⟩, .inr ⟨.inl ⟨?_, rfl⟩, ?_⟩⟩⟩⟩
  · exact absurd p (by rw [show s.provision.sec.erasePending = s.sec.erasePending from rfl, Sec.stateOk_pending h]; decide)
  · exact (Sec.stateOk_lc h).1 ho
  · exact show s.sec.erasePending = false from Sec.stateOk_pending h

theorem State.close_moves {s : State} (h : s.sec.stateOk = true) (ho : s.sec.objOp = 3) : Moves s s.close := by
  refine Moves.follows (t := { s with sec := { s.sec with lc := 2 } }) ?_ (State.closeTap_follows (Follows.refl _))
  refine ⟨rfl, ⟨fun _ => Nat.le_refl _, BitVec.and_self, BitVec.and_self, fun hc => ⟨⟨show (2 : BitVec 3).toNat ≤ 4 by decide, hc.erasing, fun p => ?_⟩, .inr ⟨.inr (.inl ⟨?_, rfl⟩), ?_⟩⟩⟩⟩
  · exact absurd p (by rw [Sec.stateOk_pending h]; decide)
  · exact (Sec.stateOk_lc h).2.1 ho
  · exact show s.sec.erasePending = false from Sec.stateOk_pending h

theorem State.eraseBegin_moves {s : State} {b : BitVec 3} (h : s.sec.LcOk → LcMay s.sec.lc b) : Moves s (s.eraseBegin b) :=
  ⟨rfl, ⟨fun _ => Nat.le_refl _, BitVec.and_self, BitVec.and_self, fun hc => ⟨⟨hc.le, fun _ => rfl, fun _ => h hc⟩, .inl rfl⟩⟩⟩

theorem State.secProvision_moves {s : State} : Moves s s.secProvision := State.secRun_moves (fun h ho => State.provision_moves h ho)

theorem State.secClose_moves {s : State} : Moves s s.secClose := State.secRun_moves (fun h ho => State.close_moves h ho)

theorem State.secReturn_moves {s : State} : Moves s s.secReturn := by
  refine (State.secRun_moves (fun h ho => State.eraseBegin_moves (fun _ => ?_))).follows (State.goOn_follows (Follows.refl _))
  rcases (Sec.stateOk_lc h).2.2.1 ho with e | e
  · exact .inr (.inr (.inl ⟨e, rfl⟩))
  · exact .inr (.inr (.inr (.inl ⟨e, rfl⟩)))

theorem State.secRefurbish_moves {s : State} : Moves s s.secRefurbish := by
  refine (State.secRun_moves (fun h ho => State.eraseBegin_moves (fun _ => ?_))).follows (State.goOn_follows (Follows.refl _))
  exact .inr (.inr (.inr (.inr (.inl ⟨(Sec.stateOk_lc h).2.2.2.1 ho, rfl⟩))))

theorem State.secRetire_moves {s : State} : Moves s s.secRetire := by
  refine (State.secRun_moves (fun h ho => State.eraseBegin_moves (fun hc => ?_))).follows (State.goOn_follows (Follows.refl _))
  have h4 := (Sec.stateOk_lc h).2.2.2.2 ho
  refine .inr (.inr (.inr (.inr (.inr ⟨?_, rfl⟩))))
  have : s.sec.lc.toNat ≠ 4 := fun e => h4 (BitVec.eq_of_toNat_eq e)
  have := hc.le
  omega

theorem State.secStart_moves {s : State} : Moves s s.secStart := by
  unfold State.secStart
  split
  · exact State.secProvision_moves
  · exact (State.secRotate_follows (Follows.refl _)).moves
  · exact State.secClose_moves
  · exact State.secReturn_moves
  · exact (State.secDebug_follows (Follows.refl _)).moves
  · exact State.secRefurbish_moves
  · exact State.secRetire_moves
  · exact (State.secRun_follows (fun _ _ h => h) (Follows.refl _)).moves

theorem Moves.follow {s t u : State} (h : t.sec = s.sec) (hp : t.pending = s.pending) (g : Moves t u) : Moves s u :=
  ⟨g.pending.trans hp, h ▸ g.sec⟩

theorem Moves.of_flags {s t : State} {b w : Bool} (h : Moves { s with sec := { s.sec with busy := b, waiting := w } } t) : Moves s t := by
  refine ⟨h.pending, ⟨h.sec.svn, h.sec.fw, h.sec.svc, fun hc => ?_⟩⟩
  have hs : ({ s.sec with busy := b, waiting := w } : Sec).LcOk := ⟨hc.le, hc.erasing, hc.pending⟩
  exact h.sec.lc hs

/-! ## Registers by address -/

theorem secReg_follows {off : Nat} (ho : off ≠ 0x50) : PlaceOk (secReg off) := by
  unfold secReg
  rw [if_neg ho]
  have hn : ∀ n, ∀ s0 s : State, Follows s0 s → Follows s0 (if n = 0 then s.nonceDraw else s) :=
    fun _ _ _ h => Follows.ite (State.nonceDraw_follows h) h
  refine PlaceOk.ite (PlaceOk.some (reg_follows (FieldsOk.cons ro_follows FieldsOk.nil))) ?_
  refine PlaceOk.ite (PlaceOk.some (reg_follows ?_)) ?_
  · exact FieldsOk.cons ro_follows (FieldsOk.cons ro_follows (FieldsOk.cons ro_follows (FieldsOk.cons ro_follows (FieldsOk.cons ro_follows FieldsOk.nil))))
  refine PlaceOk.ite (PlaceOk.some ⟨FieldsOk.cons ro_follows FieldsOk.nil, hn _, fun _ _ h => h⟩) ?_
  refine PlaceOk.ite (PlaceOk.some (reg_follows ?_)) ?_
  · exact FieldsOk.cons ro_follows (FieldsOk.cons ro_follows (FieldsOk.cons ro_follows FieldsOk.nil))
  refine PlaceOk.ite (PlaceOk.some (reg_follows (FieldsOk.cons ro_follows FieldsOk.nil))) ?_
  refine PlaceOk.ite (PlaceOk.some (reg_follows (FieldsOk.cons (wo_follows (fun _ _ _ h => ?_)) FieldsOk.nil))) PlaceOk.none
  exact Follows.sec_ h (SecFlow.of_eq rfl rfl rfl rfl rfl rfl rfl)

theorem moduleReg_follows {addr : Nat} (ha : addr ≠ 0x90050) : PlaceOk (moduleReg addr) := by
  unfold moduleReg
  split
  · exact PlaceOk.ite (PlaceOk.some (reg_follows (FieldsOk.cons ro_follows (FieldsOk.cons ro_follows FieldsOk.nil)))) PlaceOk.none
  · exact PlaceOk.ite (PlaceOk.some (reg_follows (FieldsOk.cons ro_follows FieldsOk.nil))) PlaceOk.none
  · exact fabGlobal_follows
  · exact imageReg_follows
  · exact panReg_follows
  · exact powerReg_follows
  · exact resetReg_follows
  · exact faultReg_follows
  · next h => exact secReg_follows (by omega)
  · exact PlaceOk.ite (PlaceOk.some syncReg_follows) PlaceOk.none
  · exact PlaceOk.none

/-- Every access to the place is an effect that follows. -/
structure SpotOk (p : Place) : Prop where
  all : ∀ r, p = .on r → PlaceOk r

theorem SpotOk.off : SpotOk .off := ⟨fun _ e => by cases e⟩

theorem SpotOk.on {r : Option Reg} (h : PlaceOk r) : SpotOk (.on r) := ⟨fun _ e => by cases e; exact h⟩

theorem SpotOk.ite {c : Prop} [Decidable c] {a b : Place} (ha : SpotOk a) (hb : SpotOk b) : SpotOk (if c then a else b) := by
  split <;> assumption

theorem State.regAt_follows {s : State} {addr : Nat} (ha : addr ≠ 0x90050) : SpotOk (s.regAt addr) := by
  unfold State.regAt
  refine SpotOk.ite (SpotOk.on (moduleReg_follows ha)) ?_
  refine SpotOk.ite (SpotOk.ite SpotOk.off (SpotOk.on hostReg_follows)) ?_
  refine SpotOk.ite (SpotOk.ite SpotOk.off (SpotOk.on pcReg_follows)) ?_
  refine SpotOk.ite (SpotOk.on State.stackReg_follows) ?_
  refine SpotOk.ite (SpotOk.on PlaceOk.none) ?_
  refine SpotOk.ite (SpotOk.ite SpotOk.off (SpotOk.on storeReg_follows)) ?_
  refine SpotOk.ite (SpotOk.ite (SpotOk.ite (SpotOk.on csrReg_follows) SpotOk.off) (SpotOk.on PlaceOk.none)) (SpotOk.on PlaceOk.none)

theorem State.regAt_start {s : State} : s.regAt 0x90050 = .on (some (reg [woCmd 0 (fun s => if s.sec.busy then s else s.secStart)])) := rfl

theorem State.regRead_follows {s0 s t : State} {addr : Nat} {h : Half} {v : W64} (e : s.regRead addr h = some (v, t)) (h0 : Follows s0 s) :
    Follows s0 t := by
  unfold State.regRead at e
  by_cases ha : wordAddr addr = 0x90050
  · rw [ha, State.regAt_start] at e
    cases e
    exact h0
  · have hs := State.regAt_follows (s := s) ha
    split at e
    · cases e
    · next r hr =>
      injection e with e
      have := Reg.readAt_follows (h := h) (hs.all _ hr) h0
      rw [e] at this
      exact this

theorem Reg.write_one_moves {s : State} {f : RegField} {h : Half} {v : W64} (hf : Moves s (f.write h v s)) :
    Moves s (Reg.writeAt (some (reg [f])) h v s) := hf

theorem woCmd_moves {s : State} {i : Nat} {f : State → State} {h : Half} {v : W64} (hf : Moves s (f s)) : Moves s ((woCmd i f).write h v s) := by
  have hq : Moves s s := (Follows.refl s).moves
  unfold RegField.write
  dsimp only [woCmd, wo]
  exact Moves.ite (Moves.ite hf hq) hq

theorem State.startReg_moves {s : State} {h : Half} {v : W64} :
    Moves s (Reg.writeAt (some (reg [woCmd 0 (fun s => if s.sec.busy then s else s.secStart)])) h v s) :=
  Reg.write_one_moves (woCmd_moves (Moves.ite (Follows.refl s).moves State.secStart_moves))

theorem State.regWrite_moves {s t : State} {addr : Nat} {h : Half} {v : W64} (e : s.regWrite addr h v = some t) : Moves s t := by
  unfold State.regWrite at e
  by_cases ha : wordAddr addr = 0x90050
  · rw [ha, State.regAt_start] at e
    cases e
    exact State.startReg_moves
  · have hs := State.regAt_follows (s := s) ha
    split at e
    · cases e
    · next r hr =>
      cases e
      exact (Reg.writeAt_follows (hs.all _ hr) (Follows.refl _)).moves

theorem execRegWrite_moves {s t : State} {addr : W64} {four : Bool} {v : W64} (ht : execRegWrite addr four v s = .next t) : Moves s t := by
  unfold execRegWrite at ht
  injection ht with ht
  subst ht
  refine Moves.ite ?_ (Follows.refl s).moves
  cases e : s.regWrite addr.toNat (halfOf addr.toNat four) v with
  | none => exact (Follows.refl s).moves
  | some t => exact State.regWrite_moves e

theorem execRcRead_follows {s0 s t : State} {addr : W64} {four : Bool} (ht : execRcRead addr four s = .next t) (h0 : Follows s0 s) : Follows s0 t := by
  unfold execRcRead at ht
  injection ht with ht
  subst ht
  refine Follows.ite ?_ h0
  split
  · exact h0
  · next e => exact State.emit_follows (State.regRead_follows e h0)

theorem State.bar0Read_follows {s0 s : State} {p : Fin 4} {addr len : Nat} (h0 : Follows s0 s) : Follows s0 (s.bar0Read p addr len) := by
  unfold State.bar0Read
  refine Follows.ite (State.refuseAccess_follows h0) ?_
  split
  · exact State.emit_follows (State.updHp_follows h0)
  · next e => exact State.emit_follows (State.regRead_follows e h0)

theorem State.bar0Write_moves {s : State} {p : Fin 4} {addr : Nat} {bs : List Byte} : Moves s (s.bar0Write p addr bs) := by
  have h0 := Follows.refl s
  unfold State.bar0Write
  refine Moves.ite (Follows.ite (State.apertureWrite_follows h0) (State.refuseAccess_follows h0)).moves ?_
  refine Moves.ite ?_ (State.refuseAccess_follows h0).moves
  split
  · exact (State.updHp_follows h0).moves
  · next e => exact State.regWrite_moves e

theorem State.runRegister_moves {s : State} {p : Fin 4} {addr : Option Nat} {a : BarAccess} : Moves s (s.runRegister p addr a) := by
  have h0 := Follows.refl s
  unfold State.runRegister
  split
  · exact (State.emit_follows h0).moves
  · exact h0.moves
  · exact (State.bar0Read_follows h0).moves
  · exact State.bar0Write_moves

theorem State.runAccess_moves {s : State} {p : Fin 4} {a : HostAccess} : Moves s (s.runAccess p a) := by
  have h0 := Follows.refl s
  cases a <;> unfold State.runAccess
  case register addr a => exact State.runRegister_moves
  case doorbell q h v => exact (State.updHq_follows h0).moves
  case doorbellRead n => exact (State.emit_follows h0).moves
  case hbmRead addr n => exact (State.runHbmRead_follows h0).moves
  case hbmWrite addr bs => exact (State.runHbmWrite_follows h0).moves

theorem State.hostPump_moves {s : State} {p : Fin 4} : Moves s (s.hostPump p) := by
  unfold State.hostPump
  split
  · exact (Follows.refl s).moves
  · refine Moves.ite ?_ (Follows.refl s).moves
    refine Moves.follow ?_ ?_ State.runAccess_moves <;> rfl

theorem State.hostAccept_moves {s : State} {p : Fin 4} {a : HostAccess} : Moves s (s.hostAccept p a) := by
  unfold State.hostAccept
  refine Moves.ite State.runAccess_moves (Moves.ite (Follows.refl s).moves ?_)
  refine Moves.follow ?_ ?_ State.hostPump_moves <;> rfl

theorem State.hostRequest_moves {s : State} {p : Fin 4} {r : Bool} {f : HostPort → Option HostAccess} : Moves s (s.hostRequest p r f) := by
  have h0 := Follows.refl s
  unfold State.hostRequest
  extract_lets h
  refine Moves.ite h0.moves (Moves.ite (State.refuseAccess_follows h0).moves ?_)
  split
  · exact (State.refuseAccess_follows h0).moves
  · exact State.hostAccept_moves

theorem execSqTailDoorbell_moves {s t : State} {p : Fin 4} {q : Fin 256} {v : BitVec 16} (ht : execSqTailDoorbell p q v s = .next t) :
    Moves s t := by
  cases ht; exact State.hostRequest_moves

theorem execCqHeadDoorbell_moves {s t : State} {p : Fin 4} {q : Fin 256} {v : BitVec 16} (ht : execCqHeadDoorbell p q v s = .next t) :
    Moves s t := by
  cases ht; exact State.hostRequest_moves

theorem execBar0Access_moves {s t : State} {p : Fin 4} {addr : W64} {a : BarAccess} (ht : execBar0Access p addr a s = .next t) : Moves s t := by
  cases ht; exact State.hostRequest_moves

theorem execBar4Read_moves {s t : State} {p : Fin 4} {addr : W64} {n : Nat} (ht : execBar4Read p addr n s = .next t) : Moves s t := by
  cases ht; exact State.hostRequest_moves

theorem execBar4Write_moves {s t : State} {p : Fin 4} {addr : W64} {bs : List Byte} (ht : execBar4Write p addr bs s = .next t) : Moves s t := by
  cases ht; exact Moves.ite (Follows.refl s).moves State.hostRequest_moves

theorem State.hostAnswered_moves {s : State} {p : Fin 4} {q : Packet} : Moves s (s.hostAnswered p q) := by
  refine Moves.follow ?_ ?_ State.hostPump_moves <;> rfl

theorem execAckArrive_moves {s t : State} {n : Node} {p : Packet} (ht : execAckArrive n p s = .next t) : Moves s t := by
  have h0 := Follows.refl s
  unfold execAckArrive at ht
  injection ht with ht
  subst ht
  refine Moves.ite ?_ h0.moves
  split
  · exact (State.ackUnit_follows h0).moves
  · exact (Follows.ite (State.grantAnswered_follows (State.takeAt_follows h0)) (State.takeAt_follows h0)).moves
  · refine Moves.follow ?_ ?_ State.hostAnswered_moves <;> rfl
  · exact (State.takeAt_follows h0).moves

theorem execCompletionArrive_moves {s t : State} {n : Node} {p : Packet} (ht : execCompletionArrive n p s = .next t) : Moves s t := by
  have h0 := Follows.refl s
  unfold execCompletionArrive at ht
  injection ht with ht
  subst ht
  refine Moves.ite ?_ h0.moves
  split
  · exact (State.completionUnit_follows h0).moves
  · exact (State.grantAnswered_follows (State.takeAt_follows h0)).moves
  · refine Moves.follow ?_ ?_ State.hostAnswered_moves <;> rfl
  · exact (State.takeAt_follows h0).moves

theorem State.idle_moves {s : State} : Moves s s.idle := by
  unfold State.idle
  split
  · exact (State.goOn_follows (Follows.refl s)).moves
  split
  · exact State.hostPump_moves
  · exact Moves.ite (Moves.of_flags State.secStart_moves)
      (State.softError_follows (State.startLoads_follows (State.fwGoOn_follows (State.sramReport_follows (Follows.refl s))))).moves

theorem execCsrRead_follows {s0 s t : State} {p : Fin 4} {q : Fin 256} (ht : execCsrRead p q s = .next t) (h0 : Follows s0 s) : Follows s0 t := by
  unfold execCsrRead at ht
  injection ht with ht
  subst ht
  refine State.startCmd_follows (fun s0 c s h => ?_) h0
  refine Follows.ite ?_ (State.finishFree_follows h)
  split
  · exact State.finishFree_follows h
  · next e => exact State.finishCmd_follows (State.regRead_follows e h)

theorem execCsrWrite_moves {s t : State} {p : Fin 4} {q : Fin 256} (ht : execCsrWrite p q s = .next t) : Moves s t := by
  have h0 := Follows.refl s
  unfold execCsrWrite at ht
  injection ht with ht
  subst ht
  unfold State.startCmd
  split
  · exact h0.moves
  · refine Moves.ite ?_ h0.moves
    refine Moves.ite ?_ (State.finishCmd_follows (State.updCmd_follows h0)).moves
    split
    · exact (State.finishCmd_follows (State.updCmd_follows h0)).moves
    · next e =>
      have h := State.regWrite_moves e
      have h : Moves s _ := ⟨h.pending, h.sec⟩
      exact h.follows (State.finishCmd_follows (Follows.refl _))

theorem execProvisionOwner_moves {s t : State} (ht : execProvisionOwner s = .next t) : Moves s t := by
  unfold execProvisionOwner at ht
  injection ht with ht
  subst ht
  exact State.secProvision_moves

theorem execClose_moves {s t : State} (ht : execClose s = .next t) : Moves s t := by
  unfold execClose at ht
  injection ht with ht
  subst ht
  exact State.secClose_moves

theorem execReturnReq_moves {s t : State} (ht : execReturnReq s = .next t) : Moves s t := by
  unfold execReturnReq at ht
  injection ht with ht
  subst ht
  exact State.secReturn_moves

theorem execRefurbish_moves {s t : State} (ht : execRefurbish s = .next t) : Moves s t := by
  unfold execRefurbish at ht
  injection ht with ht
  subst ht
  exact State.secRefurbish_moves

theorem execRetire_moves {s t : State} (ht : execRetire s = .next t) : Moves s t := by
  unfold execRetire at ht
  injection ht with ht
  subst ht
  exact State.secRetire_moves

end Sys2Proof.Machine
end

