-- ==== Sys2Proof/Laws/FlowExec.lean ====
section
/-! SUPPORT. Laws/FlowExec.lean: what every command keeps. -/

namespace Sys2Proof.Machine

/-- Whatever the command, the queue of waiting commands stays, and the security state moves as SecStep says. -/
theorem exec_moves {i : Instr} {s t : State} (h : exec i s = .next t) : Moves s t := by
  cases i with
  | add => exact (execAdd_follows h (Follows.refl s)).moves
  | sub => exact (execSub_follows h (Follows.refl s)).moves
  | and => exact (execAnd_follows h (Follows.refl s)).moves
  | or => exact (execOr_follows h (Follows.refl s)).moves
  | xor => exact (execXor_follows h (Follows.refl s)).moves
  | shl => exact (execShl_follows h (Follows.refl s)).moves
  | shr => exact (execShr_follows h (Follows.refl s)).moves
  | sar => exact (execSar_follows h (Follows.refl s)).moves
  | slt => exact (execSlt_follows h (Follows.refl s)).moves
  | sltu => exact (execSltu_follows h (Follows.refl s)).moves
  | mul => exact (execMul_follows h (Follows.refl s)).moves
  | mulh => exact (execMulh_follows h (Follows.refl s)).moves
  | addi => exact (execAddi_follows h (Follows.refl s)).moves
  | andi => exact (execAndi_follows h (Follows.refl s)).moves
  | ori => exact (execOri_follows h (Follows.refl s)).moves
  | xori => exact (execXori_follows h (Follows.refl s)).moves
  | slti => exact (execSlti_follows h (Follows.refl s)).moves
  | shi => exact (execShi_follows h (Follows.refl s)).moves
  | lui => exact (execLui_follows h (Follows.refl s)).moves
  | luih => exact (execLuih_follows h (Follows.refl s)).moves
  | load => exact (execLoad_follows h (Follows.refl s)).moves
  | store => exact (execStore_follows h (Follows.refl s)).moves
  | beq => exact (execBeq_follows h (Follows.refl s)).moves
  | bne => exact (execBne_follows h (Follows.refl s)).moves
  | blt => exact (execBlt_follows h (Follows.refl s)).moves
  | bge => exact (execBge_follows h (Follows.refl s)).moves
  | bltu => exact (execBltu_follows h (Follows.refl s)).moves
  | bgeu => exact (execBgeu_follows h (Follows.refl s)).moves
  | jal => exact (execJal_follows h (Follows.refl s)).moves
  | jr => exact (execJr_follows h (Follows.refl s)).moves
  | qpush => exact (execQpush_follows h (Follows.refl s)).moves
  | qload => exact (execQload_follows h (Follows.refl s)).moves
  | wait => exact (execWait_follows h (Follows.refl s)).moves
  | sqpop => exact (execSqpop_follows h (Follows.refl s)).moves
  | sqcnt => exact (execSqcnt_follows h (Follows.refl s)).moves
  | csrr => exact (execCsrr_follows h (Follows.refl s)).moves
  | csrw => exact (execCsrw_follows h (Follows.refl s)).moves
  | yield => exact (execYield_follows h (Follows.refl s)).moves
  | halt => exact (execHalt_follows h (Follows.refl s)).moves
  | queueSpaceResume => exact (execQueueSpaceResume_follows h (Follows.refl s)).moves
  | waitRelease => exact (execWaitRelease_follows h (Follows.refl s)).moves
  | sqpopResume => exact (execSqpopResume_follows h (Follows.refl s)).moves
  | taskStart => exact (execTaskStart_follows h (Follows.refl s)).moves
  | taskStop => exact (execTaskStop_follows h (Follows.refl s)).moves
  | haltAll => exact (execHaltAll_follows h (Follows.refl s)).moves
  | slotStopDone => exact (execSlotStopDone_follows h (Follows.refl s)).moves
  | queueEntryComplete => exact (execQueueEntryComplete_follows h (Follows.refl s)).moves
  | engineHang => exact (execEngineHang_follows h (Follows.refl s)).moves
  | dmaRead => exact (execDmaRead_follows h (Follows.refl s)).moves
  | dmaWrite => exact (execDmaWrite_follows h (Follows.refl s)).moves
  | dmaPut => exact (execDmaPut_follows h (Follows.refl s)).moves
  | dmaGather => exact (execDmaGather_follows h (Follows.refl s)).moves
  | dmaAtomic => exact (execDmaAtomic_follows h (Follows.refl s)).moves
  | dmaCompletion => exact (execDmaCompletion_follows h (Follows.refl s)).moves
  | readRspArrive => exact (execReadRspArrive_follows h (Follows.refl s)).moves
  | putArrive => exact (execPutArrive_follows h (Follows.refl s)).moves
  | ackArrive => exact execAckArrive_moves h
  | completionArrive => exact execCompletionArrive_moves h
  | ctrlMsgArrive => exact (execCtrlMsgArrive_follows h (Follows.refl s)).moves
  | mma => exact (execMma_follows h (Follows.refl s)).moves
  | drain => exact (execDrain_follows h (Follows.refl s)).moves
  | zero => exact (execZero_follows h (Follows.refl s)).moves
  | ldtab => exact (execLdtab_follows h (Follows.refl s)).moves
  | accDrainStart => exact (execAccDrainStart_follows h (Follows.refl s)).moves
  | vnop => exact (execVnop_follows h (Follows.refl s)).moves
  | vsetvl => exact (execVsetvl_follows h (Follows.refl s)).moves
  | vadd => exact (execVadd_follows h (Follows.refl s)).moves
  | vsub => exact (execVsub_follows h (Follows.refl s)).moves
  | vmul => exact (execVmul_follows h (Follows.refl s)).moves
  | vfma => exact (execVfma_follows h (Follows.refl s)).moves
  | vmin => exact (execVmin_follows h (Follows.refl s)).moves
  | vmax => exact (execVmax_follows h (Follows.refl s)).moves
  | vabs => exact (execVabs_follows h (Follows.refl s)).moves
  | vneg => exact (execVneg_follows h (Follows.refl s)).moves
  | vand => exact (execVand_follows h (Follows.refl s)).moves
  | vor => exact (execVor_follows h (Follows.refl s)).moves
  | vxor => exact (execVxor_follows h (Follows.refl s)).moves
  | vshl => exact (execVshl_follows h (Follows.refl s)).moves
  | vshr => exact (execVshr_follows h (Follows.refl s)).moves
  | vsar => exact (execVsar_follows h (Follows.refl s)).moves
  | vcvt => exact (execVcvt_follows h (Follows.refl s)).moves
  | vsel => exact (execVsel_follows h (Follows.refl s)).moves
  | vmov => exact (execVmov_follows h (Follows.refl s)).moves
  | vexp2 => exact (execVexp2_follows h (Follows.refl s)).moves
  | vlog2 => exact (execVlog2_follows h (Follows.refl s)).moves
  | vrcp => exact (execVrcp_follows h (Follows.refl s)).moves
  | vrsqrt => exact (execVrsqrt_follows h (Follows.refl s)).moves
  | vcmpeq => exact (execVcmpeq_follows h (Follows.refl s)).moves
  | vcmpne => exact (execVcmpne_follows h (Follows.refl s)).moves
  | vcmplt => exact (execVcmplt_follows h (Follows.refl s)).moves
  | vcmple => exact (execVcmple_follows h (Follows.refl s)).moves
  | vcmpgt => exact (execVcmpgt_follows h (Follows.refl s)).moves
  | vcmpge => exact (execVcmpge_follows h (Follows.refl s)).moves
  | vcmpun => exact (execVcmpun_follows h (Follows.refl s)).moves
  | pand => exact (execPand_follows h (Follows.refl s)).moves
  | por => exact (execPor_follows h (Follows.refl s)).moves
  | pxor => exact (execPxor_follows h (Follows.refl s)).moves
  | pnot => exact (execPnot_follows h (Follows.refl s)).moves
  | psetl => exact (execPsetl_follows h (Follows.refl s)).moves
  | pclrl => exact (execPclrl_follows h (Follows.refl s)).moves
  | pfill => exact (execPfill_follows h (Follows.refl s)).moves
  | ptest => exact (execPtest_follows h (Follows.refl s)).moves
  | vperm => exact (execVperm_follows h (Follows.refl s)).moves
  | vbcl => exact (execVbcl_follows h (Follows.refl s)).moves
  | vrot => exact (execVrot_follows h (Follows.refl s)).moves
  | vred => exact (execVred_follows h (Follows.refl s)).moves
  | vtest => exact (execVtest_follows h (Follows.refl s)).moves
  | vld => exact (execVld_follows h (Follows.refl s)).moves
  | vst => exact (execVst_follows h (Follows.refl s)).moves
  | vst4 => exact (execVst4_follows h (Follows.refl s)).moves
  | pld => exact (execPld_follows h (Follows.refl s)).moves
  | pst => exact (execPst_follows h (Follows.refl s)).moves
  | tld => exact (execTld_follows h (Follows.refl s)).moves
  | tst => exact (execTst_follows h (Follows.refl s)).moves
  | tget => exact (execTget_follows h (Follows.refl s)).moves
  | tput => exact (execTput_follows h (Follows.refl s)).moves
  | tred => exact (execTred_follows h (Follows.refl s)).moves
  | topv => exact (execTopv_follows h (Follows.refl s)).moves
  | topt => exact (execTopt_follows h (Follows.refl s)).moves
  | tzero => exact (execTzero_follows h (Follows.refl s)).moves
  | tcopy => exact (execTcopy_follows h (Follows.refl s)).moves
  | tmaskz => exact (execTmaskz_follows h (Follows.refl s)).moves
  | spadAgeGrant => exact (execSpadAgeGrant_follows h (Follows.refl s)).moves
  | scratchpadClearDone => exact (execScratchpadClearDone_follows h (Follows.refl s)).moves
  | noiseReseed => exact (execNoiseReseed_follows h (Follows.refl s)).moves
  | noiseSeed => exact (execNoiseSeed_follows h (Follows.refl s)).moves
  | noiseAutoReseed => exact (execNoiseAutoReseed_follows h (Follows.refl s)).moves
  | noiseHealthFail => exact (execNoiseHealthFail_follows h (Follows.refl s)).moves
  | routerForward => exact (execRouterForward_follows h (Follows.refl s)).moves
  | combineHoldExpire => exact (execCombineHoldExpire_follows h (Follows.refl s)).moves
  | outputGrant => exact (execOutputGrant_follows h (Follows.refl s)).moves
  | routerAgeGrant => exact (execRouterAgeGrant_follows h (Follows.refl s)).moves
  | dsetFork => exact (execDsetFork_follows h (Follows.refl s)).moves
  | creditReturn => exact (execCreditReturn_follows h (Follows.refl s)).moves
  | seamLinkRetry site port => exact (execSeamLinkRetry_follows (_site := site) (_port := port) h (Follows.refl s)).moves
  | livenessSend => exact (execLivenessSend_follows h (Follows.refl s)).moves
  | livenessArrive => exact (execLivenessArrive_follows h (Follows.refl s)).moves
  | livenessLost => exact (execLivenessLost_follows h (Follows.refl s)).moves
  | routeAuditDone => exact (execRouteAuditDone_follows h (Follows.refl s)).moves
  | hbmReadReq => exact (execHbmReadReq_follows h (Follows.refl s)).moves
  | mergeClose => exact (execMergeClose_follows h (Follows.refl s)).moves
  | hbmWrite => exact (execHbmWrite_follows h (Follows.refl s)).moves
  | hbmDeviceAccessDone => exact (execHbmDeviceAccessDone_follows h (Follows.refl s)).moves
  | addI32 => exact (execAddI32_follows h (Follows.refl s)).moves
  | addF32 => exact (execAddF32_follows h (Follows.refl s)).moves
  | addBf16 => exact (execAddBf16_follows h (Follows.refl s)).moves
  | minI32 => exact (execMinI32_follows h (Follows.refl s)).moves
  | maxI32 => exact (execMaxI32_follows h (Follows.refl s)).moves
  | minF32 => exact (execMinF32_follows h (Follows.refl s)).moves
  | maxF32 => exact (execMaxF32_follows h (Follows.refl s)).moves
  | swap => exact (execSwap_follows h (Follows.refl s)).moves
  | cas => exact (execCas_follows h (Follows.refl s)).moves
  | hbmRefresh stack bank => exact (execHbmRefresh_follows (_stack := stack) (_bank := bank) h (Follows.refl s)).moves
  | hbmTempSample => exact (execHbmTempSample_follows h (Follows.refl s)).moves
  | hbmPwrOn => exact (execHbmPwrOn_follows h (Follows.refl s)).moves
  | hbmPwrRetain => exact (execHbmPwrRetain_follows h (Follows.refl s)).moves
  | hbmPwrOff => exact (execHbmPwrOff_follows h (Follows.refl s)).moves
  | hbmBankDrained => exact (execHbmBankDrained_follows h (Follows.refl s)).moves
  | hbmDrainForced => exact (execHbmDrainForced_follows h (Follows.refl s)).moves
  | hbmBankOpened => exact (execHbmBankOpened_follows h (Follows.refl s)).moves
  | rmcStackOnRequest => exact (execRmcStackOnRequest_follows h (Follows.refl s)).moves
  | rmcStackTempSample => exact (execRmcStackTempSample_follows h (Follows.refl s)).moves
  | stackInitDone => exact (execStackInitDone_follows h (Follows.refl s)).moves
  | wsKick => exact (execWsKick_follows h (Follows.refl s)).moves
  | wsDescStart => exact (execWsDescStart_follows h (Follows.refl s)).moves
  | wsRetryDelay => exact (execWsRetryDelay_follows h (Follows.refl s)).moves
  | wsDescComplete => exact (execWsDescComplete_follows h (Follows.refl s)).moves
  | tempoEnd => exact (execTempoEnd_follows h (Follows.refl s)).moves
  | tempoAdvance => exact (execTempoAdvance_follows h (Follows.refl s)).moves
  | tempoWrite => exact (execTempoWrite_follows h (Follows.refl s)).moves
  | tempoStopArm => exact (execTempoStopArm_follows h (Follows.refl s)).moves
  | panStopTarget => exact (execPanStopTarget_follows h (Follows.refl s)).moves
  | tempoTargetArrive => exact (execTempoTargetArrive_follows h (Follows.refl s)).moves
  | panStopped => exact (execPanStoppedGoOn_follows h (Follows.refl s)).moves
  | panForcedStop => exact (execPanForcedStop_follows h (Follows.refl s)).moves
  | panRun => exact (execPanRun_follows h (Follows.refl s)).moves
  | panStop => exact (execPanStop_follows h (Follows.refl s)).moves
  | panForce => exact (execPanForce_follows h (Follows.refl s)).moves
  | acuWrite => exact (execAcuWrite_follows h (Follows.refl s)).moves
  | acuRead => exact (execAcuRead_follows h (Follows.refl s)).moves
  | acuRecordSent => exact (execAcuRecordSent_follows h (Follows.refl s)).moves
  | acuRecordFetched => exact (execAcuRecordFetched_follows h (Follows.refl s)).moves
  | redOpen => exact (execRedOpen_follows h (Follows.refl s)).moves
  | redStart => exact (execRedStart_follows h (Follows.refl s)).moves
  | redClose => exact (execRedClose_follows h (Follows.refl s)).moves
  | redAbort => exact (execRedAbort_follows h (Follows.refl s)).moves
  | grantArrive => exact (execGrantArrive_follows h (Follows.refl s)).moves
  | grantRetry => exact (execGrantRetry_follows h (Follows.refl s)).moves
  | pcReduceArrive => exact (execPcReduceArrive_follows h (Follows.refl s)).moves
  | upArrive => exact (execUpArrive_follows h (Follows.refl s)).moves
  | downArrive => exact (execDownArrive_follows h (Follows.refl s)).moves
  | shadowUpArrive => exact (execShadowUpArrive_follows h (Follows.refl s)).moves
  | shadowDownArrive => exact (execShadowDownArrive_follows h (Follows.refl s)).moves
  | shadowCopyArrive => exact (execShadowCopyArrive_follows h (Follows.refl s)).moves
  | passComplete => exact (execPassComplete_follows h (Follows.refl s)).moves
  | shortfallTimeout => exact (execShortfallTimeout_follows h (Follows.refl s)).moves
  | downTimeout => exact (execDownTimeout_follows h (Follows.refl s)).moves
  | ueTasksQueued => exact (execUeTasksQueued_follows h (Follows.refl s)).moves
  | ueTaskStart => exact (execUeTaskStart_follows h (Follows.refl s)).moves
  | ueBarrier => exact (execUeBarrier_follows h (Follows.refl s)).moves
  | ueRelease => exact (execUeRelease_follows h (Follows.refl s)).moves
  | ueReleaseLine => exact (execUeReleaseLine_follows h (Follows.refl s)).moves
  | ueAbandon => exact (execUeAbandon_follows h (Follows.refl s)).moves
  | layerEntryWrite => exact (execLayerEntryWrite_follows h (Follows.refl s)).moves
  | acuSetWrite => exact (execAcuSetWrite_follows h (Follows.refl s)).moves
  | flitReceive => exact (execFlitReceive_follows h (Follows.refl s)).moves
  | nakRepeat => exact (execNakRepeat_follows h (Follows.refl s)).moves
  | replayTimeout => exact (execReplayTimeout_follows h (Follows.refl s)).moves
  | pcsLockLost => exact (execPcsLockLost_follows h (Follows.refl s)).moves
  | linkctlExchange => exact (execLinkctlExchange_follows h (Follows.refl s)).moves
  | portEnableWrite => exact (execPortEnableWrite_follows h (Follows.refl s)).moves
  | portRetrain => exact (execPortRetrain_follows h (Follows.refl s)).moves
  | fabricPacketRoute => exact (execFabricPacketRoute_follows h (Follows.refl s)).moves
  | answerTimeout => exact (execAnswerTimeout_follows h (Follows.refl s)).moves
  | wwrite => exact (execWwrite_follows h (Follows.refl s)).moves
  | wackArrive => exact (execWackArrive_follows h (Follows.refl s)).moves
  | sendChannelWrite => exact (execSendChannelWrite_follows h (Follows.refl s)).moves
  | winOpen => exact (execWinOpen_follows h (Follows.refl s)).moves
  | winClose => exact (execWinClose_follows h (Follows.refl s)).moves
  | winClosed => exact (execWinClosed_follows h (Follows.refl s)).moves
  | routeToken => exact (execRouteToken_follows h (Follows.refl s)).moves
  | routeEnd => exact (execRouteEnd_follows h (Follows.refl s)).moves
  | routeReturn => exact (execRouteReturn_follows h (Follows.refl s)).moves
  | tokenArrive => exact (execTokenArrive_follows h (Follows.refl s)).moves
  | resultArrive => exact (execResultArrive_follows h (Follows.refl s)).moves
  | tackArrive => exact (execTackArrive_follows h (Follows.refl s)).moves
  | ctrlPacketArrive => exact (execCtrlPacketArrive_follows h (Follows.refl s)).moves
  | heartbeatSend => exact (execHeartbeatSend_follows h (Follows.refl s)).moves
  | heartbeatArrive => exact (execHeartbeatArrive_follows h (Follows.refl s)).moves
  | moduleLost => exact (execModuleLost_follows h (Follows.refl s)).moves
  | fwdCommit => exact (execFwdCommit_follows h (Follows.refl s)).moves
  | moduleFenceWrite => exact (execModuleFenceWrite_follows h (Follows.refl s)).moves
  | storeRead => exact (execStoreRead_follows h (Follows.refl s)).moves
  | storeWrite => exact (execStoreWrite_follows h (Follows.refl s)).moves
  | storePageDone => exact (execStorePageDone_follows h (Follows.refl s)).moves
  | format => exact (execFormat_follows h (Follows.refl s)).moves
  | mount => exact (execMount_follows h (Follows.refl s)).moves
  | unmount => exact (execUnmount_follows h (Follows.refl s)).moves
  | harvestOpen => exact (execHarvestOpen_follows h (Follows.refl s)).moves
  | harvestCommit => exact (execHarvestCommit_follows h (Follows.refl s)).moves
  | harvestDrop => exact (execHarvestDrop_follows h (Follows.refl s)).moves
  | sanitize => exact (execSanitize_follows h (Follows.refl s)).moves
  | trim => exact (execTrim_follows h (Follows.refl s)).moves
  | storeCmdDone => exact (execStoreCmdDoneGoOn_follows h (Follows.refl s)).moves
  | harvestCommitDone => exact (execHarvestCommitDone_follows h (Follows.refl s)).moves
  | cartridgeInsert => exact (execCartridgeInsert_follows h (Follows.refl s)).moves
  | cartridgeRemove => exact (execCartridgeRemoveGoOn_follows h (Follows.refl s)).moves
  | cartridgeTempSample => exact (execCartridgeTempSample_follows h (Follows.refl s)).moves
  | scrubAgeTick => exact (execScrubAgeTick_follows h (Follows.refl s)).moves
  | scrubBlock => exact (execScrubBlock_follows h (Follows.refl s)).moves
  | wearLevel => exact (execWearLevel_follows h (Follows.refl s)).moves
  | retryTableSave => exact (execRetryTableSave_follows h (Follows.refl s)).moves
  | sqTailDoorbell => exact execSqTailDoorbell_moves h
  | cqHeadDoorbell => exact execCqHeadDoorbell_moves h
  | commandFetch => exact (execCommandFetch_follows h (Follows.refl s)).moves
  | nop => exact (execNop_follows h (Follows.refl s)).moves
  | copyIn => exact (execCopyIn_follows h (Follows.refl s)).moves
  | copyOut => exact (execCopyOut_follows h (Follows.refl s)).moves
  | csrWrite => exact execCsrWrite_moves h
  | csrRead => exact (execCsrRead_follows h (Follows.refl s)).moves
  | imageLoad => exact (execImageLoad_follows h (Follows.refl s)).moves
  | cmdWait => exact (execCmdWait_follows h (Follows.refl s)).moves
  | cmdWaitPoll => exact (execCmdWaitPoll_follows h (Follows.refl s)).moves
  | commandComplete => exact (execCommandComplete_follows h (Follows.refl s)).moves
  | msixCoalesceTimeout => exact (execMsixCoalesceTimeout_follows h (Follows.refl s)).moves
  | bar4Read => exact execBar4Read_moves h
  | bar4Write => exact execBar4Write_moves h
  | bar0Access => exact execBar0Access_moves h
  | hostCompletionTimeout => exact (execHostCompletionTimeout_follows h (Follows.refl s)).moves
  | hostPortReset => exact (execHostPortReset_follows h (Follows.refl s)).moves
  | ideIntegrityFail => exact (execIdeIntegrityFail_follows h (Follows.refl s)).moves
  | imageStaged => exact (execImageStaged_follows h (Follows.refl s)).moves
  | imageApply => exact (execImageApply_follows h (Follows.refl s)).moves
  | imageLoadComplete => exact (execImageLoadComplete_follows h (Follows.refl s)).moves
  | inputLost => exact (execInputLost_follows h (Follows.refl s)).moves
  | overvoltageShutdown => exact (execOvervoltageShutdown_follows h (Follows.refl s)).moves
  | feedFault => exact (execFeedFault_follows h (Follows.refl s)).moves
  | powerOnReset => exact (execPowerOnReset_follows h (Follows.refl s)).moves
  | powerUpReady => exact (execPowerUpReady_follows h (Follows.refl s)).moves
  | capUpdate => exact (execCapUpdate_follows h (Follows.refl s)).moves
  | siteTempSample => exact (execSiteTempSample_follows h (Follows.refl s)).moves
  | stageTempSample => exact (execStageTempSample_follows h (Follows.refl s)).moves
  | coolantSample => exact (execCoolantSample_follows h (Follows.refl s)).moves
  | coolantShutdown => exact (execCoolantShutdown_follows h (Follows.refl s)).moves
  | islFreqWrite => exact (execIslFreqWrite_follows h (Follows.refl s)).moves
  | oscLockChange => exact (execOscLockChange_follows h (Follows.refl s)).moves
  | park => exact (execPark_follows h (Follows.refl s)).moves
  | parkBlockIdle => exact (execParkBlockIdle_follows h (Follows.refl s)).moves
  | parkRoutersEmpty => exact (execParkRoutersEmpty_follows h (Follows.refl s)).moves
  | parkDrainTimeout => exact (execParkDrainTimeout_follows h (Follows.refl s)).moves
  | unpark => exact (execUnpark_follows h (Follows.refl s)).moves
  | moduleReset => exact (execModuleReset_follows h (Follows.refl s)).moves
  | panReset => exact (execPanReset_follows h (Follows.refl s)).moves
  | arrayReset => exact (execArrayReset_follows h (Follows.refl s)).moves
  | arrayResetQuiesced => exact (execArrayResetQuiesced_follows h (Follows.refl s)).moves
  | arrayResetTimeout => exact (execArrayResetTimeout_follows h (Follows.refl s)).moves
  | bayReset => exact (execBayReset_follows h (Follows.refl s)).moves
  | fabricPortReset => exact (execFabricPortReset_follows h (Follows.refl s)).moves
  | rstReqAssert => exact (execRstReqAssert_follows h (Follows.refl s)).moves
  | controllerHeartbeat => exact (execControllerHeartbeat_follows h (Follows.refl s)).moves
  | controllerHang => exact (execControllerHang_follows h (Follows.refl s)).moves
  | domainPowerPoll => exact (execDomainPowerPoll_follows h (Follows.refl s)).moves
  | fenceSite => exact (execFenceSite_follows h (Follows.refl s)).moves
  | retest => exact (execRetest_follows h (Follows.refl s)).moves
  | retestResult => exact (execRetestResult_follows h (Follows.refl s)).moves
  | fenceWafer => exact (execFenceWafer_follows h (Follows.refl s)).moves
  | promote => exact (execPromote_follows h (Follows.refl s)).moves
  | promotion => exact (execPromotion_follows h (Follows.refl s)).moves
  | fwSwitch => exact (execFwSwitch_follows h (Follows.refl s)).moves
  | fwRevert => exact (execFwRevert_follows h (Follows.refl s)).moves
  | fwHealthy => exact (execFwHealthy_follows h (Follows.refl s)).moves
  | fwHealthTimeout => exact (execFwHealthTimeout_follows h (Follows.refl s)).moves
  | osfpInsert => exact (execOsfpInsert_follows h (Follows.refl s)).moves
  | osfpRemove => exact (execOsfpRemove_follows h (Follows.refl s)).moves
  | pstageOffline => exact (execPstageOffline_follows h (Follows.refl s)).moves
  | pstageOnline => exact (execPstageOnline_follows h (Follows.refl s)).moves
  | pstageInsert => exact (execPstageInsert_follows h (Follows.refl s)).moves
  | pstageFail => exact (execPstageFail_follows h (Follows.refl s)).moves
  | nonceDraw => exact (execNonceDraw_follows h (Follows.refl s)).moves
  | nonceExpire => exact (execNonceExpire_follows h (Follows.refl s)).moves
  | provisionOwner => exact execProvisionOwner_moves h
  | rotateOwner => exact (execRotateOwner_follows h (Follows.refl s)).moves
  | close => exact execClose_moves h
  | returnReq => exact execReturnReq_moves h
  | debugUnlock => exact (execDebugUnlock_follows h (Follows.refl s)).moves
  | refurbish => exact execRefurbish_moves h
  | retire => exact execRetire_moves h
  | getVersion => exact (execGetVersion_follows h (Follows.refl s)).moves
  | getCapabilities => exact (execGetCapabilities_follows h (Follows.refl s)).moves
  | negotiateAlgorithms => exact (execNegotiateAlgorithms_follows h (Follows.refl s)).moves
  | getDigests => exact (execGetDigests_follows h (Follows.refl s)).moves
  | getCertificate => exact (execGetCertificate_follows h (Follows.refl s)).moves
  | challenge => exact (execChallenge_follows h (Follows.refl s)).moves
  | getCsr => exact (execGetCsr_follows h (Follows.refl s)).moves
  | setCertificate => exact (execSetCertificate_follows h (Follows.refl s)).moves
  | getMeasurements => exact (execGetMeasurements_follows h (Follows.refl s)).moves
  | keyExchange => exact (execKeyExchange_follows h (Follows.refl s)).moves
  | finish => exact (execFinish_follows h (Follows.refl s)).moves
  | endSession => exact (execEndSession_follows h (Follows.refl s)).moves
  | spdmHeartbeat => exact (execSpdmHeartbeat_follows h (Follows.refl s)).moves
  | keyUpdate => exact (execKeyUpdate_follows h (Follows.refl s)).moves
  | ideKm => exact (execIdeKm_follows h (Follows.refl s)).moves
  | pldmPlatform => exact (execPldmPlatform_follows h (Follows.refl s)).moves
  | pldmFwUpdate => exact (execPldmFwUpdate_follows h (Follows.refl s)).moves
  | telemetrySample => exact (execTelemetrySample_follows h (Follows.refl s)).moves
  | trcMark => exact (execTrcMark_follows h (Follows.refl s)).moves
  | trcEnableWrite => exact (execTrcEnableWrite_follows h (Follows.refl s)).moves
  | traceLineWrite => exact (execTraceLineWrite_follows h (Follows.refl s)).moves
  | syncMarker => exact (execSyncMarker_follows h (Follows.refl s)).moves
  | dbgDataRead => exact (execDbgDataRead_follows h (Follows.refl s)).moves
  | dbgDataWrite => exact (execDbgDataWrite_follows h (Follows.refl s)).moves
  | jtagScanSelect => exact (execJtagScanSelect_follows h (Follows.refl s)).moves
  | rcRead => exact (execRcRead_follows h (Follows.refl s)).moves
  | regWrite => exact execRegWrite_moves h
  | hostLinkUp => exact (execHostLinkUp_follows h (Follows.refl s)).moves
  | feedRestored => exact (execFeedRestored_follows h (Follows.refl s)).moves
  | reclaimDone => exact (execReclaimDone_follows h (Follows.refl s)).moves
  | configurationWrite => exact (execConfigurationWrite_follows h (Follows.refl s)).moves
  | doeDiscovery => exact (execDoeDiscovery_follows h (Follows.refl s)).moves
  | pldmMessagingControl => exact (execPldmMessagingControl_follows h (Follows.refl s)).moves
  | dynamicAddressAssign => exact (execDynamicAddressAssign_follows h (Follows.refl s)).moves
  | hostReadCompletion => exact (execHostReadCompletion_follows h (Follows.refl s)).moves

end Sys2Proof.Machine
end

