-- ==== Sys2Proof/Laws/State.lean ====
section
/-! SUPPORT. Laws/State.lean: what each update of the state leaves as it was, and what a unit reads as after an update. -/

namespace Sys2Proof.Machine

set_option Elab.async false

/-! ## Tables -/

theorem Tbl.get_set {α : Type} (d : Nat → α) (t : Tbl α) (k j : Nat) (v : α) :
    Tbl.get d (Tbl.set t k v) j = if j = k then v else Tbl.get d t j := by
  induction t with
  | nil =>
    by_cases h : j = k
    · simp [Tbl.set, Tbl.get, h]
    · simp [Tbl.set, Tbl.get, h, show ¬ k = j from fun e => h e.symm]
  | cons e t ih =>
    obtain ⟨k', v'⟩ := e
    by_cases h1 : k < k'
    · by_cases h : j = k
      · simp [Tbl.set, h1, Tbl.get, h]
      · simp [Tbl.set, h1, Tbl.get, h, show ¬ k = j from fun e => h e.symm]
    · by_cases h2 : k = k'
      · subst h2
        by_cases h : j = k
        · simp [Tbl.set, Tbl.get, h]
        · simp [Tbl.set, Tbl.get, h, show ¬ k = j from fun e => h e.symm]
      · simp only [Tbl.set, h1, h2, if_false, Tbl.get, ih]
        by_cases h : k' = j
        · simp [h, show ¬ j = k from fun e => h2 (e.symm.trans h.symm)]
        · simp [h]

/-- Of two values set for one entry the later stands. -/
theorem Tbl.set_set {α : Type} (t : Tbl α) (k : Nat) (v w : α) : Tbl.set (Tbl.set t k v) k w = Tbl.set t k w := by
  induction t with
  | nil => simp [Tbl.set]
  | cons e t ih =>
    obtain ⟨k', x⟩ := e
    by_cases h1 : k < k'
    · simp [Tbl.set, h1]
    · by_cases h2 : k = k'
      · subst h2; simp [Tbl.set]
      · simp [Tbl.set, h1, h2, ih]

/-! ## sites -/

theorem State.site_set (s : State) (k j : Nat) (a : Site) : (s.setSite k a).site j = if j = k then a else s.site j := Tbl.get_set _ _ _ _ _

theorem State.site_upd (s : State) (k j : Nat) (f : Site → Site) :
    (s.updSite k f).site j = if j = k then f (s.site k) else s.site j := Tbl.get_set _ _ _ _ _

@[simp] theorem State.site_upd_self (s : State) (k : Nat) (f : Site → Site) : (s.updSite k f).site k = f (s.site k) := by
  rw [State.site_upd, if_pos rfl]

@[simp] theorem State.site_set_self (s : State) (k : Nat) (a : Site) : (s.setSite k a).site k = a := by
  rw [State.site_set, if_pos rfl]

theorem State.site_upd_ne (s : State) {k j : Nat} (f : Site → Site) (h : j ≠ k) : (s.updSite k f).site j = s.site j := by
  rw [State.site_upd, if_neg h]

theorem State.updSite_updSite (s : State) (k : Nat) (f g : Site → Site) : (s.updSite k f).updSite k g = s.updSite k (fun a => g (f a)) := by
  show (s.updSite k f).setSite k (g ((s.updSite k f).site k)) = _
  rw [State.site_upd_self]
  show ({ s with sites := _ } : State) = { s with sites := _ }
  rw [State.updSite, State.setSite, Tbl.set_set]

theorem State.updSite_congr {s : State} {k : Nat} {f g : Site → Site} (h : f (s.site k) = g (s.site k)) : s.updSite k f = s.updSite k g := by
  unfold State.updSite
  rw [h]

@[simp] theorem State.setSite_pending (s : State) (k : Nat) (a : Site) : (s.setSite k a).pending = s.pending := rfl
@[simp] theorem State.updSite_pending (s : State) (k : Nat) (f : Site → Site) : (s.updSite k f).pending = s.pending := rfl
@[simp] theorem State.setSite_freeNext (s : State) (k : Nat) (a : Site) : (s.setSite k a).freeNext = s.freeNext := rfl
@[simp] theorem State.updSite_freeNext (s : State) (k : Nat) (f : Site → Site) : (s.updSite k f).freeNext = s.freeNext := rfl
@[simp] theorem State.setSite_hbms (s : State) (k : Nat) (a : Site) : (s.setSite k a).hbms = s.hbms := rfl
@[simp] theorem State.updSite_hbms (s : State) (k : Nat) (f : Site → Site) : (s.updSite k f).hbms = s.hbms := rfl
@[simp] theorem State.setSite_pcs (s : State) (k : Nat) (a : Site) : (s.setSite k a).pcs = s.pcs := rfl
@[simp] theorem State.updSite_pcs (s : State) (k : Nat) (f : Site → Site) : (s.updSite k f).pcs = s.pcs := rfl
@[simp] theorem State.setSite_bays (s : State) (k : Nat) (a : Site) : (s.setSite k a).bays = s.bays := rfl
@[simp] theorem State.updSite_bays (s : State) (k : Nat) (f : Site → Site) : (s.updSite k f).bays = s.bays := rfl
@[simp] theorem State.setSite_shelf (s : State) (k : Nat) (a : Site) : (s.setSite k a).shelf = s.shelf := rfl
@[simp] theorem State.updSite_shelf (s : State) (k : Nat) (f : Site → Site) : (s.updSite k f).shelf = s.shelf := rfl
@[simp] theorem State.setSite_ports (s : State) (k : Nat) (a : Site) : (s.setSite k a).ports = s.ports := rfl
@[simp] theorem State.updSite_ports (s : State) (k : Nat) (f : Site → Site) : (s.updSite k f).ports = s.ports := rfl
@[simp] theorem State.setSite_fab (s : State) (k : Nat) (a : Site) : (s.setSite k a).fab = s.fab := rfl
@[simp] theorem State.updSite_fab (s : State) (k : Nat) (f : Site → Site) : (s.updSite k f).fab = s.fab := rfl
@[simp] theorem State.setSite_smap (s : State) (k : Nat) (a : Site) : (s.setSite k a).smap = s.smap := rfl
@[simp] theorem State.updSite_smap (s : State) (k : Nat) (f : Site → Site) : (s.updSite k f).smap = s.smap := rfl
@[simp] theorem State.setSite_seamOff (s : State) (k : Nat) (a : Site) : (s.setSite k a).seamOff = s.seamOff := rfl
@[simp] theorem State.updSite_seamOff (s : State) (k : Nat) (f : Site → Site) : (s.updSite k f).seamOff = s.seamOff := rfl
@[simp] theorem State.setSite_hps (s : State) (k : Nat) (a : Site) : (s.setSite k a).hps = s.hps := rfl
@[simp] theorem State.updSite_hps (s : State) (k : Nat) (f : Site → Site) : (s.updSite k f).hps = s.hps := rfl
@[simp] theorem State.setSite_pans (s : State) (k : Nat) (a : Site) : (s.setSite k a).pans = s.pans := rfl
@[simp] theorem State.updSite_pans (s : State) (k : Nat) (f : Site → Site) : (s.updSite k f).pans = s.pans := rfl
@[simp] theorem State.setSite_fault (s : State) (k : Nat) (a : Site) : (s.setSite k a).fault = s.fault := rfl
@[simp] theorem State.updSite_fault (s : State) (k : Nat) (f : Site → Site) : (s.updSite k f).fault = s.fault := rfl
@[simp] theorem State.setSite_images (s : State) (k : Nat) (a : Site) : (s.setSite k a).images = s.images := rfl
@[simp] theorem State.updSite_images (s : State) (k : Nat) (f : Site → Site) : (s.updSite k f).images = s.images := rfl
@[simp] theorem State.setSite_power (s : State) (k : Nat) (a : Site) : (s.setSite k a).power = s.power := rfl
@[simp] theorem State.updSite_power (s : State) (k : Nat) (f : Site → Site) : (s.updSite k f).power = s.power := rfl
@[simp] theorem State.setSite_resets (s : State) (k : Nat) (a : Site) : (s.setSite k a).resets = s.resets := rfl
@[simp] theorem State.updSite_resets (s : State) (k : Nat) (f : Site → Site) : (s.updSite k f).resets = s.resets := rfl
@[simp] theorem State.setSite_rmc (s : State) (k : Nat) (a : Site) : (s.setSite k a).rmc = s.rmc := rfl
@[simp] theorem State.updSite_rmc (s : State) (k : Nat) (f : Site → Site) : (s.updSite k f).rmc = s.rmc := rfl
@[simp] theorem State.setSite_sec (s : State) (k : Nat) (a : Site) : (s.setSite k a).sec = s.sec := rfl
@[simp] theorem State.updSite_sec (s : State) (k : Nat) (f : Site → Site) : (s.updSite k f).sec = s.sec := rfl
@[simp] theorem State.setSite_trcSync (s : State) (k : Nat) (a : Site) : (s.setSite k a).trcSync = s.trcSync := rfl
@[simp] theorem State.updSite_trcSync (s : State) (k : Nat) (f : Site → Site) : (s.updSite k f).trcSync = s.trcSync := rfl
@[simp] theorem State.setSite_out (s : State) (k : Nat) (a : Site) : (s.setSite k a).out = s.out := rfl
@[simp] theorem State.updSite_out (s : State) (k : Nat) (f : Site → Site) : (s.updSite k f).out = s.out := rfl
@[simp] theorem State.setSite_stack (s : State) (k j : Nat) (a : Site) : (s.setSite k a).stack j = s.stack j := rfl
@[simp] theorem State.updSite_stack (s : State) (k j : Nat) (f : Site → Site) : (s.updSite k f).stack j = s.stack j := rfl
@[simp] theorem State.setSite_pc (s : State) (k j : Nat) (a : Site) : (s.setSite k a).pc j = s.pc j := rfl
@[simp] theorem State.updSite_pc (s : State) (k j : Nat) (f : Site → Site) : (s.updSite k f).pc j = s.pc j := rfl
@[simp] theorem State.setSite_bay (s : State) (k j : Nat) (a : Site) : (s.setSite k a).bay j = s.bay j := rfl
@[simp] theorem State.updSite_bay (s : State) (k j : Nat) (f : Site → Site) : (s.updSite k f).bay j = s.bay j := rfl
@[simp] theorem State.setSite_hp (s : State) (k j : Nat) (a : Site) : (s.setSite k a).hp j = s.hp j := rfl
@[simp] theorem State.updSite_hp (s : State) (k j : Nat) (f : Site → Site) : (s.updSite k f).hp j = s.hp j := rfl
@[simp] theorem State.setSite_pan (s : State) (k j : Nat) (a : Site) : (s.setSite k a).pan j = s.pan j := rfl
@[simp] theorem State.updSite_pan (s : State) (k j : Nat) (f : Site → Site) : (s.updSite k f).pan j = s.pan j := rfl
@[simp] theorem State.setSite_port (s : State) (k j : Nat) (a : Site) : (s.setSite k a).port j = s.port j := rfl
@[simp] theorem State.updSite_port (s : State) (k j : Nat) (f : Site → Site) : (s.updSite k f).port j = s.port j := rfl

/-! ## hbms -/

theorem State.stack_set (s : State) (k j : Nat) (a : Stack) : (s.setStack k a).stack j = if j = k then a else s.stack j := Tbl.get_set _ _ _ _ _

theorem State.stack_upd (s : State) (k j : Nat) (f : Stack → Stack) :
    (s.updStack k f).stack j = if j = k then f (s.stack k) else s.stack j := Tbl.get_set _ _ _ _ _

@[simp] theorem State.stack_upd_self (s : State) (k : Nat) (f : Stack → Stack) : (s.updStack k f).stack k = f (s.stack k) := by
  rw [State.stack_upd, if_pos rfl]

@[simp] theorem State.stack_set_self (s : State) (k : Nat) (a : Stack) : (s.setStack k a).stack k = a := by
  rw [State.stack_set, if_pos rfl]

theorem State.stack_upd_ne (s : State) {k j : Nat} (f : Stack → Stack) (h : j ≠ k) : (s.updStack k f).stack j = s.stack j := by
  rw [State.stack_upd, if_neg h]

theorem State.updStack_congr {s : State} {k : Nat} {f g : Stack → Stack} (h : f (s.stack k) = g (s.stack k)) : s.updStack k f = s.updStack k g := by
  unfold State.updStack
  rw [h]

@[simp] theorem State.setStack_pending (s : State) (k : Nat) (a : Stack) : (s.setStack k a).pending = s.pending := rfl
@[simp] theorem State.updStack_pending (s : State) (k : Nat) (f : Stack → Stack) : (s.updStack k f).pending = s.pending := rfl
@[simp] theorem State.setStack_freeNext (s : State) (k : Nat) (a : Stack) : (s.setStack k a).freeNext = s.freeNext := rfl
@[simp] theorem State.updStack_freeNext (s : State) (k : Nat) (f : Stack → Stack) : (s.updStack k f).freeNext = s.freeNext := rfl
@[simp] theorem State.setStack_sites (s : State) (k : Nat) (a : Stack) : (s.setStack k a).sites = s.sites := rfl
@[simp] theorem State.updStack_sites (s : State) (k : Nat) (f : Stack → Stack) : (s.updStack k f).sites = s.sites := rfl
@[simp] theorem State.setStack_pcs (s : State) (k : Nat) (a : Stack) : (s.setStack k a).pcs = s.pcs := rfl
@[simp] theorem State.updStack_pcs (s : State) (k : Nat) (f : Stack → Stack) : (s.updStack k f).pcs = s.pcs := rfl
@[simp] theorem State.setStack_bays (s : State) (k : Nat) (a : Stack) : (s.setStack k a).bays = s.bays := rfl
@[simp] theorem State.updStack_bays (s : State) (k : Nat) (f : Stack → Stack) : (s.updStack k f).bays = s.bays := rfl
@[simp] theorem State.setStack_shelf (s : State) (k : Nat) (a : Stack) : (s.setStack k a).shelf = s.shelf := rfl
@[simp] theorem State.updStack_shelf (s : State) (k : Nat) (f : Stack → Stack) : (s.updStack k f).shelf = s.shelf := rfl
@[simp] theorem State.setStack_ports (s : State) (k : Nat) (a : Stack) : (s.setStack k a).ports = s.ports := rfl
@[simp] theorem State.updStack_ports (s : State) (k : Nat) (f : Stack → Stack) : (s.updStack k f).ports = s.ports := rfl
@[simp] theorem State.setStack_fab (s : State) (k : Nat) (a : Stack) : (s.setStack k a).fab = s.fab := rfl
@[simp] theorem State.updStack_fab (s : State) (k : Nat) (f : Stack → Stack) : (s.updStack k f).fab = s.fab := rfl
@[simp] theorem State.setStack_smap (s : State) (k : Nat) (a : Stack) : (s.setStack k a).smap = s.smap := rfl
@[simp] theorem State.updStack_smap (s : State) (k : Nat) (f : Stack → Stack) : (s.updStack k f).smap = s.smap := rfl
@[simp] theorem State.setStack_seamOff (s : State) (k : Nat) (a : Stack) : (s.setStack k a).seamOff = s.seamOff := rfl
@[simp] theorem State.updStack_seamOff (s : State) (k : Nat) (f : Stack → Stack) : (s.updStack k f).seamOff = s.seamOff := rfl
@[simp] theorem State.setStack_hps (s : State) (k : Nat) (a : Stack) : (s.setStack k a).hps = s.hps := rfl
@[simp] theorem State.updStack_hps (s : State) (k : Nat) (f : Stack → Stack) : (s.updStack k f).hps = s.hps := rfl
@[simp] theorem State.setStack_pans (s : State) (k : Nat) (a : Stack) : (s.setStack k a).pans = s.pans := rfl
@[simp] theorem State.updStack_pans (s : State) (k : Nat) (f : Stack → Stack) : (s.updStack k f).pans = s.pans := rfl
@[simp] theorem State.setStack_fault (s : State) (k : Nat) (a : Stack) : (s.setStack k a).fault = s.fault := rfl
@[simp] theorem State.updStack_fault (s : State) (k : Nat) (f : Stack → Stack) : (s.updStack k f).fault = s.fault := rfl
@[simp] theorem State.setStack_images (s : State) (k : Nat) (a : Stack) : (s.setStack k a).images = s.images := rfl
@[simp] theorem State.updStack_images (s : State) (k : Nat) (f : Stack → Stack) : (s.updStack k f).images = s.images := rfl
@[simp] theorem State.setStack_power (s : State) (k : Nat) (a : Stack) : (s.setStack k a).power = s.power := rfl
@[simp] theorem State.updStack_power (s : State) (k : Nat) (f : Stack → Stack) : (s.updStack k f).power = s.power := rfl
@[simp] theorem State.setStack_resets (s : State) (k : Nat) (a : Stack) : (s.setStack k a).resets = s.resets := rfl
@[simp] theorem State.updStack_resets (s : State) (k : Nat) (f : Stack → Stack) : (s.updStack k f).resets = s.resets := rfl
@[simp] theorem State.setStack_rmc (s : State) (k : Nat) (a : Stack) : (s.setStack k a).rmc = s.rmc := rfl
@[simp] theorem State.updStack_rmc (s : State) (k : Nat) (f : Stack → Stack) : (s.updStack k f).rmc = s.rmc := rfl
@[simp] theorem State.setStack_sec (s : State) (k : Nat) (a : Stack) : (s.setStack k a).sec = s.sec := rfl
@[simp] theorem State.updStack_sec (s : State) (k : Nat) (f : Stack → Stack) : (s.updStack k f).sec = s.sec := rfl
@[simp] theorem State.setStack_trcSync (s : State) (k : Nat) (a : Stack) : (s.setStack k a).trcSync = s.trcSync := rfl
@[simp] theorem State.updStack_trcSync (s : State) (k : Nat) (f : Stack → Stack) : (s.updStack k f).trcSync = s.trcSync := rfl
@[simp] theorem State.setStack_out (s : State) (k : Nat) (a : Stack) : (s.setStack k a).out = s.out := rfl
@[simp] theorem State.updStack_out (s : State) (k : Nat) (f : Stack → Stack) : (s.updStack k f).out = s.out := rfl
@[simp] theorem State.setStack_site (s : State) (k j : Nat) (a : Stack) : (s.setStack k a).site j = s.site j := rfl
@[simp] theorem State.updStack_site (s : State) (k j : Nat) (f : Stack → Stack) : (s.updStack k f).site j = s.site j := rfl
@[simp] theorem State.setStack_pc (s : State) (k j : Nat) (a : Stack) : (s.setStack k a).pc j = s.pc j := rfl
@[simp] theorem State.updStack_pc (s : State) (k j : Nat) (f : Stack → Stack) : (s.updStack k f).pc j = s.pc j := rfl
@[simp] theorem State.setStack_bay (s : State) (k j : Nat) (a : Stack) : (s.setStack k a).bay j = s.bay j := rfl
@[simp] theorem State.updStack_bay (s : State) (k j : Nat) (f : Stack → Stack) : (s.updStack k f).bay j = s.bay j := rfl
@[simp] theorem State.setStack_hp (s : State) (k j : Nat) (a : Stack) : (s.setStack k a).hp j = s.hp j := rfl
@[simp] theorem State.updStack_hp (s : State) (k j : Nat) (f : Stack → Stack) : (s.updStack k f).hp j = s.hp j := rfl
@[simp] theorem State.setStack_pan (s : State) (k j : Nat) (a : Stack) : (s.setStack k a).pan j = s.pan j := rfl
@[simp] theorem State.updStack_pan (s : State) (k j : Nat) (f : Stack → Stack) : (s.updStack k f).pan j = s.pan j := rfl
@[simp] theorem State.setStack_port (s : State) (k j : Nat) (a : Stack) : (s.setStack k a).port j = s.port j := rfl
@[simp] theorem State.updStack_port (s : State) (k j : Nat) (f : Stack → Stack) : (s.updStack k f).port j = s.port j := rfl

/-! ## pcs -/

theorem State.pc_set (s : State) (k j : Nat) (a : Pc) : (s.setPc k a).pc j = if j = k then a else s.pc j := Tbl.get_set _ _ _ _ _

theorem State.pc_upd (s : State) (k j : Nat) (f : Pc → Pc) :
    (s.updPc k f).pc j = if j = k then f (s.pc k) else s.pc j := Tbl.get_set _ _ _ _ _

@[simp] theorem State.pc_upd_self (s : State) (k : Nat) (f : Pc → Pc) : (s.updPc k f).pc k = f (s.pc k) := by
  rw [State.pc_upd, if_pos rfl]

theorem State.updPc_updPc (s : State) (k : Nat) (f g : Pc → Pc) : (s.updPc k f).updPc k g = s.updPc k (fun a => g (f a)) := by
  show (s.updPc k f).setPc k (g ((s.updPc k f).pc k)) = _
  rw [State.pc_upd_self]
  show ({ s with pcs := _ } : State) = { s with pcs := _ }
  rw [State.updPc, State.setPc, Tbl.set_set]

@[simp] theorem State.pc_set_self (s : State) (k : Nat) (a : Pc) : (s.setPc k a).pc k = a := by
  rw [State.pc_set, if_pos rfl]

theorem State.pc_upd_ne (s : State) {k j : Nat} (f : Pc → Pc) (h : j ≠ k) : (s.updPc k f).pc j = s.pc j := by
  rw [State.pc_upd, if_neg h]

theorem State.updPc_congr {s : State} {k : Nat} {f g : Pc → Pc} (h : f (s.pc k) = g (s.pc k)) : s.updPc k f = s.updPc k g := by
  unfold State.updPc
  rw [h]

@[simp] theorem State.setPc_pending (s : State) (k : Nat) (a : Pc) : (s.setPc k a).pending = s.pending := rfl
@[simp] theorem State.updPc_pending (s : State) (k : Nat) (f : Pc → Pc) : (s.updPc k f).pending = s.pending := rfl
@[simp] theorem State.setPc_freeNext (s : State) (k : Nat) (a : Pc) : (s.setPc k a).freeNext = s.freeNext := rfl
@[simp] theorem State.updPc_freeNext (s : State) (k : Nat) (f : Pc → Pc) : (s.updPc k f).freeNext = s.freeNext := rfl
@[simp] theorem State.setPc_sites (s : State) (k : Nat) (a : Pc) : (s.setPc k a).sites = s.sites := rfl
@[simp] theorem State.updPc_sites (s : State) (k : Nat) (f : Pc → Pc) : (s.updPc k f).sites = s.sites := rfl
@[simp] theorem State.setPc_hbms (s : State) (k : Nat) (a : Pc) : (s.setPc k a).hbms = s.hbms := rfl
@[simp] theorem State.updPc_hbms (s : State) (k : Nat) (f : Pc → Pc) : (s.updPc k f).hbms = s.hbms := rfl
@[simp] theorem State.setPc_bays (s : State) (k : Nat) (a : Pc) : (s.setPc k a).bays = s.bays := rfl
@[simp] theorem State.updPc_bays (s : State) (k : Nat) (f : Pc → Pc) : (s.updPc k f).bays = s.bays := rfl
@[simp] theorem State.setPc_shelf (s : State) (k : Nat) (a : Pc) : (s.setPc k a).shelf = s.shelf := rfl
@[simp] theorem State.updPc_shelf (s : State) (k : Nat) (f : Pc → Pc) : (s.updPc k f).shelf = s.shelf := rfl
@[simp] theorem State.setPc_ports (s : State) (k : Nat) (a : Pc) : (s.setPc k a).ports = s.ports := rfl
@[simp] theorem State.updPc_ports (s : State) (k : Nat) (f : Pc → Pc) : (s.updPc k f).ports = s.ports := rfl
@[simp] theorem State.setPc_fab (s : State) (k : Nat) (a : Pc) : (s.setPc k a).fab = s.fab := rfl
@[simp] theorem State.updPc_fab (s : State) (k : Nat) (f : Pc → Pc) : (s.updPc k f).fab = s.fab := rfl
@[simp] theorem State.setPc_smap (s : State) (k : Nat) (a : Pc) : (s.setPc k a).smap = s.smap := rfl
@[simp] theorem State.updPc_smap (s : State) (k : Nat) (f : Pc → Pc) : (s.updPc k f).smap = s.smap := rfl
@[simp] theorem State.setPc_seamOff (s : State) (k : Nat) (a : Pc) : (s.setPc k a).seamOff = s.seamOff := rfl
@[simp] theorem State.updPc_seamOff (s : State) (k : Nat) (f : Pc → Pc) : (s.updPc k f).seamOff = s.seamOff := rfl
@[simp] theorem State.setPc_hps (s : State) (k : Nat) (a : Pc) : (s.setPc k a).hps = s.hps := rfl
@[simp] theorem State.updPc_hps (s : State) (k : Nat) (f : Pc → Pc) : (s.updPc k f).hps = s.hps := rfl
@[simp] theorem State.setPc_pans (s : State) (k : Nat) (a : Pc) : (s.setPc k a).pans = s.pans := rfl
@[simp] theorem State.updPc_pans (s : State) (k : Nat) (f : Pc → Pc) : (s.updPc k f).pans = s.pans := rfl
@[simp] theorem State.setPc_fault (s : State) (k : Nat) (a : Pc) : (s.setPc k a).fault = s.fault := rfl
@[simp] theorem State.updPc_fault (s : State) (k : Nat) (f : Pc → Pc) : (s.updPc k f).fault = s.fault := rfl
@[simp] theorem State.setPc_images (s : State) (k : Nat) (a : Pc) : (s.setPc k a).images = s.images := rfl
@[simp] theorem State.updPc_images (s : State) (k : Nat) (f : Pc → Pc) : (s.updPc k f).images = s.images := rfl
@[simp] theorem State.setPc_power (s : State) (k : Nat) (a : Pc) : (s.setPc k a).power = s.power := rfl
@[simp] theorem State.updPc_power (s : State) (k : Nat) (f : Pc → Pc) : (s.updPc k f).power = s.power := rfl
@[simp] theorem State.setPc_resets (s : State) (k : Nat) (a : Pc) : (s.setPc k a).resets = s.resets := rfl
@[simp] theorem State.updPc_resets (s : State) (k : Nat) (f : Pc → Pc) : (s.updPc k f).resets = s.resets := rfl
@[simp] theorem State.setPc_rmc (s : State) (k : Nat) (a : Pc) : (s.setPc k a).rmc = s.rmc := rfl
@[simp] theorem State.updPc_rmc (s : State) (k : Nat) (f : Pc → Pc) : (s.updPc k f).rmc = s.rmc := rfl
@[simp] theorem State.setPc_sec (s : State) (k : Nat) (a : Pc) : (s.setPc k a).sec = s.sec := rfl
@[simp] theorem State.updPc_sec (s : State) (k : Nat) (f : Pc → Pc) : (s.updPc k f).sec = s.sec := rfl
@[simp] theorem State.setPc_trcSync (s : State) (k : Nat) (a : Pc) : (s.setPc k a).trcSync = s.trcSync := rfl
@[simp] theorem State.updPc_trcSync (s : State) (k : Nat) (f : Pc → Pc) : (s.updPc k f).trcSync = s.trcSync := rfl
@[simp] theorem State.setPc_out (s : State) (k : Nat) (a : Pc) : (s.setPc k a).out = s.out := rfl
@[simp] theorem State.updPc_out (s : State) (k : Nat) (f : Pc → Pc) : (s.updPc k f).out = s.out := rfl
@[simp] theorem State.setPc_site (s : State) (k j : Nat) (a : Pc) : (s.setPc k a).site j = s.site j := rfl
@[simp] theorem State.updPc_site (s : State) (k j : Nat) (f : Pc → Pc) : (s.updPc k f).site j = s.site j := rfl
@[simp] theorem State.setPc_stack (s : State) (k j : Nat) (a : Pc) : (s.setPc k a).stack j = s.stack j := rfl
@[simp] theorem State.updPc_stack (s : State) (k j : Nat) (f : Pc → Pc) : (s.updPc k f).stack j = s.stack j := rfl
@[simp] theorem State.setPc_bay (s : State) (k j : Nat) (a : Pc) : (s.setPc k a).bay j = s.bay j := rfl
@[simp] theorem State.updPc_bay (s : State) (k j : Nat) (f : Pc → Pc) : (s.updPc k f).bay j = s.bay j := rfl
@[simp] theorem State.setPc_hp (s : State) (k j : Nat) (a : Pc) : (s.setPc k a).hp j = s.hp j := rfl
@[simp] theorem State.updPc_hp (s : State) (k j : Nat) (f : Pc → Pc) : (s.updPc k f).hp j = s.hp j := rfl
@[simp] theorem State.setPc_pan (s : State) (k j : Nat) (a : Pc) : (s.setPc k a).pan j = s.pan j := rfl
@[simp] theorem State.updPc_pan (s : State) (k j : Nat) (f : Pc → Pc) : (s.updPc k f).pan j = s.pan j := rfl
@[simp] theorem State.setPc_port (s : State) (k j : Nat) (a : Pc) : (s.setPc k a).port j = s.port j := rfl
@[simp] theorem State.updPc_port (s : State) (k j : Nat) (f : Pc → Pc) : (s.updPc k f).port j = s.port j := rfl

/-! ## bays -/

theorem State.bay_set (s : State) (k j : Nat) (a : Bay) : (s.setBay k a).bay j = if j = k then a else s.bay j := Tbl.get_set _ _ _ _ _

theorem State.bay_upd (s : State) (k j : Nat) (f : Bay → Bay) :
    (s.updBay k f).bay j = if j = k then f (s.bay k) else s.bay j := Tbl.get_set _ _ _ _ _

@[simp] theorem State.bay_upd_self (s : State) (k : Nat) (f : Bay → Bay) : (s.updBay k f).bay k = f (s.bay k) := by
  rw [State.bay_upd, if_pos rfl]

theorem State.updBay_updBay (s : State) (k : Nat) (f g : Bay → Bay) : (s.updBay k f).updBay k g = s.updBay k (fun a => g (f a)) := by
  show (s.updBay k f).setBay k (g ((s.updBay k f).bay k)) = _
  rw [State.bay_upd_self]
  show ({ s with bays := _ } : State) = { s with bays := _ }
  rw [State.updBay, State.setBay, Tbl.set_set]

@[simp] theorem State.bay_set_self (s : State) (k : Nat) (a : Bay) : (s.setBay k a).bay k = a := by
  rw [State.bay_set, if_pos rfl]

theorem State.bay_upd_ne (s : State) {k j : Nat} (f : Bay → Bay) (h : j ≠ k) : (s.updBay k f).bay j = s.bay j := by
  rw [State.bay_upd, if_neg h]

theorem State.updBay_congr {s : State} {k : Nat} {f g : Bay → Bay} (h : f (s.bay k) = g (s.bay k)) : s.updBay k f = s.updBay k g := by
  unfold State.updBay
  rw [h]

@[simp] theorem State.setBay_pending (s : State) (k : Nat) (a : Bay) : (s.setBay k a).pending = s.pending := rfl
@[simp] theorem State.updBay_pending (s : State) (k : Nat) (f : Bay → Bay) : (s.updBay k f).pending = s.pending := rfl
@[simp] theorem State.setBay_freeNext (s : State) (k : Nat) (a : Bay) : (s.setBay k a).freeNext = s.freeNext := rfl
@[simp] theorem State.updBay_freeNext (s : State) (k : Nat) (f : Bay → Bay) : (s.updBay k f).freeNext = s.freeNext := rfl
@[simp] theorem State.setBay_sites (s : State) (k : Nat) (a : Bay) : (s.setBay k a).sites = s.sites := rfl
@[simp] theorem State.updBay_sites (s : State) (k : Nat) (f : Bay → Bay) : (s.updBay k f).sites = s.sites := rfl
@[simp] theorem State.setBay_hbms (s : State) (k : Nat) (a : Bay) : (s.setBay k a).hbms = s.hbms := rfl
@[simp] theorem State.updBay_hbms (s : State) (k : Nat) (f : Bay → Bay) : (s.updBay k f).hbms = s.hbms := rfl
@[simp] theorem State.setBay_pcs (s : State) (k : Nat) (a : Bay) : (s.setBay k a).pcs = s.pcs := rfl
@[simp] theorem State.updBay_pcs (s : State) (k : Nat) (f : Bay → Bay) : (s.updBay k f).pcs = s.pcs := rfl
@[simp] theorem State.setBay_shelf (s : State) (k : Nat) (a : Bay) : (s.setBay k a).shelf = s.shelf := rfl
@[simp] theorem State.updBay_shelf (s : State) (k : Nat) (f : Bay → Bay) : (s.updBay k f).shelf = s.shelf := rfl
@[simp] theorem State.setBay_ports (s : State) (k : Nat) (a : Bay) : (s.setBay k a).ports = s.ports := rfl
@[simp] theorem State.updBay_ports (s : State) (k : Nat) (f : Bay → Bay) : (s.updBay k f).ports = s.ports := rfl
@[simp] theorem State.setBay_fab (s : State) (k : Nat) (a : Bay) : (s.setBay k a).fab = s.fab := rfl
@[simp] theorem State.updBay_fab (s : State) (k : Nat) (f : Bay → Bay) : (s.updBay k f).fab = s.fab := rfl
@[simp] theorem State.setBay_smap (s : State) (k : Nat) (a : Bay) : (s.setBay k a).smap = s.smap := rfl
@[simp] theorem State.updBay_smap (s : State) (k : Nat) (f : Bay → Bay) : (s.updBay k f).smap = s.smap := rfl
@[simp] theorem State.setBay_seamOff (s : State) (k : Nat) (a : Bay) : (s.setBay k a).seamOff = s.seamOff := rfl
@[simp] theorem State.updBay_seamOff (s : State) (k : Nat) (f : Bay → Bay) : (s.updBay k f).seamOff = s.seamOff := rfl
@[simp] theorem State.setBay_hps (s : State) (k : Nat) (a : Bay) : (s.setBay k a).hps = s.hps := rfl
@[simp] theorem State.updBay_hps (s : State) (k : Nat) (f : Bay → Bay) : (s.updBay k f).hps = s.hps := rfl
@[simp] theorem State.setBay_pans (s : State) (k : Nat) (a : Bay) : (s.setBay k a).pans = s.pans := rfl
@[simp] theorem State.updBay_pans (s : State) (k : Nat) (f : Bay → Bay) : (s.updBay k f).pans = s.pans := rfl
@[simp] theorem State.setBay_fault (s : State) (k : Nat) (a : Bay) : (s.setBay k a).fault = s.fault := rfl
@[simp] theorem State.updBay_fault (s : State) (k : Nat) (f : Bay → Bay) : (s.updBay k f).fault = s.fault := rfl
@[simp] theorem State.setBay_images (s : State) (k : Nat) (a : Bay) : (s.setBay k a).images = s.images := rfl
@[simp] theorem State.updBay_images (s : State) (k : Nat) (f : Bay → Bay) : (s.updBay k f).images = s.images := rfl
@[simp] theorem State.setBay_power (s : State) (k : Nat) (a : Bay) : (s.setBay k a).power = s.power := rfl
@[simp] theorem State.updBay_power (s : State) (k : Nat) (f : Bay → Bay) : (s.updBay k f).power = s.power := rfl
@[simp] theorem State.setBay_resets (s : State) (k : Nat) (a : Bay) : (s.setBay k a).resets = s.resets := rfl
@[simp] theorem State.updBay_resets (s : State) (k : Nat) (f : Bay → Bay) : (s.updBay k f).resets = s.resets := rfl
@[simp] theorem State.setBay_rmc (s : State) (k : Nat) (a : Bay) : (s.setBay k a).rmc = s.rmc := rfl
@[simp] theorem State.updBay_rmc (s : State) (k : Nat) (f : Bay → Bay) : (s.updBay k f).rmc = s.rmc := rfl
@[simp] theorem State.setBay_sec (s : State) (k : Nat) (a : Bay) : (s.setBay k a).sec = s.sec := rfl
@[simp] theorem State.updBay_sec (s : State) (k : Nat) (f : Bay → Bay) : (s.updBay k f).sec = s.sec := rfl
@[simp] theorem State.setBay_trcSync (s : State) (k : Nat) (a : Bay) : (s.setBay k a).trcSync = s.trcSync := rfl
@[simp] theorem State.updBay_trcSync (s : State) (k : Nat) (f : Bay → Bay) : (s.updBay k f).trcSync = s.trcSync := rfl
@[simp] theorem State.setBay_out (s : State) (k : Nat) (a : Bay) : (s.setBay k a).out = s.out := rfl
@[simp] theorem State.updBay_out (s : State) (k : Nat) (f : Bay → Bay) : (s.updBay k f).out = s.out := rfl
@[simp] theorem State.setBay_site (s : State) (k j : Nat) (a : Bay) : (s.setBay k a).site j = s.site j := rfl
@[simp] theorem State.updBay_site (s : State) (k j : Nat) (f : Bay → Bay) : (s.updBay k f).site j = s.site j := rfl
@[simp] theorem State.setBay_stack (s : State) (k j : Nat) (a : Bay) : (s.setBay k a).stack j = s.stack j := rfl
@[simp] theorem State.updBay_stack (s : State) (k j : Nat) (f : Bay → Bay) : (s.updBay k f).stack j = s.stack j := rfl
@[simp] theorem State.setBay_pc (s : State) (k j : Nat) (a : Bay) : (s.setBay k a).pc j = s.pc j := rfl
@[simp] theorem State.updBay_pc (s : State) (k j : Nat) (f : Bay → Bay) : (s.updBay k f).pc j = s.pc j := rfl
@[simp] theorem State.setBay_hp (s : State) (k j : Nat) (a : Bay) : (s.setBay k a).hp j = s.hp j := rfl
@[simp] theorem State.updBay_hp (s : State) (k j : Nat) (f : Bay → Bay) : (s.updBay k f).hp j = s.hp j := rfl
@[simp] theorem State.setBay_pan (s : State) (k j : Nat) (a : Bay) : (s.setBay k a).pan j = s.pan j := rfl
@[simp] theorem State.updBay_pan (s : State) (k j : Nat) (f : Bay → Bay) : (s.updBay k f).pan j = s.pan j := rfl
@[simp] theorem State.setBay_port (s : State) (k j : Nat) (a : Bay) : (s.setBay k a).port j = s.port j := rfl
@[simp] theorem State.updBay_port (s : State) (k j : Nat) (f : Bay → Bay) : (s.updBay k f).port j = s.port j := rfl

/-! ## hps -/

theorem State.hp_set (s : State) (k j : Nat) (a : HostPort) : (s.setHp k a).hp j = if j = k then a else s.hp j := Tbl.get_set _ _ _ _ _

theorem State.hp_upd (s : State) (k j : Nat) (f : HostPort → HostPort) :
    (s.updHp k f).hp j = if j = k then f (s.hp k) else s.hp j := Tbl.get_set _ _ _ _ _

@[simp] theorem State.hp_upd_self (s : State) (k : Nat) (f : HostPort → HostPort) : (s.updHp k f).hp k = f (s.hp k) := by
  rw [State.hp_upd, if_pos rfl]

theorem State.updHp_updHp (s : State) (k : Nat) (f g : HostPort → HostPort) : (s.updHp k f).updHp k g = s.updHp k (fun a => g (f a)) := by
  show (s.updHp k f).setHp k (g ((s.updHp k f).hp k)) = _
  rw [State.hp_upd_self]
  show ({ s with hps := _ } : State) = { s with hps := _ }
  rw [State.updHp, State.setHp, Tbl.set_set]

@[simp] theorem State.hp_set_self (s : State) (k : Nat) (a : HostPort) : (s.setHp k a).hp k = a := by
  rw [State.hp_set, if_pos rfl]

theorem State.hp_upd_ne (s : State) {k j : Nat} (f : HostPort → HostPort) (h : j ≠ k) : (s.updHp k f).hp j = s.hp j := by
  rw [State.hp_upd, if_neg h]

theorem State.updHp_congr {s : State} {k : Nat} {f g : HostPort → HostPort} (h : f (s.hp k) = g (s.hp k)) : s.updHp k f = s.updHp k g := by
  unfold State.updHp
  rw [h]

@[simp] theorem State.setHp_pending (s : State) (k : Nat) (a : HostPort) : (s.setHp k a).pending = s.pending := rfl
@[simp] theorem State.updHp_pending (s : State) (k : Nat) (f : HostPort → HostPort) : (s.updHp k f).pending = s.pending := rfl
@[simp] theorem State.setHp_freeNext (s : State) (k : Nat) (a : HostPort) : (s.setHp k a).freeNext = s.freeNext := rfl
@[simp] theorem State.updHp_freeNext (s : State) (k : Nat) (f : HostPort → HostPort) : (s.updHp k f).freeNext = s.freeNext := rfl
@[simp] theorem State.setHp_sites (s : State) (k : Nat) (a : HostPort) : (s.setHp k a).sites = s.sites := rfl
@[simp] theorem State.updHp_sites (s : State) (k : Nat) (f : HostPort → HostPort) : (s.updHp k f).sites = s.sites := rfl
@[simp] theorem State.setHp_hbms (s : State) (k : Nat) (a : HostPort) : (s.setHp k a).hbms = s.hbms := rfl
@[simp] theorem State.updHp_hbms (s : State) (k : Nat) (f : HostPort → HostPort) : (s.updHp k f).hbms = s.hbms := rfl
@[simp] theorem State.setHp_pcs (s : State) (k : Nat) (a : HostPort) : (s.setHp k a).pcs = s.pcs := rfl
@[simp] theorem State.updHp_pcs (s : State) (k : Nat) (f : HostPort → HostPort) : (s.updHp k f).pcs = s.pcs := rfl
@[simp] theorem State.setHp_bays (s : State) (k : Nat) (a : HostPort) : (s.setHp k a).bays = s.bays := rfl
@[simp] theorem State.updHp_bays (s : State) (k : Nat) (f : HostPort → HostPort) : (s.updHp k f).bays = s.bays := rfl
@[simp] theorem State.setHp_shelf (s : State) (k : Nat) (a : HostPort) : (s.setHp k a).shelf = s.shelf := rfl
@[simp] theorem State.updHp_shelf (s : State) (k : Nat) (f : HostPort → HostPort) : (s.updHp k f).shelf = s.shelf := rfl
@[simp] theorem State.setHp_ports (s : State) (k : Nat) (a : HostPort) : (s.setHp k a).ports = s.ports := rfl
@[simp] theorem State.updHp_ports (s : State) (k : Nat) (f : HostPort → HostPort) : (s.updHp k f).ports = s.ports := rfl
@[simp] theorem State.setHp_fab (s : State) (k : Nat) (a : HostPort) : (s.setHp k a).fab = s.fab := rfl
@[simp] theorem State.updHp_fab (s : State) (k : Nat) (f : HostPort → HostPort) : (s.updHp k f).fab = s.fab := rfl
@[simp] theorem State.setHp_smap (s : State) (k : Nat) (a : HostPort) : (s.setHp k a).smap = s.smap := rfl
@[simp] theorem State.updHp_smap (s : State) (k : Nat) (f : HostPort → HostPort) : (s.updHp k f).smap = s.smap := rfl
@[simp] theorem State.setHp_seamOff (s : State) (k : Nat) (a : HostPort) : (s.setHp k a).seamOff = s.seamOff := rfl
@[simp] theorem State.updHp_seamOff (s : State) (k : Nat) (f : HostPort → HostPort) : (s.updHp k f).seamOff = s.seamOff := rfl
@[simp] theorem State.setHp_pans (s : State) (k : Nat) (a : HostPort) : (s.setHp k a).pans = s.pans := rfl
@[simp] theorem State.updHp_pans (s : State) (k : Nat) (f : HostPort → HostPort) : (s.updHp k f).pans = s.pans := rfl
@[simp] theorem State.setHp_fault (s : State) (k : Nat) (a : HostPort) : (s.setHp k a).fault = s.fault := rfl
@[simp] theorem State.updHp_fault (s : State) (k : Nat) (f : HostPort → HostPort) : (s.updHp k f).fault = s.fault := rfl
@[simp] theorem State.setHp_images (s : State) (k : Nat) (a : HostPort) : (s.setHp k a).images = s.images := rfl
@[simp] theorem State.updHp_images (s : State) (k : Nat) (f : HostPort → HostPort) : (s.updHp k f).images = s.images := rfl
@[simp] theorem State.setHp_power (s : State) (k : Nat) (a : HostPort) : (s.setHp k a).power = s.power := rfl
@[simp] theorem State.updHp_power (s : State) (k : Nat) (f : HostPort → HostPort) : (s.updHp k f).power = s.power := rfl
@[simp] theorem State.setHp_resets (s : State) (k : Nat) (a : HostPort) : (s.setHp k a).resets = s.resets := rfl
@[simp] theorem State.updHp_resets (s : State) (k : Nat) (f : HostPort → HostPort) : (s.updHp k f).resets = s.resets := rfl
@[simp] theorem State.setHp_rmc (s : State) (k : Nat) (a : HostPort) : (s.setHp k a).rmc = s.rmc := rfl
@[simp] theorem State.updHp_rmc (s : State) (k : Nat) (f : HostPort → HostPort) : (s.updHp k f).rmc = s.rmc := rfl
@[simp] theorem State.setHp_sec (s : State) (k : Nat) (a : HostPort) : (s.setHp k a).sec = s.sec := rfl
@[simp] theorem State.updHp_sec (s : State) (k : Nat) (f : HostPort → HostPort) : (s.updHp k f).sec = s.sec := rfl
@[simp] theorem State.setHp_trcSync (s : State) (k : Nat) (a : HostPort) : (s.setHp k a).trcSync = s.trcSync := rfl
@[simp] theorem State.updHp_trcSync (s : State) (k : Nat) (f : HostPort → HostPort) : (s.updHp k f).trcSync = s.trcSync := rfl
@[simp] theorem State.setHp_out (s : State) (k : Nat) (a : HostPort) : (s.setHp k a).out = s.out := rfl
@[simp] theorem State.updHp_out (s : State) (k : Nat) (f : HostPort → HostPort) : (s.updHp k f).out = s.out := rfl
@[simp] theorem State.setHp_site (s : State) (k j : Nat) (a : HostPort) : (s.setHp k a).site j = s.site j := rfl
@[simp] theorem State.updHp_site (s : State) (k j : Nat) (f : HostPort → HostPort) : (s.updHp k f).site j = s.site j := rfl
@[simp] theorem State.setHp_stack (s : State) (k j : Nat) (a : HostPort) : (s.setHp k a).stack j = s.stack j := rfl
@[simp] theorem State.updHp_stack (s : State) (k j : Nat) (f : HostPort → HostPort) : (s.updHp k f).stack j = s.stack j := rfl
@[simp] theorem State.setHp_pc (s : State) (k j : Nat) (a : HostPort) : (s.setHp k a).pc j = s.pc j := rfl
@[simp] theorem State.updHp_pc (s : State) (k j : Nat) (f : HostPort → HostPort) : (s.updHp k f).pc j = s.pc j := rfl
@[simp] theorem State.setHp_bay (s : State) (k j : Nat) (a : HostPort) : (s.setHp k a).bay j = s.bay j := rfl
@[simp] theorem State.updHp_bay (s : State) (k j : Nat) (f : HostPort → HostPort) : (s.updHp k f).bay j = s.bay j := rfl
@[simp] theorem State.setHp_pan (s : State) (k j : Nat) (a : HostPort) : (s.setHp k a).pan j = s.pan j := rfl
@[simp] theorem State.updHp_pan (s : State) (k j : Nat) (f : HostPort → HostPort) : (s.updHp k f).pan j = s.pan j := rfl
@[simp] theorem State.setHp_port (s : State) (k j : Nat) (a : HostPort) : (s.setHp k a).port j = s.port j := rfl
@[simp] theorem State.updHp_port (s : State) (k j : Nat) (f : HostPort → HostPort) : (s.updHp k f).port j = s.port j := rfl

/-! ## pans -/

theorem State.pan_set (s : State) (k j : Nat) (a : Pan) : (s.setPan k a).pan j = if j = k then a else s.pan j := Tbl.get_set _ _ _ _ _

theorem State.pan_upd (s : State) (k j : Nat) (f : Pan → Pan) :
    (s.updPan k f).pan j = if j = k then f (s.pan k) else s.pan j := Tbl.get_set _ _ _ _ _

@[simp] theorem State.pan_upd_self (s : State) (k : Nat) (f : Pan → Pan) : (s.updPan k f).pan k = f (s.pan k) := by
  rw [State.pan_upd, if_pos rfl]

@[simp] theorem State.pan_set_self (s : State) (k : Nat) (a : Pan) : (s.setPan k a).pan k = a := by
  rw [State.pan_set, if_pos rfl]

theorem State.pan_upd_ne (s : State) {k j : Nat} (f : Pan → Pan) (h : j ≠ k) : (s.updPan k f).pan j = s.pan j := by
  rw [State.pan_upd, if_neg h]

theorem State.updPan_congr {s : State} {k : Nat} {f g : Pan → Pan} (h : f (s.pan k) = g (s.pan k)) : s.updPan k f = s.updPan k g := by
  unfold State.updPan
  rw [h]

@[simp] theorem State.setPan_pending (s : State) (k : Nat) (a : Pan) : (s.setPan k a).pending = s.pending := rfl
@[simp] theorem State.updPan_pending (s : State) (k : Nat) (f : Pan → Pan) : (s.updPan k f).pending = s.pending := rfl
@[simp] theorem State.setPan_freeNext (s : State) (k : Nat) (a : Pan) : (s.setPan k a).freeNext = s.freeNext := rfl
@[simp] theorem State.updPan_freeNext (s : State) (k : Nat) (f : Pan → Pan) : (s.updPan k f).freeNext = s.freeNext := rfl
@[simp] theorem State.setPan_sites (s : State) (k : Nat) (a : Pan) : (s.setPan k a).sites = s.sites := rfl
@[simp] theorem State.updPan_sites (s : State) (k : Nat) (f : Pan → Pan) : (s.updPan k f).sites = s.sites := rfl
@[simp] theorem State.setPan_hbms (s : State) (k : Nat) (a : Pan) : (s.setPan k a).hbms = s.hbms := rfl
@[simp] theorem State.updPan_hbms (s : State) (k : Nat) (f : Pan → Pan) : (s.updPan k f).hbms = s.hbms := rfl
@[simp] theorem State.setPan_pcs (s : State) (k : Nat) (a : Pan) : (s.setPan k a).pcs = s.pcs := rfl
@[simp] theorem State.updPan_pcs (s : State) (k : Nat) (f : Pan → Pan) : (s.updPan k f).pcs = s.pcs := rfl
@[simp] theorem State.setPan_bays (s : State) (k : Nat) (a : Pan) : (s.setPan k a).bays = s.bays := rfl
@[simp] theorem State.updPan_bays (s : State) (k : Nat) (f : Pan → Pan) : (s.updPan k f).bays = s.bays := rfl
@[simp] theorem State.setPan_shelf (s : State) (k : Nat) (a : Pan) : (s.setPan k a).shelf = s.shelf := rfl
@[simp] theorem State.updPan_shelf (s : State) (k : Nat) (f : Pan → Pan) : (s.updPan k f).shelf = s.shelf := rfl
@[simp] theorem State.setPan_ports (s : State) (k : Nat) (a : Pan) : (s.setPan k a).ports = s.ports := rfl
@[simp] theorem State.updPan_ports (s : State) (k : Nat) (f : Pan → Pan) : (s.updPan k f).ports = s.ports := rfl
@[simp] theorem State.setPan_fab (s : State) (k : Nat) (a : Pan) : (s.setPan k a).fab = s.fab := rfl
@[simp] theorem State.updPan_fab (s : State) (k : Nat) (f : Pan → Pan) : (s.updPan k f).fab = s.fab := rfl
@[simp] theorem State.setPan_smap (s : State) (k : Nat) (a : Pan) : (s.setPan k a).smap = s.smap := rfl
@[simp] theorem State.updPan_smap (s : State) (k : Nat) (f : Pan → Pan) : (s.updPan k f).smap = s.smap := rfl
@[simp] theorem State.setPan_seamOff (s : State) (k : Nat) (a : Pan) : (s.setPan k a).seamOff = s.seamOff := rfl
@[simp] theorem State.updPan_seamOff (s : State) (k : Nat) (f : Pan → Pan) : (s.updPan k f).seamOff = s.seamOff := rfl
@[simp] theorem State.setPan_hps (s : State) (k : Nat) (a : Pan) : (s.setPan k a).hps = s.hps := rfl
@[simp] theorem State.updPan_hps (s : State) (k : Nat) (f : Pan → Pan) : (s.updPan k f).hps = s.hps := rfl
@[simp] theorem State.setPan_fault (s : State) (k : Nat) (a : Pan) : (s.setPan k a).fault = s.fault := rfl
@[simp] theorem State.updPan_fault (s : State) (k : Nat) (f : Pan → Pan) : (s.updPan k f).fault = s.fault := rfl
@[simp] theorem State.setPan_images (s : State) (k : Nat) (a : Pan) : (s.setPan k a).images = s.images := rfl
@[simp] theorem State.updPan_images (s : State) (k : Nat) (f : Pan → Pan) : (s.updPan k f).images = s.images := rfl
@[simp] theorem State.setPan_power (s : State) (k : Nat) (a : Pan) : (s.setPan k a).power = s.power := rfl
@[simp] theorem State.updPan_power (s : State) (k : Nat) (f : Pan → Pan) : (s.updPan k f).power = s.power := rfl
@[simp] theorem State.setPan_resets (s : State) (k : Nat) (a : Pan) : (s.setPan k a).resets = s.resets := rfl
@[simp] theorem State.updPan_resets (s : State) (k : Nat) (f : Pan → Pan) : (s.updPan k f).resets = s.resets := rfl
@[simp] theorem State.setPan_rmc (s : State) (k : Nat) (a : Pan) : (s.setPan k a).rmc = s.rmc := rfl
@[simp] theorem State.updPan_rmc (s : State) (k : Nat) (f : Pan → Pan) : (s.updPan k f).rmc = s.rmc := rfl
@[simp] theorem State.setPan_sec (s : State) (k : Nat) (a : Pan) : (s.setPan k a).sec = s.sec := rfl
@[simp] theorem State.updPan_sec (s : State) (k : Nat) (f : Pan → Pan) : (s.updPan k f).sec = s.sec := rfl
@[simp] theorem State.setPan_trcSync (s : State) (k : Nat) (a : Pan) : (s.setPan k a).trcSync = s.trcSync := rfl
@[simp] theorem State.updPan_trcSync (s : State) (k : Nat) (f : Pan → Pan) : (s.updPan k f).trcSync = s.trcSync := rfl
@[simp] theorem State.setPan_out (s : State) (k : Nat) (a : Pan) : (s.setPan k a).out = s.out := rfl
@[simp] theorem State.updPan_out (s : State) (k : Nat) (f : Pan → Pan) : (s.updPan k f).out = s.out := rfl
@[simp] theorem State.setPan_site (s : State) (k j : Nat) (a : Pan) : (s.setPan k a).site j = s.site j := rfl
@[simp] theorem State.updPan_site (s : State) (k j : Nat) (f : Pan → Pan) : (s.updPan k f).site j = s.site j := rfl
@[simp] theorem State.setPan_stack (s : State) (k j : Nat) (a : Pan) : (s.setPan k a).stack j = s.stack j := rfl
@[simp] theorem State.updPan_stack (s : State) (k j : Nat) (f : Pan → Pan) : (s.updPan k f).stack j = s.stack j := rfl
@[simp] theorem State.setPan_pc (s : State) (k j : Nat) (a : Pan) : (s.setPan k a).pc j = s.pc j := rfl
@[simp] theorem State.updPan_pc (s : State) (k j : Nat) (f : Pan → Pan) : (s.updPan k f).pc j = s.pc j := rfl
@[simp] theorem State.setPan_bay (s : State) (k j : Nat) (a : Pan) : (s.setPan k a).bay j = s.bay j := rfl
@[simp] theorem State.updPan_bay (s : State) (k j : Nat) (f : Pan → Pan) : (s.updPan k f).bay j = s.bay j := rfl
@[simp] theorem State.setPan_hp (s : State) (k j : Nat) (a : Pan) : (s.setPan k a).hp j = s.hp j := rfl
@[simp] theorem State.updPan_hp (s : State) (k j : Nat) (f : Pan → Pan) : (s.updPan k f).hp j = s.hp j := rfl
@[simp] theorem State.setPan_port (s : State) (k j : Nat) (a : Pan) : (s.setPan k a).port j = s.port j := rfl
@[simp] theorem State.updPan_port (s : State) (k j : Nat) (f : Pan → Pan) : (s.updPan k f).port j = s.port j := rfl

/-! ## ports -/

theorem State.port_set (s : State) (k j : Nat) (a : Port) : (s.setPort k a).port j = if j = k then a else s.port j := Tbl.get_set _ _ _ _ _

theorem State.port_upd (s : State) (k j : Nat) (f : Port → Port) :
    (s.updPort k f).port j = if j = k then f (s.port k) else s.port j := Tbl.get_set _ _ _ _ _

@[simp] theorem State.port_upd_self (s : State) (k : Nat) (f : Port → Port) : (s.updPort k f).port k = f (s.port k) := by
  rw [State.port_upd, if_pos rfl]

theorem State.updPort_updPort (s : State) (k : Nat) (f g : Port → Port) : (s.updPort k f).updPort k g = s.updPort k (fun a => g (f a)) := by
  show (s.updPort k f).setPort k (g ((s.updPort k f).port k)) = _
  rw [State.port_upd_self]
  show ({ s with ports := _ } : State) = { s with ports := _ }
  rw [State.updPort, State.setPort, Tbl.set_set]

@[simp] theorem State.port_set_self (s : State) (k : Nat) (a : Port) : (s.setPort k a).port k = a := by
  rw [State.port_set, if_pos rfl]

theorem State.port_upd_ne (s : State) {k j : Nat} (f : Port → Port) (h : j ≠ k) : (s.updPort k f).port j = s.port j := by
  rw [State.port_upd, if_neg h]

theorem State.updPort_congr {s : State} {k : Nat} {f g : Port → Port} (h : f (s.port k) = g (s.port k)) : s.updPort k f = s.updPort k g := by
  unfold State.updPort
  rw [h]

@[simp] theorem State.setPort_pending (s : State) (k : Nat) (a : Port) : (s.setPort k a).pending = s.pending := rfl
@[simp] theorem State.updPort_pending (s : State) (k : Nat) (f : Port → Port) : (s.updPort k f).pending = s.pending := rfl
@[simp] theorem State.setPort_freeNext (s : State) (k : Nat) (a : Port) : (s.setPort k a).freeNext = s.freeNext := rfl
@[simp] theorem State.updPort_freeNext (s : State) (k : Nat) (f : Port → Port) : (s.updPort k f).freeNext = s.freeNext := rfl
@[simp] theorem State.setPort_sites (s : State) (k : Nat) (a : Port) : (s.setPort k a).sites = s.sites := rfl
@[simp] theorem State.updPort_sites (s : State) (k : Nat) (f : Port → Port) : (s.updPort k f).sites = s.sites := rfl
@[simp] theorem State.setPort_hbms (s : State) (k : Nat) (a : Port) : (s.setPort k a).hbms = s.hbms := rfl
@[simp] theorem State.updPort_hbms (s : State) (k : Nat) (f : Port → Port) : (s.updPort k f).hbms = s.hbms := rfl
@[simp] theorem State.setPort_pcs (s : State) (k : Nat) (a : Port) : (s.setPort k a).pcs = s.pcs := rfl
@[simp] theorem State.updPort_pcs (s : State) (k : Nat) (f : Port → Port) : (s.updPort k f).pcs = s.pcs := rfl
@[simp] theorem State.setPort_bays (s : State) (k : Nat) (a : Port) : (s.setPort k a).bays = s.bays := rfl
@[simp] theorem State.updPort_bays (s : State) (k : Nat) (f : Port → Port) : (s.updPort k f).bays = s.bays := rfl
@[simp] theorem State.setPort_shelf (s : State) (k : Nat) (a : Port) : (s.setPort k a).shelf = s.shelf := rfl
@[simp] theorem State.updPort_shelf (s : State) (k : Nat) (f : Port → Port) : (s.updPort k f).shelf = s.shelf := rfl
@[simp] theorem State.setPort_fab (s : State) (k : Nat) (a : Port) : (s.setPort k a).fab = s.fab := rfl
@[simp] theorem State.updPort_fab (s : State) (k : Nat) (f : Port → Port) : (s.updPort k f).fab = s.fab := rfl
@[simp] theorem State.setPort_smap (s : State) (k : Nat) (a : Port) : (s.setPort k a).smap = s.smap := rfl
@[simp] theorem State.updPort_smap (s : State) (k : Nat) (f : Port → Port) : (s.updPort k f).smap = s.smap := rfl
@[simp] theorem State.setPort_seamOff (s : State) (k : Nat) (a : Port) : (s.setPort k a).seamOff = s.seamOff := rfl
@[simp] theorem State.updPort_seamOff (s : State) (k : Nat) (f : Port → Port) : (s.updPort k f).seamOff = s.seamOff := rfl
@[simp] theorem State.setPort_hps (s : State) (k : Nat) (a : Port) : (s.setPort k a).hps = s.hps := rfl
@[simp] theorem State.updPort_hps (s : State) (k : Nat) (f : Port → Port) : (s.updPort k f).hps = s.hps := rfl
@[simp] theorem State.setPort_pans (s : State) (k : Nat) (a : Port) : (s.setPort k a).pans = s.pans := rfl
@[simp] theorem State.updPort_pans (s : State) (k : Nat) (f : Port → Port) : (s.updPort k f).pans = s.pans := rfl
@[simp] theorem State.setPort_fault (s : State) (k : Nat) (a : Port) : (s.setPort k a).fault = s.fault := rfl
@[simp] theorem State.updPort_fault (s : State) (k : Nat) (f : Port → Port) : (s.updPort k f).fault = s.fault := rfl
@[simp] theorem State.setPort_images (s : State) (k : Nat) (a : Port) : (s.setPort k a).images = s.images := rfl
@[simp] theorem State.updPort_images (s : State) (k : Nat) (f : Port → Port) : (s.updPort k f).images = s.images := rfl
@[simp] theorem State.setPort_power (s : State) (k : Nat) (a : Port) : (s.setPort k a).power = s.power := rfl
@[simp] theorem State.updPort_power (s : State) (k : Nat) (f : Port → Port) : (s.updPort k f).power = s.power := rfl
@[simp] theorem State.setPort_resets (s : State) (k : Nat) (a : Port) : (s.setPort k a).resets = s.resets := rfl
@[simp] theorem State.updPort_resets (s : State) (k : Nat) (f : Port → Port) : (s.updPort k f).resets = s.resets := rfl
@[simp] theorem State.setPort_rmc (s : State) (k : Nat) (a : Port) : (s.setPort k a).rmc = s.rmc := rfl
@[simp] theorem State.updPort_rmc (s : State) (k : Nat) (f : Port → Port) : (s.updPort k f).rmc = s.rmc := rfl
@[simp] theorem State.setPort_sec (s : State) (k : Nat) (a : Port) : (s.setPort k a).sec = s.sec := rfl
@[simp] theorem State.updPort_sec (s : State) (k : Nat) (f : Port → Port) : (s.updPort k f).sec = s.sec := rfl
@[simp] theorem State.setPort_trcSync (s : State) (k : Nat) (a : Port) : (s.setPort k a).trcSync = s.trcSync := rfl
@[simp] theorem State.updPort_trcSync (s : State) (k : Nat) (f : Port → Port) : (s.updPort k f).trcSync = s.trcSync := rfl
@[simp] theorem State.setPort_out (s : State) (k : Nat) (a : Port) : (s.setPort k a).out = s.out := rfl
@[simp] theorem State.updPort_out (s : State) (k : Nat) (f : Port → Port) : (s.updPort k f).out = s.out := rfl
@[simp] theorem State.setPort_site (s : State) (k j : Nat) (a : Port) : (s.setPort k a).site j = s.site j := rfl
@[simp] theorem State.updPort_site (s : State) (k j : Nat) (f : Port → Port) : (s.updPort k f).site j = s.site j := rfl
@[simp] theorem State.setPort_stack (s : State) (k j : Nat) (a : Port) : (s.setPort k a).stack j = s.stack j := rfl
@[simp] theorem State.updPort_stack (s : State) (k j : Nat) (f : Port → Port) : (s.updPort k f).stack j = s.stack j := rfl
@[simp] theorem State.setPort_pc (s : State) (k j : Nat) (a : Port) : (s.setPort k a).pc j = s.pc j := rfl
@[simp] theorem State.updPort_pc (s : State) (k j : Nat) (f : Port → Port) : (s.updPort k f).pc j = s.pc j := rfl
@[simp] theorem State.setPort_bay (s : State) (k j : Nat) (a : Port) : (s.setPort k a).bay j = s.bay j := rfl
@[simp] theorem State.updPort_bay (s : State) (k j : Nat) (f : Port → Port) : (s.updPort k f).bay j = s.bay j := rfl
@[simp] theorem State.setPort_hp (s : State) (k j : Nat) (a : Port) : (s.setPort k a).hp j = s.hp j := rfl
@[simp] theorem State.updPort_hp (s : State) (k j : Nat) (f : Port → Port) : (s.updPort k f).hp j = s.hp j := rfl
@[simp] theorem State.setPort_pan (s : State) (k j : Nat) (a : Port) : (s.setPort k a).pan j = s.pan j := rfl
@[simp] theorem State.updPort_pan (s : State) (k j : Nat) (f : Port → Port) : (s.updPort k f).pan j = s.pan j := rfl

/-! ## Outputs and free values -/

@[simp] theorem State.emit_pending (s : State) (o : Output) : (s.emit o).pending = s.pending := rfl
@[simp] theorem State.draw_pending (s : State) : s.draw.2.pending = s.pending := rfl
@[simp] theorem State.emit_freeNext (s : State) (o : Output) : (s.emit o).freeNext = s.freeNext := rfl
@[simp] theorem State.emit_sites (s : State) (o : Output) : (s.emit o).sites = s.sites := rfl
@[simp] theorem State.draw_sites (s : State) : s.draw.2.sites = s.sites := rfl
@[simp] theorem State.emit_hbms (s : State) (o : Output) : (s.emit o).hbms = s.hbms := rfl
@[simp] theorem State.draw_hbms (s : State) : s.draw.2.hbms = s.hbms := rfl
@[simp] theorem State.emit_pcs (s : State) (o : Output) : (s.emit o).pcs = s.pcs := rfl
@[simp] theorem State.draw_pcs (s : State) : s.draw.2.pcs = s.pcs := rfl
@[simp] theorem State.emit_bays (s : State) (o : Output) : (s.emit o).bays = s.bays := rfl
@[simp] theorem State.draw_bays (s : State) : s.draw.2.bays = s.bays := rfl
@[simp] theorem State.emit_shelf (s : State) (o : Output) : (s.emit o).shelf = s.shelf := rfl
@[simp] theorem State.draw_shelf (s : State) : s.draw.2.shelf = s.shelf := rfl
@[simp] theorem State.emit_ports (s : State) (o : Output) : (s.emit o).ports = s.ports := rfl
@[simp] theorem State.draw_ports (s : State) : s.draw.2.ports = s.ports := rfl
@[simp] theorem State.emit_fab (s : State) (o : Output) : (s.emit o).fab = s.fab := rfl
@[simp] theorem State.draw_fab (s : State) : s.draw.2.fab = s.fab := rfl
@[simp] theorem State.emit_smap (s : State) (o : Output) : (s.emit o).smap = s.smap := rfl
@[simp] theorem State.draw_smap (s : State) : s.draw.2.smap = s.smap := rfl
@[simp] theorem State.emit_seamOff (s : State) (o : Output) : (s.emit o).seamOff = s.seamOff := rfl
@[simp] theorem State.draw_seamOff (s : State) : s.draw.2.seamOff = s.seamOff := rfl
@[simp] theorem State.emit_hps (s : State) (o : Output) : (s.emit o).hps = s.hps := rfl
@[simp] theorem State.draw_hps (s : State) : s.draw.2.hps = s.hps := rfl
@[simp] theorem State.emit_pans (s : State) (o : Output) : (s.emit o).pans = s.pans := rfl
@[simp] theorem State.draw_pans (s : State) : s.draw.2.pans = s.pans := rfl
@[simp] theorem State.emit_fault (s : State) (o : Output) : (s.emit o).fault = s.fault := rfl
@[simp] theorem State.draw_fault (s : State) : s.draw.2.fault = s.fault := rfl
@[simp] theorem State.emit_images (s : State) (o : Output) : (s.emit o).images = s.images := rfl
@[simp] theorem State.draw_images (s : State) : s.draw.2.images = s.images := rfl
@[simp] theorem State.emit_power (s : State) (o : Output) : (s.emit o).power = s.power := rfl
@[simp] theorem State.draw_power (s : State) : s.draw.2.power = s.power := rfl
@[simp] theorem State.emit_resets (s : State) (o : Output) : (s.emit o).resets = s.resets := rfl
@[simp] theorem State.draw_resets (s : State) : s.draw.2.resets = s.resets := rfl
@[simp] theorem State.emit_rmc (s : State) (o : Output) : (s.emit o).rmc = s.rmc := rfl
@[simp] theorem State.draw_rmc (s : State) : s.draw.2.rmc = s.rmc := rfl
@[simp] theorem State.emit_sec (s : State) (o : Output) : (s.emit o).sec = s.sec := rfl
@[simp] theorem State.draw_sec (s : State) : s.draw.2.sec = s.sec := rfl
@[simp] theorem State.emit_trcSync (s : State) (o : Output) : (s.emit o).trcSync = s.trcSync := rfl
@[simp] theorem State.draw_trcSync (s : State) : s.draw.2.trcSync = s.trcSync := rfl
@[simp] theorem State.draw_out (s : State) : s.draw.2.out = s.out := rfl
@[simp] theorem State.emit_site (s : State) (o : Output) (j : Nat) : (s.emit o).site j = s.site j := rfl
@[simp] theorem State.draw_site (s : State) (j : Nat) : s.draw.2.site j = s.site j := rfl
@[simp] theorem State.emit_stack (s : State) (o : Output) (j : Nat) : (s.emit o).stack j = s.stack j := rfl
@[simp] theorem State.draw_stack (s : State) (j : Nat) : s.draw.2.stack j = s.stack j := rfl
@[simp] theorem State.emit_pc (s : State) (o : Output) (j : Nat) : (s.emit o).pc j = s.pc j := rfl
@[simp] theorem State.draw_pc (s : State) (j : Nat) : s.draw.2.pc j = s.pc j := rfl
@[simp] theorem State.emit_bay (s : State) (o : Output) (j : Nat) : (s.emit o).bay j = s.bay j := rfl
@[simp] theorem State.draw_bay (s : State) (j : Nat) : s.draw.2.bay j = s.bay j := rfl
@[simp] theorem State.emit_hp (s : State) (o : Output) (j : Nat) : (s.emit o).hp j = s.hp j := rfl
@[simp] theorem State.draw_hp (s : State) (j : Nat) : s.draw.2.hp j = s.hp j := rfl
@[simp] theorem State.emit_pan (s : State) (o : Output) (j : Nat) : (s.emit o).pan j = s.pan j := rfl
@[simp] theorem State.draw_pan (s : State) (j : Nat) : s.draw.2.pan j = s.pan j := rfl
@[simp] theorem State.emit_port (s : State) (o : Output) (j : Nat) : (s.emit o).port j = s.port j := rfl
@[simp] theorem State.draw_port (s : State) (j : Nat) : s.draw.2.port j = s.port j := rfl

/-! ## Task slots -/

theorem Site.slots_updSlot (a : Site) (n m : Fin 4) (f : Slot → Slot) :
    (a.updSlot n f).slots[m] = if m = n then f a.slots[n] else a.slots[m] := by
  by_cases h : m = n
  · subst h; simp [Site.updSlot]
  · have : n.val ≠ m.val := fun e => h (Fin.ext e.symm)
    simp [Site.updSlot, h, this]

@[simp] theorem State.slot_updSlot_self (s : State) (k : Nat) (n : Fin 4) (f : Slot → Slot) : (s.updSlot k n f).slot k n = f (s.slot k n) := by
  simp only [State.slot, State.updSlot, State.site_upd_self, Site.slots_updSlot, if_pos]

theorem State.slot_updSlot_ne (s : State) (k : Nat) {n m : Fin 4} (f : Slot → Slot) (h : m ≠ n) :
    (s.updSlot k n f).slot k m = s.slot k m := by
  simp only [State.slot, State.updSlot, State.site_upd_self, Site.slots_updSlot, if_neg h]

theorem State.updSlot_congr {s : State} {k : Nat} {n : Fin 4} {f g : Slot → Slot} (h : f (s.slot k n) = g (s.slot k n)) :
    s.updSlot k n f = s.updSlot k n g :=
  State.updSite_congr (by unfold State.slot at h; unfold Site.updSlot; rw [h])

theorem Slot.reg_setReg (x : Slot) (r q : BitVec 5) (v : W64) :
    (x.setReg r v).reg q = if q = r ∧ r ≠ 0 then v else x.reg q := by
  unfold Slot.setReg
  by_cases h0 : r = 0
  · rw [if_pos h0, if_neg (fun h => h.2 h0)]
  · rw [if_neg h0]
    by_cases h : q = r
    · rw [if_pos ⟨h, h0⟩]
      subst h
      rw [Slot.reg, if_neg h0]
      exact Vector.getElem_set_self _
    · rw [if_neg (fun e => h e.1), Slot.reg, Slot.reg]
      have : r.toNat ≠ q.toNat := fun e => h (BitVec.eq_of_toNat_eq e.symm)
      split
      · rfl
      · rw [Vector.getElem_set, if_neg this]

end Sys2Proof.Machine
end

