-- ==== Sys2Proof/Laws/Issue.lean ====
section
/-! SUPPORT. Laws/Issue.lean: what the issue of a control instruction and the access checks of the scratchpad can do. -/

namespace Sys2Proof.Machine

set_option Elab.async false

/-- Ranges that hold no word with an error are read without more. -/
theorem State.readChecked_of_good {s : State} {k : Nat} {rs : List (Nat × Nat)} {f : State → State}
    (h : ∀ r ∈ rs, (s.site k).spad.flawed r.1 r.2 = false) : s.readChecked k rs f = f s := by
  unfold State.readChecked
  rw [if_pos (List.all_eq_true.mpr (fun r hr => by rw [h r hr]; rfl))]

/-- Writes that merge with no uncorrectable word are writes of their runs. -/
theorem State.writeChecked_of_good {s : State} {k : Nat} {accs : List WriteRuns} (h : (s.site k).spad.badMerges accs = none) :
    s.writeChecked k accs = s.updSite k (fun a => a.putRuns accs) := by
  unfold State.writeChecked
  dsimp only
  rw [h]

/-- The issue of the instruction that stands at the PC of the slot whose turn it is, in words without an error. -/
theorem State.issue_of_fetch {s : State} {k : Nat} {n : Fin 4} {w : W32} {op : CtlOp} {f : W32 → State → State}
    (h1 : (s.site k).turn = some n) (h2 : (s.site k).fetch n = some w) (hd : ctlDecode w = some op)
    (h3 : ∀ r ∈ (s.site k).fetchRanges n, (s.site k).spad.flawed r.1 r.2 = false) :
    s.issue k n op f = f w (s.updSite k (fun a => a.issued n)) := by
  unfold State.issue
  dsimp only
  rw [if_pos h1, h2]
  dsimp only
  rw [hd]
  dsimp only
  rw [if_pos rfl]
  exact State.readChecked_of_good h3

/-- After an issue the slot holds the line of its instruction, and the others are as they were. -/
theorem Site.slots_issued (a : Site) (n m : Fin 4) :
    (a.issued n).slots[m] = if m = n then { a.slots[n] with line := some (a.lineOf n) } else a.slots[m] :=
  Site.slots_updSlot a n m (fun x => { x with line := some (a.lineOf n) })

/-- The slot of a state after an issue of its unit. -/
theorem State.slot_issued (s : State) (k : Nat) (n m : Fin 4) : (s.updSite k (fun a => a.issued n)).slot k m
    = if m = n then { s.slot k n with line := some ((s.site k).lineOf n) } else s.slot k m := by
  rw [State.slot, State.site_upd_self, Site.slots_issued]; rfl

/-- A slot whose turn it is not does nothing. -/
theorem State.issue_of_not {s : State} {k : Nat} {n : Fin 4} {op : CtlOp} {f : W32 → State → State}
    (h : (s.site k).turn ≠ some n) : s.issue k n op f = s := by
  unfold State.issue
  dsimp only
  rw [if_neg h]

end Sys2Proof.Machine
end

