-- ==== Sys2Proof/WellFormed.lean ====
section
/-! DEFINITION. WellFormed.lean: what a command's operands must satisfy beyond their types. -/

namespace Sys2Proof

/-- Site positions lie in the mesh of 192 × 200 routers, and a payload has at most four flits of 128 B (R139, R147). -/
def Packet.wf (p : Packet) : Bool :=
  p.drow < 192 && p.dcol < 200 && p.srow < 192 && p.scol < 200 && p.payload.length ≤ 512

/-- A body has at most 4,064 bytes, and module addresses have 14 bits (R283, R286). -/
def FabPkt.wf (p : FabPkt) : Bool := p.body.length ≤ 4064 && p.dst.toNat < 16384 && p.src.toNat < 16384

/-- Reads of 1 to 4,096 bytes and writes of 1 to 512 bytes (R341, R345). -/
def BarAccess.wf : BarAccess → Bool
  | .read len => 1 ≤ len && len ≤ 4096
  | .write data => 1 ≤ data.length && data.length ≤ 512

/-- The sizes that BAR4 offers, 1 GiB to 64 GiB (R343), payloads of up to 512 bytes and read requests of up to 4,096 (R342). -/
def ConfigWrite.wf : ConfigWrite → Bool
  | .bar _ _ => true
  | .bar4Size l => 30 ≤ l && l ≤ 36
  | .power _ => true
  | .msix _ _ => true
  | .deviceControl p r => p.toNat ≤ 2 && r.toNat ≤ 5
  | .aerStatus _ => true
  | .aerMask _ => true
  | .aerSeverity _ => true
  | .aerCorStatus _ => true
  | .aerCorMask _ => true
  | .levelReset => true
  | .read _ => true

/-- The operands of a command lie in the ranges the spec gives them: packets as R147 and R283 say, a flit of 256 bytes (R275), up to 16 retry
levels for the 512 codewords of a page (R325), reads and writes of the sizes of R341 and R347, and ten-bit tags (R342). -/
def Instr.wf : Instr → Bool
  | .add _ _ => true
  | .sub _ _ => true
  | .and _ _ => true
  | .or _ _ => true
  | .xor _ _ => true
  | .shl _ _ => true
  | .shr _ _ => true
  | .sar _ _ => true
  | .slt _ _ => true
  | .sltu _ _ => true
  | .mul _ _ => true
  | .mulh _ _ => true
  | .addi _ _ => true
  | .andi _ _ => true
  | .ori _ _ => true
  | .xori _ _ => true
  | .slti _ _ => true
  | .shi _ _ => true
  | .lui _ _ => true
  | .luih _ _ => true
  | .load _ _ => true
  | .store _ _ => true
  | .beq _ _ => true
  | .bne _ _ => true
  | .blt _ _ => true
  | .bge _ _ => true
  | .bltu _ _ => true
  | .bgeu _ _ => true
  | .jal _ _ => true
  | .jr _ _ => true
  | .qpush _ _ => true
  | .qload _ _ => true
  | .wait _ _ => true
  | .sqpop _ _ => true
  | .sqcnt _ _ => true
  | .csrr _ _ => true
  | .csrw _ _ => true
  | .yield _ _ => true
  | .halt _ _ => true
  | .queueSpaceResume _ _ => true
  | .waitRelease _ _ => true
  | .sqpopResume _ _ => true
  | .taskStart _ _ => true
  | .taskStop _ _ => true
  | .haltAll _ => true
  | .slotStopDone _ _ => true
  | .queueEntryComplete _ _ => true
  | .engineHang _ _ => true
  | .dmaRead _ _ => true
  | .dmaWrite _ _ => true
  | .dmaPut _ _ => true
  | .dmaGather _ _ => true
  | .dmaAtomic _ _ => true
  | .dmaCompletion _ _ => true
  | .readRspArrive _ p => p.wf
  | .putArrive _ p => p.wf
  | .ackArrive _ p => p.wf
  | .completionArrive _ p => p.wf
  | .ctrlMsgArrive _ p => p.wf
  | .mma _ => true
  | .drain _ => true
  | .zero _ => true
  | .ldtab _ => true
  | .accDrainStart _ => true
  | .vnop _ => true
  | .vsetvl _ => true
  | .vadd _ => true
  | .vsub _ => true
  | .vmul _ => true
  | .vfma _ => true
  | .vmin _ => true
  | .vmax _ => true
  | .vabs _ => true
  | .vneg _ => true
  | .vand _ => true
  | .vor _ => true
  | .vxor _ => true
  | .vshl _ => true
  | .vshr _ => true
  | .vsar _ => true
  | .vcvt _ => true
  | .vsel _ => true
  | .vmov _ => true
  | .vexp2 _ => true
  | .vlog2 _ => true
  | .vrcp _ => true
  | .vrsqrt _ => true
  | .vcmpeq _ => true
  | .vcmpne _ => true
  | .vcmplt _ => true
  | .vcmple _ => true
  | .vcmpgt _ => true
  | .vcmpge _ => true
  | .vcmpun _ => true
  | .pand _ => true
  | .por _ => true
  | .pxor _ => true
  | .pnot _ => true
  | .psetl _ => true
  | .pclrl _ => true
  | .pfill _ => true
  | .ptest _ => true
  | .vperm _ => true
  | .vbcl _ => true
  | .vrot _ => true
  | .vred _ => true
  | .vtest _ => true
  | .vld _ => true
  | .vst _ => true
  | .vst4 _ => true
  | .pld _ => true
  | .pst _ => true
  | .tld _ => true
  | .tst _ => true
  | .tget _ => true
  | .tput _ => true
  | .tred _ => true
  | .topv _ => true
  | .topt _ => true
  | .tzero _ => true
  | .tcopy _ => true
  | .tmaskz _ => true
  | .spadAgeGrant _ => true
  | .scratchpadClearDone _ => true
  | .noiseReseed _ => true
  | .noiseSeed _ _ => true
  | .noiseAutoReseed _ => true
  | .noiseHealthFail _ => true
  | .routerForward _ _ _ _ => true
  | .combineHoldExpire _ _ _ => true
  | .outputGrant _ _ => true
  | .routerAgeGrant _ _ _ _ _ => true
  | .dsetFork _ _ _ => true
  | .creditReturn _ _ _ _ => true
  | .seamLinkRetry _ _ => true
  | .livenessSend _ => true
  | .livenessArrive _ _ => true
  | .livenessLost _ _ => true
  | .routeAuditDone => true
  | .hbmReadReq _ p => p.wf
  | .mergeClose _ _ => true
  | .hbmWrite _ p => p.wf
  | .hbmDeviceAccessDone _ => true
  | .addI32 _ p => p.wf
  | .addF32 _ p => p.wf
  | .addBf16 _ p => p.wf
  | .minI32 _ p => p.wf
  | .maxI32 _ p => p.wf
  | .minF32 _ p => p.wf
  | .maxF32 _ p => p.wf
  | .swap _ p => p.wf
  | .cas _ p => p.wf
  | .hbmRefresh _ _ => true
  | .hbmTempSample _ _ => true
  | .hbmPwrOn _ _ _ => true
  | .hbmPwrRetain _ _ _ => true
  | .hbmPwrOff _ _ _ => true
  | .hbmBankDrained _ _ => true
  | .hbmDrainForced _ _ => true
  | .hbmBankOpened _ _ => true
  | .rmcStackOnRequest _ => true
  | .rmcStackTempSample _ _ => true
  | .stackInitDone _ => true
  | .wsKick _ _ _ => true
  | .wsDescStart _ => true
  | .wsRetryDelay _ => true
  | .wsDescComplete _ => true
  | .tempoEnd _ _ => true
  | .tempoAdvance _ => true
  | .tempoWrite _ _ => true
  | .tempoStopArm _ => true
  | .panStopTarget _ => true
  | .tempoTargetArrive _ => true
  | .panStopped _ => true
  | .panForcedStop _ => true
  | .panRun _ => true
  | .panStop _ => true
  | .panForce _ => true
  | .acuWrite _ p => p.wf
  | .acuRead _ p => p.wf
  | .acuRecordSent _ _ => true
  | .acuRecordFetched _ _ _ => true
  | .redOpen _ _ => true
  | .redStart _ _ => true
  | .redClose _ _ => true
  | .redAbort _ _ => true
  | .grantArrive _ => true
  | .grantRetry _ _ _ _ => true
  | .pcReduceArrive _ p => p.wf
  | .upArrive _ p => p.wf
  | .downArrive _ p => p.wf
  | .shadowUpArrive _ p => p.wf
  | .shadowDownArrive _ p => p.wf
  | .shadowCopyArrive _ _ => true
  | .passComplete _ _ => true
  | .shortfallTimeout _ _ => true
  | .downTimeout _ _ => true
  | .ueTasksQueued _ _ => true
  | .ueTaskStart _ => true
  | .ueBarrier _ _ => true
  | .ueRelease _ _ _ => true
  | .ueReleaseLine _ p => p.wf
  | .ueAbandon _ _ => true
  | .layerEntryWrite _ _ _ _ => true
  | .acuSetWrite _ _ _ _ => true
  | .flitReceive _ flit => flit.length == 256
  | .nakRepeat _ => true
  | .replayTimeout _ => true
  | .pcsLockLost _ => true
  | .linkctlExchange _ _ _ => true
  | .portEnableWrite _ _ => true
  | .portRetrain _ => true
  | .fabricPacketRoute _ => true
  | .answerTimeout _ _ => true
  | .wwrite _ p => p.wf
  | .wackArrive _ p => p.wf
  | .sendChannelWrite _ p => p.wf
  | .winOpen _ _ => true
  | .winClose _ _ => true
  | .winClosed _ _ => true
  | .routeToken _ p => p.wf
  | .routeEnd _ p => p.wf
  | .routeReturn _ p => p.wf
  | .tokenArrive _ p => p.wf
  | .resultArrive _ p => p.wf
  | .tackArrive _ p => p.wf
  | .ctrlPacketArrive _ p => p.wf
  | .heartbeatSend _ => true
  | .heartbeatArrive _ p => p.wf
  | .moduleLost _ => true
  | .fwdCommit => true
  | .moduleFenceWrite _ _ => true
  | .storeRead _ p => p.wf
  | .storeWrite _ p => p.wf
  | .storePageDone _ _ levels _ _ => levels.length ≤ 512 && levels.all (fun e => e.2 < 16)
  | .format _ => true
  | .mount _ => true
  | .unmount _ => true
  | .harvestOpen _ => true
  | .harvestCommit _ => true
  | .harvestDrop _ => true
  | .sanitize _ => true
  | .trim _ => true
  | .storeCmdDone _ => true
  | .harvestCommitDone _ => true
  | .cartridgeInsert _ _ => true
  | .cartridgeRemove _ => true
  | .cartridgeTempSample _ _ => true
  | .scrubAgeTick _ => true
  | .scrubBlock _ _ _ => true
  | .wearLevel _ => true
  | .retryTableSave _ => true
  | .sqTailDoorbell _ _ _ => true
  | .cqHeadDoorbell _ _ _ => true
  | .commandFetch _ => true
  | .nop _ _ => true
  | .copyIn _ _ => true
  | .copyOut _ _ => true
  | .csrWrite _ _ => true
  | .csrRead _ _ => true
  | .imageLoad _ _ => true
  | .cmdWait _ _ => true
  | .cmdWaitPoll _ _ => true
  | .commandComplete _ _ => true
  | .msixCoalesceTimeout _ _ => true
  | .bar4Read _ _ len => 1 ≤ len && len ≤ 4096
  | .bar4Write _ _ data => 1 ≤ data.length && data.length ≤ 512
  | .bar0Access _ _ a => a.wf
  | .hostCompletionTimeout _ tag => tag < 1024
  | .hostPortReset _ => true
  | .ideIntegrityFail _ => true
  | .imageStaged => true
  | .imageApply => true
  | .imageLoadComplete => true
  | .inputLost _ => true
  | .overvoltageShutdown => true
  | .feedFault _ _ _ => true
  | .powerOnReset _ _ _ => true
  | .powerUpReady => true
  | .capUpdate _ _ => true
  | .siteTempSample _ _ => true
  | .stageTempSample _ _ => true
  | .coolantSample _ _ _ => true
  | .coolantShutdown => true
  | .islFreqWrite _ _ _ => true
  | .oscLockChange _ _ => true
  | .park _ _ => true
  | .parkBlockIdle _ => true
  | .parkRoutersEmpty => true
  | .parkDrainTimeout => true
  | .unpark _ _ => true
  | .moduleReset _ _ => true
  | .panReset _ => true
  | .arrayReset _ => true
  | .arrayResetQuiesced _ => true
  | .arrayResetTimeout _ => true
  | .bayReset _ => true
  | .fabricPortReset _ => true
  | .rstReqAssert => true
  | .controllerHeartbeat _ => true
  | .controllerHang _ => true
  | .domainPowerPoll _ _ => true
  | .fenceSite _ => true
  | .retest _ => true
  | .retestResult _ _ => true
  | .fenceWafer _ => true
  | .promote _ => true
  | .promotion => true
  | .fwSwitch _ => true
  | .fwRevert _ => true
  | .fwHealthy _ => true
  | .fwHealthTimeout _ => true
  | .osfpInsert _ _ _ _ => true
  | .osfpRemove _ => true
  | .pstageOffline _ => true
  | .pstageOnline _ => true
  | .pstageInsert _ => true
  | .pstageFail _ _ _ => true
  | .nonceDraw => true
  | .nonceExpire => true
  | .provisionOwner => true
  | .rotateOwner => true
  | .close => true
  | .returnReq => true
  | .debugUnlock => true
  | .refurbish => true
  | .retire => true
  | .getVersion _ => true
  | .getCapabilities _ _ => true
  | .negotiateAlgorithms _ _ => true
  | .getDigests _ => true
  | .getCertificate _ _ => true
  | .challenge _ _ => true
  | .getCsr _ => true
  | .setCertificate _ _ _ => true
  | .getMeasurements _ _ => true
  | .keyExchange _ => true
  | .finish _ _ => true
  | .endSession _ _ => true
  | .spdmHeartbeat _ _ => true
  | .keyUpdate _ _ => true
  | .ideKm _ _ _ => true
  | .pldmPlatform _ _ => true
  | .pldmFwUpdate _ _ _ => true
  | .telemetrySample => true
  | .trcMark _ _ _ => true
  | .trcEnableWrite _ _ _ _ => true
  | .traceLineWrite _ => true
  | .syncMarker => true
  | .dbgDataRead _ => true
  | .dbgDataWrite _ _ => true
  | .jtagScanSelect _ _ => true
  | .rcRead _ _ => true
  | .regWrite _ _ _ => true
  | .hostLinkUp _ _ _ _ => true
  | .feedRestored => true
  | .reclaimDone _ _ => true
  | .configurationWrite _ w => w.wf
  | .doeDiscovery _ _ => true
  | .pldmMessagingControl _ => true
  | .dynamicAddressAssign _ => true
  | .hostReadCompletion _ tag data => tag < 1024 && data.length ≤ 4096

end Sys2Proof
end

