-- ==== Sys2Proof/Laws/PerInstr.lean ====
section
/-! SUPPORT. Laws/PerInstr.lean: what holds of every command as syntax, one lemma per constructor. -/

namespace Sys2Proof.Laws.Payload

set_option Elab.async false

/-- The mesh packet that a command carries. -/
def packetOf : Instr → Option Packet
  | .add _ _ => none
  | .sub _ _ => none
  | .and _ _ => none
  | .or _ _ => none
  | .xor _ _ => none
  | .shl _ _ => none
  | .shr _ _ => none
  | .sar _ _ => none
  | .slt _ _ => none
  | .sltu _ _ => none
  | .mul _ _ => none
  | .mulh _ _ => none
  | .addi _ _ => none
  | .andi _ _ => none
  | .ori _ _ => none
  | .xori _ _ => none
  | .slti _ _ => none
  | .shi _ _ => none
  | .lui _ _ => none
  | .luih _ _ => none
  | .load _ _ => none
  | .store _ _ => none
  | .beq _ _ => none
  | .bne _ _ => none
  | .blt _ _ => none
  | .bge _ _ => none
  | .bltu _ _ => none
  | .bgeu _ _ => none
  | .jal _ _ => none
  | .jr _ _ => none
  | .qpush _ _ => none
  | .qload _ _ => none
  | .wait _ _ => none
  | .sqpop _ _ => none
  | .sqcnt _ _ => none
  | .csrr _ _ => none
  | .csrw _ _ => none
  | .yield _ _ => none
  | .halt _ _ => none
  | .queueSpaceResume _ _ => none
  | .waitRelease _ _ => none
  | .sqpopResume _ _ => none
  | .taskStart _ _ => none
  | .taskStop _ _ => none
  | .haltAll _ => none
  | .slotStopDone _ _ => none
  | .queueEntryComplete _ _ => none
  | .engineHang _ _ => none
  | .dmaRead _ _ => none
  | .dmaWrite _ _ => none
  | .dmaPut _ _ => none
  | .dmaGather _ _ => none
  | .dmaAtomic _ _ => none
  | .dmaCompletion _ _ => none
  | .readRspArrive _ p => some p
  | .putArrive _ p => some p
  | .ackArrive _ p => some p
  | .completionArrive _ p => some p
  | .ctrlMsgArrive _ p => some p
  | .mma _ => none
  | .drain _ => none
  | .zero _ => none
  | .ldtab _ => none
  | .accDrainStart _ => none
  | .vnop _ => none
  | .vsetvl _ => none
  | .vadd _ => none
  | .vsub _ => none
  | .vmul _ => none
  | .vfma _ => none
  | .vmin _ => none
  | .vmax _ => none
  | .vabs _ => none
  | .vneg _ => none
  | .vand _ => none
  | .vor _ => none
  | .vxor _ => none
  | .vshl _ => none
  | .vshr _ => none
  | .vsar _ => none
  | .vcvt _ => none
  | .vsel _ => none
  | .vmov _ => none
  | .vexp2 _ => none
  | .vlog2 _ => none
  | .vrcp _ => none
  | .vrsqrt _ => none
  | .vcmpeq _ => none
  | .vcmpne _ => none
  | .vcmplt _ => none
  | .vcmple _ => none
  | .vcmpgt _ => none
  | .vcmpge _ => none
  | .vcmpun _ => none
  | .pand _ => none
  | .por _ => none
  | .pxor _ => none
  | .pnot _ => none
  | .psetl _ => none
  | .pclrl _ => none
  | .pfill _ => none
  | .ptest _ => none
  | .vperm _ => none
  | .vbcl _ => none
  | .vrot _ => none
  | .vred _ => none
  | .vtest _ => none
  | .vld _ => none
  | .vst _ => none
  | .vst4 _ => none
  | .pld _ => none
  | .pst _ => none
  | .tld _ => none
  | .tst _ => none
  | .tget _ => none
  | .tput _ => none
  | .tred _ => none
  | .topv _ => none
  | .topt _ => none
  | .tzero _ => none
  | .tcopy _ => none
  | .tmaskz _ => none
  | .spadAgeGrant _ => none
  | .scratchpadClearDone _ => none
  | .noiseReseed _ => none
  | .noiseSeed _ _ => none
  | .noiseAutoReseed _ => none
  | .noiseHealthFail _ => none
  | .routerForward _ _ _ _ => none
  | .combineHoldExpire _ _ _ => none
  | .outputGrant _ _ => none
  | .routerAgeGrant _ _ _ _ _ => none
  | .dsetFork _ _ _ => none
  | .creditReturn _ _ _ _ => none
  | .seamLinkRetry _ _ => none
  | .livenessSend _ => none
  | .livenessArrive _ _ => none
  | .livenessLost _ _ => none
  | .routeAuditDone => none
  | .hbmReadReq _ p => some p
  | .mergeClose _ _ => none
  | .hbmWrite _ p => some p
  | .hbmDeviceAccessDone _ => none
  | .addI32 _ p => some p
  | .addF32 _ p => some p
  | .addBf16 _ p => some p
  | .minI32 _ p => some p
  | .maxI32 _ p => some p
  | .minF32 _ p => some p
  | .maxF32 _ p => some p
  | .swap _ p => some p
  | .cas _ p => some p
  | .hbmRefresh _ _ => none
  | .hbmTempSample _ _ => none
  | .hbmPwrOn _ _ _ => none
  | .hbmPwrRetain _ _ _ => none
  | .hbmPwrOff _ _ _ => none
  | .hbmBankDrained _ _ => none
  | .hbmDrainForced _ _ => none
  | .hbmBankOpened _ _ => none
  | .rmcStackOnRequest _ => none
  | .rmcStackTempSample _ _ => none
  | .stackInitDone _ => none
  | .wsKick _ _ _ => none
  | .wsDescStart _ => none
  | .wsRetryDelay _ => none
  | .wsDescComplete _ => none
  | .tempoEnd _ _ => none
  | .tempoAdvance _ => none
  | .tempoWrite _ _ => none
  | .tempoStopArm _ => none
  | .panStopTarget _ => none
  | .tempoTargetArrive _ => none
  | .panStopped _ => none
  | .panForcedStop _ => none
  | .panRun _ => none
  | .panStop _ => none
  | .panForce _ => none
  | .acuWrite _ p => some p
  | .acuRead _ p => some p
  | .acuRecordSent _ _ => none
  | .acuRecordFetched _ _ _ => none
  | .redOpen _ _ => none
  | .redStart _ _ => none
  | .redClose _ _ => none
  | .redAbort _ _ => none
  | .grantArrive _ => none
  | .grantRetry _ _ _ _ => none
  | .pcReduceArrive _ p => some p
  | .upArrive _ _ => none
  | .downArrive _ _ => none
  | .shadowUpArrive _ _ => none
  | .shadowDownArrive _ _ => none
  | .shadowCopyArrive _ _ => none
  | .passComplete _ _ => none
  | .shortfallTimeout _ _ => none
  | .downTimeout _ _ => none
  | .ueTasksQueued _ _ => none
  | .ueTaskStart _ => none
  | .ueBarrier _ _ => none
  | .ueRelease _ _ _ => none
  | .ueReleaseLine _ p => some p
  | .ueAbandon _ _ => none
  | .layerEntryWrite _ _ _ _ => none
  | .acuSetWrite _ _ _ _ => none
  | .flitReceive _ _ => none
  | .nakRepeat _ => none
  | .replayTimeout _ => none
  | .pcsLockLost _ => none
  | .linkctlExchange _ _ _ => none
  | .portEnableWrite _ _ => none
  | .portRetrain _ => none
  | .fabricPacketRoute _ => none
  | .answerTimeout _ _ => none
  | .wwrite _ _ => none
  | .wackArrive _ _ => none
  | .sendChannelWrite _ p => some p
  | .winOpen _ _ => none
  | .winClose _ _ => none
  | .winClosed _ _ => none
  | .routeToken _ p => some p
  | .routeEnd _ p => some p
  | .routeReturn _ p => some p
  | .tokenArrive _ _ => none
  | .resultArrive _ _ => none
  | .tackArrive _ _ => none
  | .ctrlPacketArrive _ _ => none
  | .heartbeatSend _ => none
  | .heartbeatArrive _ _ => none
  | .moduleLost _ => none
  | .fwdCommit => none
  | .moduleFenceWrite _ _ => none
  | .storeRead _ p => some p
  | .storeWrite _ p => some p
  | .storePageDone _ _ _ _ _ => none
  | .format _ => none
  | .mount _ => none
  | .unmount _ => none
  | .harvestOpen _ => none
  | .harvestCommit _ => none
  | .harvestDrop _ => none
  | .sanitize _ => none
  | .trim _ => none
  | .storeCmdDone _ => none
  | .harvestCommitDone _ => none
  | .cartridgeInsert _ _ => none
  | .cartridgeRemove _ => none
  | .cartridgeTempSample _ _ => none
  | .scrubAgeTick _ => none
  | .scrubBlock _ _ _ => none
  | .wearLevel _ => none
  | .retryTableSave _ => none
  | .sqTailDoorbell _ _ _ => none
  | .cqHeadDoorbell _ _ _ => none
  | .commandFetch _ => none
  | .nop _ _ => none
  | .copyIn _ _ => none
  | .copyOut _ _ => none
  | .csrWrite _ _ => none
  | .csrRead _ _ => none
  | .imageLoad _ _ => none
  | .cmdWait _ _ => none
  | .cmdWaitPoll _ _ => none
  | .commandComplete _ _ => none
  | .msixCoalesceTimeout _ _ => none
  | .bar4Read _ _ _ => none
  | .bar4Write _ _ _ => none
  | .bar0Access _ _ _ => none
  | .hostCompletionTimeout _ _ => none
  | .hostPortReset _ => none
  | .ideIntegrityFail _ => none
  | .imageStaged => none
  | .imageApply => none
  | .imageLoadComplete => none
  | .inputLost _ => none
  | .overvoltageShutdown => none
  | .feedFault _ _ _ => none
  | .powerOnReset _ _ _ => none
  | .powerUpReady => none
  | .capUpdate _ _ => none
  | .siteTempSample _ _ => none
  | .stageTempSample _ _ => none
  | .coolantSample _ _ _ => none
  | .coolantShutdown => none
  | .islFreqWrite _ _ _ => none
  | .oscLockChange _ _ => none
  | .park _ _ => none
  | .parkBlockIdle _ => none
  | .parkRoutersEmpty => none
  | .parkDrainTimeout => none
  | .unpark _ _ => none
  | .moduleReset _ _ => none
  | .panReset _ => none
  | .arrayReset _ => none
  | .arrayResetQuiesced _ => none
  | .arrayResetTimeout _ => none
  | .bayReset _ => none
  | .fabricPortReset _ => none
  | .rstReqAssert => none
  | .controllerHeartbeat _ => none
  | .controllerHang _ => none
  | .domainPowerPoll _ _ => none
  | .fenceSite _ => none
  | .retest _ => none
  | .retestResult _ _ => none
  | .fenceWafer _ => none
  | .promote _ => none
  | .promotion => none
  | .fwSwitch _ => none
  | .fwRevert _ => none
  | .fwHealthy _ => none
  | .fwHealthTimeout _ => none
  | .osfpInsert _ _ _ _ => none
  | .osfpRemove _ => none
  | .pstageOffline _ => none
  | .pstageOnline _ => none
  | .pstageInsert _ => none
  | .pstageFail _ _ _ => none
  | .nonceDraw => none
  | .nonceExpire => none
  | .provisionOwner => none
  | .rotateOwner => none
  | .close => none
  | .returnReq => none
  | .debugUnlock => none
  | .refurbish => none
  | .retire => none
  | .getVersion _ => none
  | .getCapabilities _ _ => none
  | .negotiateAlgorithms _ _ => none
  | .getDigests _ => none
  | .getCertificate _ _ => none
  | .challenge _ _ => none
  | .getCsr _ => none
  | .setCertificate _ _ _ => none
  | .getMeasurements _ _ => none
  | .keyExchange _ => none
  | .finish _ _ => none
  | .endSession _ _ => none
  | .spdmHeartbeat _ _ => none
  | .keyUpdate _ _ => none
  | .ideKm _ _ _ => none
  | .pldmPlatform _ _ => none
  | .pldmFwUpdate _ _ _ => none
  | .telemetrySample => none
  | .trcMark _ _ _ => none
  | .trcEnableWrite _ _ _ _ => none
  | .traceLineWrite _ => none
  | .syncMarker => none
  | .dbgDataRead _ => none
  | .dbgDataWrite _ _ => none
  | .jtagScanSelect _ _ => none
  | .rcRead _ _ => none
  | .regWrite _ _ _ => none
  | .hostLinkUp _ _ _ _ => none
  | .feedRestored => none
  | .reclaimDone _ _ => none
  | .configurationWrite _ _ => none
  | .doeDiscovery _ _ => none
  | .pldmMessagingControl _ => none
  | .dynamicAddressAssign _ => none
  | .hostReadCompletion _ _ _ => none

/-- A well-formed command's packet lies in the mesh and has at most four flits of payload (R139, R147). -/
def Statement (i : Instr) : Prop := i.wf = true → ∀ p, packetOf i = some p → p.drow < 192 ∧ p.dcol < 200 ∧ p.payload.length ≤ 512

theorem of_none {i : Instr} (h : packetOf i = none) : Statement i := fun _ p hp => by rw [h] at hp; cases hp

theorem of_wf {i : Instr} {p : Packet} (h : i.wf = true → p.wf = true) (hp : packetOf i = some p := by rfl) : Statement i := by
  intro hw q hq
  rw [hp] at hq
  cases hq
  have := h hw
  simp only [Packet.wf, Bool.and_eq_true, decide_eq_true_eq] at this
  omega

theorem add (core : CoreId) (slot : Fin 4) : Statement (.add core slot) := of_none rfl
theorem sub (core : CoreId) (slot : Fin 4) : Statement (.sub core slot) := of_none rfl
theorem and (core : CoreId) (slot : Fin 4) : Statement (.and core slot) := of_none rfl
theorem or (core : CoreId) (slot : Fin 4) : Statement (.or core slot) := of_none rfl
theorem xor (core : CoreId) (slot : Fin 4) : Statement (.xor core slot) := of_none rfl
theorem shl (core : CoreId) (slot : Fin 4) : Statement (.shl core slot) := of_none rfl
theorem shr (core : CoreId) (slot : Fin 4) : Statement (.shr core slot) := of_none rfl
theorem sar (core : CoreId) (slot : Fin 4) : Statement (.sar core slot) := of_none rfl
theorem slt (core : CoreId) (slot : Fin 4) : Statement (.slt core slot) := of_none rfl
theorem sltu (core : CoreId) (slot : Fin 4) : Statement (.sltu core slot) := of_none rfl
theorem mul (core : CoreId) (slot : Fin 4) : Statement (.mul core slot) := of_none rfl
theorem mulh (core : CoreId) (slot : Fin 4) : Statement (.mulh core slot) := of_none rfl
theorem addi (core : CoreId) (slot : Fin 4) : Statement (.addi core slot) := of_none rfl
theorem andi (core : CoreId) (slot : Fin 4) : Statement (.andi core slot) := of_none rfl
theorem ori (core : CoreId) (slot : Fin 4) : Statement (.ori core slot) := of_none rfl
theorem xori (core : CoreId) (slot : Fin 4) : Statement (.xori core slot) := of_none rfl
theorem slti (core : CoreId) (slot : Fin 4) : Statement (.slti core slot) := of_none rfl
theorem shi (core : CoreId) (slot : Fin 4) : Statement (.shi core slot) := of_none rfl
theorem lui (core : CoreId) (slot : Fin 4) : Statement (.lui core slot) := of_none rfl
theorem luih (core : CoreId) (slot : Fin 4) : Statement (.luih core slot) := of_none rfl
theorem load (core : CoreId) (slot : Fin 4) : Statement (.load core slot) := of_none rfl
theorem store (core : CoreId) (slot : Fin 4) : Statement (.store core slot) := of_none rfl
theorem beq (core : CoreId) (slot : Fin 4) : Statement (.beq core slot) := of_none rfl
theorem bne (core : CoreId) (slot : Fin 4) : Statement (.bne core slot) := of_none rfl
theorem blt (core : CoreId) (slot : Fin 4) : Statement (.blt core slot) := of_none rfl
theorem bge (core : CoreId) (slot : Fin 4) : Statement (.bge core slot) := of_none rfl
theorem bltu (core : CoreId) (slot : Fin 4) : Statement (.bltu core slot) := of_none rfl
theorem bgeu (core : CoreId) (slot : Fin 4) : Statement (.bgeu core slot) := of_none rfl
theorem jal (core : CoreId) (slot : Fin 4) : Statement (.jal core slot) := of_none rfl
theorem jr (core : CoreId) (slot : Fin 4) : Statement (.jr core slot) := of_none rfl
theorem qpush (core : CoreId) (slot : Fin 4) : Statement (.qpush core slot) := of_none rfl
theorem qload (core : CoreId) (slot : Fin 4) : Statement (.qload core slot) := of_none rfl
theorem wait (core : CoreId) (slot : Fin 4) : Statement (.wait core slot) := of_none rfl
theorem sqpop (core : CoreId) (slot : Fin 4) : Statement (.sqpop core slot) := of_none rfl
theorem sqcnt (core : CoreId) (slot : Fin 4) : Statement (.sqcnt core slot) := of_none rfl
theorem csrr (core : CoreId) (slot : Fin 4) : Statement (.csrr core slot) := of_none rfl
theorem csrw (core : CoreId) (slot : Fin 4) : Statement (.csrw core slot) := of_none rfl
theorem yield (core : CoreId) (slot : Fin 4) : Statement (.yield core slot) := of_none rfl
theorem halt (core : CoreId) (slot : Fin 4) : Statement (.halt core slot) := of_none rfl
theorem queueSpaceResume (core : CoreId) (slot : Fin 4) : Statement (.queueSpaceResume core slot) := of_none rfl
theorem waitRelease (core : CoreId) (slot : Fin 4) : Statement (.waitRelease core slot) := of_none rfl
theorem sqpopResume (core : CoreId) (slot : Fin 4) : Statement (.sqpopResume core slot) := of_none rfl
theorem taskStart (core : CoreId) (slot : Fin 4) : Statement (.taskStart core slot) := of_none rfl
theorem taskStop (core : CoreId) (slot : Fin 4) : Statement (.taskStop core slot) := of_none rfl
theorem haltAll (core : CoreId) : Statement (.haltAll core) := of_none rfl
theorem slotStopDone (core : CoreId) (slot : Fin 4) : Statement (.slotStopDone core slot) := of_none rfl
theorem queueEntryComplete (core : CoreId) (queue : Fin 4) : Statement (.queueEntryComplete core queue) := of_none rfl
theorem engineHang (core : CoreId) (queue : Fin 4) : Statement (.engineHang core queue) := of_none rfl
theorem dmaRead (core : CoreId) (engine : Fin 2) : Statement (.dmaRead core engine) := of_none rfl
theorem dmaWrite (core : CoreId) (engine : Fin 2) : Statement (.dmaWrite core engine) := of_none rfl
theorem dmaPut (core : CoreId) (engine : Fin 2) : Statement (.dmaPut core engine) := of_none rfl
theorem dmaGather (core : CoreId) (engine : Fin 2) : Statement (.dmaGather core engine) := of_none rfl
theorem dmaAtomic (core : CoreId) (engine : Fin 2) : Statement (.dmaAtomic core engine) := of_none rfl
theorem dmaCompletion (core : CoreId) (engine : Fin 2) : Statement (.dmaCompletion core engine) := of_none rfl
theorem readRspArrive (node : Node) (p : Packet) : Statement (.readRspArrive node p) := of_wf fun h => h
theorem putArrive (site : SiteId) (p : Packet) : Statement (.putArrive site p) := of_wf fun h => h
theorem ackArrive (node : Node) (p : Packet) : Statement (.ackArrive node p) := of_wf fun h => h
theorem completionArrive (node : Node) (p : Packet) : Statement (.completionArrive node p) := of_wf fun h => h
theorem ctrlMsgArrive (node : Node) (p : Packet) : Statement (.ctrlMsgArrive node p) := of_wf fun h => h
theorem mma (site : SiteId) : Statement (.mma site) := of_none rfl
theorem drain (site : SiteId) : Statement (.drain site) := of_none rfl
theorem zero (site : SiteId) : Statement (.zero site) := of_none rfl
theorem ldtab (site : SiteId) : Statement (.ldtab site) := of_none rfl
theorem accDrainStart (site : SiteId) : Statement (.accDrainStart site) := of_none rfl
theorem vnop (core : CoreId) : Statement (.vnop core) := of_none rfl
theorem vsetvl (core : CoreId) : Statement (.vsetvl core) := of_none rfl
theorem vadd (core : CoreId) : Statement (.vadd core) := of_none rfl
theorem vsub (core : CoreId) : Statement (.vsub core) := of_none rfl
theorem vmul (core : CoreId) : Statement (.vmul core) := of_none rfl
theorem vfma (core : CoreId) : Statement (.vfma core) := of_none rfl
theorem vmin (core : CoreId) : Statement (.vmin core) := of_none rfl
theorem vmax (core : CoreId) : Statement (.vmax core) := of_none rfl
theorem vabs (core : CoreId) : Statement (.vabs core) := of_none rfl
theorem vneg (core : CoreId) : Statement (.vneg core) := of_none rfl
theorem vand (core : CoreId) : Statement (.vand core) := of_none rfl
theorem vor (core : CoreId) : Statement (.vor core) := of_none rfl
theorem vxor (core : CoreId) : Statement (.vxor core) := of_none rfl
theorem vshl (core : CoreId) : Statement (.vshl core) := of_none rfl
theorem vshr (core : CoreId) : Statement (.vshr core) := of_none rfl
theorem vsar (core : CoreId) : Statement (.vsar core) := of_none rfl
theorem vcvt (core : CoreId) : Statement (.vcvt core) := of_none rfl
theorem vsel (core : CoreId) : Statement (.vsel core) := of_none rfl
theorem vmov (core : CoreId) : Statement (.vmov core) := of_none rfl
theorem vexp2 (core : CoreId) : Statement (.vexp2 core) := of_none rfl
theorem vlog2 (core : CoreId) : Statement (.vlog2 core) := of_none rfl
theorem vrcp (core : CoreId) : Statement (.vrcp core) := of_none rfl
theorem vrsqrt (core : CoreId) : Statement (.vrsqrt core) := of_none rfl
theorem vcmpeq (core : CoreId) : Statement (.vcmpeq core) := of_none rfl
theorem vcmpne (core : CoreId) : Statement (.vcmpne core) := of_none rfl
theorem vcmplt (core : CoreId) : Statement (.vcmplt core) := of_none rfl
theorem vcmple (core : CoreId) : Statement (.vcmple core) := of_none rfl
theorem vcmpgt (core : CoreId) : Statement (.vcmpgt core) := of_none rfl
theorem vcmpge (core : CoreId) : Statement (.vcmpge core) := of_none rfl
theorem vcmpun (core : CoreId) : Statement (.vcmpun core) := of_none rfl
theorem pand (core : CoreId) : Statement (.pand core) := of_none rfl
theorem por (core : CoreId) : Statement (.por core) := of_none rfl
theorem pxor (core : CoreId) : Statement (.pxor core) := of_none rfl
theorem pnot (core : CoreId) : Statement (.pnot core) := of_none rfl
theorem psetl (core : CoreId) : Statement (.psetl core) := of_none rfl
theorem pclrl (core : CoreId) : Statement (.pclrl core) := of_none rfl
theorem pfill (core : CoreId) : Statement (.pfill core) := of_none rfl
theorem ptest (core : CoreId) : Statement (.ptest core) := of_none rfl
theorem vperm (core : CoreId) : Statement (.vperm core) := of_none rfl
theorem vbcl (core : CoreId) : Statement (.vbcl core) := of_none rfl
theorem vrot (core : CoreId) : Statement (.vrot core) := of_none rfl
theorem vred (core : CoreId) : Statement (.vred core) := of_none rfl
theorem vtest (core : CoreId) : Statement (.vtest core) := of_none rfl
theorem vld (core : CoreId) : Statement (.vld core) := of_none rfl
theorem vst (core : CoreId) : Statement (.vst core) := of_none rfl
theorem vst4 (core : CoreId) : Statement (.vst4 core) := of_none rfl
theorem pld (core : CoreId) : Statement (.pld core) := of_none rfl
theorem pst (core : CoreId) : Statement (.pst core) := of_none rfl
theorem tld (core : CoreId) : Statement (.tld core) := of_none rfl
theorem tst (core : CoreId) : Statement (.tst core) := of_none rfl
theorem tget (core : CoreId) : Statement (.tget core) := of_none rfl
theorem tput (core : CoreId) : Statement (.tput core) := of_none rfl
theorem tred (core : CoreId) : Statement (.tred core) := of_none rfl
theorem topv (core : CoreId) : Statement (.topv core) := of_none rfl
theorem topt (core : CoreId) : Statement (.topt core) := of_none rfl
theorem tzero (core : CoreId) : Statement (.tzero core) := of_none rfl
theorem tcopy (core : CoreId) : Statement (.tcopy core) := of_none rfl
theorem tmaskz (core : CoreId) : Statement (.tmaskz core) := of_none rfl
theorem spadAgeGrant (grant : SpadGrant) : Statement (.spadAgeGrant grant) := of_none rfl
theorem scratchpadClearDone (site : SiteId) : Statement (.scratchpadClearDone site) := of_none rfl
theorem noiseReseed (site : SiteId) : Statement (.noiseReseed site) := of_none rfl
theorem noiseSeed (site : SiteId) (seed : W64) : Statement (.noiseSeed site seed) := of_none rfl
theorem noiseAutoReseed (site : SiteId) : Statement (.noiseAutoReseed site) := of_none rfl
theorem noiseHealthFail (site : SiteId) : Statement (.noiseHealthFail site) := of_none rfl
theorem routerForward (site : SiteId) (inPort : RPort) (cls : TClass) (lane : Fin 2) : Statement (.routerForward site inPort cls lane) := of_none rfl
theorem combineHoldExpire (site : SiteId) (inPort : RPort) (lane : Fin 2) : Statement (.combineHoldExpire site inPort lane) := of_none rfl
theorem outputGrant (site : SiteId) (out : RPort) : Statement (.outputGrant site out) := of_none rfl
theorem routerAgeGrant (site : SiteId) (out : RPort) (inPort : RPort) (cls : TClass) (lane : Fin 2) : Statement (.routerAgeGrant site out inPort cls lane) := of_none rfl
theorem dsetFork (site : SiteId) (inPort : RPort) (lane : Fin 2) : Statement (.dsetFork site inPort lane) := of_none rfl
theorem creditReturn (site : SiteId) (port : RPort) (cls : TClass) (lane : Fin 2) : Statement (.creditReturn site port cls lane) := of_none rfl
theorem seamLinkRetry (site : SiteId) (port : RPort) : Statement (.seamLinkRetry site port) := of_none rfl
theorem livenessSend (site : SiteId) : Statement (.livenessSend site) := of_none rfl
theorem livenessArrive (site : SiteId) (port : RPort) : Statement (.livenessArrive site port) := of_none rfl
theorem livenessLost (site : SiteId) (port : RPort) : Statement (.livenessLost site port) := of_none rfl
theorem routeAuditDone : Statement (.routeAuditDone) := of_none rfl
theorem hbmReadReq (stack : Fin 192) (p : Packet) : Statement (.hbmReadReq stack p) := of_wf fun h => h
theorem mergeClose (stack : Fin 192) (block : Nat) : Statement (.mergeClose stack block) := of_none rfl
theorem hbmWrite (stack : Fin 192) (p : Packet) : Statement (.hbmWrite stack p) := of_wf fun h => h
theorem hbmDeviceAccessDone (stack : Fin 192) : Statement (.hbmDeviceAccessDone stack) := of_none rfl
theorem addI32 (stack : Fin 192) (p : Packet) : Statement (.addI32 stack p) := of_wf fun h => h
theorem addF32 (stack : Fin 192) (p : Packet) : Statement (.addF32 stack p) := of_wf fun h => h
theorem addBf16 (stack : Fin 192) (p : Packet) : Statement (.addBf16 stack p) := of_wf fun h => h
theorem minI32 (stack : Fin 192) (p : Packet) : Statement (.minI32 stack p) := of_wf fun h => h
theorem maxI32 (stack : Fin 192) (p : Packet) : Statement (.maxI32 stack p) := of_wf fun h => h
theorem minF32 (stack : Fin 192) (p : Packet) : Statement (.minF32 stack p) := of_wf fun h => h
theorem maxF32 (stack : Fin 192) (p : Packet) : Statement (.maxF32 stack p) := of_wf fun h => h
theorem swap (stack : Fin 192) (p : Packet) : Statement (.swap stack p) := of_wf fun h => h
theorem cas (stack : Fin 192) (p : Packet) : Statement (.cas stack p) := of_wf fun h => h
theorem hbmRefresh (stack : Fin 192) (bank : Fin 8) : Statement (.hbmRefresh stack bank) := of_none rfl
theorem hbmTempSample (stack : Fin 192) (celsius : BitVec 8) : Statement (.hbmTempSample stack celsius) := of_none rfl
theorem hbmPwrOn (stack : Fin 192) (whole : Bool) (bank : Fin 8) : Statement (.hbmPwrOn stack whole bank) := of_none rfl
theorem hbmPwrRetain (stack : Fin 192) (whole : Bool) (bank : Fin 8) : Statement (.hbmPwrRetain stack whole bank) := of_none rfl
theorem hbmPwrOff (stack : Fin 192) (whole : Bool) (bank : Fin 8) : Statement (.hbmPwrOff stack whole bank) := of_none rfl
theorem hbmBankDrained (stack : Fin 192) (bank : Fin 8) : Statement (.hbmBankDrained stack bank) := of_none rfl
theorem hbmDrainForced (stack : Fin 192) (bank : Fin 8) : Statement (.hbmDrainForced stack bank) := of_none rfl
theorem hbmBankOpened (stack : Fin 192) (bank : Fin 8) : Statement (.hbmBankOpened stack bank) := of_none rfl
theorem rmcStackOnRequest (stack : Fin 192) : Statement (.rmcStackOnRequest stack) := of_none rfl
theorem rmcStackTempSample (stack : Fin 192) (celsius : BitVec 8) : Statement (.rmcStackTempSample stack celsius) := of_none rfl
theorem stackInitDone (stack : Fin 192) : Statement (.stackInitDone stack) := of_none rfl
theorem wsKick (site : SiteId) (slot : Fin 4) (value : W64) : Statement (.wsKick site slot value) := of_none rfl
theorem wsDescStart (site : SiteId) : Statement (.wsDescStart site) := of_none rfl
theorem wsRetryDelay (site : SiteId) : Statement (.wsRetryDelay site) := of_none rfl
theorem wsDescComplete (site : SiteId) : Statement (.wsDescComplete site) := of_none rfl
theorem tempoEnd (site : SiteId) (slots : BitVec 4) : Statement (.tempoEnd site slots) := of_none rfl
theorem tempoAdvance (site : SiteId) : Statement (.tempoAdvance site) := of_none rfl
theorem tempoWrite (site : SiteId) (value : W32) : Statement (.tempoWrite site value) := of_none rfl
theorem tempoStopArm (site : SiteId) : Statement (.tempoStopArm site) := of_none rfl
theorem panStopTarget (pan : Fin 1024) : Statement (.panStopTarget pan) := of_none rfl
theorem tempoTargetArrive (site : SiteId) : Statement (.tempoTargetArrive site) := of_none rfl
theorem panStopped (pan : Fin 1024) : Statement (.panStopped pan) := of_none rfl
theorem panForcedStop (pan : Fin 1024) : Statement (.panForcedStop pan) := of_none rfl
theorem panRun (pan : Fin 1024) : Statement (.panRun pan) := of_none rfl
theorem panStop (pan : Fin 1024) : Statement (.panStop pan) := of_none rfl
theorem panForce (pan : Fin 1024) : Statement (.panForce pan) := of_none rfl
theorem acuWrite (acu : Fin 12) (p : Packet) : Statement (.acuWrite acu p) := of_wf fun h => h
theorem acuRead (acu : Fin 12) (p : Packet) : Statement (.acuRead acu p) := of_wf fun h => h
theorem acuRecordSent (acu : Fin 12) (fallback : Bool) : Statement (.acuRecordSent acu fallback) := of_none rfl
theorem acuRecordFetched (acu : Fin 12) (block : Nat) (data : List Byte) : Statement (.acuRecordFetched acu block data) := of_none rfl
theorem redOpen (pc : Fin 8) (job : Fin 4096) : Statement (.redOpen pc job) := of_none rfl
theorem redStart (pc : Fin 8) (job : Fin 4096) : Statement (.redStart pc job) := of_none rfl
theorem redClose (pc : Fin 8) (job : Fin 4096) : Statement (.redClose pc job) := of_none rfl
theorem redAbort (pc : Fin 8) (job : Fin 4096) : Statement (.redAbort pc job) := of_none rfl
theorem grantArrive (site : SiteId) : Statement (.grantArrive site) := of_none rfl
theorem grantRetry (pc : Fin 8) (job : Fin 4096) (row : Fin 192) (col : Fin 192) : Statement (.grantRetry pc job row col) := of_none rfl
theorem pcReduceArrive (pc : Fin 8) (p : Packet) : Statement (.pcReduceArrive pc p) := of_wf fun h => h
theorem upArrive (pc : Fin 8) (p : FabPkt) : Statement (.upArrive pc p) := of_none rfl
theorem downArrive (pc : Fin 8) (p : FabPkt) : Statement (.downArrive pc p) := of_none rfl
theorem shadowUpArrive (pc : Fin 8) (p : FabPkt) : Statement (.shadowUpArrive pc p) := of_none rfl
theorem shadowDownArrive (pc : Fin 8) (p : FabPkt) : Statement (.shadowDownArrive pc p) := of_none rfl
theorem shadowCopyArrive (pc : Fin 8) (job : Fin 4096) : Statement (.shadowCopyArrive pc job) := of_none rfl
theorem passComplete (pc : Fin 8) (job : Fin 4096) : Statement (.passComplete pc job) := of_none rfl
theorem shortfallTimeout (pc : Fin 8) (job : Fin 4096) : Statement (.shortfallTimeout pc job) := of_none rfl
theorem downTimeout (pc : Fin 8) (job : Fin 4096) : Statement (.downTimeout pc job) := of_none rfl
theorem ueTasksQueued (pc : Fin 8) (job : Fin 4096) : Statement (.ueTasksQueued pc job) := of_none rfl
theorem ueTaskStart (pc : Fin 8) : Statement (.ueTaskStart pc) := of_none rfl
theorem ueBarrier (pc : Fin 8) (e : Fin 16) : Statement (.ueBarrier pc e) := of_none rfl
theorem ueRelease (pc : Fin 8) (e : Fin 16) (code : BitVec 3) : Statement (.ueRelease pc e code) := of_none rfl
theorem ueReleaseLine (pc : Fin 8) (p : Packet) : Statement (.ueReleaseLine pc p) := of_wf fun h => h
theorem ueAbandon (pc : Fin 8) (entry : BitVec 12) : Statement (.ueAbandon pc entry) := of_none rfl
theorem layerEntryWrite (pc : Fin 8) (entry : BitVec 12) (word : Fin 16) (value : W64) : Statement (.layerEntryWrite pc entry word value) := of_none rfl
theorem acuSetWrite (acu : Fin 12) (set : Fin 256) (word : Fin 4) (value : W64) : Statement (.acuSetWrite acu set word value) := of_none rfl
theorem flitReceive (port : Fin 96) (flit : List Byte) : Statement (.flitReceive port flit) := of_none rfl
theorem nakRepeat (port : Fin 96) : Statement (.nakRepeat port) := of_none rfl
theorem replayTimeout (port : Fin 96) : Statement (.replayTimeout port) := of_none rfl
theorem pcsLockLost (port : Fin 96) : Statement (.pcsLockLost port) := of_none rfl
theorem linkctlExchange (port : Fin 96) (peer : W32) (peerPort : BitVec 7) : Statement (.linkctlExchange port peer peerPort) := of_none rfl
theorem portEnableWrite (port : Fin 96) (enable : Bool) : Statement (.portEnableWrite port enable) := of_none rfl
theorem portRetrain (port : Fin 96) : Statement (.portRetrain port) := of_none rfl
theorem fabricPacketRoute (port : Fin 96) : Statement (.fabricPacketRoute port) := of_none rfl
theorem answerTimeout (pc : Fin 8) (tag : BitVec 16) : Statement (.answerTimeout pc tag) := of_none rfl
theorem wwrite (pc : Fin 8) (p : FabPkt) : Statement (.wwrite pc p) := of_none rfl
theorem wackArrive (pc : Fin 8) (p : FabPkt) : Statement (.wackArrive pc p) := of_none rfl
theorem sendChannelWrite (pc : Fin 8) (p : Packet) : Statement (.sendChannelWrite pc p) := of_wf fun h => h
theorem winOpen (pc : Fin 8) (window : Fin 1024) : Statement (.winOpen pc window) := of_none rfl
theorem winClose (pc : Fin 8) (window : Fin 1024) : Statement (.winClose pc window) := of_none rfl
theorem winClosed (pc : Fin 8) (window : Fin 1024) : Statement (.winClosed pc window) := of_none rfl
theorem routeToken (pc : Fin 8) (p : Packet) : Statement (.routeToken pc p) := of_wf fun h => h
theorem routeEnd (pc : Fin 8) (p : Packet) : Statement (.routeEnd pc p) := of_wf fun h => h
theorem routeReturn (pc : Fin 8) (p : Packet) : Statement (.routeReturn pc p) := of_wf fun h => h
theorem tokenArrive (pc : Fin 8) (p : FabPkt) : Statement (.tokenArrive pc p) := of_none rfl
theorem resultArrive (pc : Fin 8) (p : FabPkt) : Statement (.resultArrive pc p) := of_none rfl
theorem tackArrive (pc : Fin 8) (p : FabPkt) : Statement (.tackArrive pc p) := of_none rfl
theorem ctrlPacketArrive (pc : Fin 8) (p : FabPkt) : Statement (.ctrlPacketArrive pc p) := of_none rfl
theorem heartbeatSend (pc : Fin 8) : Statement (.heartbeatSend pc) := of_none rfl
theorem heartbeatArrive (pc : Fin 8) (p : FabPkt) : Statement (.heartbeatArrive pc p) := of_none rfl
theorem moduleLost (address : W32) : Statement (.moduleLost address) := of_none rfl
theorem fwdCommit : Statement (.fwdCommit) := of_none rfl
theorem moduleFenceWrite (n : Fin 16) (value : W64) : Statement (.moduleFenceWrite n value) := of_none rfl
theorem storeRead (bay : Fin 16) (p : Packet) : Statement (.storeRead bay p) := of_wf fun h => h
theorem storeWrite (bay : Fin 16) (p : Packet) : Statement (.storeWrite bay p) := of_wf fun h => h
theorem storePageDone (bay : Fin 16) (line : Nat) (levels : List (Nat × Nat)) (soft : Bool) (uncorrectable : Bool) : Statement (.storePageDone bay line levels soft uncorrectable) := of_none rfl
theorem format (bay : Fin 16) : Statement (.format bay) := of_none rfl
theorem mount (bay : Fin 16) : Statement (.mount bay) := of_none rfl
theorem unmount (bay : Fin 16) : Statement (.unmount bay) := of_none rfl
theorem harvestOpen (bay : Fin 16) : Statement (.harvestOpen bay) := of_none rfl
theorem harvestCommit (bay : Fin 16) : Statement (.harvestCommit bay) := of_none rfl
theorem harvestDrop (bay : Fin 16) : Statement (.harvestDrop bay) := of_none rfl
theorem sanitize (bay : Fin 16) : Statement (.sanitize bay) := of_none rfl
theorem trim (bay : Fin 16) : Statement (.trim bay) := of_none rfl
theorem storeCmdDone (bay : Fin 16) : Statement (.storeCmdDone bay) := of_none rfl
theorem harvestCommitDone (bay : Fin 16) : Statement (.harvestCommitDone bay) := of_none rfl
theorem cartridgeInsert (bay : Fin 16) (serial : W32) : Statement (.cartridgeInsert bay serial) := of_none rfl
theorem cartridgeRemove (bay : Fin 16) : Statement (.cartridgeRemove bay) := of_none rfl
theorem cartridgeTempSample (bay : Fin 16) (celsius : BitVec 8) : Statement (.cartridgeTempSample bay celsius) := of_none rfl
theorem scrubAgeTick (bay : Fin 16) : Statement (.scrubAgeTick bay) := of_none rfl
theorem scrubBlock (bay : Fin 16) (percent : BitVec 8) (hard : ScrubFinding) : Statement (.scrubBlock bay percent hard) := of_none rfl
theorem wearLevel (bay : Fin 16) : Statement (.wearLevel bay) := of_none rfl
theorem retryTableSave (bay : Fin 16) : Statement (.retryTableSave bay) := of_none rfl
theorem sqTailDoorbell (port : Fin 4) (queue : Fin 256) (value : BitVec 16) : Statement (.sqTailDoorbell port queue value) := of_none rfl
theorem cqHeadDoorbell (port : Fin 4) (queue : Fin 256) (value : BitVec 16) : Statement (.cqHeadDoorbell port queue value) := of_none rfl
theorem commandFetch (port : Fin 4) : Statement (.commandFetch port) := of_none rfl
theorem nop (port : Fin 4) (queue : Fin 256) : Statement (.nop port queue) := of_none rfl
theorem copyIn (port : Fin 4) (queue : Fin 256) : Statement (.copyIn port queue) := of_none rfl
theorem copyOut (port : Fin 4) (queue : Fin 256) : Statement (.copyOut port queue) := of_none rfl
theorem csrWrite (port : Fin 4) (queue : Fin 256) : Statement (.csrWrite port queue) := of_none rfl
theorem csrRead (port : Fin 4) (queue : Fin 256) : Statement (.csrRead port queue) := of_none rfl
theorem imageLoad (port : Fin 4) (queue : Fin 256) : Statement (.imageLoad port queue) := of_none rfl
theorem cmdWait (port : Fin 4) (queue : Fin 256) : Statement (.cmdWait port queue) := of_none rfl
theorem cmdWaitPoll (port : Fin 4) (queue : Fin 256) : Statement (.cmdWaitPoll port queue) := of_none rfl
theorem commandComplete (port : Fin 4) (queue : Fin 256) : Statement (.commandComplete port queue) := of_none rfl
theorem msixCoalesceTimeout (port : Fin 4) (queue : Fin 256) : Statement (.msixCoalesceTimeout port queue) := of_none rfl
theorem bar4Read (port : Fin 4) (addr : W64) (len : Nat) : Statement (.bar4Read port addr len) := of_none rfl
theorem bar4Write (port : Fin 4) (addr : W64) (data : List Byte) : Statement (.bar4Write port addr data) := of_none rfl
theorem bar0Access (port : Fin 4) (addr : W64) (a : BarAccess) : Statement (.bar0Access port addr a) := of_none rfl
theorem hostCompletionTimeout (port : Fin 4) (tag : Nat) : Statement (.hostCompletionTimeout port tag) := of_none rfl
theorem hostPortReset (port : Fin 4) : Statement (.hostPortReset port) := of_none rfl
theorem ideIntegrityFail (port : Fin 4) : Statement (.ideIntegrityFail port) := of_none rfl
theorem imageStaged : Statement (.imageStaged) := of_none rfl
theorem imageApply : Statement (.imageApply) := of_none rfl
theorem imageLoadComplete : Statement (.imageLoadComplete) := of_none rfl
theorem inputLost (volts : Vector (BitVec 16) 8) : Statement (.inputLost volts) := of_none rfl
theorem overvoltageShutdown : Statement (.overvoltageShutdown) := of_none rfl
theorem feedFault (feed : Fin 8) (volts : BitVec 16) (amps : BitVec 16) : Statement (.feedFault feed volts amps) := of_none rfl
theorem powerOnReset (feeds : BitVec 8) (stages : BitVec 40) (verified : Bool) : Statement (.powerOnReset feeds stages verified) := of_none rfl
theorem powerUpReady : Statement (.powerUpReady) := of_none rfl
theorem capUpdate (powerHw : BitVec 16) (voltCv : BitVec 16) : Statement (.capUpdate powerHw voltCv) := of_none rfl
theorem siteTempSample (site : SiteId) (celsius : BitVec 8) : Statement (.siteTempSample site celsius) := of_none rfl
theorem stageTempSample (stages : BitVec 40) (cages : BitVec 48) : Statement (.stageTempSample stages cages) := of_none rfl
theorem coolantSample (flow : BitVec 8) (inlet : BitVec 8) (outlet : BitVec 8) : Statement (.coolantSample flow inlet outlet) := of_none rfl
theorem coolantShutdown : Statement (.coolantShutdown) := of_none rfl
theorem islFreqWrite (site : SiteId) (mhz : BitVec 12) (voff : BitVec 6) : Statement (.islFreqWrite site mhz voff) := of_none rfl
theorem oscLockChange (site : SiteId) (locked : Bool) : Statement (.oscLockChange site locked) := of_none rfl
theorem park (wafer : Fin 4) (block : BitVec 8) : Statement (.park wafer block) := of_none rfl
theorem parkBlockIdle (overdue : Bool) : Statement (.parkBlockIdle overdue) := of_none rfl
theorem parkRoutersEmpty : Statement (.parkRoutersEmpty) := of_none rfl
theorem parkDrainTimeout : Statement (.parkDrainTimeout) := of_none rfl
theorem unpark (wafer : Fin 4) (block : BitVec 8) : Statement (.unpark wafer block) := of_none rfl
theorem moduleReset (confirm : BitVec 16) (byRmc : Bool) : Statement (.moduleReset confirm byRmc) := of_none rfl
theorem panReset (pan : Fin 1024) : Statement (.panReset pan) := of_none rfl
theorem arrayReset (site : SiteId) : Statement (.arrayReset site) := of_none rfl
theorem arrayResetQuiesced (site : SiteId) : Statement (.arrayResetQuiesced site) := of_none rfl
theorem arrayResetTimeout (site : SiteId) : Statement (.arrayResetTimeout site) := of_none rfl
theorem bayReset (bay : Fin 16) : Statement (.bayReset bay) := of_none rfl
theorem fabricPortReset (port : Fin 96) : Statement (.fabricPortReset port) := of_none rfl
theorem rstReqAssert : Statement (.rstReqAssert) := of_none rfl
theorem controllerHeartbeat (unit : UnitId) : Statement (.controllerHeartbeat unit) := of_none rfl
theorem controllerHang (unit : UnitId) : Statement (.controllerHang unit) := of_none rfl
theorem domainPowerPoll (unit : UnitId) (on : PollView) : Statement (.domainPowerPoll unit on) := of_none rfl
theorem fenceSite (site : SiteId) : Statement (.fenceSite site) := of_none rfl
theorem retest (unit : UnitId) : Statement (.retest unit) := of_none rfl
theorem retestResult (unit : UnitId) (pass : Bool) : Statement (.retestResult unit pass) := of_none rfl
theorem fenceWafer (wafer : Fin 4) : Statement (.fenceWafer wafer) := of_none rfl
theorem promote (site : SiteId) : Statement (.promote site) := of_none rfl
theorem promotion : Statement (.promotion) := of_none rfl
theorem fwSwitch (unit : Fin 217) : Statement (.fwSwitch unit) := of_none rfl
theorem fwRevert (unit : Fin 217) : Statement (.fwRevert unit) := of_none rfl
theorem fwHealthy (unit : Fin 217) : Statement (.fwHealthy unit) := of_none rfl
theorem fwHealthTimeout (unit : Fin 217) : Statement (.fwHealthTimeout unit) := of_none rfl
theorem osfpInsert (cage : Fin 48) (cmis : BitVec 8) (supported : Bool) (fits : Bool) : Statement (.osfpInsert cage cmis supported fits) := of_none rfl
theorem osfpRemove (cage : Fin 48) : Statement (.osfpRemove cage) := of_none rfl
theorem pstageOffline (stage : Fin 40) : Statement (.pstageOffline stage) := of_none rfl
theorem pstageOnline (stage : Fin 40) : Statement (.pstageOnline stage) := of_none rfl
theorem pstageInsert (stage : Fin 40) : Statement (.pstageInsert stage) := of_none rfl
theorem pstageFail (stage : Fin 40) (volts : BitVec 16) (amps : BitVec 16) : Statement (.pstageFail stage volts amps) := of_none rfl
theorem nonceDraw : Statement (.nonceDraw) := of_none rfl
theorem nonceExpire : Statement (.nonceExpire) := of_none rfl
theorem provisionOwner : Statement (.provisionOwner) := of_none rfl
theorem rotateOwner : Statement (.rotateOwner) := of_none rfl
theorem close : Statement (.close) := of_none rfl
theorem returnReq : Statement (.returnReq) := of_none rfl
theorem debugUnlock : Statement (.debugUnlock) := of_none rfl
theorem refurbish : Statement (.refurbish) := of_none rfl
theorem retire : Statement (.retire) := of_none rfl
theorem getVersion (path : MgmtPath) : Statement (.getVersion path) := of_none rfl
theorem getCapabilities (path : MgmtPath) (version : BitVec 8) : Statement (.getCapabilities path version) := of_none rfl
theorem negotiateAlgorithms (path : MgmtPath) (offered : Bool) : Statement (.negotiateAlgorithms path offered) := of_none rfl
theorem getDigests (path : MgmtPath) : Statement (.getDigests path) := of_none rfl
theorem getCertificate (path : MgmtPath) (slot : Fin 8) : Statement (.getCertificate path slot) := of_none rfl
theorem challenge (path : MgmtPath) (slot : Fin 8) : Statement (.challenge path slot) := of_none rfl
theorem getCsr (path : MgmtPath) : Statement (.getCsr path) := of_none rfl
theorem setCertificate (path : MgmtPath) (slot : Fin 8) (chain : List Byte) : Statement (.setCertificate path slot chain) := of_none rfl
theorem getMeasurements (path : MgmtPath) (index : BitVec 8) : Statement (.getMeasurements path index) := of_none rfl
theorem keyExchange (path : MgmtPath) : Statement (.keyExchange path) := of_none rfl
theorem finish (path : MgmtPath) (session : Nat) : Statement (.finish path session) := of_none rfl
theorem endSession (path : MgmtPath) (session : Nat) : Statement (.endSession path session) := of_none rfl
theorem spdmHeartbeat (path : MgmtPath) (session : Nat) : Statement (.spdmHeartbeat path session) := of_none rfl
theorem keyUpdate (path : MgmtPath) (session : Nat) : Statement (.keyUpdate path session) := of_none rfl
theorem ideKm (port : Fin 4) (session : Nat) (op : BitVec 2) : Statement (.ideKm port session op) := of_none rfl
theorem pldmPlatform (path : MgmtPath) (request : PldmRequest) : Statement (.pldmPlatform path request) := of_none rfl
theorem pldmFwUpdate (path : MgmtPath) (unit : Fin 217) (object : List Byte) : Statement (.pldmFwUpdate path unit object) := of_none rfl
theorem telemetrySample : Statement (.telemetrySample) := of_none rfl
theorem trcMark (site : SiteId) (slot : Option (Fin 4)) (value : W32) : Statement (.trcMark site slot value) := of_none rfl
theorem trcEnableWrite (site : SiteId) (enable : Bool) (mode : Bool) (src : BitVec 5) : Statement (.trcEnableWrite site enable mode src) := of_none rfl
theorem traceLineWrite (site : SiteId) : Statement (.traceLineWrite site) := of_none rfl
theorem syncMarker : Statement (.syncMarker) := of_none rfl
theorem dbgDataRead (site : SiteId) : Statement (.dbgDataRead site) := of_none rfl
theorem dbgDataWrite (site : SiteId) (value : W64) : Statement (.dbgDataWrite site value) := of_none rfl
theorem jtagScanSelect (unit : UnitId) (select : Bool) : Statement (.jtagScanSelect unit select) := of_none rfl
theorem rcRead (addr : W64) (four : Bool) : Statement (.rcRead addr four) := of_none rfl
theorem regWrite (addr : W64) (four : Bool) (value : W64) : Statement (.regWrite addr four value) := of_none rfl
theorem hostLinkUp (port : Fin 4) (width : LinkWidth) (speed : BitVec 3) (flit : Bool) : Statement (.hostLinkUp port width speed flit) := of_none rfl
theorem feedRestored : Statement (.feedRestored) := of_none rfl
theorem reclaimDone (bay : Fin 16) (slot : Fin 16) : Statement (.reclaimDone bay slot) := of_none rfl
theorem configurationWrite (port : Fin 4) (w : ConfigWrite) : Statement (.configurationWrite port w) := of_none rfl
theorem doeDiscovery (port : Fin 4) (mailbox : Fin 2) : Statement (.doeDiscovery port mailbox) := of_none rfl
theorem pldmMessagingControl (path : MgmtPath) : Statement (.pldmMessagingControl path) := of_none rfl
theorem dynamicAddressAssign (address : BitVec 7) : Statement (.dynamicAddressAssign address) := of_none rfl
theorem hostReadCompletion (port : Fin 4) (tag : Nat) (data : List Byte) : Statement (.hostReadCompletion port tag data) := of_none rfl

end Sys2Proof.Laws.Payload
end

