-- ==== Sys2Proof/Laws/Sparse.lean ====
section
/-! SUPPORT. Laws/Sparse.lean: reading, writing and the canonical form of sparse arrays and byte memories. -/

namespace Sys2Proof.Machine

set_option Elab.async false

/-! ## Reading -/

theorem Sparse.get_append {α : Type} (z : α) (l r : List (Nat × α)) (a : Nat) (h : ∀ c ∈ l, c.1 ≠ a) :
    Sparse.get z (l ++ r) a = Sparse.get z r a := by
  induction l with
  | nil => rfl
  | cons c l ih =>
    rw [List.cons_append, Sparse.get, if_neg (h c List.mem_cons_self)]
    exact ih (fun d hd => h d (List.mem_cons_of_mem _ hd))

theorem Sparse.get_left {α : Type} (z : α) (l r : List (Nat × α)) (a : Nat) (h : ∀ c ∈ r, c.1 ≠ a) :
    Sparse.get z (l ++ r) a = Sparse.get z l a := by
  induction l with
  | nil =>
    have := Sparse.get_append z r [] a h
    rw [List.append_nil] at this
    exact this
  | cons c l ih => rw [List.cons_append, Sparse.get, Sparse.get, ih]

theorem Sparse.get_filter {α : Type} (z : α) (m : List (Nat × α)) (p : Nat → Bool) (a : Nat) (h : p a = true) :
    Sparse.get z (m.filter (fun c => p c.1)) a = Sparse.get z m a := by
  induction m with
  | nil => rfl
  | cons c m ih =>
    by_cases hc : c.1 = a
    · rw [List.filter_cons, if_pos (by rw [hc]; exact h), Sparse.get, if_pos hc, Sparse.get, if_pos hc]
    · rw [List.filter_cons, Sparse.get, if_neg hc]
      split
      · rw [Sparse.get, if_neg hc]; exact ih
      · exact ih

theorem Sparse.run_bounds {α : Type} [DecidableEq α] (z : α) (a : Nat) (vs : List α) :
    ∀ c ∈ Sparse.run z a vs, a ≤ c.1 ∧ c.1 < a + vs.length := by
  induction vs generalizing a with
  | nil => simp [Sparse.run]
  | cons v vs ih =>
    intro c hc
    rw [Sparse.run] at hc
    split at hc
    · have := ih (a + 1) c hc
      simp only [List.length_cons]; omega
    · rcases List.mem_cons.mp hc with rfl | hc
      · simp
      · have := ih (a + 1) c hc
        simp only [List.length_cons]; omega

theorem Sparse.get_run {α : Type} [DecidableEq α] (z : α) (a : Nat) (vs : List α) (i : Nat) (h : i < vs.length) :
    Sparse.get z (Sparse.run z a vs) (a + i) = vs.getD i z := by
  induction vs generalizing a i with
  | nil => simp at h
  | cons v vs ih =>
    rw [Sparse.run]
    cases i with
    | zero =>
      by_cases hv : v = z
      · have : Sparse.get z (Sparse.run z (a + 1) vs ++ []) a = Sparse.get z [] a :=
          Sparse.get_append z _ _ _ (fun c hc => by have := Sparse.run_bounds z (a + 1) vs c hc; omega)
        rw [List.append_nil] at this
        simp [hv, this, Sparse.get]
      · simp [hv, Sparse.get]
    | succ i =>
      have e := ih (a + 1) i (by simpa using h)
      have ha : a + 1 + i = a + (i + 1) := by omega
      rw [ha] at e
      by_cases hv : v = z
      · simpa [hv] using e
      · rw [if_neg hv, Sparse.get, if_neg (by omega)]
        simpa using e

/-- A read after a write inside the run written gives the value written. -/
theorem Sparse.get_write_in {α : Type} [DecidableEq α] (z : α) (m : List (Nat × α)) (a : Nat) (vs : List α) (i : Nat) (h : i < vs.length) :
    Sparse.get z (Sparse.write z m a vs) (a + i) = vs.getD i z := by
  unfold Sparse.write
  rw [Sparse.get_append _ _ _ _ (fun c hc => by simp at hc; omega),
    Sparse.get_left _ _ _ _ (fun c hc => by simp at hc; omega)]
  exact Sparse.get_run z a vs i h

/-- A write leaves every other place as it was. -/
theorem Sparse.get_write_out {α : Type} [DecidableEq α] (z : α) (m : List (Nat × α)) (a : Nat) (vs : List α) (b : Nat)
    (h : b < a ∨ a + vs.length ≤ b) : Sparse.get z (Sparse.write z m a vs) b = Sparse.get z m b := by
  unfold Sparse.write
  rcases h with h | h
  · rw [← List.append_assoc, Sparse.get_left _ _ _ _ (fun c hc => by simp at hc; omega),
      Sparse.get_left _ _ _ _ (fun c hc => by have := Sparse.run_bounds z a vs c hc; omega)]
    exact Sparse.get_filter z m (fun x => decide (x < a)) b (by simpa using h)
  · rw [Sparse.get_append _ _ _ _ (fun c hc => by simp at hc; omega),
      Sparse.get_append _ _ _ _ (fun c hc => by have := Sparse.run_bounds z a vs c hc; omega)]
    exact Sparse.get_filter z m (fun x => decide (a + vs.length ≤ x)) b (by simpa using h)

theorem Sparse.get_clear {α : Type} (z : α) (m : List (Nat × α)) (a n b : Nat) :
    Sparse.get z (Sparse.clear m a n) b = if a ≤ b ∧ b < a + n then z else Sparse.get z m b := by
  unfold Sparse.clear
  split
  · next h =>
    have : Sparse.get z (m.filter (fun c => decide (c.1 < a) || decide (a + n ≤ c.1)) ++ []) b = Sparse.get z [] b :=
      Sparse.get_append z _ _ _ (fun c hc => by simp at hc; omega)
    rw [List.append_nil] at this
    exact this
  · next h => exact Sparse.get_filter z m (fun x => decide (x < a) || decide (a + n ≤ x)) b (by simp; omega)

/-- A read of a run gives the elements one by one. -/
theorem Sparse.read_eq {α : Type} (z : α) (m : List (Nat × α)) (a n : Nat) :
    Sparse.read z m a n = (List.range n).map (fun i => Sparse.get z m (a + i)) := by
  unfold Sparse.read
  apply List.map_congr_left
  intro i hi
  exact Sparse.get_filter z m (fun x => decide (a ≤ x) && decide (x < a + n)) (a + i) (by simp at hi ⊢; omega)

@[simp] theorem Sparse.length_read {α : Type} (z : α) (m : List (Nat × α)) (a n : Nat) : (Sparse.read z m a n).length = n := by
  simp [Sparse.read]

theorem Sparse.getD_read {α : Type} (z : α) (m : List (Nat × α)) (a n i : Nat) (h : i < n) :
    (Sparse.read z m a n).getD i z = Sparse.get z m (a + i) := by
  rw [Sparse.read_eq]
  simp [h]

/-- A run read back after it was written. -/
theorem Sparse.read_write {α : Type} [DecidableEq α] (z : α) (m : List (Nat × α)) (a : Nat) (vs : List α) :
    Sparse.read z (Sparse.write z m a vs) a vs.length = vs := by
  rw [Sparse.read_eq]
  apply List.ext_getElem
  · simp
  · intro i h1 h2
    rw [List.getElem_map, List.getElem_range, Sparse.get_write_in z m a vs i h2]
    simp [h2]

/-! ## The canonical form -/

/-- The canonical form, said of each neighbour and each element. -/
theorem Sparse.wf_iff {α : Type} [DecidableEq α] (z : α) (m : List (Nat × α)) :
    Sparse.wf z m = true ↔ m.Pairwise (fun c d => c.1 < d.1) ∧ ∀ c ∈ m, c.2 ≠ z := by
  induction m with
  | nil => simp [Sparse.wf]
  | cons c m ih =>
    cases m with
    | nil => simp [Sparse.wf]
    | cons d m =>
      obtain ⟨k, v⟩ := c
      obtain ⟨k', v'⟩ := d
      rw [Sparse.wf, Bool.and_eq_true, Bool.and_eq_true, ih, List.pairwise_cons (a := (k, v))]
      constructor
      · rintro ⟨⟨hv, hk⟩, hp, ha⟩
        have hk := of_decide_eq_true hk
        refine ⟨⟨?_, hp⟩, ?_⟩
        · intro e he
          rcases List.mem_cons.mp he with rfl | he
          · exact hk
          · exact Nat.lt_trans hk ((List.pairwise_cons.mp hp).1 e he)
        · intro e he
          rcases List.mem_cons.mp he with rfl | he
          · exact of_decide_eq_true hv
          · exact ha e he
      · rintro ⟨⟨h1, hp⟩, ha⟩
        exact ⟨⟨decide_eq_true (ha _ List.mem_cons_self), decide_eq_true (h1 _ List.mem_cons_self)⟩, hp,
          fun e he => ha e (List.mem_cons_of_mem _ he)⟩

theorem Sparse.run_wf {α : Type} [DecidableEq α] (z : α) (a : Nat) (vs : List α) :
    (Sparse.run z a vs).Pairwise (fun c d => c.1 < d.1) ∧ ∀ c ∈ Sparse.run z a vs, c.2 ≠ z := by
  induction vs generalizing a with
  | nil => simp [Sparse.run]
  | cons v vs ih =>
    rw [Sparse.run]
    split
    · exact ih (a + 1)
    · next h =>
      refine ⟨List.pairwise_cons.mpr ⟨fun c hc => ?_, (ih (a + 1)).1⟩, ?_⟩
      · have := Sparse.run_bounds z (a + 1) vs c hc
        show a < c.1
        omega
      · intro c hc
        rcases List.mem_cons.mp hc with rfl | hc
        · exact h
        · exact (ih (a + 1)).2 c hc

/-- A write keeps the canonical form. -/
theorem Sparse.wf_write {α : Type} [DecidableEq α] (z : α) (m : List (Nat × α)) (a : Nat) (vs : List α) (h : Sparse.wf z m = true) :
    Sparse.wf z (Sparse.write z m a vs) = true := by
  rw [Sparse.wf_iff] at h ⊢
  have hr := Sparse.run_wf z a vs
  have hb := Sparse.run_bounds z a vs
  unfold Sparse.write
  constructor
  · rw [List.pairwise_append, List.pairwise_append]
    refine ⟨h.1.filter _, ⟨hr.1, h.1.filter _, fun c hc d hd => ?_⟩, fun c hc d hd => ?_⟩
    · have := hb c hc
      simp at hd
      omega
    · simp at hc
      rcases List.mem_append.mp hd with hd | hd
      · have := hb d hd
        omega
      · simp at hd
        omega
  · intro c hc
    rcases List.mem_append.mp hc with hc | hc
    · exact h.2 c (List.mem_of_mem_filter hc)
    · rcases List.mem_append.mp hc with hc | hc
      · exact hr.2 c hc
      · exact h.2 c (List.mem_of_mem_filter hc)

/-- Clearing a run keeps the canonical form. -/
theorem Sparse.wf_clear {α : Type} [DecidableEq α] (z : α) (m : List (Nat × α)) (a n : Nat) (h : Sparse.wf z m = true) :
    Sparse.wf z (Sparse.clear m a n) = true := by
  rw [Sparse.wf_iff] at h ⊢
  exact ⟨h.1.filter _, fun c hc => h.2 c (List.mem_of_mem_filter hc)⟩

/-- Two canonical sparse arrays that read alike everywhere are equal. -/
theorem Sparse.get_of_mem {α : Type} [DecidableEq α] (z : α) (m : List (Nat × α)) (h : Sparse.wf z m = true) (c : Nat × α) (hc : c ∈ m) :
    Sparse.get z m c.1 = c.2 := by
  rw [Sparse.wf_iff] at h
  induction m with
  | nil => cases hc
  | cons d m ih =>
    rw [Sparse.get]
    rcases List.mem_cons.mp hc with rfl | hc
    · rw [if_pos rfl]
    · have := (List.pairwise_cons.mp h.1).1 c hc
      rw [if_neg (by omega)]
      exact ih ⟨(List.pairwise_cons.mp h.1).2, fun e he => h.2 e (List.mem_cons_of_mem _ he)⟩ hc

/-! ## Memories -/

theorem Memory.get_write_in (m : Mem) (a : Nat) (bs : List Byte) (i : Nat) (h : i < bs.length) :
    Memory.get (Memory.write m a bs) (a + i) = bs.getD i 0 := Sparse.get_write_in 0 m a bs i h

theorem Memory.get_write_out (m : Mem) (a : Nat) (bs : List Byte) (b : Nat) (h : b < a ∨ a + bs.length ≤ b) :
    Memory.get (Memory.write m a bs) b = Memory.get m b := Sparse.get_write_out 0 m a bs b h

theorem Memory.read_write (m : Mem) (a : Nat) (bs : List Byte) : Memory.read (Memory.write m a bs) a bs.length = bs :=
  Sparse.read_write 0 m a bs

@[simp] theorem Memory.length_read (m : Mem) (a n : Nat) : (Memory.read m a n).length = n := Sparse.length_read 0 m a n

theorem Memory.wf_write (m : Mem) (a : Nat) (bs : List Byte) (h : Memory.wf m = true) : Memory.wf (Memory.write m a bs) = true :=
  Sparse.wf_write 0 m a bs h

end Sys2Proof.Machine
end

