-- ==== Sys2Proof/Tests/Slice0.lean ====
section
/-! SUPPORT. Tests/Slice0.lean: ill-formed commands refused, worked examples of the spec, and states that meet the hypotheses of the
statements. -/

open Sys2Proof Sys2Proof.Machine Sys2Proof.Claims

namespace Sys2Proof.Tests

set_option Elab.async false

/-- Site (0, 0, 0), its key 0 and its core. -/
def site0 : SiteId := ⟨0, 0, 0⟩
def core0 : CoreId := .array site0

/-- The module after reset with one site. -/
def oneSite (a : Site) : State := { State.reset with sites := [(0, a)] }

/-- A task slot that runs at the start of its window, with 0 in S0, 5 in S1, 3 in S2 and 64 in S3. -/
def runSlot : Slot := { st := .ready, regs := ((((Vector.replicate 32 0).set 1 5).set 2 3).set 3 64) }

/-- Slot 0 of site (0, 0, 0) is about to issue the word. -/
def about (w : W32) : State :=
  oneSite { Site.reset 0 with slots := (Vector.replicate 4 {}).set 0 runSlot, spad := { mem := Memory.write [] 0 (leBytes 4 w.toNat) } }

/-- The word of an opcode with its R-form registers and its immediate. -/
def word (op rd rs1 imm : Nat) : W32 := BitVec.ofNat 32 (op * 2 ^ 26 + rd * 2 ^ 21 + rs1 * 2 ^ 16 + imm)

/-! ## Ill-formed commands -/

def anyPacket : Packet := { cls := .sluice, drow := 0, dcol := 0, srow := 0, scol := 0, ptype := ptWrite }

theorem test_wf_packet : (Instr.hbmWrite 0 anyPacket).wf = true ∧ (Instr.hbmWrite 0 { anyPacket with drow := 192 }).wf = false
    ∧ (Instr.hbmWrite 0 { anyPacket with dcol := 200 }).wf = false ∧ (Instr.hbmWrite 0 { anyPacket with srow := 192 }).wf = false
    ∧ (Instr.hbmWrite 0 { anyPacket with scol := 200 }).wf = false
    ∧ (Instr.hbmWrite 0 { anyPacket with payload := List.replicate 513 0 }).wf = false := by decide +kernel

theorem test_wf_fabric : (Instr.wwrite 0 { ty := 2, dpc := 0, spc := 0, dst := 16384, src := 0 }).wf = false
    ∧ (Instr.wwrite 0 { ty := 2, dpc := 0, spc := 0, dst := 0, src := 16384 }).wf = false
    ∧ (Instr.wwrite 0 { ty := 2, dpc := 0, spc := 0, dst := 0, src := 0, body := List.replicate 4065 0 }).wf = false := by decide +kernel

theorem test_wf_lengths : (Instr.flitReceive 0 (List.replicate 255 0)).wf = false ∧ (Instr.bar4Read 0 0 0).wf = false ∧ (Instr.bar4Read 0 0 4097).wf = false
    ∧ (Instr.bar4Write 0 0 []).wf = false ∧ (Instr.bar4Write 0 0 (List.replicate 513 0)).wf = false
    ∧ (Instr.bar0Access 0 0 (.read 0)).wf = false ∧ (Instr.bar0Access 0 0 (.read 4097)).wf = false
    ∧ (Instr.bar0Access 0 0 (.write [])).wf = false ∧ (Instr.bar0Access 0 0 (.write (List.replicate 513 0))).wf = false
    ∧ (Instr.configurationWrite 0 (.bar4Size 29)).wf = false ∧ (Instr.configurationWrite 0 (.bar4Size 37)).wf = false
    ∧ (Instr.hostCompletionTimeout 0 1024).wf = false ∧ (Instr.hostReadCompletion 0 1024 []).wf = false
    ∧ (Instr.hostReadCompletion 0 0 (List.replicate 4097 0)).wf = false := by decide +kernel

theorem test_wf_levels : (Instr.storePageDone 0 0 [(0, 16)] false false).wf = false
    ∧ (Instr.storePageDone 0 0 (List.replicate 513 (0, 0)) false false).wf = false := by decide +kernel

/-! ## The whole machine -/

theorem witness_life_cycle : State.reset.sec.LcOk ∧ State.reset.pending = [] ∧ ∃ t, step State.reset = .next t :=
  ⟨⟨by decide, by decide, fun h => by cases h⟩, rfl, _, rfl⟩

/-- The module after reset with its life cycle at the end. -/
def retired : State := { State.reset with sec := { State.reset.sec with lc := 4 } }

theorem witness_retired : retired.sec.LcOk ∧ retired.sec.lc = 4 ∧ ∃ t, step retired = .next t :=
  ⟨⟨by decide, by decide, fun h => by cases h⟩, rfl, _, rfl⟩

/-! ## Control instructions -/

/-- What a command leaves. -/
def after (r : Host.Outcome State Fault Refusal) : State := match r with | .next t => t | _ => State.reset

/-- The slot is about to issue the word, of that opcode. -/
def Ready (w : W32) (op : Nat) : Prop := Fetches (about w) 0 0 w ∧ ctlOpcode w = op

theorem witness_registers : ∀ e ∈ registerTable, Ready (word 0 4 1 (2 * 2048 + e.2.1)) 0 ∧ ctlFunc (word 0 4 1 (2 * 2048 + e.2.1)) = e.2.1 := by
  unfold Ready Fetches; decide +kernel

theorem witness_reserved_func : Ready (word 0 4 1 2047) 0 ∧ 12 ≤ ctlFunc (word 0 4 1 2047)
    ∧ ((after (exec (.add core0 0) (about (word 0 4 1 2047)))).slot 0 0).st = .faulted
    ∧ ((after (exec (.add core0 0) (about (word 0 4 1 2047)))).slot 0 0).faultCode = 1 := by unfold Ready Fetches; decide +kernel

theorem witness_immediates : (∀ e ∈ immediateTable, Ready (word e.2.1 4 1 0xffff) e.2.1) ∧ (Ready (word 0x15 4 1 3) 0x15 ∧ fld (word 0x15 4 1 3) 7 9 = 0)
    ∧ Ready (word 0x16 4 0 0x8000) 0x16 ∧ Ready (word 0x17 4 0 0x8000) 0x17 := by unfold Ready Fetches; decide +kernel

theorem witness_branches : (∀ e ∈ branchTable, Ready (word e.2.1 1 2 0xffff) e.2.1) ∧ Ready (word 0x26 0 0 2) 0x26
    ∧ (Ready (word 0x27 0 3 0) 0x27 ∧ (((about (word 0x27 0 3 0)).slot 0 0).reg (ctlRs1 (word 0x27 0 3 0))).toNat % 4 = 0) := by
  unfold Ready Fetches; decide +kernel

theorem witness_load : Ready (word 0x1b 4 3 0) 0x1b ∧ 64 % 8 = 0 ∧ ((about (word 0x1b 4 3 0)).site 0).inWindow (((about (word 0x1b 4 3 0)).slot 0 0).homeWin) 64 8 = true
    ∧ ((about (word 0x1b 4 3 0)).site 0).spad.flawed (((about (word 0x1b 4 3 0)).site 0).homeAddr 0 64) 8 = false := by unfold Ready Fetches; decide +kernel

theorem witness_store : Ready (word 0x1f 1 3 0) 0x1f ∧ ((about (word 0x1f 1 3 0)).site 0).inWindow (((about (word 0x1f 1 3 0)).slot 0 0).homeWin) 64 8 = true
    ∧ ((about (word 0x1f 1 3 0)).site 0).spad.badMerge [(((about (word 0x1f 1 3 0)).site 0).homeAddr 0 64, leBytes 8 5)] = none := by
  unfold Ready Fetches; decide +kernel

/-- The state with slot 0 of site (0, 0, 0) changed. -/
def withSlot (s : State) (f : Slot → Slot) : State := s.updSlot 0 0 f

theorem witness_summaries : Ready (word 0x2a 0 1 0) 0x2a ∧ Ready (word 0x2d 4 0 0) 0x2d ∧ Ready (word 0x34 0 0 0) 0x34 ∧ Ready (word 0x35 0 0 0) 0x35
    ∧ (Fetches (withSlot (about (word 0x2c 4 0 0)) (fun x => { x with summaries := [7] })) 0 0 (word 0x2c 4 0 0)
      ∧ ((withSlot (about (word 0x2c 4 0 0)) (fun x => { x with summaries := [7] })).slot 0 0).summaries = 7 :: []) := by
  unfold Ready Fetches; decide +kernel

theorem witness_blocked : (((withSlot (about 0) (fun x => { x with st := .blocked, block := .count 1 0 })).slot 0 0).st = .blocked
      ∧ ((withSlot (about 0) (fun x => { x with st := .blocked, block := .count 1 0 })).slot 0 0).stopping = false
      ∧ ((withSlot (about 0) (fun x => { x with st := .blocked, block := .count 1 0 })).slot 0 0).block = .count 1 0
      ∧ 0 ≤ (((about 0).site 0).qdone[1] - (0 : W64).setWidth 32).toInt)
    ∧ (((withSlot (about 0) (fun x => { x with st := .blocked, block := .summary 4, summaries := [7] })).slot 0 0).st = .blocked
      ∧ ((withSlot (about 0) (fun x => { x with st := .blocked, block := .summary 4, summaries := [7] })).slot 0 0).stopping = false
      ∧ ((withSlot (about 0) (fun x => { x with st := .blocked, block := .summary 4, summaries := [7] })).slot 0 0).block = .summary 4
      ∧ ((withSlot (about 0) (fun x => { x with st := .blocked, block := .summary 4, summaries := [7] })).slot 0 0).summaries = 7 :: []) := by decide +kernel

/-- Pan 0 holds site (0, 0, 0) alone. -/
def aPan : Pan := { st := .running }
def withPan (x : Pan) (f : Site → Site) : State := { oneSite (f (Site.reset 0)) with pans := [(0, x)] }

theorem witness_start_stop : ((withPan aPan id).slotPowered 0 0 = true ∧ ((withPan aPan id).slot 0 0).st = .idle)
    ∧ (((about 0).site 0).inFlight 0 = 0 ∧ ((about 0).slot 0 0).st = .ready)
    ∧ (∀ n, ((oneSite { Site.reset 0 with slots := Vector.replicate 4 runSlot }).site 0).inFlight n = 0
        ∧ ((oneSite { Site.reset 0 with slots := Vector.replicate 4 runSlot }).slot 0 n).st = .ready)
    ∧ (((withSlot (about 0) (fun x => { x with stopping := true })).slot 0 0).stopping = true
      ∧ ((withSlot (about 0) (fun x => { x with stopping := true })).site 0).inFlight 0 = 0) := by decide +kernel

/-- R480: MULH of −1 and 2 is −1; SLT and SLTU differ on −1 and 1 (R25 keeps 64-bit registers). -/
theorem test_mulh : ((after (exec (.mulh core0 0) (withSlot (about (word 0 4 1 (2 * 2048 + 11))) (fun x => x.setReg 1 0xffffffffffffffff)))).slot 0 0).reg 4
    = 0xffffffffffffffff := by decide +kernel

theorem test_slt : ((after (exec (.slt core0 0) (withSlot (about (word 0 4 1 (2 * 2048 + 8))) (fun x => x.setReg 1 0xffffffffffffffff)))).slot 0 0).reg 4 = 1
    ∧ ((after (exec (.sltu core0 0) (withSlot (about (word 0 4 1 (2 * 2048 + 9))) (fun x => x.setReg 1 0xffffffffffffffff)))).slot 0 0).reg 4 = 0 := by decide +kernel

/-- R25: a write of S0 is discarded. -/
theorem test_s0 : ((after (exec (.addi core0 0) (about (word 0x10 0 1 7)))).slot 0 0).reg 0 = 0
    ∧ ((after (exec (.addi core0 0) (about (word 0x10 0 1 7)))).slot 0 0).pc = 4 := by decide +kernel

/-- R28: a taken branch with offset −1 goes back by one word. -/
theorem test_branch : ((after (exec (.bne core0 0) (about (word 0x21 1 2 0xffff)))).slot 0 0).pc = 0xfffffffffffffffc := by decide +kernel

theorem test_store_load : Memory.read ((after (exec (.store core0 0) (about (word 0x1f 1 3 0)))).site 0).spad.mem 64 8 = [5, 0, 0, 0, 0, 0, 0, 0] := by
  decide +kernel

/-- A task fault stops its slot alone, or with FAULT_STOP every slot of its array. -/
theorem witness_task_fault : ((oneSite { Site.reset 0 with faultStop := false }).site 0).faultStop = false ∧ ((about 0).site 0).pending = 0 ∧ core0.key < 65536
    ∧ ((oneSite { Site.reset 0 with faultStop := true, slots := Vector.replicate 4 runSlot }).site 0).faultStop = true
    ∧ ((oneSite { Site.reset 0 with faultStop := true, slots := Vector.replicate 4 runSlot }).slot 0 1).st = .ready := by decide +kernel
/-! ## Queues, registers of a unit and DMA -/

/-- A QPUSH of S0 to the vector queue, and a QLOAD of one entry at S3 = 64. -/
def wPush : W32 := word 0x28 8 0 0
def wLoad : W32 := word 0x29 8 3 0

theorem witness_push : Ready wPush 0x28 ∧ qOf wPush = 1 ∧ ctlCountM1 wPush = 0 ∧ (ctlRs1 wPush).toNat % qRegs (qOf wPush).val = 0 ∧ qReservedOk wPush = true
    ∧ ((about wPush).site 0).waitingIn 1 + 1 ≤ queueDepth 1 ∧ PushOk (about wPush) 0 0 1 (((about wPush).slot 0 0).pushBits 1 0) := by
  unfold Ready Fetches PushOk; decide +kernel

def anEntry : QEntry := { id := 0, slot := 0, bits := 0 }

/-- The state with queue q of site (0, 0, 0) holding these entries. -/
def withQueue (s : State) (q : Fin 4) (es : List QEntry) : State := s.updSite 0 (fun a => { a with queues := a.queues.set q es })

theorem witness_push_full : Fetches (withQueue (about wPush) 1 (List.replicate 64 anEntry)) 0 0 wPush
    ∧ queueDepth 1 < ((withQueue (about wPush) 1 (List.replicate 64 anEntry)).site 0).waitingIn 1 + 1 := by unfold Fetches; decide +kernel

/-- The slot is blocked in the push. -/
def blockedPush : State := withSlot (about wPush) (fun x => { x with st := .blocked, block := .queue wPush })

theorem witness_push_resume : (blockedPush.slot 0 0).st = .blocked ∧ (blockedPush.slot 0 0).stopping = false ∧ (blockedPush.slot 0 0).block = .queue wPush
    ∧ ctlOpcode wPush = 0x28 ∧ (blockedPush.site 0).waitingIn 1 + 1 ≤ queueDepth 1 ∧ PushOk blockedPush 0 0 1 ((blockedPush.slot 0 0).pushBits 1 0) := by
  unfold PushOk; decide +kernel

theorem witness_load_entries : Ready wLoad 0x29 ∧ qReservedOk wLoad = true ∧ qOf wLoad = 1 ∧ 64 % entryBytes 1 = 0
    ∧ ((about wLoad).site 0).inWindow (((about wLoad).slot 0 0).homeWin) 64 8 = true ∧ ((about wLoad).site 0).spad.flawed (((about wLoad).site 0).homeAddr 0 64) 8 = false
    ∧ ctlCountM1 wLoad = 0 ∧ ((about wLoad).site 0).waitingIn 1 + (0 + 1) ≤ queueDepth 1
    ∧ (((about wLoad).updSite 0 (fun a => a.issued 0)).pushEntries 0 0 1 0 (((about wLoad).site 0).loadBits 0 1 64 1)).2 = true := by
  unfold Ready Fetches; decide +kernel

theorem witness_entry_complete : entries (withQueue (about 0) 1 [{ anEntry with phase := .ran, summary := some 3 }]) 0 1
      = { anEntry with phase := .ran, summary := some 3 } :: []
    ∧ ((withQueue (about 0) 1 [{ anEntry with phase := .running }]).site 0).runningEntry 1 = some { anEntry with phase := .running } := by decide +kernel

theorem witness_csr : Ready (word 0x30 4 0 0x10) 0x30 ∧ Ready (word 0x31 0 1 0x10) 0x31 ∧ (csrReg (some 0) 0 0x10).isSome = true
    ∧ (csrReg (some 0) 0 0x3ff8).isNone = true ∧ Ready (word 0x30 4 0 0x3ff8) 0x30 ∧ Ready (word 0x31 4 0 0x3ff8) 0x31 := by
  unfold Ready Fetches; decide +kernel

/-- A descriptor of one row of 64 bytes from local address 0, with its op, remote address and words 2 and 3. -/
def desc (op remote w2 w3 : Nat) : BitVec 256 := BitVec.ofNat 256 (remote + op * 2 ^ 48 + 64 * 2 ^ (64 + 32) + w2 * 2 ^ 128 + w3 * 2 ^ 192)

/-- Engine 0 is about to issue the descriptor. -/
def aboutDma (b : BitVec 256) : State := withQueue (about 0) 2 [{ anEntry with bits := b, phase := .running }]

def dEntry (b : BitVec 256) : QEntry := { anEntry with bits := b, phase := .running }

theorem witness_dma_read : Issues (aboutDma (desc 0 hbmBase 0 0)) 0 0 (dEntry (desc 0 hbmBase 0 0)) 0
    ∧ ((aboutDma (desc 0 hbmBase 0 0)).site 0).dmaOutstanding 0 < 128 := by unfold Issues; decide +kernel

theorem witness_dma_gather : Issues (aboutDma (desc 3 hbmBase 0 (4096 + 2 ^ 36))) 0 0 (dEntry (desc 3 hbmBase 0 (4096 + 2 ^ 36))) 3
    ∧ ((aboutDma (desc 3 hbmBase 0 (4096 + 2 ^ 36))).site 0).spad.flawed 4096 4 = false
    ∧ leNat (Memory.read ((aboutDma (desc 3 hbmBase 0 (4096 + 2 ^ 36))).site 0).spad.mem 4096 4) < dIndexLimit (desc 3 hbmBase 0 (4096 + 2 ^ 36)) := by
  unfold Issues; decide +kernel

/-- The index 0 read at 0 is at the limit 0. -/
theorem witness_dma_gather_skip : Issues (aboutDma (desc 3 hbmBase 0 0)) 0 0 (dEntry (desc 3 hbmBase 0 0)) 3 ∧ dIndexLimit (desc 3 hbmBase 0 0) ≤ 0
    ∧ ((aboutDma (desc 3 hbmBase 0 0)).site 0).spad.flawed 0 4 = false ∧ leNat (Memory.read ((aboutDma (desc 3 hbmBase 0 0)).site 0).spad.mem 0 4) = 0
    ∧ ((aboutDma (desc 3 hbmBase 0 0)).site 0).spad.badMerge [(0, List.replicate 64 0)] = none := by unfold Issues; decide +kernel

theorem witness_dma_write : Issues (aboutDma (desc 1 hbmBase 0 0)) 0 0 (dEntry (desc 1 hbmBase 0 0)) 1 ∧ reduceAperture hbmBase = none
    ∧ ((aboutDma (desc 1 hbmBase 0 0)).site 0).spad.flawed 0 64 = false
    ∧ Issues (aboutDma (desc 2 0 0 0)) 0 0 (dEntry (desc 2 0 0 0)) 2 ∧ bitsOf (dRemote (desc 2 0 0 0)) 0 23 + 64 ≤ 2 ^ 23
    ∧ Issues (aboutDma (desc 4 hbmBase 0 0)) 0 0 (dEntry (desc 4 hbmBase 0 0)) 4 := by unfold Issues; decide +kernel

/-- A PUT of a row of 64 bytes to remote offset 480 is cut at 512. -/
theorem witness_dma_put_split : Issues (aboutDma (desc 2 480 0 0)) 0 0 (dEntry (desc 2 480 0 0)) 2 ∧ min (dRowBytes (desc 2 480 0 0) - 0) (512 - 480 % 512) = 32
    ∧ ((aboutDma (desc 2 480 0 0)).site 0).spad.flawed 0 32 = false := by unfold Issues; decide +kernel

theorem witness_dma_reduce : Issues (aboutDma (desc 1 0x208000000 0 0)) 0 0 (dEntry (desc 1 0x208000000 0 0)) 1
    ∧ (reduceAperture 0x208000000).isSome = true ∧ dChunk (desc 1 0x208000000 0 0) 0x208000000 0 = 64
    ∧ ((aboutDma (desc 1 0x208000000 0 0)).site 0).spad.flawed 0 64 = false := by unfold Issues; decide +kernel

/-- Site (0, 0, 0) waits for the answer of one read of 64 bytes, which has arrived. -/
def aReq : Req := { tag := 5, owner := .dma 0 0, ptype := ptReadReq, addr := hbmBase, len := 64, dst := 128, nomerge := true }
def rsp (ty : BitVec 6) (n : Nat) : Packet := { anyPacket with ptype := ty, tag := 5, payload := List.replicate n 1, bytesM1 := 63 }
def awaiting (r : Req) (p : Packet) : State := (aboutDma (desc 0 hbmBase 0 0)).updSite 0 (fun a => { a with reqs := [r], arrived := [p] })

theorem witness_answer : DeliveredFirst (awaiting aReq (rsp ptReadRsp 64)) site0 (rsp ptReadRsp 64) ptReadRsp ∧ ((awaiting aReq (rsp ptReadRsp 64)).site 0).ws.kicks = []
    ∧ ((awaiting aReq (rsp ptReadRsp 64)).site 0).readFor (rsp ptReadRsp 64) = some aReq ∧ readBytes aReq (rsp ptReadRsp 64) ≠ []
    ∧ ((awaiting aReq (rsp ptReadRsp 64)).site 0).spad.badMerge [(128, readBytes aReq (rsp ptReadRsp 64))] = none := by unfold DeliveredFirst; decide +kernel

theorem witness_ack : Delivered (awaiting { aReq with ptype := ptWrite } (rsp ptWriteAck 0)) (.site site0) (rsp ptWriteAck 0) ptWriteAck
    ∧ ((awaiting { aReq with ptype := ptWrite } (rsp ptWriteAck 0)).site 0).reqs.find? (fun q => q.tag == (5 : BitVec 12) && q.ptype != ptReadReq)
        = some { aReq with ptype := ptWrite }
    ∧ ((awaiting { aReq with ptype := ptWrite } (rsp ptWriteAck 0)).site 0).ws.kicks = [] ∧ (rsp ptWriteAck 0).payload = []
    ∧ Delivered (awaiting aReq (rsp ptCompletion 0)) (.site site0) (rsp ptCompletion 0) ptCompletion
    ∧ ((awaiting aReq (rsp ptCompletion 0)).site 0).reqs.find? (fun q => q.tag == (5 : BitVec 12)) = some aReq := by unfold Delivered; decide +kernel

theorem witness_descriptor : ((withQueue (about 0) 2 [{ dEntry (desc 0 hbmBase 0 0) with phase := .drainWait }]).site 0).dmaReady 0
      = some { dEntry (desc 0 hbmBase 0 0) with phase := .drainWait }
    ∧ ((withQueue (about 0) 2 [{ dEntry (desc 0 hbmBase 0 0) with phase := .drainWait, dmaStatus := 3 }]).site 0).dmaReady 0
      = some { dEntry (desc 0 hbmBase 0 0) with phase := .drainWait, dmaStatus := 3 }
    ∧ ((withQueue (about 0) 2 []).site 0).dma[0].errFault = true := by decide +kernel

def put (a : Nat) : Packet := { anyPacket with ptype := ptPut, addr := BitVec.ofNat 48 a, payload := List.replicate 4 1 }
def window0 (s : State) : State := s.updSite 0 (fun a => { a with spad := { a.spad with win := a.spad.win.set 0 { enable := true, remoteEn := true, bound := 0x800 } } })

theorem witness_put : DeliveredFirst (window0 (awaiting aReq (put 0))) site0 (put 0) ptPut ∧ (put 0).poison = false
    ∧ (vget {} ((window0 (awaiting aReq (put 0))).site 0).spad.win 0).remoteEn = true
    ∧ ((window0 (awaiting aReq (put 0))).site 0).inWindow 0 0 4 = true ∧ ((window0 (awaiting aReq (put 0))).site 0).spad.badMerge [(0, List.replicate 4 1)] = none
    ∧ DeliveredFirst (awaiting aReq (put 0)) site0 (put 0) ptPut ∧ (vget {} ((awaiting aReq (put 0)).site 0).spad.win 0).remoteEn = false
    ∧ DeliveredFirst (window0 (awaiting aReq (put 0x7ffffd))) site0 (put 0x7ffffd) ptPut ∧ ((window0 (awaiting aReq (put 0x7ffffd))).site 0).inWindow 0 0x7ffffd 4 = false
    ∧ DeliveredFirst (awaiting aReq { put 0 with poison := true }) site0 { put 0 with poison := true } ptPut := by unfold DeliveredFirst; decide +kernel

/-- A port of the scratchpad is granted while a requester has waited 32 cycles, and while one has waited 31. -/
theorem witness_age_grant : ((about 0).site 0).fenced = false ∧ ((about 0).site 0).parked = false ∧ ((about 0).site 0).spad.age.toNat ≤ 32
    ∧ 31 < ((about 0).site 0).spad.age.toNat ∧ ((oneSite { Site.reset 0 with noise := { autoOff := true } }).site 0).noise.autoOff = true
    ∧ ((about 0).site 0).noise.autoOff = false := by decide +kernel

theorem witness_ctrl_msg : Delivered (awaiting aReq { anyPacket with ptype := ptCtrlMsg }) (.site site0) { anyPacket with ptype := ptCtrlMsg } ptCtrlMsg
    ∧ (((awaiting aReq { anyPacket with ptype := ptCtrlMsg }).takeAt (.site site0) { anyPacket with ptype := ptCtrlMsg }).inboxOf (.site site0)).length < 16
    ∧ 16 ≤ (((((awaiting aReq { anyPacket with ptype := ptCtrlMsg }).updSite 0 (fun a => { a with ctrlInbox := List.replicate 16 anyPacket })).takeAt (.site site0)
        { anyPacket with ptype := ptCtrlMsg }).inboxOf (.site site0))).length := by unfold Delivered; decide +kernel

/-- R83: a VSETVL of 5 lanes in the push registers S4 and on is pushed and sets the VL of the entries after it. -/
def wPushVl : W32 := word 0x28 8 4 0
def pushesVl : State := withSlot (about wPushVl) (fun x => x.setReg 4 (BitVec.ofNat 64 (1 + 5 * 2 ^ 32)))

theorem test_push_vsetvl : Fetches pushesVl 0 0 wPushVl ∧ PushOk pushesVl 0 0 1 ((pushesVl.slot 0 0).pushBits 1 4)
    ∧ vOp ((pushesVl.slot 0 0).pushBits 1 4) = 1 ∧ ((after (exec (.qpush core0 0) pushesVl)).slot 0 0).vl = 5 := by
  unfold Fetches PushOk; decide +kernel

/-- R98: VX.VL_n shows it only when the VSETVL has completed. -/
theorem test_vsetvl_done : let s := withQueue (about 0) 1 [{ anEntry with phase := .ran, bits := BitVec.ofNat 256 (1 + 5 * 2 ^ 32) }]
    vOp (BitVec.ofNat 256 (1 + 5 * 2 ^ 32)) = 1 ∧ ((after (exec (.queueEntryComplete core0 1) s)).slot 0 0).vlDone = 5 := by decide +kernel

theorem witness_reduce_waits : (aboutDma (desc 1 0x208000000 0 0)).mayEnter 0 anyPacket = true
    ∧ ((aboutDma (desc 1 0x208000000 0 0)).updRouter 0 (fun r => { r with waits := [(bufKey .loc anyPacket.cls.idx anyPacket.lane.val, [anyPacket])] })).mayEnter 0 anyPacket = false := by
  decide +kernel

/-- The answer of an ATOMIC with the prior 64 bytes of its line. -/
theorem witness_atomic_answer : DeliveredFirst (awaiting { aReq with ptype := ptAtomicReq } (rsp ptAtomicRsp 64)) site0 (rsp ptAtomicRsp 64) ptAtomicRsp
    ∧ ((awaiting { aReq with ptype := ptAtomicReq } (rsp ptAtomicRsp 64)).site 0).reqs.find? (fun q => q.tag == (5 : BitVec 12) && q.ptype != ptReadReq)
        = some { aReq with ptype := ptAtomicReq }
    ∧ ((awaiting { aReq with ptype := ptAtomicReq } (rsp ptAtomicRsp 64)).site 0).spad.badMerge [(aReq.dst, (rsp ptAtomicRsp 64).payload)] = none
    ∧ (rsp ptAtomicRsp 64).payload ≠ [] ∧ (rsp ptAtomicRsp 64).poison = false := by unfold DeliveredFirst; decide +kernel

theorem test_atomic_answer : Memory.read ((after (exec (.ackArrive (.site site0) (rsp ptAtomicRsp 64)) (awaiting { aReq with ptype := ptAtomicReq } (rsp ptAtomicRsp 64)))).site 0).spad.mem
    128 2 = [1, 1] := by decide +kernel

/-- A slot that runs asks for the ports of its unit's scratchpad; a site at which nothing runs asks for none. -/
theorem witness_asks : (about 0).unitPowered 0 = true ∧ ((about 0).site 0).asksPorts = true ∧ (Site.reset 0).asksPorts = false := by decide +kernel
/-! ## The matrix and vector engines -/

/-- The matrix queue of site (0, 0, 0) holds one command of this operation. -/
def aboutMx (b : Nat) : State := withQueue (about 0) 0 [{ anEntry with bits := BitVec.ofNat 256 b }]
def mEntry (b : Nat) : QEntry := { anEntry with bits := BitVec.ofNat 256 b }

/-- MMA of one K-step in BF16 that overwrites, and one that accumulates and drains; DRAIN; ZERO; LDTAB. -/
theorem witness_matrix : ∀ b ∈ [1 + 1 * 64 + 1 * 1024, 1 + 1 * 64 + 1 * 1024 + 2 * 2 ^ 22, 2, 3, 4], NextMatrix (aboutMx b) 0 (mEntry b) (b % 64) := by
  unfold NextMatrix; decide +kernel

theorem witness_mma_form : mxAfmt (BitVec.ofNat 256 (1 + 1 * 64 + 1 * 1024)) ≠ 10 ∧ mxKsteps (BitVec.ofNat 256 (1 + 1 * 64 + 1 * 1024)) = 1 := by decide +kernel

/-- INT8 operands are format 10, and an MMA of two K-steps goes on with its second. -/
theorem witness_mma_int8 : NextMatrix (aboutMx (1 + 10 * 64 + 10 * 1024)) 0 (mEntry (1 + 10 * 64 + 10 * 1024)) 1 ∧ mxAfmt (BitVec.ofNat 256 (1 + 10 * 64 + 10 * 1024)) = 10
    ∧ ((aboutMx (1 + 10 * 64 + 10 * 1024)).site 0).mx.intSat = false
    ∧ ((oneSite { Site.reset 0 with mx := { (Site.reset 0).mx with intSat := true } }).site 0).mx.intSat = true
    ∧ NextMatrix (withQueue (about 0) 0 [{ mEntry (1 + 1 * 64 + 1 * 1024 + 2 ^ 16) with phase := .running, row := 1 }]) 0
        { mEntry (1 + 1 * 64 + 1 * 1024 + 2 ^ 16) with phase := .running, row := 1 } 1 := by unfold NextMatrix; decide +kernel

/-- R79: MX.FOD_0 resets to ROWS_M1 63, COLS_M1 63 and SCALE_ADDR 0. -/
theorem test_fod_reset : ((Site.reset 0).mx.fod.toList.all (fun f => f.w0 == 0xfff00000)) = true := by decide +kernel

theorem witness_drain : (∀ ws, ((aboutMx 2).site 0).spad.badMerge ws = none)
    ∧ (entries (withQueue (about 0) 0 [{ mEntry (1 + 2 * 2 ^ 22) with phase := .drainWait }]) 0 0).find? (fun y => y.phase == .drainWait)
      = some { mEntry (1 + 2 * 2 ^ 22) with phase := .drainWait } := ⟨fun _ => rfl, by decide +kernel⟩

/-- The vector queue of site (0, 0, 0) holds one instruction of this operation. -/
def aboutVec (op : Nat) : State := withQueue (about 0) 1 [{ anEntry with bits := BitVec.ofNat 256 op }]
def vEntry (op : Nat) : QEntry := { anEntry with bits := BitVec.ofNat 256 op }

/-- Every vector operation, with its first registers, at the head of the queue. -/
theorem witness_vector : ∀ op ∈ [0x00, 0x01, 0x10, 0x11, 0x12, 0x13, 0x14, 0x15, 0x16, 0x17, 0x18, 0x19, 0x1a, 0x1b, 0x1c, 0x1d, 0x1e, 0x1f, 0x20, 0x28, 0x29,
    0x2a, 0x2b, 0x30, 0x31, 0x32, 0x33, 0x34, 0x35, 0x36, 0x38, 0x39, 0x3a, 0x3b, 0x3c, 0x3d, 0x3e, 0x3f, 0x40, 0x41, 0x42, 0x43, 0x47],
    NextVector (aboutVec op) 0 (vEntry op) op ∧ vrVd (vEntry op).bits < 8 ∧ 0 < (vEntry op).vl.toNat ∧ (vEntry op).vl.toNat ≤ 64 := by
  unfold NextVector; decide +kernel

theorem witness_vector_int : vrType (BitVec.ofNat 256 (0x10 + 0xb * 2 ^ 26)) = 0xb ∧ vOp (BitVec.ofNat 256 (0x10 + 0xb * 2 ^ 26)) = 0x10 := by decide +kernel

theorem witness_vector_memory : ∀ op ∈ [0x48, 0x49, 0x4a, 0x4b, 0x4c, 0x50, 0x51, 0x52, 0x53, 0x54, 0x55, 0x56, 0x57, 0x60, 0x61],
    NextAccess (aboutVec op) 0 (vEntry op) op := by
  unfold NextAccess NextVector; decide +kernel

/-- With no uncorrectable word anywhere, every run merges. -/
theorem witness_merges (op : Nat) (ws : List WriteRuns) : MergesGood (aboutVec op) 0 ws := by
  have h (m : Spad) (hm : m.badWords = []) : m.badMerges ws = none := by
    induction ws generalizing m with
    | nil => rfl
    | cons w ws ih => simp only [Spad.badMerges, Spad.badMerge, hm, List.find?_nil]; exact ih _ (by simp [Spad.writeRuns, hm])
  exact h _ rfl

/-- R87, R89: 0x7fffffff + 1 wraps. -/
theorem test_wrap : (arithLane 0x10 0xb 0x7fffffff 1 0).1 = 0x80000000 := by decide +kernel

/-- R118: 1.0 + 2⁻²⁴ rounds to even, 1.0. -/
theorem test_round : f32Add 0x3f800000 0x33800000 = 0x3f800000 := by decide +kernel

/-- A DRAIN at the head that has not read its operands, and one that has. -/
theorem witness_latch : ((aboutMx 2).site 0).headOf 0 = some (mEntry 2) ∧ mxDrains (mEntry 2).bits = true ∧ (mEntry 2).opsRead = false
    ∧ (∀ r ∈ mxOperandReads ((aboutMx 2).site 0) (mEntry 2), ((aboutMx 2).site 0).spad.flawed r.1 r.2 = false)
    ∧ mxDrains (mEntry 3).bits = false ∧ { mEntry 2 with opsRead := true }.opsRead = true := by decide +kernel

/-- R57: the odd one of two K-steps of MXFP4 operands uses the tiles that its entry holds. -/
theorem witness_mma_mxfp4 : let e := { mEntry (1 + 9 * 64 + 9 * 1024 + 2 ^ 16) with phase := .running, row := 1 }
    NextMatrix (withQueue (about 0) 0 [e]) 0 e 1 ∧ mxAfmt e.bits = 9 ∧ e.row % 2 = 1 := by unfold NextMatrix; decide +kernel

/-- With E = 1, a compare and PTEST of KIND 2, VADD, VTEST and TRED of KIND 0. -/
theorem witness_emits : (∀ op ∈ [0x20, 0x38, 0x3c, 0x3f], NextVector (aboutVec (op + 2 ^ 7 + 2 * 2 ^ 60)) 0 (vEntry (op + 2 ^ 7 + 2 * 2 ^ 60)) op
      ∧ vE (vEntry (op + 2 ^ 7 + 2 * 2 ^ 60)).bits = true ∧ vField (vEntry (op + 2 ^ 7 + 2 * 2 ^ 60)).bits 60 4 = 2)
    ∧ ∀ op ∈ [0x10, 0x1e, 0x30, 0x40, 0x43, 0x47, 0x54], NextVector (aboutVec (op + 2 ^ 7)) 0 (vEntry (op + 2 ^ 7)) op
      ∧ vE (vEntry (op + 2 ^ 7)).bits = true ∧ vField (vEntry (op + 2 ^ 7)).bits 60 4 = 0 := by unfold NextVector; decide +kernel

/-- R36, R97: PTEST of KIND 2 with tag 9 on a register of zeros counts none: TAG and KIND stand in the word, VALUE is 0. -/
theorem test_ptest_summary : ((entries (after (exec (.ptest core0) (aboutVec (0x3f + 2 ^ 7 + 9 * 2 ^ 54 + 2 * 2 ^ 60)))) 0 1).map (fun e => e.summary))
    = [some (BitVec.ofNat 64 (2 * 2 ^ 32 + 9 * 2 ^ 38))] := by decide +kernel
/-! ## Routers and stacks -/

/-- Site (0, 0, 0) holds packet p at the head of one input buffer. -/
def aboutRoute (f : Router → Router) (key : Nat) (b : BufPkt) : State :=
  oneSite { Site.reset 0 with rt := f { (Site.reset 0).rt with inbuf := [(key, [b])] } }

/-- A sluice packet for the local port of site (0, 0, 0), and one for a neighbour to the east. -/
def home : Packet := { anyPacket with ptype := ptReadRsp }
def east : Packet := { home with dcol := 1 }

/-- A detour entry that sends every sluice packet of plan 0 for (0, 0) that enters at the west port to the east. -/
def aDetour : Detour := BitVec.ofNat 53 (2 ^ 52 + 2 ^ 45 + 2 ^ 36 + 2 ^ 39)

theorem witness_route : Heads (aboutRoute id (bufKey .w 0 0) { pkt := home }) 0 .w .sluice 0 home []
    ∧ ((aboutRoute id (bufKey .w 0 0) { pkt := home }).site 0).rt.detourOf .w home = none
    ∧ (aboutRoute id (bufKey .w 0 0) { pkt := home }).outBlocked 0 .loc home = false :=
  ⟨⟨by decide +kernel, { pkt := home }, by decide +kernel, rfl, rfl, by decide +kernel⟩, by decide +kernel, by decide +kernel⟩

theorem witness_detour : ((aboutRoute (fun r => { r with detour := [(0, aDetour)] }) (bufKey .w 0 0) { pkt := home }).site 0).rt.detourOf .w home = some aDetour
    ∧ (aboutRoute (fun r => { r with detour := [(0, aDetour)] }) (bufKey .w 0 0) { pkt := { home with drow := 0 } }).outBlocked 0 .e home = false := by
  decide +kernel

/-- The neighbour to the east is fenced, so its output is blocked. -/
theorem witness_blocked_route : Heads { (aboutRoute id (bufKey .w 0 0) { pkt := east }) with sites := (aboutRoute id (bufKey .w 0 0) { pkt := east }).sites
      ++ [(1, { Site.reset 1 with fenced := true, rt := { state := 3 } })] } 0 .w .sluice 0 east []
    ∧ State.outBlocked { (aboutRoute id (bufKey .w 0 0) { pkt := east }) with sites := (aboutRoute id (bufKey .w 0 0) { pkt := east }).sites
      ++ [(1, { Site.reset 1 with fenced := true, rt := { state := 3 } })] } 0 .e east = true ∧ east.cls = .sluice :=
  ⟨⟨by decide +kernel, { pkt := east }, by decide +kernel, rfl, rfl, by decide +kernel⟩, by decide +kernel, rfl⟩

/-- A destination set of site (0, 0, 0) alone, from the west. -/
def aSet : Packet := { home with dset := true }

theorem witness_fork : Heads (aboutRoute id (bufKey .w 0 0) { pkt := aSet }) 0 .w .sluice 0 aSet [] ∧ forkOutputs 0 .w aSet = [.loc]
    ∧ ((aboutRoute id (bufKey .w 0 0) { pkt := aSet }).site 0).holdsArray = true :=
  ⟨⟨by decide +kernel, { pkt := aSet }, by decide +kernel, rfl, rfl, by decide +kernel⟩, by decide +kernel, by decide +kernel⟩

theorem witness_hold : ((aboutRoute id (bufKey .w 2 0) { pkt := home, hold := true }).site 0).rt.queue (bufKey .w 2 0) = [{ pkt := home, hold := true }] := by
  decide +kernel

/-- A routed packet that waits for the local port. -/
def ready : State := aboutRoute id (bufKey .w 0 0) { pkt := home, routed := true, copies := [(.loc, home)] }

theorem witness_grant : (ready.site 0).forwards = true ∧ (ready.site 0).rt.pick .loc (ready.sinkTakes 0 .loc) 0 = some (.w, bufKey .w 0 0, false)
    ∧ ready.shedding 0 .loc = none ∧ ready.seamYields 0 .loc = false
    ∧ (ready.site 0).rt.ready .loc (ready.sinkTakes 0 .loc) (bufKey .w 0 0) = some home ∧ ((ready.site 0).rt.out .loc).arrived = true ∧ ((ready.site 0).rt.out .loc).pointer = 0
    ∧ home.flits ≤ vget 0 ((ready.site 0).rt.out .loc).deficit 0 + (ready.site 0).rt.weight 0 := by decide +kernel

/-- Nothing is ready for the port to the east. -/
theorem witness_nothing_ready : ready.shedding 0 .e = none ∧ ready.seamYields 0 .e = false
    ∧ ∀ c, c < 4 → (ready.site 0).rt.candidates .e (ready.sinkTakes 0 .e) c = [] := by decide +kernel

/-- A packet routed to the east, whose neighbour there has become fenced. -/
def shedsEast : State :=
  let s := aboutRoute id (bufKey .w 0 0) { pkt := east, routed := true, copies := [(.e, east)] }
  { s with sites := s.sites ++ [(1, { Site.reset 1 with fenced := true, rt := { state := 3 } })] }

theorem witness_shed : (shedsEast.site 0).forwards = true ∧ shedsEast.shedding 0 .e = some (.w, bufKey .w 0 0, east) := by decide +kernel

/-- A whole load awaits its route audit. -/
def aRouteLoad : ImgLoad := { number := 0, port := 0, queue := 0, src := 0, bytes := 0, fromHbm := true, isPartial := false, pan := 0, step := 6 }
def auditing : State := { State.reset with images := { loads := [aRouteLoad] } }

theorem witness_audit : ∃ l ls, auditing.images.loads = l :: ls ∧ l.step = 6 ∧ l.audited = false := ⟨aRouteLoad, [], rfl, rfl, rfl⟩

theorem witness_waits : portIdx .w < 4 ∧ Tbl.get (fun _ => []) (State.reset.site 0).rt.waits (bufKey .loc 0 0) = [] := by decide +kernel

theorem witness_neighbour : neighbour 0 .e = some 1 ∧ portIdx .e < 4 ∧ (State.reset.site 0).forwards = true ∧ (State.reset.site 1).forwards = true
    ∧ (State.reset.site 0).rt.liveOn.getLsbD (portIdx .e) = true ∧ (State.reset.site 0).rt.liveIn.getLsbD (portIdx .e) = false := by decide +kernel

/-- Stack 0 with a packet that has arrived. -/
def oneStack (a : Stack) : State := { State.reset with hbms := [(0, a)] }
def toStack (ty : BitVec 6) (n : Nat) : Packet := { anyPacket with cls := .bulk, ptype := ty, addr := BitVec.ofNat 48 hbmBase, payload := List.replicate n 1, bytesM1 := 63 }

theorem witness_stack_read : AtStack (oneStack { arrived := [toStack ptReadReq 0] }) 0 (toStack ptReadReq 0) ptReadReq
    ∧ ((toStack ptReadReq 0).nomerge = false ∧ ({} : Stack).window ≠ 0 ∧ ({} : Stack).entries = [])
    ∧ (Stack.readsInUse {} < 8192) ∧ AtStack (oneStack { arrived := [toStack ptReadReq 0], window := 0 }) 0 (toStack ptReadReq 0) ptReadReq := by
  unfold AtStack; decide +kernel

theorem witness_stack_merge : (({ entries := [⟨hbmBase / 512, []⟩] } : Stack).entries.find? (fun m => m.block == hbmBase / 512)) = some ⟨hbmBase / 512, []⟩
    ∧ (⟨hbmBase / 512, []⟩ : MergeEntry).has (toStack ptReadReq 0) = false
    ∧ (⟨hbmBase / 512, [asMember (toStack ptReadReq 0)]⟩ : MergeEntry).has (toStack ptReadReq 0) = true ∧ AtStack (oneStack { arrived := [toStack ptReadReq 0], entries := [⟨hbmBase / 512, []⟩] }) 0
      (toStack ptReadReq 0) ptReadReq := by unfold AtStack; decide +kernel

theorem witness_stack_write : AtStack (oneStack { arrived := [toStack ptWrite 64] }) 0 (toStack ptWrite 64) ptWrite ∧ isHbm hbmBase = true
    ∧ State.reset.stageLocked hbmBase = false ∧ (Stack.linesInUse {}) + 64 / 64 ≤ 4096 := by unfold AtStack; decide +kernel

theorem witness_stack_access : ((oneStack { jobs := [.write (toStack ptWrite 64)] }).stack 0).jobs = .write (toStack ptWrite 64) :: []
    ∧ ((oneStack { jobs := [.read (toStack ptReadReq 0)] }).stack 0).jobs = .read (toStack ptReadReq 0) :: []
    ∧ (toStack ptWrite 64).payload.length = 64 ∧ stackOff hbmBase % 64 = 0 ∧ (Stack.cached {} 0) = none ∧ (Stack.inCachedRange {} 0) = false
    ∧ ({} : Stack).serves (stackOff hbmBase) = true := by decide +kernel

theorem witness_atomic : AtStack (oneStack { arrived := [toStack ptAtomicReq 64] }) 0 (toStack ptAtomicReq 64) ptAtomicReq
    ∧ ((({} : Stack).line 0).1.length = 64)
    ∧ (toStack ptAtomicReq 64).aop.toNat = 0 ∧ ({} : Stack).jobs = [] ∧ ({} : Stack).entries = [] ∧ ({} : Stack).waiting = [] := by unfold AtStack; decide +kernel

theorem witness_atomic_lines : ∃ l o : List Byte, l.length = 64 ∧ o.length = 64 ∧ l.take 32 ≠ o.take 32 := ⟨List.replicate 64 0, List.replicate 64 1, by decide⟩

theorem witness_banks : (Stack.dark {}) = false ∧ ({} : Stack).banks[(0 : Fin 8)] = .on ∧ ({ banks := Vector.replicate 8 .off } : Stack).banks[(7 : Fin 8)] = .off
    ∧ ({ banks := Vector.replicate 8 .retain } : Stack).banks[(7 : Fin 8)] = .retain ∧ ({ banks := Vector.replicate 8 .opening } : Stack).held[(7 : Fin 8)] = none
    ∧ ({ banks := Vector.replicate 8 .opening } : Stack).banks[(7 : Fin 8)] = .opening ∧ ({} : Stack).thermalOff = false
    ∧ ({ banks := Vector.replicate 8 .draining } : Stack).banks[(0 : Fin 8)] = .draining ∧ ({ banks := Vector.replicate 8 .draining } : Stack).held[(0 : Fin 8)] = none
    ∧ ({ banks := Vector.replicate 8 .draining } : Stack).entries = []
    ∧ ({ banks := Vector.replicate 8 .draining } : Stack).outstandingWrites 0 = 0
    ∧ ({ thermalOff := true, banks := Vector.replicate 8 .off } : Stack).dark = false := by decide +kernel

theorem witness_stack_heat : (2 ≤ ({ stackState := 2 } : Stack).stackState.toNat) ∧ ({ thermalOff := true, celsius := 96 } : Stack).thermalOff = true
    ∧ 95 < (96 : BitVec 8).toNat ∧ (105 : BitVec 8).toNat ≤ 105
    ∧ (110 ≤ (110 : BitVec 8).toNat ∧ ({} : Stack).dark = false) ∧ (15 ≤ ({ samples := 15 } : Stack).samples.toNat ∧ ({} : Stack).floor.toNat ≤ bandOf 105
      ∧ ({ band := 0 } : Stack).band.toNat < bandOf 105) ∧ ({ stackState := 2 } : Stack).fenced = false ∧ ({ initing := true } : Stack).initing = true := by decide +kernel

/-- R180: ADD_I32 on each word, and CAS on the lower half. -/
theorem test_atomic : (atomicLine 0 (List.replicate 64 0xff) (List.replicate 64 1)).take 4 = [0, 1, 1, 1]
    ∧ atomicLine 8 (List.replicate 64 0) (List.replicate 32 0 ++ List.replicate 32 7) = List.replicate 32 7 ++ List.replicate 32 0 := by decide +kernel

/-- R419: a flit of a neighbour that is taken to be off and is not fenced. -/
theorem witness_off_neighbour : neighbour 0 .e = some 1 ∧ (State.reset.site 0).forwards = true
    ∧ ({ State.reset with sites := [(1, { Site.reset 1 with rt := { state := 0 } })] } : State).site 1 = { Site.reset 1 with rt := { state := 0 } }
    ∧ ({ Site.reset 1 with rt := { state := 0 } } : Site).forwards = false ∧ (Site.reset 1).fenced = false := by decide +kernel

/-- A stack that goes off line for heat keeps what it holds for a bank in transition; one of a fenced wafer stays off. -/
theorem witness_heat_held : ({ thermalOff := true, banks := Vector.replicate 8 .opening } : Stack).dark = false
    ∧ ({ thermalOff := true, banks := Vector.replicate 8 .opening } : Stack).banks[(3 : Fin 8)] = .opening
    ∧ ({ State.reset with fault := { State.reset.fault with waferFenced := 8 } } : State).fault.waferFenced.getLsbD (191 / 48) = true := by decide +kernel
/-! ## The weight streamer, tempo and pans -/

/-- Site (0, 0, 0) with its streamer changed. -/
def withWs (f : Ws → Ws) : State := oneSite { Site.reset 0 with ws := f {} }
def aWsDesc : WsDesc := ⟨0, 0, 0, 0⟩

theorem witness_streamer : ((withWs (fun w => { w with kicks := [[aWsDesc]] })).site 0).ws.phase = none
    ∧ ((withWs (fun w => { w with kicks := [[aWsDesc]] })).site 0).ws.cur.isSome = true ∧ ((withWs (fun w => { w with kicks := [[aWsDesc]] })).freeTag 0).isSome = true
    ∧ ((withWs (fun w => { w with kicks := [[aWsDesc]] })).site 0).streamerReads < 128
    ∧ ((withWs (fun w => { w with phase := some .retryWait })).site 0).ws.phase = some .retryWait
    ∧ ((withWs (fun w => { w with phase := some (.finished 0), kicks := [[aWsDesc]] })).site 0).ws.phase = some (.finished 0) ∧ (0 : BitVec 3) ≠ 6 := by decide +kernel

/-- A slot at 0x1000 in its window kicks one descriptor at 0: a transfer of one block from the start of HBM to local offset 0. -/
def kicking : State :=
  oneSite { Site.reset 0 with slots := (Vector.replicate 4 {}).set 0 { runSlot with pc := 4096 }
                              hbm := (Vector.replicate 8 {}).set 0 { enable := true, base := BitVec.ofNat 28 (hbmBase / 2 ^ 20), bound := BitVec.ofNat 28 (hbmBase / 2 ^ 20 + 1) }
                              spad := { mem := Memory.write [] 0 (leBytes 8 hbmBase) } }

theorem witness_kick : (kicking.slot 0 0).st = .ready ∧ (kicking.slot 0 0).stopping = false ∧ (kicking.site 0).spad.flawed ((kicking.site 0).homeAddr 0 0) 32 = false
    ∧ (kicking.site 0).ws.kicks.length < 4 ∧ (match (kicking.site 0).wsCheck 0 0 1 with | .ok ds => ds.length | _ => 0) = 1 := by
  decide +kernel

theorem witness_tempo : (withPan aPan id).panOf 0 = some 0 ∧ ({ slots := 8 } : Tempo).slots.getLsbD 3 = true ∧ ({ slots := 8 } : Tempo).arrived.getLsbD 3 = false
    ∧ ((withPan aPan id).site 0).slotsQuiet = true ∧ ((withPan aPan (fun a => { a with slots := Vector.replicate 4 runSlot })).site 0).slotsQuiet = false
    ∧ ((withPan aPan (fun a => { a with tempo := { slots := 1, arrived := 1 } })).site 0).tempoDone = true ∧ ((withPan aPan id).pan 0).st = .running
    ∧ ((withPan aPan (fun a => { a with tempo := { slots := 1, arrived := 1 } })).site 0).tempo.valid = false
    ∧ ((withPan aPan (fun a => { a with tempo := { slots := 1, arrived := 1 } })).site 0).tempo.armed = false
    ∧ ((withPan { aPan with st := .stopping } (fun a => { a with tempo := { slots := 1, arrived := 1, armed := true, valid := true } })).site 0).tempoDone = true
    ∧ ((withPan { aPan with st := .stopping } id).pan 0).forcedStop = false
    ∧ ((withPan { aPan with st := .stopping, target := some 3 } id).pan 0).target = some 3 := by decide +kernel

theorem witness_pan : (withPan aPan id).liveSites 0 = [0] ∧ (((withPan { aPan with st := .stopping } (fun a => { a with tempo := { armed := true } })).site 0).tempo.armed = true)
    ∧ (((withPan { aPan with st := .stopping } (fun a => { a with tempo := { atBoundary := true } })).site 0).tempo.atBoundary = true)
    ∧ ((withPan { aPan with st := .stopped } id).panSites 0 = [0]) ∧ ((withPan { aPan with st := .stopped } id).site 0).tempo.forced = false
    ∧ ((withPan { aPan with st := .stopped } id).site 0).parked = false ∧ ((withPan { aPan with st := .stopped } id).site 0).fenced = false
    ∧ ((withPan { aPan with st := .stopped } id).site 0).spad.clearing = false
    ∧ (withPan { aPan with st := .stopped } id).fault.waferFenced.getLsbD (siteW 0) = false := by decide +kernel

/-- R207: BOUNDARY takes N when the pan has stopped. -/
theorem test_boundary : (((after (exec (.panStopped 0) (withPan { aPan with st := .stopping, target := some 7 } (fun a => { a with tempo := { atBoundary := true } })))).pan 0).boundary)
    = 7 := by decide +kernel

/-! ## Activation caching, reductions and update engines -/

/-- Set 0 of ACU 0 serves mesh position (0, 0), one block. -/
def acuSet : Acu := { enable := true, sets := [(0, #v[0, 2 ^ 63, 0, 0])] }
def toAcu (ty : BitVec 6) (n : Nat) : Packet := { anyPacket with ptype := ty, addr := BitVec.ofNat 48 (acuAperture 0), payload := List.replicate n 1 }
def withAcu (a : Acu) (ps : List Packet) : State := { State.reset with hps := [(0, { up := true, acu := a, arrived := ps })] }

theorem witness_acu : (toAcu ptWrite 64) ∈ (withAcu acuSet [toAcu ptWrite 64]).arrivedAt (acuNode 0) ∧ (acuOffset 0 (acuAperture 0)).isSome = true
    ∧ ((withAcu acuSet [toAcu ptWrite 64]).acuReq 0 (toAcu ptWrite 64)).isSome = true ∧ ((withAcu acuSet []).acu 0).stagedLines + 64 / 64 ≤ 524288
    ∧ ((withAcu acuSet [toAcu ptReadReq 0]).acuReq 0 (toAcu ptReadReq 0)).isSome = true ∧ ((withAcu acuSet []).acu 0).waiting.length < 4096 := by decide +kernel

def aBlock : AcuBlock := { set := 0, index := 0, block := 0, row := 0, col := 0, complete := true }

theorem witness_acu_record : ((withAcu { acuSet with staging := [aBlock] } []).acu 0).staging.find? (fun b => b.complete && b.fallback == false) = some aBlock
    ∧ ((withAcu acuSet []).hp 0).up = true ∧ ((withAcu { acuSet with waiting := [toAcu ptReadReq 0] } []).acuWaitReq 0 0).isSome = true
    ∧ ((withAcu acuSet []).acu 0).location 0 0 = false
    ∧ ({ State.reset with hps := [(0, { reqs := [⟨0, .acu 0⟩] })] }.hp 0).reqs.any (fun r => r.owner == HostReqOwner.acu 0) = true := by decide +kernel

/-- Job 0 of complex 0, and complex 0 with it. -/
def aJob : Job := { w := #v[0x180 + 2 ^ 32, 0, 0, 0, 0, 0] }
def withJob (x : Job) (f : Pc → Pc) : State := { State.reset with pcs := [(0, f { red := { enable := true, jobs := [(0, x)] } })] }

theorem witness_red_open : aJob.st = .closed ∧ aJob.fieldsOk = true ∧ (withJob aJob id).spaceOk 0 aJob = true ∧ aJob.shadowEn = false
    ∧ (aJob.parent.map (fun e => e.1)).toList ++ aJob.kids.map (fun k => k.2) = [] ∧ aJob.grantCount = 0 ∧ ((withJob aJob id).pc 0).red.enable = true := by decide +kernel

theorem witness_red_states : ∀ st : JobState, ((withJob { aJob with st := st } id).job 0 0).st = st := by intro st; cases st <;> decide +kernel

/-- The payload of a grant of job 5 by complex 2. -/
def aGrant : Packet := { anyPacket with ptype := ptCtrlMsg, payload := leBytes 4 (5 + 2 * 4096) }

theorem witness_reduce_grant : bytesAt aGrant.payload 0 4 = 5 + 2 * 4096
    ∧ ((oneSite { Site.reset 0 with ctrlInbox := [aGrant], rgrant := (Vector.replicate 8 {}).set 7 { en := true, job := 5, pc := 2 } }).site 0).rgrant.toList.findIdx?
      (fun r => r.en && r.job == BitVec.ofNat 12 (5 + 2 * 4096) && r.pc == BitVec.ofNat 3 ((5 + 2 * 4096) / 4096)) = some 7
    ∧ ((oneSite { Site.reset 0 with ctrlInbox := [aGrant] }).site 0).rgrant.toList.findIdx?
      (fun r => r.en && r.job == BitVec.ofNat 12 (5 + 2 * 4096) && r.pc == BitVec.ofNat 3 ((5 + 2 * 4096) / 4096)) = none
    ∧ ((oneSite { Site.reset 0 with ctrlInbox := [aGrant] }).site 0).ctrlInbox = [aGrant] := by decide +kernel

/-- A job of two members, run by member 0 or member 1, and a message from the other of one chunk. -/
def twoJob (m : Nat) : Job := { w := #v[0x180 + 2 ^ 32, BitVec.ofNat 64 (m + 2 ^ 16), 0, 0, 0, 0], st := .running }
def redPkt (kind src : Nat) : FabPkt :=
  { ty := ftRed, dpc := 0, spc := 0, dst := 0, src := 1
    body := [BitVec.ofNat 8 kind, 0, 0, 0, 0, 1, BitVec.ofNat 8 src, 0] ++ List.replicate (64 + 512 - 8) 0 }
def redState (q kind m : Nat) : State :=
  { State.reset with pcs := [(0, { red := { enable := true, jobs := [(0, twoJob m)] }, disp := { inbox := if q = 0 then [{ pkt := redPkt kind (1 - m) }] else [] } }),
                             (4, { red := { enable := true, jobs := [(0, twoJob m)] }, disp := { inbox := if q = 4 then [{ pkt := redPkt kind (1 - m) }] else [] } })] }

theorem witness_red_messages : ∀ e ∈ [(rkUp, 0, 0), (rkDown, 1, 0), (rkShadowUp, 0, 4), (rkShadowDown, 1, 4)],
    ((redState 0 e.1 e.2.1).takeFab 0 (redPkt e.1 (1 - e.2.1))).isSome = true
    ∧ (parseRed (redPkt e.1 (1 - e.2.1)).body).any (fun m => decide (m.kind = e.1 ∧ m.trailer.nf = 0 ∧ m.trailer.first = none
          ∧ (redState 0 e.1 e.2.1).redFate 0 m ((redState 0 e.1 e.2.1).job e.2.2 m.job)
              (if e.2.1 = 0 then ((redState 0 e.1 e.2.1).job e.2.2 m.job).kidAt m.level else ((redState 0 e.1 e.2.1).job e.2.2 m.job).parent.map (fun x => x.1)) = .accept))
      = true := by decide +kernel

theorem witness_red_reduce : (toAcu ptReduce 64).ptype = ptReduce ∧ ((State.reset.pc 0).red.enable = false) := by decide +kernel

theorem witness_red_ends : ((withJob { aJob with st := .running, chunks := [{ done := true }] } id).job 0 0).passDone = true
    ∧ ({ counts := Vector.replicate 8 1 } : Chunk).begun = true ∧ ({ aJob with chunks := [{ counts := Vector.replicate 8 1 }] } : Job).chunkComplete { counts := Vector.replicate 8 1 } = false
    ∧ (twoJob 1).member ≠ 0 ∧ ({ sentUp := true } : Chunk).done = false := by decide +kernel

/-- A chunk on its way from complex 4 to the job that runs at its shadow partner. -/
def aCopy : RedCopy := { job := 0, outward := true, round := 0, pass := 0, chunk := 0, data := [], trailer := {} }

theorem witness_shadow_copy : ∃ s : State, (s.pc 4).red.copies.find? (fun y => y.job == 0) = some aCopy ∧ aCopy.outward = true
    ∧ (s.job (shadowOf 4) aCopy.job).st = .running :=
  ⟨{ State.reset with pcs := [(0, { red := { jobs := [(0, twoJob 0)] } }), (4, { red := { copies := [aCopy] } })] }, by decide +kernel⟩

/-- Complex 0 with its update engines enabled and this entry 0. -/
def withUe (e : LayerEntry) (f : UeCtl → UeCtl) (job : Job) : State :=
  { State.reset with pcs := [(0, { red := { enable := true, jobs := [(0, job)] }, ue := f { enable := true, layers := [(0, e)] } })] }

theorem witness_tasks : ((withUe {} id { aJob with st := .held }).pc 0).ue.layers.filter (fun e => e.2.valid && e.2.job == 0) = []
    ∧ ((withUe { w := (Vector.replicate 12 0).set 0 1 } id { aJob with st := .held }).pc 0).ue.layers.filter (fun e => e.2.valid && e.2.job == 0) ≠ []
    ∧ ((withUe {} id { aJob with st := .held }).job 0 0).tasked = false ∧ ((withUe {} id aJob).idleEngines 0).length = 16 ∧ ({} : LayerEntry).shards ≤ 16 := by decide +kernel

/-- Engine 0 of complex 0 runs entry 0, alone or with engine 1. -/
def ueRun (two : Bool) : State :=
  { withUe { st := 2 } id aJob with sites := [(65536, { Site.reset 65536 with ue := { active := true } }), (65537, { Site.reset 65537 with ue := { active := two, shard := 1 } })] }

theorem witness_release : ((ueRun false).site (ueKey 0 0)).ue.active = true ∧ ((ueRun false).site (ueKey 0 0)).ue.released = none ∧ (ueRun false).taskMates 65536 = [65536]
    ∧ (ueRun true).taskMates 65536 = [65536, 65537] ∧ ((ueRun true).site 65537).ue.released = none ∧ ((ueRun false).site 65536).ue.shard = 0 := by decide +kernel

/-- Entry 0 is queued, its task first of its complex. -/
def aTask : Task := { entry := 0, nf := false, abort := false, checkFail := false, frozen := false, lr := 0, wd := 0, user := 0, staging := 0, touched := 0 }

theorem witness_task_start : ((withUe { st := 1 } (fun u => { u with queue := [aTask] }) aJob).pc 0).ue.queue = aTask :: []
    ∧ ((withUe { st := 1 } (fun u => { u with queue := [aTask] }) aJob).layer 0 aTask.entry).st = 1
    ∧ ((withUe { st := 1 } (fun u => { u with queue := [aTask] }) aJob).layer 0 0).shards ≤ ((withUe { st := 1 } (fun u => { u with queue := [aTask] }) aJob).idleEngines 0).length
    ∧ ((withUe { st := 1 } (fun u => { u with queue := [aTask] }) aJob).pc 0).ue.enable = true := by decide +kernel

/-- A release line of code 1 for entry 0, which waits for arrays. -/
def aReleaseLine : Packet := { anyPacket with ptype := ptWrite, addr := 0x000202080000, payload := leBytes 64 1 }

theorem witness_release_code : bytesAt aReleaseLine.payload 0 4 = 1 ∧ aReleaseLine.addr.toNat = 0x000200000000 + 0 * 2 ^ 29 + 0x02080000 + 64 * 0
    ∧ ({ w := (Vector.replicate 12 0).set 0 2, st := 1 } : LayerEntry).arrays = true := by decide +kernel

theorem witness_release_line : ({ w := (Vector.replicate 12 0).set 0 2, st := 1 } : LayerEntry).st = 1 ∧ (withUe { st := 3 } id aJob).layer 0 0 = { st := 3 }
    ∧ ({} : LayerEntry).valid = false := by decide +kernel

theorem witness_red_shadow : ({ aJob with w := #v[0x180 + 2 ^ 32 + 2 ^ 4, 0, 0, 0, 0, 0] } : Job).shadowEn = true
    ∧ ({ aJob with w := #v[0x180 + 2 ^ 32 + 2 ^ 4, 0, 0, 0, 0, 0] } : Job).fieldsOk = true := by decide +kernel

/-- Complex 0 runs a job of one chunk, and a REDUCE packet of one line of 16 FP32 elements of 1 waits there. -/
def runJob : Job := { aJob with st := .running, chunks := [{}] }
def contribution : Packet := { anyPacket with ptype := ptReduce, bytesM1 := 63, ext := 1, payload := (List.replicate 16 [0, 0, 0x80, 0x3f]).flatten }
def reducing (x : Job) (p : Packet) : State := withJob x (fun c => { c with arrived := [p] })

theorem witness_contribution : contribution ∈ ((reducing runJob contribution).pc 0).arrived ∧ contribution.ptype = ptReduce
    ∧ ((reducing runJob contribution).pc 0).red.enable = true ∧ ((reducing runJob contribution).job 0 contribution.tag.toNat) = runJob ∧ runJob.st = .running
    ∧ reduceFmt contribution = runJob.rfmt ∧ contribution.addr.toNat + (contribution.bytesM1.toNat + 1) ≤ runJob.slotBytes ∧ runJob.squash = false
    ∧ contribution.nf = false ∧ contribution.poison = false ∧ runJob.lineCount 0 + reduceCount contribution ≤ runJob.expect
    ∧ (match runJob.chunks[0 / 8]? with | some h => h.kids == [] | none => false) = true
    ∧ runJob.expect < ({ runJob with chunks := [{ counts := (Vector.replicate 8 0).set 0 1 }] } : Job).lineCount 0 + reduceCount contribution
    ∧ ({ runJob with chunks := [{ counts := (Vector.replicate 8 0).set 0 1 }] } : Job).lineCount 0 ≠ 0 := by decide +kernel

/-- R238: the first contribution is copied into the slot and its count kept. -/
theorem test_contribution : let t := after (exec (.pcReduceArrive 0 contribution) (reducing { runJob with w := #v[0x180 + 2 * 2 ^ 32, 0, 0, 0, 0, 0] } contribution))
    (t.job 0 0).lineCount 0 = 1 ∧ Memory.read (t.pc 0).red.buf 0 4 = [0, 0, 0x80, 0x3f] := by decide +kernel
/-! ## The module fabric -/

def withPort (p : Port) : State := { State.reset with ports := [(0, p)] }

/-- The first 248 bytes of a data flit with this SEQ, and the flit with a check that is off by x. -/
def flitHead (seq : Nat) : List Byte := leBytes 8 seq ++ List.replicate 240 0
def flitOf (seq : Nat) (x : W64) : List Byte := flitHead seq ++ leBytes 8 (crc64 (flitHead seq) ^^^ x).toNat

theorem leNat_leBytes (n v : Nat) : leNat (leBytes n v) = v % 256 ^ n := by
  induction n generalizing v with
  | zero => simp [leBytes, leNat, Nat.mod_one]
  | succ n ih =>
    rw [leBytes, leNat, ih, Nat.pow_succ', Nat.mod_mul]
    rfl

theorem leBytes_length (n v : Nat) : (leBytes n v).length = n := by
  induction n generalizing v with
  | zero => rfl
  | succ n ih => simp [leBytes, ih]

theorem flitHead_length (seq : Nat) : (flitHead seq).length = 248 := by
  rw [flitHead, List.length_append, leBytes_length, List.length_replicate]

theorem flit_check (seq : Nat) (x : W64) : bytesAt (flitOf seq x) 248 8 = (crc64 (flitHead seq) ^^^ x).toNat ∧ (flitOf seq x).take 248 = flitHead seq
    ∧ (flitOf seq x).length = 256 ∧ bytesAt (flitOf seq x) 0 8 = seq % 256 ^ 8 := by
  refine ⟨?_, ?_, ?_, ?_⟩
  · unfold bytesAt flitOf
    rw [List.drop_left' (flitHead_length seq), List.take_of_length_le (by rw [leBytes_length]), leNat_leBytes]
    exact Nat.mod_eq_of_lt (crc64 (flitHead seq) ^^^ x).isLt
  · exact List.take_left' (flitHead_length seq)
  · rw [flitOf, List.length_append, flitHead_length, leBytes_length]
  · unfold bytesAt flitOf flitHead
    rw [List.drop_zero, List.append_assoc, List.take_left' (leBytes_length 8 seq), leNat_leBytes]

theorem witness_flit : bytesAt (flitOf 0 0) 248 8 = (crc64 ((flitOf 0 0).take 248)).toNat ∧ bytesAt (flitOf 0 1) 248 8 ≠ (crc64 ((flitOf 0 1).take 248)).toNat
    ∧ bytesAt (flitOf 1 0) 248 8 = (crc64 ((flitOf 1 0).take 248)).toNat ∧ ((withPort { st := .up }).port 0).st = .up
    ∧ BitVec.ofNat 16 (bytesAt (flitOf 0 0) 0 8) = ((withPort { st := .up }).port 0).rxSeq ∧ BitVec.ofNat 16 (bytesAt (flitOf 1 0) 0 8) ≠ ((withPort { st := .up }).port 0).rxSeq
    ∧ bitsOf (bytesAt (flitOf 1 0) 0 8) 32 1 = 0 ∧ bitsOf (bytesAt (flitOf 1 0) 0 8) 33 1 = 0 ∧ bitsOf (bytesAt (flitOf 1 0) 0 8) 63 1 = 0 := by
  have h (seq : Nat) := flit_check seq
  simp only [(h _ _).1, (h _ _).2.1, (h _ _).2.2.2]
  refine ⟨by simp, fun e => ?_, by simp, by decide, by decide, by decide, by decide, by decide, by decide⟩
  have := congrArg (fun y => BitVec.getLsbD y 0) (BitVec.eq_of_toNat_eq e)
  simp at this

theorem witness_port : ((withPort { st := .up, nakSent := true }).port 0).nakSent = true ∧ ((withPort {}).port 0).enable = true ∧ ((withPort {}).port 0).st ≠ .up
    ∧ ((withPort { enable := false }).port 0).enable = false := by decide +kernel

/-- A packet that port 0 has received in full, of its type's class and of another, for this module and for another. -/
def aFab (ty : BitVec 8) (dst : W32) : FabPkt := { ty := ty, dpc := 0, spc := 0, dst := dst, src := 1 }
def received (c : Nat) (p : FabPkt) : State := withPort { st := .up, rx := [{ pkt := p, cls := c, lane := 0, flits := 1 }] }

theorem witness_route_fabric : fabClass ftCtrl ≠ some 0 ∧ fabClass ftCtrl = some 1 ∧ ((received 1 (aFab ftCtrl 0)).port 0).rx = [{ pkt := aFab ftCtrl 0, cls := 1, lane := 0, flits := 1 }]
    ∧ (match ((received 1 (aFab ftCtrl 0)).fabRoute (aFab ftCtrl 0) true) with | .deliver _ => true | _ => false) = true
    ∧ (received 1 (aFab ftCtrl 5)).fabRoute (aFab ftCtrl 5) true = .discard ∧ (received 1 (aFab ftCtrl 0)).fabRoute (aFab ftCtrl 0) true ≠ .discard := by decide +kernel

/-- Port 0 is up to module 5, which the table of fenced modules names. -/
theorem witness_heartbeat : ({ withPort { st := .up, peer := 5 } with fab := { fence := Vector.replicate 16 (2 ^ 32 + 5) } } : State).fencedAddr 5 = true
    ∧ ((withPort { st := .up, peer := 5 }).port 0).st = .up ∧ State.reset.fatal 0 = false ∧ ((withPort { session := 3 }).port 0).session = 3 := by decide +kernel

/-- Complex 0 with a packet in its inbox. -/
def inFab (p : FabPkt) (f : Disp → Disp) : State := { State.reset with pcs := [(0, { disp := f { inbox := [{ pkt := p }] } })] }

theorem witness_fabric_taken : ∀ ty ∈ [ftHeartbeat, ftWwrite, ftWack, ftTack, ftRack, ftCack, ftCtrl, ftToken, ftResult], ((inFab (aFab ty 0) id).takeFab 0 (aFab ty 0)).isSome = true := by
  decide +kernel

theorem witness_module_lost : ({ State.reset with ports := [(0, { st := .up, peer := 5 })] } : State).ports.any (fun e => e.2.st == .up && e.2.peer == 5) = true
    ∧ State.reset.pcs.any (fun e => e.2.disp.inbox.any (fun f => f.pkt.ty == ftHeartbeat && f.pkt.src == 5)) = false ∧ State.reset.fwdBad = none
    ∧ (State.reset.pc 7).fenced = false := by decide +kernel

theorem witness_fwd_bad : (({ State.reset with fab := { modPending := [(0, BitVec.ofNat 15 (2 ^ 15 - 1))] } } : State).fwdBad).isSome = true := by decide +kernel

theorem witness_answers : ((inFab (aFab ftWack 0) (fun d => { d with reqs := [{ tag := 0, ty := ftWwrite }] })).pc 0).disp.reqFor ftWack 0 = some { tag := 0, ty := ftWwrite }
    ∧ ((inFab (aFab ftWack 0) id).pc 0).disp.reqFor ftWack 0 = none
    ∧ ((inFab (aFab ftCtrl 0) id).pc 0).disp.ctrl.length < 16 ∧ 16 ≤ ((inFab (aFab ftCtrl 0) (fun d => { d with ctrl := List.replicate 16 (aFab ftCtrl 0) })).pc 0).disp.ctrl.length := by
  decide +kernel

/-- A packet at complex 0 for channel 0 of its send aperture, or for layer 0 of its route aperture. -/
def toPc (a : Nat) (ty : BitVec 6) (n : Nat) : Packet := { anyPacket with ptype := ty, addr := BitVec.ofNat 48 (0x000200000000 + a), payload := List.replicate n 1, bytesM1 := 63 }
def atPc (p : Packet) (d : Disp) : State := { State.reset with pcs := [(0, { disp := d, arrived := [p] })] }

theorem witness_send_channel : sendAperture 0 (0x000200000000 + 0x06000000) = some (0, 0) ∧ toPc 0x06000000 ptWrite 64 ∈ (atPc (toPc 0x06000000 ptWrite 64) {}).arrivedAt (.pc 0)
    ∧ ((atPc (toPc 0x06000000 ptWrite 64) {}).pc 0).disp.enable = false
    ∧ toPc 0x06000000 ptReadReq 0 ∈ (atPc (toPc 0x06000000 ptReadReq 0) { enable := true }).arrivedAt (.pc 0)
    ∧ ((atPc (toPc 0x06000000 ptReadReq 0) { enable := true }).pc 0).disp.enable = true
    ∧ (State.reset.chanIndex {} (toPc 0x06000000 ptWrite 64)) = some 0
    ∧ (vget 0 ({ w := #v[2 ^ 42, 0, 0, 0] } : Chan).w 0).getLsbD 42 = true := by decide +kernel

theorem witness_windows : ((atPc anyPacket { wins := [(0, { st := .opened })] }).pc 0).disp.winBusy = false ∧ (((atPc anyPacket {}).pc 0).disp.win 1023).st = .closed
    ∧ (((atPc anyPacket { wins := [(0, { st := .opened })] }).pc 0).disp.win 0).st = .opened
    ∧ (((atPc anyPacket { wins := [(0, { st := .closing })] }).pc 0).disp.win 0).st = .closing
    ∧ (((atPc anyPacket { wins := [(0, { st := .closing })] }).pc 0).disp.win 0).committed = 0 := by decide +kernel

theorem witness_route_line : routeAperture 0 (0x000200000000 + 0x05000000) = some 0 ∧ toPc 0x05000000 ptWrite 64 ∈ (atPc (toPc 0x05000000 ptWrite 64) { enable := true }).arrivedAt (.pc 0)
    ∧ (State.reset.dispLayer 0 0).2.valid = false ∧ rlKind (List.replicate 64 0) = 0
    ∧ rlKind (List.replicate 64 1) = 1 ∧ rlKind (List.replicate 64 2) = 2 ∧ rlKind (List.replicate 64 3) = 3 := by decide +kernel

/-- A port whose cage holds a powered module, and one whose cage is empty. -/
theorem witness_optics : ({ optics := .powered } : Port).idleState = .training ∧ ({ optics := .absent } : Port).idleState = .down
    ∧ ({ enable := true, optics := .powered } : Port).enable = true ∧ ({ enable := true, optics := .powered } : Port).st ≠ .up := by decide +kernel

/-- A route line at an engine that is not enabled. -/
theorem witness_route_off : routeAperture 0 (0x000200000000 + 0x05000000) = some 0
    ∧ ((atPc (toPc 0x05000000 ptWrite 64) { enable := false }).pc 0).disp.enable = false
    ∧ toPc 0x05000000 ptWrite 64 ∈ (atPc (toPc 0x05000000 ptWrite 64) { enable := false }).arrivedAt (.pc 0) := by decide +kernel
/-! ## Store controllers and host ports -/

def aCart : Cart := { serial := 1, metadata := true, ns := #v[1, 1, 1] }
def withBay (b : Bay) : State := { State.reset with bays := [(0, b)] }

/-- A packet of one line for bay 0: a READ (OP 1) or a WRITE (OP 2). -/
def lineOf (op : Nat) : List Byte := [BitVec.ofNat 8 op] ++ List.replicate 63 0
def toBay (op : Nat) : Packet := { anyPacket with ptype := ptWrite, addr := BitVec.ofNat 48 (0x000400000000 + 0x800000), payload := lineOf op, bytesM1 := 63 }

theorem witness_store_line : ∀ op ∈ [1, 2], toBay op ∈ ((withBay { arrived := [toBay op], st := bayOnline, cart := some aCart }).bay 0).arrived ∧ storeAperture 0 (toBay op).addr.toNat = true
    ∧ ((withBay { arrived := [toBay op] }).bay 0).pktOf (toBay op) = { pkt := toBay op } ∧ (toBay op).payload.length = 64 ∧ slField (lineOf op) 0 1 = op
    ∧ ({ arrived := [toBay op] } : Bay).refusal (lineOf op) = some ({ arrived := [toBay op] }, stTargetOff) := by decide +kernel

def aLine : StoreLine :=
  { order := 0, pkt := toBay 1, write := false, ns := 0, count := 1, gen := 0, page := 0, hbm := 0, hdr := 0, sequence := 0, block := 0, layer := 0, tokens := 0, fmt := 0, step := 0 }

theorem witness_store_page : ({ lines := [aLine] } : Bay).lines.find? (fun l => l.order == 0) = some aLine ∧ ({ lines := [aLine] } : Bay).lineMay aLine = true ∧ ((withBay { cart := some aCart }).bay 0).cart = some aCart
    ∧ (aLine.advance 0).done = 1 ∧ ({ aLine with count := 2 }.advance 0).done < 2 := by decide +kernel

theorem witness_store_states : ({ cart := some { aCart with sanitizing := true } } : Bay).cart.map (fun c => c.sanitizing) = some true ∧ ({} : Bay).cmd = 0
    ∧ ({ cart := some aCart, st := bayOff } : Bay).mountResult = 0 ∧ ({ cart := some aCart, st := bayOnline } : Bay).mountResult ≠ 0
    ∧ ({ args := #v[45776367, 0, 0] } : Bay).args[0].toNat + 16 * ({ args := #v[45776367, 0, 0] } : Bay).args[1].toNat + 0 ≤ 45776367
    ∧ ({} : Bay).tooHot = false ∧ ({ heatOff := true, celsius := 66 } : Bay).tooHot = true ∧ ({ cart := some aCart, st := bayOff } : Bay).cart.map (fun c => c.sanitizing) = some false
    ∧ (sideSlots false).find? (fun i => (vget {} ({ aCart with slots := (Vector.replicate 16 {}).set 3 { gen := 5, st := 4 } } : Cart).slots i).gen.toNat == 5
        && (vget {} ({ aCart with slots := (Vector.replicate 16 {}).set 3 { gen := 5, st := 4 } } : Cart).slots i).st == 4) = some 3
    ∧ 45776367 < ({ args := #v[45776368, 0, 0] } : Bay).args[0].toNat ∧ aCart.genOk false 1 = true ∧ aCart.openSlot false = some 0 ∧ aCart.openSlot true = some 8
    ∧ ({ aCart with slots := (Vector.replicate 16 {}).set 8 { gen := 5, source := 7, st := 1 } } : Cart).sourceOk 7 = true
    ∧ ({ aCart with slots := (Vector.replicate 16 {}).set 3 { gen := 5, st := 1 } } : Cart).slotOf 5 true = some 3
    ∧ aCart.nsPages 0 = 1 ∧ aCart.nsPages 2 = 1 := by decide +kernel

theorem witness_store_ends : ({ cmd := scTrim } : Bay).trimReady = true
    ∧ (({ st := baySanitizing, erasing := true } : Bay).erasing = true ∧ ({ st := baySanitizing, erasing := true } : Bay).cmd = 0)
    ∧ (scFormat ≠ 0 ∧ scMount ≠ 0 ∧ scUnmount ≠ 0 ∧ scTrim ≠ 0 ∧ scCommit ≠ 0)
    ∧ ({ aCart with slots := (Vector.replicate 16 {}).set 15 { st := 3 } } : Cart).slots[(15 : Fin 16)].st = 3 := by decide +kernel

def oldCart : Cart := { aCart with blocks := [(0, { age := 4204800000 })], base := 501, pages := [(0, { ns := 0, fmt := 0, tokens := 0, sequence := 0, block := 0, layer := 0, gen := 0, page := 0, blk := 0 })] }

theorem witness_cartridge : ((withBay {}).bay 0).cart = none ∧ ((withBay {}).bay 0).fenced = false ∧ (84 : BitVec 8).toNat < 85 ∧ 85 ≤ (85 : BitVec 8).toNat
    ∧ ({ st := bayOnline } : Bay).heatOff = false ∧ ({ st := bayMounting, cmd := scMount } : Bay).cmd = scMount ∧ ({ st := bayOnline, cart := some aCart } : Bay).mounted = true
    ∧ scMount ≠ 0 ∧ ({ st := bayOnline } : Bay).cmd ≠ scUnmount := by decide +kernel

theorem witness_scrub : ({ st := bayOnline } : Bay).scrubBlock { oldCart with blocks := [(0, { age := hours 730 })] } = some (0, true)
    ∧ ({ st := bayOnline } : Bay).scrubBlock { oldCart with blocks := [(0, { since := hours 168 })] } = some (0, false)
    ∧ leastBy (fun x => (oldCart.blk x).erases) (oldCart.known.filter (fun x => oldCart.holds x)) = some 0
    ∧ hours 168 ≤ (({ oldCart with blocks := [(0, { since := hours 168 })] } : Cart).blk 0).since := by decide +kernel

/-- Whether or not block 0 is defective from the factory, the greatest erase count is 501 blocks of the rest. -/
theorem witness_wear : ({} : Bay).wlSpread.toNat < oldCart.mostErased - (oldCart.blk 0).erases := by
  have h : ∀ b : Bool, 500 < (([0].filter (fun _ => b)).foldl (fun m x => max m (oldCart.blk x).erases) oldCart.base) - (oldCart.blk 0).erases := by decide +kernel
  have e : [0].filter oldCart.inService = [0].filter (fun _ => oldCart.inService 0) := by simp only [List.filter_cons, List.filter_nil]
  have m := h (oldCart.inService 0)
  rw [← e] at m
  exact m

/-- Host port 0, up, with queue 0 changed. -/
def withHost (h : HostPort) : State := { State.reset with hps := [(0, { h with up := true })] }
def aCmd (op : BitVec 8) : HostCmd := { opcode := op, flags := 0, cid := 0, arg0 := 0, arg1 := 0, arg2 := 0, arg3 := 0, sqHead := 0, order := 0 }
def withCmd (c : HostCmd) : State := withHost { queues := [(0, { w2 := 0x484, cmds := [c] })], nextOrder := 1 }

theorem witness_doorbell : (withHost {}).hp 0 = { up := true } ∧ AtOnce (withHost {}) ((withHost {}).updHp 0 (fun h => h)) 0 false ∧ AtOnce (withHost {}) ((withHost {}).updHp 0 (fun h => h)) 0 true
    ∧ (15 : BitVec 16).toNat < ((withHost {}).hq 0 255).sqSize
    ∧ ((withHost {}).hq 0 255).sqSize ≤ (16 : BitVec 16).toNat ∧ ((withHost {}).hq 0 255).cqSize ≤ (16 : BitVec 16).toNat := by
  unfold AtOnce; decide +kernel

theorem witness_fetch : ((withHost { cmdEn := true, queues := [(0, { w2 := 0x100000484, sqTail := 1 })] }).hp 0).engineOn = true
    ∧ ((withHost { cmdEn := true, queues := [(0, { w2 := 0x100000484, sqTail := 1 })] }).hp 0).nextQueue = some 0
    ∧ ((withHost {}).hostRead 0 false (.fetch 0 1) 0 64).isSome = true := by decide +kernel

/-- Each command of R352 at the front of its queue, waiting or running. -/
theorem witness_commands : ∀ op ∈ [(0 : BitVec 8), 1, 2, 3, 4, 5, 6, 7], Starts (withCmd (aCmd op)) ((withCmd (aCmd op)).updCmd 0 0 (fun c => { c with phase := .running })) 0 0 (aCmd op) op
    ∧ Runs (withCmd { aCmd op with phase := .running }) 0 0 { aCmd op with phase := .running } op := by
  have full : ∀ op ∈ [(0 : BitVec 8), 1, 2, 3, 4, 5, 6, 7], ((withCmd (aCmd op)).hq 0 0).cqFull = false := by decide +kernel
  intro op ho
  have cq := full op ho
  unfold Starts Runs
  refine ⟨⟨rfl, rfl, rfl, rfl, ?_, cq, rfl⟩, rfl, rfl, rfl, rfl⟩
  all_goals simp [HostPort.mayStart, bit, aCmd, withCmd, withHost, State.hp, Tbl.get, HostPort.started]

theorem witness_command_args : csrOk 0 false = true ∧ csrOk 1 false = false ∧ ((withHost { hbm := (Vector.replicate 8 {}).set 0 { enable := true, writeEn := true, base := BitVec.ofNat 28 (hbmBase / 2 ^ 20), bound := BitVec.ofNat 28 (hbmBase / 2 ^ 20 + 1) } }).hp 0).copyOk
      { aCmd 1 with arg0 := 0, arg1 := BitVec.ofNat 64 hbmBase, arg2 := 64 } true = true ∧ ((withHost {}).hp 0).copyOk (aCmd 1) true = false
    ∧ (1023 : W64).toNat < 1024 ∧ isHbm hbmBase = true ∧ hbmBase % 4 = 0 := by decide +kernel

theorem witness_complete : (withCmd { aCmd 0 with phase := .finished scOk 0 }).front 0 0 = some { aCmd 0 with phase := .finished scOk 0 } ∧ bit (2 : BitVec 8) 1 = true
    ∧ ((withCmd (aCmd 0)).hq 0 0).cqFull = false ∧ ({ w2 := 0x484, cqTail := 15 } : HostQueue).cqFull = true := by decide +kernel

theorem witness_port_events : ((withHost { reqs := [⟨5, .fetch 0 1⟩] }).hp 0).reqs.find? (fun r => r.tag == 5) = some ⟨5, .fetch 0 1⟩
    ∧ ((withHost { reqs := [⟨5, .copy 0 0 64⟩] }).hp 0).live = true ∧ (List.replicate 64 (0 : Byte)).length = 64 * 1
    ∧ ({ State.reset with images := { loads := [{ number := 3, port := 0, queue := 0, src := 0, bytes := 0, fromHbm := false, isPartial := false, pan := 0 }] } } : State).images.loads.head?.map
        (fun l => l.number) = some 3
    ∧ ((State.reset.hp 0).off = false ∧ (State.reset.hp 0).fenced = false) ∧ ((withHost { ideSecure := true }).hp 0).ideSecure = true := by decide +kernel

theorem witness_bar0 : ((withHost {}).hp 0).live = true ∧ ((withHost {}).hp 0).serves = true ∧ ((withHost { d3hot := true }).hp 0).serves = false
    ∧ (withHost {}).bar0Address 0 0 = some 0x000100000000 ∧ isAperture 0x000100000000 = false ∧ ((withHost {}).regRead 0x000100000000 (halfOf 0x000100000000 false)).isSome = true
    ∧ ((withHost {}).regWrite 0x000100000000 (halfOf 0x000100000000 false) 0).isSome = true
    ∧ (withHost { pages := (Vector.replicate 16 0).set 1 (BitVec.ofNat 64 (1 + 0x000400800000)) }).bar0Address 0 (2 ^ 22) = some 0x000400800000 ∧ isAperture 0x000400800000 = true := by
  decide +kernel

/-- BAR2 lies at 0 and BAR0 above it; the read is not of BAR0. -/
theorem witness_bar2 : AtOnce (withHost { bars := #v[2 ^ 30, 0, 2 ^ 40] }) ((withHost { bars := #v[2 ^ 30, 0, 2 ^ 40] }).updHp 0 (fun h => h)) 0 false
    ∧ (0 : W64).toNat < (((withHost { bars := #v[2 ^ 30, 0, 2 ^ 40] }).hp 0).bars[0]).toNat ∧ ((withHost {}).hp 0).held.countP HostAccess.answered < 256
    ∧ pageWrite (.register (some (hpBase + 0x88)) (.write [0, 0, 0, 0])) = true ∧ pageWrite (.register (some hpBase) (.write [0, 0, 0, 0])) = false
    ∧ (2 ^ 20 : W64).toNat - 0 = 2 ^ 20 := by unfold AtOnce; decide +kernel

/-- Before READY a configuration request is to be retried. -/
theorem witness_configuration : (withHost {}).power.ready = false ∧ ({ withHost {} with power := { ready := true } } : State).power.ready = true
    ∧ ({ withHost {} with power := { ready := true } }.hp 0).live = true := by decide +kernel

/-- R357: byte 63 of an event record holds its PHASE. -/
theorem test_event_phase (ev : Event) (phase : Bool) : (ev.bytes phase).length = 64 ∧ (ev.bytes phase).getLast? = some (BitVec.ofNat 8 (b2n phase)) := by
  constructor
  · have h (n v : Nat) : (leBytes n v).length = n := by induction n generalizing v <;> simp_all [leBytes]
    simp only [Event.bytes, h, List.length_append, List.length_take, List.length_replicate, List.length_cons, List.length_nil]
    omega
  · rw [Event.bytes, List.getLast?_concat]

theorem witness_bar4 : ((withHost { bar4WriteEn := true }).hp 0).bar4WriteEn = true ∧ 4096 ≤ 2 ^ ((withHost {}).hp 0).bar4Log2
    ∧ ((withHost {}).readBlocks (((withHost {}).hp 0).bar4Address 0) 64).2.2 = stOk := by decide +kernel

/-- The oldest packet of the aperture that has a line left, while requests are free. -/
theorem witness_store_first : ∀ op ∈ [1, 2], ({ arrived := [toBay op, toBay 2] } : Bay).isFirst 0 (toBay op) = true ∧ ({ arrived := [toBay op, toBay 2] } : Bay).lines.length < 1024 := by
  decide +kernel

theorem witness_store_idle : ({ cart := some aCart } : Bay).cmd = 0 ∧ ({ cart := some aCart } : Bay).off = false ∧ ({ cart := some aCart } : Bay).fenced = false
    ∧ ({ off := true } : Bay).off = true ∧ ({ fenced := true } : Bay).fenced = true := by decide +kernel

/-- A cartridge wrapped by the module and one of another module. -/
theorem witness_wrapped : State.reset.sec.storeKey = some { secret := 0, serial := Config.serial }
    ∧ (State.reset.sec.storeKey ≠ some { secret := 1, serial := Config.serial }) ∧ aCart.wrappedBy = none
    ∧ ({ cmd := scCommit, lines := [aLine] } : Bay).linesOpen 0 7 = false := ⟨rfl, by simp [State.reset, Sec.storeKey], rfl, rfl⟩

/-- R325, R326: a block whose samples need soft decoding at two checks in succession, and the findings of one check. -/
theorem witness_scrub_soft : ({ st := bayOnline } : Bay).scrubBlock { oldCart with blocks := [(0, { since := hours 168, soft := 1 })] } = some (0, false)
    ∧ 1 ≤ (({ oldCart with blocks := [(0, { since := hours 168, soft := 1 })] } : Cart).blk 0).soft
    ∧ (({ oldCart with blocks := [(0, { since := hours 168 })] } : Cart).blk 0).soft = 0
    ∧ ({ st := bayOnline } : Bay).refreshPct.toNat ≤ (100 : BitVec 8).toNat ∧ (0 : BitVec 8).toNat < ({ st := bayOnline } : Bay).refreshPct.toNat := by decide +kernel

/-- The eighth lanes over one cable, and all sixteen over both. -/
theorem witness_link : (({ lanes := 8, cableB := false } : LinkWidth).lanes = 8) ∧ (({ lanes := 16, cableB := true } : LinkWidth).lanes = 16)
    ∧ 1 ≤ (6 : BitVec 3).toNat ∧ (6 : BitVec 3).toNat ≤ 6 ∧ (State.reset.hp 3).off = false ∧ (State.reset.hp 3).fenced = false ∧ (State.reset.hp 3).up = false := by decide +kernel

/-- A write through BAR4 that is not enabled, and one beyond the BAR. -/
theorem witness_bar4_off : ((withHost { bar4WriteEn := false }).hp 0).bar4WriteEn = false ∧ AtOnce (withHost {}) ((withHost {}).updHp 0 (fun h => h)) 0 true
    ∧ 2 ^ ((withHost {}).hp 0).bar4Log2 < 2 ^ ((withHost {}).hp 0).bar4Log2 - 1 + 2 := by unfold AtOnce; decide +kernel

/-- R328, R329: a bay that mounts and gets too hot, and one that is erasing. -/
theorem witness_heat : ({ st := bayMounting, cmd := scMount } : Bay).cmd = scMount ∧ ({ st := baySanitizing, erasing := true } : Bay).st = baySanitizing
    ∧ (59 : Nat) < 60 ∧ 60 ≤ ({ hot := 59 } : Bay).hot + 1 := by decide +kernel
/-! ## Images, power, parks and resets -/

def aLoad : ImgLoad := { number := 0, port := 0, queue := 0, src := 0, bytes := 1024, fromHbm := true, isPartial := false, pan := 0, step := 2 }
def withLoad (l : ImgLoad) : State := { State.reset with images := { loads := [l] } }

/-- A load whose object is an image of no bytes at all: its length is that of the signature block. -/
theorem witness_image_staged : (withLoad aLoad).images.loads = [aLoad] ∧ aLoad.fromHbm = true ∧ imgSigned (List.replicate 1024 0) + 1024 = aLoad.bytes
    ∧ imgSigned (List.replicate 1024 0) + 1024 ≠ 1025 ∧ State.reset.fault.promos = [] ∧ State.reset.loadReady [] false 0 = true
    ∧ ({ State.reset with pans := [(0, { st := .running })] } : State).loadReady [] false 0 = false
    ∧ ({ State.reset with pcs := [(0, { red := { jobs := [(0, { st := .opened })] } })] } : State).loadReady [] false 0 = false := by decide +kernel

/-- SHA-512 of "abc" (FIPS 180-4's example), its first four bytes. -/
theorem test_sha : (sha512 [0x61, 0x62, 0x63]).take 4 = [0xdd, 0xaf, 0x35, 0xa1] := by decide +kernel

/-- A partial image of one section, the PAN_MAP with pan 0 of one array at row 0, column 0, and its signature block. -/
def imgHead : List Byte :=
  leBytes 4 0x314d5747 ++ leBytes 2 1 ++ [1, 3] ++ leBytes 2 0x4060 ++ leBytes 2 0 ++ leBytes 4 1 ++ leBytes 8 7 ++ leBytes 8 0 ++ leBytes 8 384 ++ leBytes 8 256
    ++ List.replicate 208 0
def imgBody : List Byte := leBytes 2 1 ++ leBytes 2 0 ++ leBytes 4 0 ++ leBytes 8 320 ++ leBytes 8 16 ++ List.replicate 104 0
def imgBytes : List Byte := imgHead ++ imgBody ++ List.replicate 1024 0

theorem test_partial_image : imageOk imgBytes true 0 = true ∧ imgSigned imgBytes = 384
    ∧ ({ State.reset with pans := [(0, { st := .stopped })] } : State).loadReady imgBytes true 0 = true := by decide +kernel

theorem witness_image_steps : (withLoad { aLoad with step := 6 }).images.loads = { aLoad with step := 6 } :: [] ∧ (withLoad { aLoad with step := 5 }).images.loads = { aLoad with step := 5 } :: []
    ∧ (withLoad { aLoad with step := 6, audited := true }).images.loads = { aLoad with step := 6, audited := true } :: [] ∧ (withLoad { aLoad with step := 7 }).clearsDone = true
    ∧ (withLoad { aLoad with step := 7 }).loadingPans = [] ∧ ({ withLoad { aLoad with step := 7 } with pans := [(0, { st := .loading })] } : State).loadingPans ≠ []
    ∧ imgPans imgBytes ≠ [] ∧ imgPans (List.replicate 1024 0) = [] := by decide +kernel

/-- All of five stages work, and all of four. -/
theorem witness_stages : 4 ≤ (({ State.reset with power := { working := BitVec.ofNat 40 (2 ^ 40 - 1) } } : State).stageSet 0 false).power.stagesOf 0
    ∧ (({ State.reset with power := { working := BitVec.ofNat 40 (2 ^ 40 - 2) } } : State).stageSet 1 false).power.stagesOf 0 < 4 := by decide +kernel

theorem witness_coolant : coolantBad 129 20 40 = true ∧ coolantBad 150 18 55 = false ∧ coolantGood 150 18 55 = true ∧ (4699 : BitVec 16).toNat < 4700 := by decide +kernel

theorem witness_temperature : 115 ≤ (115 : BitVec 8).toNat ∧ bit State.reset.fault.waferFenced (siteW 0) = false ∧ (104 : BitVec 8).toNat < 105
    ∧ ((State.reset.updSite 0 (fun a => { a with isl := a.isl.sample 104 })).site 0).isl.hot < 100
    ∧ ((State.reset.updSite 0 (fun a => { a with isl := a.isl.sample 105 })).site 0).parks = true
    ∧ (State.reset.updSite 0 (fun a => { a with isl := a.isl.sample 105 })).power.parkBusy (blockOf 0) = false ∧ ((oneSite { Site.reset 0 with isl := { locked := true } }).site 0).isl.locked = true := by
  decide +kernel

def parked (t : W64) : State := { State.reset with power := { parked := [(0, t)] } }

theorem witness_park : State.reset.power.busy = false ∧ (State.reset.parkLast 0 239).power.parkBusy 239 = false ∧ (parked 0).power.parkBusy 0 = true ∧ 240 ≤ (240 : BitVec 8).toNat
    ∧ (State.reset.rmcNow).2.power.parked.find? (fun e => e.1 == 0) = none ∧ ((parked 5).parkLast 0 0).rmcNow.2.power.parked.find? (fun e => e.1 == 0) = some (0, 5) := by decide +kernel

/-- A park of block 0 at its first step, and at its fourth with and without a packet in a router. -/
def parking (step : Nat) (f : Site → Site) : State := { oneSite (f (Site.reset 0)) with power := { park := some ⟨0, step⟩ } }

theorem witness_park_steps : (parking 1 id).power.park = some ⟨0, 1⟩ ∧ ((parking 1 id).blockPans 0).any (fun n => (parking 1 id).holdsPark n) = false
    ∧ ((parking 1 id).parkSites 0).all (fun k => ((parking 1 id).site k).enginesIdle) = true
    ∧ ({ withPan aPan id with power := { park := some ⟨0, 1⟩ } } : State).blockPans 0 = [0] ∧ (withPan aPan id).holdsPark 0 = true
    ∧ (parking 4 id).blockPackets 0 = 0 := by decide +kernel

theorem witness_park_packets : ((parking 4 (fun a => { a with isl := { a.isl with state := 2 }, rt := { a.rt with inbuf := [(bufKey .w 0 0, [{ pkt := home }])] } })).site 0).rt.packets = 1
    ∧ ((blockSites 0).contains 0 = true) := by decide +kernel

theorem witness_resets : 7 ≤ popcount (127 : BitVec 8) ∧ State.reset.sec.erasePending = false ∧ State.reset.initialised = true ∧ State.reset.power.dark = false ∧ State.reset.resets.busy = false
    ∧ State.reset.sec.lc ≠ 4 ∧ State.reset.resets.waiting = false ∧ ({ State.reset with power := { ready := true } } : State).power.ready = true
    ∧ ({ State.reset with power := { ready := true } } : State).resets.busy = false ∧ State.reset.power.ready = false ∧ ({ busy := true } : ResetRegs).busy = true
    ∧ (State.reset.pan 1023).st = .unconfigured ∧ (withPan aPan id).parksPan 0 = false ∧ ({ withPan aPan id with power := { park := some ⟨0, 1⟩ } } : State).parksPan 0 = true
    ∧ ((State.reset.site 0).parked = false ∧ (State.reset.site 0).fenced = false ∧ (State.reset.site 0).holdsArray = true) ∧ (State.reset.site 24).holdsArray = false := by decide +kernel

theorem witness_array_reset_ends : 0 ∈ ({ State.reset with resets := { arrays := [0] } } : State).resets.arrays ∧ (State.reset.site 0).reqs = []
    ∧ ((awaiting aReq anyPacket).site 0).reqs ≠ [] ∧ ((State.reset.resetStart 4 0 false).bay 0).cart = none
    ∧ (((withBay { cart := some aCart }).resetStart 4 0 false).bay 0).cart = some aCart := by decide +kernel

/-! ## Faults, firmware, security and management -/

theorem witness_units : (UnitId.pc 7).fwIndex.isSome = true ∧ State.reset.unitFenced (.pc 7) = false ∧ State.reset.unitTalks (.stack 191) = true
    ∧ ({ State.reset with pcs := [(7, { off := true })] } : State).unitOn (.pc 7) = false
    ∧ ({ State.reset with rmc := { beats := [(UnitId.pc 7).no] } } : State).rmc.beats.contains (UnitId.pc 7).no = true
    ∧ ({ State.reset with fault := { dead := [(UnitId.pc 7).no] } } : State).fault.dead.contains (UnitId.pc 7).no = true := by decide +kernel

theorem witness_fences : State.reset.fault.promoting = false ∧ (State.reset.site site0.key).fenced = false
    ∧ ({ State.reset with sites := [(0, { Site.reset 0 with fenced := true })] } : State).unitFenced (.site site0) = true
    ∧ State.reset.fault.retired.contains (UnitId.site site0).no = false ∧ bit State.reset.fault.waferFenced 3 = false ∧ State.reset.fault.waferFenced = 0 ∧ State.reset.fault.fencing = none
    ∧ bit ({ waferFenced := 1 } : FaultRegs).waferFenced 3 = false ∧ ({ waferFenced := 1 } : FaultRegs).waferFenced ≠ 0
    ∧ ({ promos := [⟨0, [0], true⟩] } : FaultRegs).promos.any (fun p => p.failed.contains 0) = true := by decide +kernel

theorem witness_promotion : ({ promos := [⟨0, [0], true⟩] } : FaultRegs).promos = ⟨0, [0], true⟩ :: [] ∧ ((withPan { aPan with st := .stopped } id).pan 0).st = .stopped
    ∧ ({ State.reset with rmc := { retest := [(UnitId.site site0).no] } } : State).rmc.retest.contains (UnitId.site site0).no = true := by decide +kernel

theorem witness_firmware : State.reset.exclusive = false ∧ State.reset.fwReady 0 = true ∧ State.reset.fwReady 216 = false
    ∧ (({ State.reset with fault := { fw := [(0, { inactiveOk := true })] } } : State).fwUnit 0).inactiveOk = true
    ∧ (({ State.reset with fault := { fw := [(216, { st := 2 })] } } : State).fwUnit 216).st = 2 := by decide +kernel

/-- A module whose SEC_BUF holds zeros but for the OP of the object. -/
def asking (op : Nat) : State := { State.reset with sec := { State.reset.sec with buf := Memory.write [] 4 [BitVec.ofNat 8 op] } }

/-- A request or a switch-over that comes while a unit's copy is on trial waits. -/
theorem witness_exclusive : ({ asking 1 with fault := { fw := [(0, { st := 2 })] } } : State).exclusive = true ∧ (asking 1).sec.busy = false ∧ (asking 1).sec.objOp = 1
    ∧ mailboxFits (.doe 0 0) 65524 = true ∧ mailboxFits (.doe 0 0) 65525 = false ∧ mailboxFits .mctpI3c 65536 = true := by decide +kernel

theorem witness_requests : ∀ op ∈ [1, 2, 3, 4, 5, 6, 7], (asking op).exclusive = false ∧ (asking op).sec.objOp = op ∧ (asking op).secResult = 1 := by
  decide +kernel

theorem witness_spdm : ({ State.reset with rmc := { i3cAddr := some 8 } } : State).spdmPath .mctpI3c = true ∧ State.reset.spdmPath .mctpI2c = true ∧ State.reset.rmc.stage .mctpI3c < 3 ∧ State.reset.spdmPath (.doe 3 0) = true
    ∧ SpdmAt { State.reset with rmc := State.reset.rmc.setStage .mctpI2c 3 } .mctpI2c 3 ∧ State.reset.chain 7 = none ∧ ({ State.reset with sec := { State.reset.sec with slot1 := [1] } } : State).chain 1 = some [1]
    ∧ InSession { State.reset with rmc := { sessions := [{ id := 4, path := .mctpI2c, established := true }] } } .mctpI2c 4
    ∧ ({ sessions := [{ id := 4, path := .mctpI3c }] } : Rmc).session .mctpI3c 4 = some { id := 4, path := .mctpI3c } ∧ State.reset.rmc.session .mctpI3c 0 = none
    ∧ ({ State.reset.sec with lc := 1 } : Sec).lc = 1 ∧ [0xfe].filterMap (fun i => (State.reset.measure i).map (fun m => (i, m))) = [] := by
  unfold SpdmAt InSession; decide +kernel

theorem witness_measure : [1].filterMap (fun i => (State.reset.measure i).map (fun m => (i, m))) ≠ [] := by
  show [(1, Config.romDigest)] ≠ []
  exact List.cons_ne_nil _ _

theorem witness_management : State.reset.portServes 3 = true ∧ State.reset.rmc.recovery = false ∧ State.reset.pldmPath .eth = true ∧ ({ recovery := true } : Rmc).recovery = true
    ∧ ([({ id := 4, path := .doe 3 0, established := true } : SpdmSession)].find? (fun x => x.id == 4 && x.path == .doe 3 0)).any (fun x => x.established) = true
    ∧ State.reset.sec.scanOpen = true ∧ ({ State.reset.sec with lc := 2 } : Sec).scanOpen = false ∧ ((aboutDma 0).site 0).trc.fifo.length < 2 := by decide +kernel

def aRecord : TraceRec := { ty := 1, slot := 0, seq := 0, cycle := 0, payload := 0 }

theorem witness_trace_line : ({ fifo := [aRecord, aRecord], base := BitVec.ofNat 48 hbmBase, bound := BitVec.ofNat 48 (hbmBase + 1048576), next := BitVec.ofNat 48 hbmBase } : Trc).lineReady 2 = true := by
  decide +kernel

theorem witness_debug : ({ State.reset.sec with lc := 0 } : Sec).debugPath = true ∧ ({ State.reset.sec with lc := 2 } : Sec).debugPath = false ∧ State.reset.debugOk 0 = true := by decide +kernel

theorem witness_register : alignedTo 0x000000040000 false = true ∧ (State.reset.regRead 0x000000040000 (halfOf 0x000000040000 false)).isSome = true
    ∧ (State.reset.regWrite 0x000000040000 (halfOf 0x000000040000 false) 0).isSome = true := by decide +kernel

/-- A promotion that stopped after its step 2 does not run. -/
theorem witness_promotes : ({ State.reset with fault := { promos := [⟨0, [0], true⟩] } } : State).promotes = true
    ∧ ({ State.reset with fault := { promos := [⟨0, [0], false⟩] } } : State).promotes = false := by decide +kernel

theorem witness_feeds : ({ State.reset with power := { working := 0 } } : State).power.short = true ∧ State.reset.power.feedLimit = false
    ∧ ({ State.reset with power := { feedLimit := true } } : State).power.feedLimit = true := by decide +kernel

/-- The site at row 12, column 12 is an injection site; the one at row 0, column 0, coupled to nothing, reaches none. -/
theorem witness_clock : injects (SiteId.key ⟨0, 12, 12⟩) = true := by decide +kernel

theorem witness_unclocked : injects 0 = false ∧ (oneSite { Site.reset 0 with isl := { coupled := 0 } }).coupledTo 0 = []
    ∧ (State.reset.site 0).forwards = true := by decide +kernel

/-- A power-on whose RMC has a usable copy, with and without an erase that is pending, and one that has none. -/
theorem witness_boot : (State.reset.alwaysOnReset.sec.bootCopy 0 (State.reset.alwaysOnReset.fwUnit 0)).isSome = true
    ∧ ((State.reset.alwaysOnReset.recordReset 0).bootRmc true).rmc.runs = true
    ∧ (let s : State := { State.reset with fault := { fw := [(0, { a := { usable := false }, b := { usable := false } })] } }
      ((s.alwaysOnReset.recordReset 0).bootRmc true).rmc.runs = false)
    ∧ ({ State.reset with sec := { State.reset.sec with erasePending := true } } : State).sec.erasePending = true
    ∧ State.reset.rmc.runs = false ∧ ({ runs := true } : Rmc).runs = true ∧ ({ waiting := true } : ResetRegs).waiting = true := by decide +kernel

/-- Units whose view is on, and one that should be off; a unit taken for dead. -/
theorem witness_polls : State.reset.powerView (.pc 7) = 1 ∧ ({ State.reset with pcs := [(7, { off := true })] } : State).unitTalks (.pc 7) = false
    ∧ ({ State.reset with pcs := [(7, { off := true })] } : State).powerView (.pc 7) = 0 ∧ State.reset.limitBegun (.site site0) = false
    ∧ ({ State.reset with fault := { waferFenced := 1 } } : State).limitBegun (.site site0) = true ∧ State.reset.fault.dead.contains (UnitId.pc 7).no = false := by
  decide +kernel

/-- An erase that a reset cut short is pending. -/
theorem witness_erase_pending : let s : State := { asking 1 with sec := { (asking 1).sec with erasePending := true } }
    s.sec.busy = false ∧ s.sec.erasePending = true ∧ s.sec.objOp = 1 ∧ s.exclusive = true := by decide +kernel

/-- R455: counter 2 of the first site, 65,535 at saturation, reads 5. -/
theorem witness_sampled : Sampled (oneSite { Site.reset 0 with spad := { corrected := 5 } }) 2 0 65535 5 := by unfold Sampled; decide +kernel

theorem test_total : (({ last := 3, total := 10 } : Total).sample 65535 5).total = 12 ∧ (({ last := 5, total := 10 } : Total).sample 65535 2).total = 12
    ∧ (({ last := 5, total := 10 } : Total).sample 65535 65535).saturated = true := by decide +kernel

/-- A firmware object without a header is not usable. -/
theorem witness_firmware_object : State.reset.pldmPath .mctpI2c = true ∧ fwHeaderOk [] 7 = false ∧ ({ State.reset with rmc := { i3cAddr := some 9 } } : State).pldmPath .mctpI3c = true := by
  decide +kernel

theorem witness_scan : ({ State.reset with pcs := [(7, { fenced := true })] } : State).unitFenced (.pc 7) = true ∧ hasScan (.pc 7) = true ∧ hasScan (.host 0) = false
    ∧ ({ State.reset with rmc := { scan := some (UnitId.pc 7).no } } : State).rmc.scan = some (UnitId.pc 7).no := by decide +kernel

/-- An 8-bit field in the low half. -/
def aField (acc : Access) : RegField := { lo := 0, len := 8, acc := acc, get := fun _ => 5, put := fun n s => { s with freeNext := n } }

theorem witness_field : (aField .rw).lo + (aField .rw).len ≤ 64 ∧ (∀ i, i < 8 → Covered (aField .rw) .high i = false) ∧ (∀ i, i < 8 → Covered (aField .wo) .low i = true)
    ∧ (aField .w1c).bitsIn .low 1 ≠ 0 ∧ (aField .w1c).bitsIn .low 0 = 0 ∧ (aField .rc).cover .low ≠ 0 := by decide +kernel

/-- R479: a write of the high half leaves a field of the low half, and one of the low half writes it. -/
theorem test_half_word : ((aField .rw).write .high 7 State.reset).freeNext = 0 ∧ ((aField .rw).write .low 0x107 State.reset).freeNext = 7
    ∧ ((aField .ro).write .low 7 State.reset).freeNext = 0 := by decide +kernel
end Sys2Proof.Tests
end

section
/-! PROOFS. The register instructions and the targets of branches and of JAL (R28, R480). -/

namespace Sys2Proof.Machine

open Sys2Proof.Claims

/-! ## Issue of what a slot fetches -/

/-- The slot that fetches a word of an instruction issues it. -/
theorem State.issueSlot_of_fetches {s : State} {k : Nat} {n : Fin 4} {w : W32} {op : CtlOp} {f : W32 → Slot → Slot}
    (h : Fetches s k n w) (hd : ctlDecode w = some op) : s.issueSlot k n op f = afterSlot s k n (f w) := by
  obtain ⟨hturn, hfetch, hgood⟩ := h
  exact State.issue_of_fetch hturn hfetch hd hgood

/-- The slot that fetches an unassigned or reserved word faults at it, whichever instruction is asked for (R29). -/
theorem State.issue_of_reserved {s : State} {k : Nat} {n : Fin 4} {w : W32} {op : CtlOp} {f : W32 → State → State}
    (h : Fetches s k n w) (hd : ctlDecode w = none) :
    s.issue k n op f = (s.updSite k (fun a => a.issued n)).taskFault k n fcIllegal false (s.slot k n).pc := by
  obtain ⟨hturn, hfetch, hgood⟩ := h
  have hpc : ((s.updSite k (fun a => a.issued n)).slot k n).pc = (s.slot k n).pc := by rw [State.slot_issued, if_pos rfl]
  unfold State.issue
  simp only [hturn, hfetch, hd, if_true]
  rw [State.readChecked_of_good hgood, State.instrFault, hpc]

/-! ## The words of opcode 0, of the branches and of JAL -/

theorem ctlDecode_of_opcode_zero {w : W32} (h : ctlOpcode w = 0) : ctlDecode w = funcOp (ctlFunc w) := by
  simp only [ctlDecode, h]

theorem ctlDecode_of_opcode_jal {w : W32} (h : ctlOpcode w = 0x26) : ctlDecode w = some .jal := by
  simp only [ctlDecode, h]

theorem funcOp_of_reserved {f : Nat} (h : 12 ≤ f) : funcOp f = none := by
  obtain ⟨m, rfl⟩ := Nat.exists_eq_add_of_le' h
  rfl

/-- Each register instruction is the one that its func selects, and issues as the RR instruction of its result (R480). -/
theorem registerTable_issues : ∀ e ∈ registerTable, ∃ op, funcOp e.2.1 = some op
    ∧ ∀ core n s, exec (e.1 core n) s = .next (s.issueSlot core.key n op (rrInstr e.2.2)) := by
  simp only [registerTable, List.forall_mem_cons]
  exact ⟨⟨.add, rfl, fun _ _ _ => rfl⟩, ⟨.sub, rfl, fun _ _ _ => rfl⟩, ⟨.and, rfl, fun _ _ _ => rfl⟩,
    ⟨.or, rfl, fun _ _ _ => rfl⟩, ⟨.xor, rfl, fun _ _ _ => rfl⟩, ⟨.shl, rfl, fun _ _ _ => rfl⟩,
    ⟨.shr, rfl, fun _ _ _ => rfl⟩, ⟨.sar, rfl, fun _ _ _ => rfl⟩, ⟨.slt, rfl, fun _ _ _ => rfl⟩,
    ⟨.sltu, rfl, fun _ _ _ => rfl⟩, ⟨.mul, rfl, fun _ _ _ => rfl⟩, ⟨.mulh, rfl, fun _ _ _ => rfl⟩, List.forall_mem_nil _⟩

/-- Each branch is the one that its opcode selects, and issues as the branch on its condition (R29, R480). -/
theorem branchTable_issues : ∀ e ∈ branchTable, ∃ op, (∀ w, ctlOpcode w = e.2.1 → ctlDecode w = some op)
    ∧ ∀ core n s, exec (e.1 core n) s = .next (s.issueSlot core.key n op (branchInstr e.2.2)) := by
  simp only [branchTable, List.forall_mem_cons]
  refine ⟨⟨.beq, fun w h => ?_, fun _ _ _ => rfl⟩, ⟨.bne, fun w h => ?_, fun _ _ _ => rfl⟩, ⟨.blt, fun w h => ?_, fun _ _ _ => rfl⟩,
    ⟨.bge, fun w h => ?_, fun _ _ _ => rfl⟩, ⟨.bltu, fun w h => ?_, fun _ _ _ => rfl⟩, ⟨.bgeu, fun w h => ?_, fun _ _ _ => rfl⟩,
    List.forall_mem_nil _⟩ <;> simp only [ctlDecode, h]

/-! ## What they do -/

theorem exec_register_of_fetches : ∀ e ∈ registerTable, ∀ {core : CoreId} {n : Fin 4} {w : W32} {s : State},
    Fetches s core.key n w → ctlOpcode w = 0 → ctlFunc w = e.2.1 →
    exec (e.1 core n) s
      = .next (afterSlot s core.key n (fun x => wrote (ctlRd w) (e.2.2 (x.reg (ctlRs1 w)) (x.reg (ctlRs2 w))) x)) := by
  intro e he core n w s hf hop hfunc
  obtain ⟨op, hsel, hexec⟩ := registerTable_issues e he
  have hd : ctlDecode w = some op := by rw [ctlDecode_of_opcode_zero hop, hfunc, hsel]
  rw [hexec, State.issueSlot_of_fetches hf hd]
  rfl

theorem exec_register_of_reserved_func : ∀ e ∈ registerTable, ∀ {core : CoreId} {n : Fin 4} {w : W32} {s : State},
    Fetches s core.key n w → ctlOpcode w = 0 → 12 ≤ ctlFunc w →
    exec (e.1 core n) s
      = .next ((s.updSite core.key (fun a => a.issued n)).taskFault core.key n fcIllegal false (s.slot core.key n).pc) := by
  intro e he core n w s hf hop hfunc
  obtain ⟨op, -, hexec⟩ := registerTable_issues e he
  have hd : ctlDecode w = none := by rw [ctlDecode_of_opcode_zero hop, funcOp_of_reserved hfunc]
  rw [hexec, State.issueSlot, State.issue_of_reserved hf hd]

theorem exec_branch_of_fetches : ∀ e ∈ branchTable, ∀ {core : CoreId} {n : Fin 4} {w : W32} {s : State},
    Fetches s core.key n w → ctlOpcode w = e.2.1 →
    exec (e.1 core n) s = .next (afterSlot s core.key n (branchInstr e.2.2 w)) := by
  intro e he core n w s hf hop
  obtain ⟨op, hd, hexec⟩ := branchTable_issues e he
  rw [hexec, State.issueSlot_of_fetches hf (hd w hop)]

theorem exec_jal_of_fetches {core : CoreId} {n : Fin 4} {w : W32} {s : State} (hf : Fetches s core.key n w)
    (hop : ctlOpcode w = 0x26) : exec (.jal core n) s = .next (afterSlot s core.key n (jalInstr w)) :=
  congrArg Host.Outcome.next (State.issueSlot_of_fetches hf (ctlDecode_of_opcode_jal hop))

/-- Settles O6: each instruction of the tables is the one that its func or opcode selects, so the slot that fetches its word
issues it; a func past the table decodes to nothing. -/
theorem registerInstructionsAndTargets : Obligations.RegisterInstructionsAndTargets := by
  unfold Obligations.RegisterInstructionsAndTargets
  refine ⟨fun e he core n w s hop => ⟨fun hf hfunc => ?_, fun hf hfunc => ?_⟩,
    fun core n w s hf => ⟨fun e he hop => ?_, fun hop => ?_⟩⟩
  · exact exec_register_of_fetches e he hf hop hfunc
  · exact exec_register_of_reserved_func e he hf hop hfunc
  · exact exec_branch_of_fetches e he hf hop
  · exact exec_jal_of_fetches hf hop

end Sys2Proof.Machine
end

section
/-! PROOFS. Accesses of scratchpad words without an error, and the requests of the DMA engines (R40–R44, R104, R108, R109). -/

namespace Sys2Proof.Machine

open Sys2Proof.Claims

/-! ## Ranges without a flawed word -/

@[simp] theorem satAdd_zero {n : Nat} (c : BitVec n) : satAdd c 0 = c := by
  simp [satAdd, c.isLt]

/-- No word of a range without an error is a bad one or one with a single-bit error. -/
theorem Spad.not_inRanges_of_good {m : Spad} {addr len : Nat} (h : m.flawed addr len = false) :
    ∀ w ∈ m.badWords ++ m.softWords, inRanges [(addr, len)] w = false := by
  intro w hw
  by_cases hl : 0 < len
  · simp only [Spad.flawed, hl, decide_true, Bool.true_and, List.any_eq_false] at h
    simpa [inRanges, hl] using h w hw
  · simp [inRanges, hl]

/-- A range without an error holds no uncorrectable word. -/
theorem Spad.bad_of_good {m : Spad} {addr len : Nat} (h : m.flawed addr len = false) : m.bad addr len = none := by
  unfold Spad.bad
  split
  · rfl
  · next hl =>
    refine List.find?_eq_none.mpr fun w hw => ?_
    have := Spad.not_inRanges_of_good h w (List.mem_append_left _ hw)
    simpa [inRanges, Nat.pos_of_ne_zero hl] using this

theorem Site.badIn_of_good {a : Site} {addr len : Nat} (h : a.spad.flawed addr len = false) : a.badIn addr len = false := by
  rw [Site.badIn, Spad.bad_of_good h, Option.isSome_none]

/-- In a range without an error there is nothing to correct. -/
theorem Spad.correct_of_good {m : Spad} {addr len : Nat} (h : m.flawed addr len = false) : m.correct (inRanges [(addr, len)]) = m := by
  have hsoft : ∀ w ∈ m.softWords, inRanges [(addr, len)] w = false := fun w hw =>
    Spad.not_inRanges_of_good h w (List.mem_append_right _ hw)
  have hkeep : m.softWords.filter (fun w => !inRanges [(addr, len)] w) = m.softWords :=
    List.filter_eq_self.mpr fun w hw => by rw [hsoft w hw]; rfl
  have hcount : m.softWords.countP (inRanges [(addr, len)]) = 0 :=
    List.countP_eq_zero.mpr fun w hw => by rw [hsoft w hw]; exact Bool.false_ne_true
  rw [Spad.correct, hkeep, hcount, satAdd_zero]

/-- Bytes without an error are moved out of the unit with no more than their port cycles counted. -/
theorem State.carryOut_of_good {s : State} {k addr len : Nat} {f : State → State} (h : (s.site k).spad.flawed addr len = false) :
    s.carryOut k (addr, len) f = f (moved s k addr len) := by
  have hsite : s.updSite k (fun a => { a with spad := a.spad.correct (inRanges [(addr, len)]) }.countRuns [(addr, len)])
      = moved s k addr len := State.updSite_congr (by rw [Spad.correct_of_good h])
  unfold State.carryOut
  simp only [hsite, Spad.bad_of_good h]

/-- A run without an error is read with no more than its port cycles counted. -/
theorem State.readRuns_of_good {s : State} {k addr len : Nat} {f : State → State} (h : (s.site k).spad.flawed addr len = false) :
    s.readRuns k [(addr, len)] f = f (moved s k addr len) :=
  State.readChecked_of_good (by simpa using h)

theorem Spad.badMerges_singleton {m : Spad} {ws : WriteRuns} (h : m.badMerge ws = none) : m.badMerges [ws] = none := by
  simp only [Spad.badMerges, h]

/-- A run that merges with no uncorrectable word is written with no more than its port cycles counted. -/
theorem State.writeRun_of_good {s : State} {k addr : Nat} {bs : List Byte} (h : (s.site k).spad.badMerge [(addr, bs)] = none) :
    s.writeRun k addr bs = s.updSite k (fun a => (a.countRuns [(addr, bs.length)]).putRuns [[(addr, bs)]]) := by
  have hmerge : ((s.updSite k (fun a => a.countRuns [(addr, bs.length)])).site k).spad.badMerges [[(addr, bs)]] = none := by
    rw [State.site_upd_self]
    exact Spad.badMerges_singleton h
  rw [State.writeRun, State.writeChecked_of_good hmerge, State.updSite_updSite]

/-! ## The request that an engine issues next -/

theorem State.dmaStep_of_issues {s : State} {k : Nat} {e : Fin 2} {x : QEntry} {op : Nat} {f : QEntry → State} (h : Issues s k e x op) :
    s.dmaStep k e op f = f x := by
  obtain ⟨hcur, hop, htag⟩ := h
  simp only [State.dmaStep, hcur, hop, htag, and_self, if_true]

section
variable {core : CoreId} {e : Fin 2} {s : State} {x : QEntry}

theorem exec_dmaRead_of_issues (h : Issues s core.key e x 0) : exec (.dmaRead core e) s = .next (s.dmaReadStep core.key e x) :=
  congrArg Host.Outcome.next (State.dmaStep_of_issues h)

theorem exec_dmaWrite_of_issues (h : Issues s core.key e x 1) : exec (.dmaWrite core e) s = .next (s.dmaWriteStep core.key e x) :=
  congrArg Host.Outcome.next (State.dmaStep_of_issues h)

theorem exec_dmaPut_of_issues (h : Issues s core.key e x 2) : exec (.dmaPut core e) s = .next (s.dmaPutStep core.key e x) :=
  congrArg Host.Outcome.next (State.dmaStep_of_issues h)

theorem exec_dmaGather_of_issues (h : Issues s core.key e x 3) : exec (.dmaGather core e) s = .next (s.dmaGatherStep core.key e x) :=
  congrArg Host.Outcome.next (State.dmaStep_of_issues h)

theorem exec_dmaAtomic_of_issues (h : Issues s core.key e x 4) : exec (.dmaAtomic core e) s = .next (s.dmaAtomicStep core.key e x) :=
  congrArg Host.Outcome.next (State.dmaStep_of_issues h)

end

/-! ## Each request -/

section
variable {s : State} {k : Nat} {e : Fin 2} {x : QEntry}

theorem State.dmaReadStep_of_room (h : (s.site k).dmaOutstanding e < 128) :
    s.dmaReadStep k e x = s.dmaReadAt k e x (dRemoteAt x.bits x.row x.off) ((s.site k).dLocalAt x.bits x.row x.off)
      (dChunk x.bits (dRemoteAt x.bits x.row x.off) x.off) false :=
  if_pos h

/-- Where the index of a GATHER's row stands (R40). -/
def Site.gatherIndexAt (a : Site) (x : QEntry) : Nat := a.winBase (dWin x.bits) + dLocalStride x.bits + 4 * x.row

/-- Where the row goes (R40). -/
def Site.gatherRowAt (a : Site) (x : QEntry) : Nat := a.winBase (dWin x.bits) + dLocal x.bits + x.row * dRowBytes x.bits

/-- The index of the row. -/
def Site.gatherIndex (a : Site) (x : QEntry) : Nat := leNat (Memory.read a.spad.mem (a.gatherIndexAt x) 4)

/-- The unit with one row of a GATHER left out: all its bytes issued with no answer awaited, and counted in INDEX_SKIPS (R43). -/
def Site.rowSkipped (a : Site) (e : Fin 2) (x : QEntry) : Site :=
  { (a.dmaIssued e x.id (dRowBytes x.bits) false) with
    dma := a.dma.set e { a.dma[e] with indexSkips := satAdd a.dma[e].indexSkips 1 } }

theorem Site.rowSkipped_indexSkips (a : Site) (e : Fin 2) (x : QEntry) :
    (a.rowSkipped e x).dma[e].indexSkips = satAdd a.dma[e].indexSkips 1 := by
  simp [Site.rowSkipped]

/-- A GATHER's index that is read without an error decides: at or above the limit its row of zeros is written, and below it the
row's next request is sent when the engine has room for a read (R43, R44). -/
theorem State.dmaGatherStep_of_good (hgood : (s.site k).spad.flawed ((s.site k).gatherIndexAt x) 4 = false) :
    s.dmaGatherStep k e x
      = if dIndexLimit x.bits ≤ (s.site k).gatherIndex x then
          ((moved s k ((s.site k).gatherIndexAt x) 4).updSite k (fun a => a.rowSkipped e x)).writeRun k
            ((s.site k).gatherRowAt x) (List.replicate (dRowBytes x.bits) 0)
        else if (s.site k).dmaOutstanding e < 128 then
          (moved s k ((s.site k).gatherIndexAt x) 4).dmaReadAt k e x (dRemoteAt x.bits ((s.site k).gatherIndex x) x.off)
            ((s.site k).gatherRowAt x + x.off) (dChunk x.bits (dRemoteAt x.bits ((s.site k).gatherIndex x) x.off) x.off) true
        else moved s k ((s.site k).gatherIndexAt x) 4 := by
  unfold State.dmaGatherStep
  exact State.readRuns_of_good hgood

/-- The next request of a row whose index lies below the limit. -/
theorem State.dmaGatherStep_of_room (hgood : (s.site k).spad.flawed ((s.site k).gatherIndexAt x) 4 = false)
    (hidx : (s.site k).gatherIndex x < dIndexLimit x.bits) (hroom : (s.site k).dmaOutstanding e < 128) :
    s.dmaGatherStep k e x
      = (moved s k ((s.site k).gatherIndexAt x) 4).dmaReadAt k e x (dRemoteAt x.bits ((s.site k).gatherIndex x) x.off)
          ((s.site k).gatherRowAt x + x.off) (dChunk x.bits (dRemoteAt x.bits ((s.site k).gatherIndex x) x.off) x.off) true := by
  rw [State.dmaGatherStep_of_good hgood, if_neg (Nat.not_le.mpr hidx), if_pos hroom]

/-- The unit after a row of a GATHER was left out: its index read, and its zeros written, each with its port cycles counted. -/
def Site.zerosGathered (a : Site) (e : Fin 2) (x : QEntry) : Site :=
  (((a.countRuns [(a.gatherIndexAt x, 4)]).rowSkipped e x).countRuns [(a.gatherRowAt x, dRowBytes x.bits)]).putRuns
    [[(a.gatherRowAt x, List.replicate (dRowBytes x.bits) 0)]]

theorem Site.zerosGathered_read (a : Site) (e : Fin 2) (x : QEntry) :
    Memory.read (a.zerosGathered e x).spad.mem (a.gatherRowAt x) (dRowBytes x.bits) = List.replicate (dRowBytes x.bits) 0 := by
  have hrow := Memory.read_write a.spad.mem (a.gatherRowAt x) (List.replicate (dRowBytes x.bits) 0)
  rwa [List.length_replicate] at hrow

theorem Site.zerosGathered_indexSkips (a : Site) (e : Fin 2) (x : QEntry) :
    (a.zerosGathered e x).dma[e].indexSkips = satAdd a.dma[e].indexSkips 1 :=
  Site.rowSkipped_indexSkips (a.countRuns [(a.gatherIndexAt x, 4)]) e x

/-- A row left out changes neither the unit's requests, nor its router's state, nor its slots and their pending faults. -/
theorem Site.zerosGathered_frame (a : Site) (e : Fin 2) (x : QEntry) :
    (a.zerosGathered e x).reqs = a.reqs ∧ (a.zerosGathered e x).rt = a.rt ∧ (a.zerosGathered e x).slots = a.slots
      ∧ (a.zerosGathered e x).pending = a.pending := by
  simp only [Site.zerosGathered, Site.putRuns, Site.countRuns, Site.rowSkipped, Site.dmaIssued, Site.updEntry, and_self]

/-- R43: no request is sent for an index at or above the limit, and no fault is raised. -/
theorem State.site_dmaGatherStep_of_skip (hgood : (s.site k).spad.flawed ((s.site k).gatherIndexAt x) 4 = false)
    (hidx : dIndexLimit x.bits ≤ (s.site k).gatherIndex x)
    (hmerge : (s.site k).spad.badMerge [((s.site k).gatherRowAt x, List.replicate (dRowBytes x.bits) 0)] = none) :
    (s.dmaGatherStep k e x).site k = (s.site k).zerosGathered e x := by
  have hsite : ((moved s k ((s.site k).gatherIndexAt x) 4).updSite k (fun a => a.rowSkipped e x)).site k
      = ((s.site k).countRuns [((s.site k).gatherIndexAt x, 4)]).rowSkipped e x := by
    rw [State.site_upd_self, moved, State.site_upd_self]
  rw [State.dmaGatherStep_of_good hgood, if_pos hidx, State.writeRun_of_good (by rw [hsite]; exact hmerge), State.site_upd_self,
    hsite, List.length_replicate]
  rfl

section
variable {src len : Nat} (hsrc : (s.site k).dLocalAt x.bits x.row x.off = src)
include hsrc

/-- A WRITE outside the reduce apertures sends its bytes, which hold no error, and awaits an answer (R40). -/
theorem State.dmaWriteStep_of_memory (hlen : dChunk x.bits (dRemoteAt x.bits x.row x.off) x.off = len)
    (hgood : (s.site k).spad.flawed src len = false) (hap : reduceAperture (dRemoteAt x.bits x.row x.off) = none) :
    s.dmaWriteStep k e x = (issuedOn (moved s k src len) k e x.id len true).sendRequest k
      { owner := .dma e x.id, ptype := ptWrite, addr := dRemoteAt x.bits x.row x.off, len := len
        payload := Memory.read (s.site k).spad.mem src len } := by
  subst hsrc hlen
  simp only [State.dmaWriteStep, hap, Site.badIn_of_good hgood, State.carryOut_of_good hgood]
  rfl

/-- A WRITE into a reduce aperture posts a REDUCE packet once the port that it enters by has room (R155, R230; log entry 160). -/
theorem State.dmaWriteStep_of_aperture {p o : Nat} (hlen : dChunk x.bits (dRemoteAt x.bits x.row x.off) x.off = len)
    (hgood : (s.site k).spad.flawed src len = false) (hap : reduceAperture (dRemoteAt x.bits x.row x.off) = some (p, o)) :
    s.dmaWriteStep k e x
      = if s.mayEnter k (s.reducePacket k p o (Memory.read (s.site k).spad.mem src len) false) then
          (issuedOn (moved s k src len) k e x.id len false).sendFrom k
            (s.reducePacket k p o (Memory.read (s.site k).spad.mem src len) false)
        else s := by
  subst hsrc hlen
  simp only [State.dmaWriteStep, hap, Site.badIn_of_good hgood, State.carryOut_of_good hgood]
  rfl

/-- A PUT whose bytes hold no error and end within a window's reach is sent to the site of its logical position (R41, R141). -/
theorem State.dmaPutStep_of_fits {off : Nat} (hoff : bitsOf (dRemote x.bits) 0 23 + x.row * dRemoteStride x.bits + x.off = off)
    (hlen : dChunk x.bits off x.off = len) (hgood : (s.site k).spad.flawed src len = false) (hfits : off + len ≤ 2 ^ 23) :
    s.dmaPutStep k e x = (issuedOn (moved s k src len) k e x.id len true).sendRequest k
      { owner := .dma e x.id, ptype := ptPut, addr := bitsOf (dRemote x.bits) 23 3 * 2 ^ 23 + off, len := len
        payload := Memory.read (s.site k).spad.mem src len
        dest := some ((s.site k).rt.toSite (dPutRow x.bits) (dPutCol x.bits)) } := by
  subst hsrc hoff hlen
  simp only [State.dmaPutStep, Site.badIn_of_good hgood, State.carryOut_of_good hgood, if_neg (Nat.not_lt.mpr hfits)]
  rfl

end

theorem State.dmaAtomicStep_of_good {src : Nat} (hsrc : (s.site k).dLocalAt x.bits 0 0 = src)
    (hgood : (s.site k).spad.flawed src 64 = false) :
    s.dmaAtomicStep k e x = (issuedOn (moved s k src 64) k e x.id 64 true).sendRequest k
      { owner := .dma e x.id, ptype := ptAtomicReq, addr := dRemote x.bits, len := 64, dst := src
        payload := Memory.read (s.site k).spad.mem src 64, aop := BitVec.ofNat 4 (dAop x.bits) } := by
  subst hsrc
  simp only [State.dmaAtomicStep, Site.badIn_of_good hgood, State.readRuns_of_good hgood]
  rfl

end

/-- The local place of byte 0 of row 0 is that of LOCAL_OFFSET. -/
theorem Site.dLocalAt_zero (a : Site) (b : BitVec 256) : a.dLocalAt b 0 0 = a.winBase (dWin b) + dLocal b := by
  simp [Site.dLocalAt]

/-- Settles O14: each operation's request, in the state that the engine's issue and its scratchpad accesses without an error leave. -/
theorem dmaEnginesSendRequests : Obligations.DmaEnginesSendRequests := by
  unfold Obligations.DmaEnginesSendRequests
  refine ⟨fun core e s x => ⟨fun h hroom => ?read, ?gather⟩, fun core e s x src hsrc => ⟨?write, ?put, ?atomic⟩⟩
  case read =>
    rw [exec_dmaRead_of_issues h, State.dmaReadStep_of_room hroom]
    rfl
  case gather =>
    rintro at_ idx h rfl hgood rfl
    rw [exec_dmaGather_of_issues h]
    refine ⟨fun hidx hroom => ?_, fun hidx hmerge => ⟨_, rfl, ?_⟩⟩
    · rw [State.dmaGatherStep_of_room hgood hidx hroom]
      rfl
    · rw [State.site_dmaGatherStep_of_skip hgood hidx hmerge]
      exact ⟨Site.zerosGathered_read _ e x, Site.zerosGathered_indexSkips _ e x, Site.zerosGathered_frame _ e x⟩
  case write =>
    intro len h hlen hgood
    rw [exec_dmaWrite_of_issues h]
    refine ⟨fun hap => ?_, fun p o q hap hq => ?_⟩
    · rw [State.dmaWriteStep_of_memory hsrc.symm hlen.symm hgood hap]
    · subst hq
      rw [State.dmaWriteStep_of_aperture hsrc.symm hlen.symm hgood hap]
      exact ⟨fun hroom => by rw [if_pos hroom], fun hfull => by rw [hfull, if_neg Bool.false_ne_true]⟩
  case put =>
    intro len off h hoff hlen hgood hfits
    rw [exec_dmaPut_of_issues h, State.dmaPutStep_of_fits hsrc.symm hoff.symm hlen.symm hgood hfits]
  case atomic =>
    intro a h ha hgood
    rw [exec_dmaAtomic_of_issues h, State.dmaAtomicStep_of_good ((Site.dLocalAt_zero _ _).trans ha.symm) hgood]

end Sys2Proof.Machine
end

section
/-! PROOFS. What a vector instruction that has run leaves in its unit, and the summary of its result (R36, R83, R94, R97). -/

namespace Sys2Proof.Machine

open Sys2Proof.Claims

/-! ## Summaries -/

@[simp] theorem Vx.raise_zero (v : Vx) : v.raise 0 = v := by
  simp [Vx.raise]

/-- A summary can only raise flags of the engine, and is all that its entry gains. -/
theorem Vx.summarise_raises (v : Vx) (e : QEntry) : ∃ f w, v.summarise e = (v.raise f, { e with summary := w }) := by
  unfold Vx.summarise
  dsimp only
  split
  · exact ⟨0, e.summary, by rw [Vx.raise_zero]⟩
  · split
    · exact ⟨0, _, by rw [Vx.raise_zero]⟩
    · exact ⟨_, _, rfl⟩

section
variable (v : Vx) (e : QEntry)

@[simp] theorem Vx.summarise_v : (v.summarise e).1.v = v.v := by
  obtain ⟨f, w, h⟩ := v.summarise_raises e
  rw [h]; rfl

@[simp] theorem Vx.summarise_t : (v.summarise e).1.t = v.t := by
  obtain ⟨f, w, h⟩ := v.summarise_raises e
  rw [h]; rfl

@[simp] theorem Vx.summarise_p : (v.summarise e).1.p = v.p := by
  obtain ⟨f, w, h⟩ := v.summarise_raises e
  rw [h]; rfl

@[simp] theorem Vx.summarise_permCount : (v.summarise e).1.permCount = v.permCount := by
  obtain ⟨f, w, h⟩ := v.summarise_raises e
  rw [h]; rfl

theorem Vx.summarise_vstat {i : Nat} (hi : v.vstat.getLsbD i = true) : (v.summarise e).1.vstat.getLsbD i = true := by
  obtain ⟨f, w, h⟩ := v.summarise_raises e
  simp [h, Vx.raise, hi]

@[simp] theorem Vx.summarise_id : (v.summarise e).2.id = e.id := by
  obtain ⟨f, w, h⟩ := v.summarise_raises e
  rw [h]

end

/-- With E = 0 there is no summary. -/
theorem Vx.summarise_of_not_emits {v : Vx} {e : QEntry} (hE : vE e.bits = false) : v.summarise e = (v, e) := by
  simp only [Vx.summarise, hE, Bool.not_false, if_true]

/-! ### The word (R36) -/

theorem toNat_append_add {m n : Nat} (x : BitVec m) (y : BitVec n) : (x ++ y).toNat = x.toNat * 2 ^ n + y.toNat := by
  rw [BitVec.toNat_append, ← Nat.shiftLeft_add_eq_or_of_lt y.isLt, Nat.shiftLeft_eq]

theorem vField_lt (b : BitVec 256) (lo len : Nat) : vField b lo len < 2 ^ len :=
  Nat.mod_lt _ (Nat.two_pow_pos len)

/-- The fields of a summary word stand side by side. -/
theorem summaryWord_eq_emitted (e : QEntry) (value : Nat) :
    summaryWord value (vKind e.bits) e.slot.val (vTag e.bits) = emitted e (BitVec.ofNat 32 value) := by
  have hkind := vField_lt e.bits 60 4
  have htag := vField_lt e.bits 54 6
  have hslot := e.slot.isLt
  apply BitVec.eq_of_toNat_eq
  simp only [summaryWord, emitted, vKind, vTag, BitVec.toNat_setWidth, toNat_append_add, BitVec.toNat_ofNat, BitVec.ofNat_eq_ofNat]
  omega

/-! ### Its VALUE (R94, R97) -/

/-- The place of the first number of a range that satisfies p is that number. -/
theorem findIdx?_range (n : Nat) (p : Nat → Bool) : (List.range n).findIdx? p = (List.range n).find? p := by
  ext i
  simp [List.findIdx?_eq_some_iff_getElem]

theorem ofNat_predSummary (kind vl : Nat) (b : Nat → Bool) :
    BitVec.ofNat 32 (predSummary kind ((List.range vl).map b)) = predicateValue kind vl b := by
  have hid : (fun x : Bool => x) ∘ b = b := rfl
  unfold predSummary predicateValue
  split
  · rw [List.countP_map, hid]
  · rw [List.findIdx?_map, hid, findIdx?_range]
    cases (List.range vl).find? b <;> rfl

theorem ofNat_vecSummary {kind : Nat} (hkind : kind ∈ [0, 1, 3, 5]) (int : Bool) (ls : List W32) :
    BitVec.ofNat 32 (vecSummary kind int ls).1 = lanesValue kind int ls := by
  simp only [List.mem_cons, List.not_mem_nil, or_false] at hkind
  rcases hkind with rfl | rfl | rfl | rfl
  · exact BitVec.ofNat_toNat _ _
  · exact BitVec.ofNat_toNat _ _
  · exact BitVec.ofNat_toNat _ _
  · simp only [vecSummary, lanesValue, b2n]
    split <;> rfl

/-- The register of a vector that a summary is taken of. -/
def summaryReg (b : BitVec 256) : Nat := if vOp b = 0x47 then vrVa b else if vOp b = 0x54 then vtTd b else vrVd b

section
variable {b : BitVec 256}

theorem summaryReg_of_tred (h : vOp b = 0x54) : summaryReg b = vtTd b := by
  simp [summaryReg, h]

theorem summaryReg_of_not_tred (h : vOp b ≠ 0x54) : summaryReg b = if vOp b = 0x47 then vrVa b else vrVd b := by
  simp only [summaryReg, if_neg h]

theorem resultInt_of_tred (h : vOp b = 0x54) : resultInt b = (vField b 34 1 == 1) := by
  simp [resultInt, h]

theorem resultInt_of_not_tred (h : vOp b ≠ 0x54) :
    resultInt b = if vOp b = 0x1e then vrType b == 0 else vrType b == 0xb := by
  simp only [resultInt, if_neg h]

end

/-- The summary of a predicate that an instruction wrote, or that PTEST tests. -/
theorem Vx.summarise_of_predicate {v : Vx} {e : QEntry} (hE : vE e.bits = true)
    (hop : (isCompare (vOp e.bits) || isPred (vOp e.bits)) = true) :
    (v.summarise e).2 = { e with summary := some (emitted e (predicateValue (vKind e.bits) e.vl.toNat
      (bit (v.preg ((if vOp e.bits = 0x3f then vrVa e.bits else vrVd e.bits) % 8))))) } := by
  simp only [Vx.summarise, hE, hop, Bool.not_true, Bool.false_eq_true, if_true, if_false, summaryWord_eq_emitted, ofNat_predSummary]

/-- The summary of a vector register's lanes below VL. -/
theorem Vx.summarise_of_vector {v : Vx} {e : QEntry} (hE : vE e.bits = true) (hop : (isCompare (vOp e.bits) || isPred (vOp e.bits)) = false)
    (hkind : vKind e.bits ∈ [0, 1, 3, 5]) :
    (v.summarise e).2 = { e with summary := some (emitted e (lanesValue (vKind e.bits) (resultInt e.bits)
      ((v.vreg (summaryReg e.bits)).take e.vl.toNat))) } := by
  simp only [Vx.summarise, hE, hop, Bool.not_true, Bool.false_eq_true, if_false, summaryWord_eq_emitted, ofNat_vecSummary hkind,
    summaryReg]

/-! ## The instruction that issues -/

/-- Instruction e of unit k has run and left engine v, which its summary is then taken of. -/
def State.vRan (s : State) (k : Nat) (e : QEntry) (v : Vx) : State :=
  s.updSite k (fun a => { a with vx := (v.summarise e).1 }.setEntry 1 { (v.summarise e).2 with phase := .ran })

theorem State.vStart_of_next {s : State} {k op : Nat} {e : QEntry} (run : Vx → QEntry → Vx) (h : NextVector s k e op) :
    s.vStart k op run = s.vRan k e (run (s.site k).vx e) := by
  obtain ⟨hhead, hop⟩ := h
  unfold State.vStart
  rw [hhead]
  exact (if_pos hop).trans (State.updSite_congr rfl)

section
variable (s : State) (k : Nat) (e : QEntry) (v : Vx)

@[simp] theorem State.vx_vRan : ((s.vRan k e v).site k).vx = (v.summarise e).1 := by
  rw [State.vRan, State.site_upd_self]; rfl

/-- Of the queues only the entry that ran changes: it has run, with its summary. -/
theorem State.entryNow_vRan : entryNow s (s.vRan k e v) k 1 e { (v.summarise e).2 with phase := .ran } := by
  refine ⟨?_, fun p hp => ?_⟩
  · simp [entries, State.vRan, Site.setEntry]
  · have hp' : (1 : Fin 4).val ≠ p.val := fun h => hp (Fin.ext h.symm)
    simp only [entries, State.vRan, State.site_upd_self, Site.setEntry]
    exact Vector.getElem_set_ne _ _ hp'

/-- An instruction that leaves the tile registers changes nothing but its engine and its entry. -/
theorem State.vectorRan_vRan {v : Vx} (ht : v.t = (s.site k).vx.t) : VectorRan s (s.vRan k e v) k e := by
  refine ⟨?_, fun j hj => State.site_upd_ne s _ hj, ?_, ?_⟩
  · rw [State.vRan, State.site_upd_self]; rfl
  · rw [State.vx_vRan, Vx.summarise_t, ht]
  · obtain ⟨f, w, h⟩ := v.summarise_raises e
    have hnow := State.entryNow_vRan s k e v
    rw [h] at hnow
    exact ⟨w, hnow⟩

theorem State.lane_vRan (r i : Nat) : lane (s.vRan k e v) k r i = Sparse.get 0 v.v (64 * r + i) := by
  rw [lane, State.vx_vRan, Vx.summarise_v]

theorem State.preg_vRan (r : Nat) : ((s.vRan k e v).site k).vx.preg r = v.preg r := by
  rw [State.vx_vRan, Vx.preg, Vx.summarise_p]; rfl

theorem State.predicatesKept_vRan {v : Vx} (hp : v.p = (s.site k).vx.p) : PredicatesKept s (s.vRan k e v) k := by
  rw [PredicatesKept, State.vx_vRan, Vx.summarise_p, hp]

end

/-! ## Vector registers -/

theorem State.getD_vreg {s : State} {k r i : Nat} (hi : i < 64) : ((s.site k).vx.vreg r).getD i 0 = lane s k r i :=
  Sparse.getD_read 0 _ _ _ _ hi

/-- The first n lanes of a register. -/
theorem Vx.take_vreg (v : Vx) (r n : Nat) : (v.vreg r).take n = (List.range (min n 64)).map (fun i => Sparse.get 0 v.v (64 * r + i)) := by
  rw [Vx.vreg, Sparse.read_eq, ← List.map_take, List.take_range]

section
variable {s : State} {k d : Nat} {e : QEntry} {v : Vx} {ws : List W32} (hv : v.v = ((s.site k).vx.setVreg d ws).v)
include hv

/-- The lanes of a register from lane 0 on that an instruction has written. -/
theorem State.lane_vRan_of_written {i : Nat} (hi : i < ws.length) : lane (s.vRan k e v) k d i = ws.getD i 0 := by
  rw [State.lane_vRan, hv]
  exact Sparse.get_write_in 0 _ _ ws i hi

/-- It leaves every other lane. -/
theorem State.lanesKept_vRan {n : Nat} (hn : ws.length = n) (hws : n ≤ 64) : LanesKept s (s.vRan k e v) k d n := by
  intro r i hi hout
  rw [State.lane_vRan, hv]
  exact Sparse.get_write_out 0 _ _ ws _ (by rw [hn]; omega)

end

/-! ## Which instruction runs what -/

/-- Command c of the vector engine runs the next vector instruction, where its OP is that of c, by f. -/
def RunsAs (c : (CoreId → Instr) × Nat) (f : Vx → QEntry → Vx) : Prop :=
  ∀ (core : CoreId) (s : State), exec (c.1 core) s = .next (s.vStart core.key c.2 f)

theorem RunsAs.exec_of_next {c : (CoreId → Instr) × Nat} {f : Vx → QEntry → Vx} (hc : RunsAs c f) {core : CoreId} {s : State}
    {e : QEntry} (h : NextVector s core.key e c.2) :
    exec (c.1 core) s = .next (s.vRan core.key e (f (s.site core.key).vx e)) := by
  rw [hc, State.vStart_of_next f h]

theorem vectorTable_runsAs : ∀ c ∈ vectorTable, RunsAs c Vx.doArith := by
  intro c hc
  fin_cases hc <;> exact fun _ _ => rfl

theorem bitTable_runsAs : ∀ c ∈ bitTable, RunsAs (c.1, c.2.1) Vx.doPlain := by
  intro c hc
  fin_cases hc <;> exact fun _ _ => rfl

theorem specialTable_runsAs : ∀ c ∈ specialTable, RunsAs c Vx.doSpecial := by
  intro c hc
  fin_cases hc <;> exact fun _ _ => rfl

theorem compareTable_runsAs : ∀ c ∈ compareTable, RunsAs (c.1, c.2.1) Vx.doCompare := by
  intro c hc
  fin_cases hc <;> exact fun _ _ => rfl

theorem predicateTable_runsAs : ∀ c ∈ predicateTable, RunsAs (c.1, c.2.1) Vx.doPred := by
  intro c hc
  fin_cases hc <;> exact fun _ _ => rfl

theorem quietTable_runsAs : ∀ c ∈ quietTable, RunsAs c (fun v _ => v) := by
  intro c hc
  fin_cases hc <;> exact fun _ _ => rfl

theorem vperm_runsAs : RunsAs (.vperm, 0x40) Vx.doPerm := fun _ _ => rfl

theorem vbcl_runsAs : RunsAs (.vbcl, 0x41) Vx.doPerm := fun _ _ => rfl

theorem vrot_runsAs : RunsAs (.vrot, 0x42) Vx.doPerm := fun _ _ => rfl

theorem vred_runsAs : RunsAs (.vred, 0x43) Vx.doRed := fun _ _ => rfl

theorem predicateEmitters_runsAs : ∀ c ∈ predicateEmitters, ∃ f, RunsAs c f := by
  simp only [predicateEmitters, List.forall_mem_append, List.forall_mem_map, List.forall_mem_cons]
  exact ⟨⟨fun c hc => ⟨_, compareTable_runsAs c hc⟩, fun c hc => ⟨_, predicateTable_runsAs c hc⟩⟩,
    ⟨Vx.doPred, fun _ _ => rfl⟩, ⟨Vx.doPred, fun _ _ => rfl⟩, ⟨fun v _ => v, fun _ _ => rfl⟩, List.forall_mem_nil _⟩

theorem vectorEmitters_runsAs : ∀ c ∈ vectorEmitters, ∃ f, RunsAs c f := by
  simp only [vectorEmitters, List.forall_mem_append, List.forall_mem_map, List.forall_mem_cons]
  exact ⟨⟨⟨fun c hc => ⟨_, vectorTable_runsAs c hc⟩, fun c hc => ⟨_, bitTable_runsAs c hc⟩⟩,
    fun c hc => ⟨_, specialTable_runsAs c hc⟩⟩,
    ⟨Vx.doCvt, fun _ _ => rfl⟩, ⟨Vx.doPlain, fun _ _ => rfl⟩, ⟨_, vperm_runsAs⟩, ⟨_, vbcl_runsAs⟩,
    ⟨_, vrot_runsAs⟩, ⟨_, vred_runsAs⟩, ⟨fun v _ => v, fun _ _ => rfl⟩, List.forall_mem_nil _⟩

theorem predicateEmitters_op : ∀ c ∈ predicateEmitters, (isCompare c.2 || isPred c.2) = true := by decide

theorem vectorEmitters_op : ∀ c ∈ vectorEmitters, (isCompare c.2 || isPred c.2) = false ∧ c.2 ≠ 0x54 := by decide

/-- An instruction that neither reads nor writes the scratchpad changes its unit as f says, and its entry has then run. -/
theorem State.vmStart_of_no_access {s : State} {k op : Nat} {e : QEntry} (f : Site → QEntry → Site) (h : NextVector s k e op)
    (hreads : vReads (s.site k) e = []) : s.vmStart k op (fun a e => noRuns (f a e))
      = s.setSite k ({ f (s.site k) e with vx := ((f (s.site k) e).vx.summarise e).1 }.setEntry 1
          { ((f (s.site k) e).vx.summarise e).2 with phase := .ran }) := by
  obtain ⟨hhead, hop⟩ := h
  unfold State.vmStart
  rw [hhead]
  refine (if_pos hop).trans ?_
  rw [hreads, State.readChecked_of_good (fun r hr => absurd hr List.not_mem_nil)]
  exact (State.writeChecked_of_good rfl).trans (State.updSite_updSite s k (fun _ => _) _)

/-- TRED runs as an instruction of the vector registers does: its tile is none of the scratchpad's. -/
theorem exec_tred_of_next {core : CoreId} {s : State} {e : QEntry} (h : NextVector s core.key e 0x54) :
    exec (.tred core) s = .next (s.vRan core.key e ((s.site core.key).doTred e).vx) := by
  have hreads : vReads (s.site core.key) e = [] := by simp only [vReads, h.2]
  exact congrArg Host.Outcome.next (State.vmStart_of_no_access Site.doTred h hreads)

/-! ## The summary that an entry keeps -/

/-- R36, R97: the summary of a predicate. -/
theorem State.entryNow_vRan_of_predicate {s : State} {k : Nat} {e : QEntry} {v : Vx} (hE : vE e.bits = true)
    (hop : (isCompare (vOp e.bits) || isPred (vOp e.bits)) = true) :
    entryNow s (s.vRan k e v) k 1 e { e with phase := .ran, summary := some (emitted e (predicateValue (vField e.bits 60 4) e.vl.toNat
      (pbit (s.vRan k e v) k ((if vOp e.bits = 0x3f then vrVa e.bits else vrVd e.bits) % 8)))) } := by
  have hnow := State.entryNow_vRan s k e v
  rw [Vx.summarise_of_predicate hE hop] at hnow
  have hbits : ∀ r, pbit (s.vRan k e v) k r = bit (v.preg r) := fun r => by
    funext i
    rw [pbit, State.preg_vRan]; rfl
  rw [hbits]
  exact hnow

/-- R36, R97: the summary of a vector register. -/
theorem State.entryNow_vRan_of_vector {s : State} {k : Nat} {e : QEntry} {v : Vx} (hE : vE e.bits = true)
    (hop : (isCompare (vOp e.bits) || isPred (vOp e.bits)) = false) (hkind : vField e.bits 60 4 ∈ [0, 1, 3, 5]) :
    entryNow s (s.vRan k e v) k 1 e { e with phase := .ran, summary := some (emitted e (lanesValue (vField e.bits 60 4) (resultInt e.bits)
      (lanesBelow (s.vRan k e v) k (summaryReg e.bits) e))) } := by
  have hnow := State.entryNow_vRan s k e v
  rw [Vx.summarise_of_vector hE hop hkind] at hnow
  have hlanes : lanesBelow (s.vRan k e v) k (summaryReg e.bits) e = (v.vreg (summaryReg e.bits)).take e.vl.toNat := by
    rw [Vx.take_vreg, lanesBelow]
    exact List.map_congr_left fun i _ => State.lane_vRan s k e v _ i
  rw [hlanes]
  exact hnow

end Sys2Proof.Machine
end

section
/-! PROOFS. VPERM, VBCL and VROT, VRED, and the quiet instructions (R83, R94, R96, R97). -/

namespace Sys2Proof.Machine

open Sys2Proof.Claims

/-! ## Permutes (R96) -/

/-- How many of the lanes below vl take a source lane that is not below it. -/
def outOfRange (vl : Nat) (src : Nat → Nat) : Nat := (List.range vl).countP (fun i => decide (vl ≤ src i))

theorem outOfRange_of_lt {vl : Nat} {src : Nat → Nat} (h : ∀ i, src i < vl) : outOfRange vl src = 0 :=
  List.countP_eq_zero.mpr fun i _ => by simpa using h i

theorem outOfRange_of_const (vl j : Nat) : outOfRange vl (fun _ => j) = if j < vl then 0 else vl := by
  split
  · next h => exact outOfRange_of_lt fun _ => h
  · next h => simp [outOfRange, List.countP_eq_length.mpr, Nat.not_lt.mp h]

/-- The lanes below VL of register VA that src names, those out of range as 0. -/
def Vx.permLanes (v : Vx) (e : QEntry) (src : Nat → Nat) : List W32 :=
  (List.range e.vl.toNat).map (fun i => if e.vl.toNat ≤ src i then 0 else (v.vreg (vrVa e.bits)).getD (src i) 0)

/-- The engine after a permute whose lane i takes lane src i. -/
def Vx.permuteBy (v : Vx) (e : QEntry) (src : Nat → Nat) : Vx :=
  if outOfRange e.vl.toNat src = 0 then v.setVreg (vrVd e.bits) (v.permLanes e src)
  else { (v.setVreg (vrVd e.bits) (v.permLanes e src)).raise vsPermRange with permCount := satAdd v.permCount (outOfRange e.vl.toNat src) }

section
variable {v : Vx} {e : QEntry}

theorem Vx.doPerm_of_vperm (hop : vOp e.bits = 0x40) : v.doPerm e = v.permuteBy e (fun i => ((v.operandB e.bits).getD i 0).toNat) := by
  simp only [Vx.doPerm, hop]; rfl

theorem Vx.doPerm_of_vbcl (hop : vOp e.bits = 0x41) : v.doPerm e = v.permuteBy e (fun _ => vField e.bits 32 6) := by
  simp only [Vx.doPerm, hop]; rfl

theorem Vx.doPerm_of_vrot (hop : vOp e.bits = 0x42) : v.doPerm e = v.permuteBy e (fun i => (i + vField e.bits 32 6) % e.vl.toNat) := by
  simp only [Vx.doPerm, hop]; rfl

end

section
variable (v : Vx) (e : QEntry) (src : Nat → Nat)

theorem Vx.permuteBy_v : (v.permuteBy e src).v = (v.setVreg (vrVd e.bits) (v.permLanes e src)).v := by
  unfold Vx.permuteBy; split <;> rfl

theorem Vx.permuteBy_t : (v.permuteBy e src).t = v.t := by
  unfold Vx.permuteBy; split <;> rfl

theorem Vx.permuteBy_p : (v.permuteBy e src).p = v.p := by
  unfold Vx.permuteBy; split <;> rfl

@[simp] theorem Vx.length_permLanes : (v.permLanes e src).length = e.vl.toNat := by
  simp [Vx.permLanes]

end

/-- What a permute whose lane i takes lane src i does. -/
theorem State.vRan_permuteBy {s : State} {k : Nat} {e : QEntry} (src : Nat → Nat) (hvl : e.vl.toNat ≤ 64) :
    let t := s.vRan k e ((s.site k).vx.permuteBy e src)
    VectorRan s t k e ∧ LanesKept s t k (vrVd e.bits) e.vl.toNat ∧ PredicatesKept s t k
      ∧ (∀ i, i < e.vl.toNat → lane t k (vrVd e.bits) i = if src i < e.vl.toNat then lane s k (vrVa e.bits) (src i) else 0)
      ∧ PermCounted s t k (outOfRange e.vl.toNat src) := by
  have hv := (s.site k).vx.permuteBy_v e src
  refine ⟨State.vectorRan_vRan s k e ((s.site k).vx.permuteBy_t e src), State.lanesKept_vRan hv (Vx.length_permLanes _ e src) hvl,
    State.predicatesKept_vRan s k e ((s.site k).vx.permuteBy_p e src), fun i hi => ?_, ?_, fun hbad => ?_⟩
  · rw [State.lane_vRan_of_written hv (by simpa using hi)]
    by_cases hsrc : src i < e.vl.toNat
    · rw [if_pos hsrc, ← State.getD_vreg (hsrc.trans_le hvl)]
      simp [Vx.permLanes, hi, Nat.not_le.mpr hsrc]
    · simp [Vx.permLanes, hi, hsrc, Nat.not_lt.mp hsrc]
  · rw [State.vx_vRan, Vx.summarise_permCount, Vx.permuteBy]
    split <;> rfl
  · rw [State.vx_vRan]
    refine Vx.summarise_vstat _ e ?_
    rw [Vx.permuteBy, if_neg hbad.ne']
    simp [Vx.raise, vsPermRange]

/-! ## VRED (R94) -/

/-- What VRED reduces: the lanes below VL, and for a sum +0 for every other. -/
theorem State.redOperands_eq {s : State} {k r vl : Nat} (how : Nat) (hvl : vl ≤ 64) :
    (if how = 0 then pad64 (((s.site k).vx.vreg r).take vl) else ((s.site k).vx.vreg r).take vl)
      = (List.range 64).filterMap (fun i => if i < vl then some (lane s k r i) else if how = 0 then some 0 else none) := by
  have htake : ((s.site k).vx.vreg r).take vl = (List.range vl).map (lane s k r) := by
    rw [Vx.take_vreg, Nat.min_eq_left hvl]; rfl
  have hrange : List.range 64 = List.range vl ++ (List.range (64 - vl)).map (vl + ·) := by
    rw [← List.range_add, Nat.add_sub_cancel' hvl]
  have hbelow : (List.range vl).filterMap (fun i => if i < vl then some (lane s k r i) else if how = 0 then some 0 else none)
      = (List.range vl).map (lane s k r) := by
    rw [← List.filterMap_eq_map]
    exact List.filterMap_congr fun i hi => if_pos (List.mem_range.mp hi)
  rw [htake, hrange, List.filterMap_append, hbelow, List.filterMap_map]
  have habove : (fun i => if i < vl then some (lane s k r i) else if how = 0 then some 0 else none) ∘ (vl + ·)
      = fun _ => if how = 0 then some 0 else none := by
    funext i
    exact if_neg (Nat.not_lt.mpr (Nat.le_add_right vl i))
  rw [habove]
  by_cases hsum : how = 0
  · simp [hsum, pad64, List.map_const']
  · simp [hsum]

/-- VRED writes the reduction of its operands to lane 0 of VD alone. -/
theorem State.vRan_doRed {s : State} {k : Nat} {e : QEntry} (hvl : e.vl.toNat ≤ 64) :
    let t := s.vRan k e ((s.site k).vx.doRed e)
    VectorRan s t k e ∧ LanesKept s t k (vrVd e.bits) 1 ∧ PredicatesKept s t k
      ∧ lane t k (vrVd e.bits) 0 = (reduceLanes (vField e.bits 32 2) (vrType e.bits == 0xb) false
          ((List.range 64).filterMap (fun i => if i < e.vl.toNat then some (lane s k (vrVa e.bits) i)
            else if vField e.bits 32 2 = 0 then some 0 else none))).1 := by
  rw [← State.redOperands_eq (vField e.bits 32 2) hvl]
  exact ⟨State.vectorRan_vRan s k e rfl, State.lanesKept_vRan (v := (s.site k).vx.doRed e) rfl rfl (by decide),
    State.predicatesKept_vRan s k e rfl, State.lane_vRan_of_written (v := (s.site k).vx.doRed e) rfl Nat.one_pos⟩

/-! ## The obligation -/

/-- Settles O25: each permute takes the lanes that its source function names, VRED writes one lane, the quiet instructions leave the
engine, and the summary that an entry keeps is that of the register in the state after it. -/
theorem permutesReductionsAndQuiet : Obligations.PermutesReductionsAndQuiet := by
  unfold Obligations.PermutesReductionsAndQuiet
  refine ⟨?lanes, ?quiet, ?predicates, fun core s e hE hkind => ⟨?vectors, fun h => ?tred⟩⟩
  case lanes =>
    rintro core s e vd va vl rfl rfl rfl hpos hvl
    refine ⟨fun h => ?vperm, fun h => ?vbcl, fun h => ?vrot, fun h => ?vred⟩
    case vperm =>
      refine ⟨_, vperm_runsAs.exec_of_next h, ?_⟩
      rw [Vx.doPerm_of_vperm h.2]
      exact State.vRan_permuteBy _ hvl
    case vbcl =>
      refine ⟨_, vbcl_runsAs.exec_of_next h, ?_⟩
      rw [Vx.doPerm_of_vbcl h.2, ← outOfRange_of_const]
      exact State.vRan_permuteBy _ hvl
    case vrot =>
      refine ⟨_, vrot_runsAs.exec_of_next h, ?_⟩
      have hlt : ∀ i, (i + vField e.bits 32 6) % e.vl.toNat < e.vl.toNat := fun i => Nat.mod_lt _ hpos
      have hran := State.vRan_permuteBy (s := s) (k := core.key) (e := e) (fun i => (i + vField e.bits 32 6) % e.vl.toNat) hvl
      simp only [if_pos (hlt _), outOfRange_of_lt hlt] at hran
      rw [Vx.doPerm_of_vrot h.2]
      exact hran
    case vred =>
      exact ⟨_, vred_runsAs.exec_of_next h, State.vRan_doRed hvl⟩
  case quiet =>
    intro c hc core s e h
    refine ⟨_, (quietTable_runsAs c hc).exec_of_next h, State.vectorRan_vRan s core.key e rfl, ?_,
      State.predicatesKept_vRan s core.key e rfl, fun hE => ⟨?_, ?_⟩⟩
    · rw [State.vx_vRan, Vx.summarise_v]
    · rw [State.vx_vRan, Vx.summarise_of_not_emits hE]
    · have hnow := State.entryNow_vRan s core.key e (s.site core.key).vx
      rwa [Vx.summarise_of_not_emits hE] at hnow
  case predicates =>
    intro c hc core s e h hE _
    obtain ⟨f, hf⟩ := predicateEmitters_runsAs c hc
    refine ⟨_, hf.exec_of_next h, ?_⟩
    obtain ⟨-, hop⟩ := h
    rw [← hop]
    exact State.entryNow_vRan_of_predicate hE (hop ▸ predicateEmitters_op c hc)
  case vectors =>
    intro c hc h
    obtain ⟨f, hf⟩ := vectorEmitters_runsAs c hc
    refine ⟨_, hf.exec_of_next h, ?_⟩
    obtain ⟨-, hop⟩ := h
    obtain ⟨hvec, htred⟩ := vectorEmitters_op c hc
    rw [← hop] at hvec htred ⊢
    have hnow := State.entryNow_vRan_of_vector (s := s) (k := core.key) (v := f (s.site core.key).vx e) hE hvec hkind
    rwa [resultInt_of_not_tred htred, summaryReg_of_not_tred htred] at hnow
  case tred =>
    refine ⟨_, exec_tred_of_next h, ?_⟩
    obtain ⟨-, hop⟩ := h
    have hnow := State.entryNow_vRan_of_vector (s := s) (k := core.key) (v := ((s.site core.key).doTred e).vx) hE
      (by rw [hop]; decide) hkind
    rwa [resultInt_of_tred hop, summaryReg_of_tred hop] at hnow

end Sys2Proof.Machine
end

section
/-! PROOFS. Every step: it answers, keeps the queue, and moves the fuses only as R440, R444 and R446 allow. -/

namespace Sys2Proof.Machine

/-- Settles O1: the step reads the front of the queue alone. -/
theorem stepTakesFront : Obligations.StepTakesFront := by
  unfold Obligations.StepTakesFront
  refine ⟨fun c rest s => rfl, fun s h => ?_⟩
  unfold step
  rw [h]

theorem exec_answers (c : Instr) (s : State) : ∃ t, exec c s = .next t := by
  cases c <;> exact ⟨_, rfl⟩

/-- Settles O2: each command's meaning is a next state, and whatever follows by its effects keeps the queue. -/
theorem commandsAnswerAndKeepQueue : Obligations.CommandsAnswerAndKeepQueue := by
  intro c s
  obtain ⟨t, ht⟩ := exec_answers c s
  exact ⟨t, ht, (exec_moves ht).pending⟩

/-- A step, of a command or of an idle tick, changes the security state only as SecStep says. -/
theorem step_secStep {s t : State} (h : step s = .next t) : SecStep s.sec t.sec := by
  unfold step at h
  split at h
  case h_1 =>
    obtain rfl := Host.Outcome.next.inj h
    exact State.idle_moves.sec
  case h_2 => exact (exec_moves h).sec

/-- Settles O3: SecStep keeps the fuses well formed and moves the life cycle at most once, by R446. -/
theorem lifeCycleMovesOnlyByR446 : Obligations.LifeCycleMovesOnlyByR446 := by
  intro s t hs h
  obtain ⟨ht, hlc⟩ := (step_secStep h).lc hs
  exact ⟨ht, hlc.imp_right And.left⟩

/-- RETIRED has no transition but to itself (R446). -/
theorem LcMay.of_retired {b : BitVec 3} (h : LcMay 4 b) : b = 4 := by
  rcases h with ⟨h, -⟩ | ⟨h, -⟩ | ⟨h, -⟩ | ⟨h, -⟩ | ⟨h, -⟩ | ⟨-, h⟩
  case inr.inr.inr.inr.inr => exact h
  all_goals exact absurd h (by decide)

/-- A fuse that the next value's mask keeps stays blown. -/
theorem getLsbD_of_and_eq {n : Nat} {c d : BitVec n} (h : c &&& d = c) {i : Nat} (hi : c.getLsbD i = true) : d.getLsbD i = true := by
  rw [← h, BitVec.getLsbD_and, Bool.and_eq_true] at hi
  exact hi.2

/-- Settles O5: RETIRED has no way out among the transitions of R446, and SecStep raises SVNs and blows fuses alone. -/
theorem fusesAndRetirementAreFinal : Obligations.FusesAndRetirementAreFinal := by
  refine ⟨fun s t hs hr h => ?_, fun s t h => ?_⟩
  · obtain ⟨-, hlc | ⟨hmay, -⟩⟩ := (step_secStep h).lc hs
    · exact hlc.trans hr
    · exact (hr ▸ hmay).of_retired
  · obtain ⟨hsvn, hfw, hsvc, -⟩ := step_secStep h
    exact ⟨fun i => by simpa [vget] using hsvn i, fun i => getLsbD_of_and_eq hfw, fun i => getLsbD_of_and_eq hsvc⟩

end Sys2Proof.Machine
end

section
/-! PROOFS. Reset values, and the control instructions but those of queues (R20, R25–R31, R35, R38, R46–R51). -/

namespace Sys2Proof.Machine

open Sys2Proof.Claims

/-! ## Reset -/

/-- A unit at reset differs from the others in its position and, for an update engine, in quotas and window 0. -/
theorem Site.reset_registers (k : Nat) : (Site.reset k).faultStop = true ∧ (Site.reset k).wdog = 26 ∧ (Site.reset k).spad.age = 32
    ∧ (Site.reset k).rt.age = 4096 ∧ (Site.reset k).ws.retryDelay = 4096 ∧ (Site.reset k).isl.freq = 1000 ∧ (Site.reset k).isl.freqNow = 1000
    ∧ (Site.reset k).parked = false ∧ (Site.reset k).fenced = false ∧ (Site.reset k).queues = Vector.replicate 4 [] := by
  unfold Site.reset
  split
  case isTrue => dsimp only; split <;> exact ⟨rfl, rfl, rfl, rfl, rfl, rfl, rfl, rfl, rfl, rfl⟩
  case isFalse => exact ⟨rfl, rfl, rfl, rfl, rfl, rfl, rfl, rfl, rfl, rfl⟩

theorem State.reset_lcOk : State.reset.sec.LcOk :=
  ⟨by decide, fun h => absurd h Bool.false_ne_true, fun h => absurd h Bool.false_ne_true⟩

/-- Settles O4: every table of units is empty at reset, so that each unit is its default. -/
theorem resetValues : Obligations.ResetValues := by
  refine ⟨rfl, rfl, State.reset_lcOk, rfl, fun x => ?_, fun _ => rfl, fun _ => ⟨rfl, rfl, rfl, rfl, rfl, rfl, rfl⟩,
    fun _ => ⟨rfl, rfl, rfl, rfl, rfl, rfl⟩, fun _ => ⟨rfl, rfl, rfl⟩, rfl, rfl, rfl, rfl⟩
  obtain ⟨hstop, hwdog, hport, hrouter, hretry, hfreq, hnow, hparked, hfenced, hqueues⟩ := Site.reset_registers x.key
  refine ⟨rfl, hstop, hwdog, hport, hrouter, hretry, hfreq, hnow, hparked, hfenced, fun n => ?_⟩
  rw [show State.reset.site x.key = Site.reset x.key from rfl, hqueues]
  exact Vector.getElem_replicate n.isLt

/-! ## Issue -/

/-- The slot that fetches a word of an instruction issues it. -/
theorem State.issue_of_fetches {s : State} {k : Nat} {n : Fin 4} {w : W32} {op : CtlOp} {f : W32 → State → State}
    (h : Fetches s k n w) (hd : ctlDecode w = some op) : s.issue k n op f = f w (s.updSite k (fun a => a.issued n)) := by
  obtain ⟨hturn, hfetch, hgood⟩ := h
  exact State.issue_of_fetch hturn hfetch hd hgood

theorem Site.slot_issued_self (a : Site) (n : Fin 4) : (a.issued n).slots[n] = { a.slots[n] with line := some (a.lineOf n) } := by
  rw [Site.slots_issued, if_pos rfl]

theorem Site.homeOf_issued (a : Site) (n : Fin 4) : (a.issued n).homeOf n = a.homeOf n := by
  rw [Site.homeOf, Site.slot_issued_self]; rfl

theorem Site.homeAddr_issued (a : Site) (n : Fin 4) (off : Nat) : (a.issued n).homeAddr n off = a.homeAddr n off := by
  rw [Site.homeAddr, Site.homeOf_issued]; rfl

/-! ## Immediates and jumps (R29) -/

/-- Each immediate instruction is the one that its opcode selects, and issues as the RI instruction of its result. -/
theorem immediateTable_issues : ∀ e ∈ immediateTable, ∃ op, (∀ w, ctlOpcode w = e.2.1 → ctlDecode w = some op)
    ∧ ∀ core n s, exec (e.1 core n) s = .next (s.issueSlot core.key n op (riInstr (fun a w => e.2.2 a (ctlImm w)))) := by
  simp only [immediateTable, List.forall_mem_cons]
  refine ⟨⟨.addi, fun w h => ?_, fun _ _ _ => rfl⟩, ⟨.andi, fun w h => ?_, fun _ _ _ => rfl⟩, ⟨.ori, fun w h => ?_, fun _ _ _ => rfl⟩,
    ⟨.xori, fun w h => ?_, fun _ _ _ => rfl⟩, ⟨.slti, fun w h => ?_, fun _ _ _ => rfl⟩, List.forall_mem_nil _⟩ <;> simp only [ctlDecode, h]

/-- SHI shifts by bits [5:0] of its immediate, in the direction of bit 6. -/
theorem opShi_eq (a : W64) (w : W32) : opShi a w = if w.getLsbD 6 then a >>> (w.toNat % 64) else a <<< (w.toNat % 64) := by
  have hcount : (fld w 0 6).toNat = w.toNat % 64 := by simp [fld]
  rw [opShi, hcount]
  rfl

theorem luiInstr_eq (w : W32) : luiInstr w = fun x => wrote (ctlRd w) ((ctlImm w).setWidth 64 <<< 16) x := by
  have himm : BitVec.ofNat 64 ((ctlImm w).toNat * 2 ^ 16) = (ctlImm w).setWidth 64 <<< 16 :=
    BitVec.eq_of_toNat_eq (by simp [Nat.shiftLeft_eq])
  funext x
  rw [luiInstr, himm]
  rfl

theorem State.jr_of_aligned {s : State} {k : Nat} {n : Fin 4} {w : W32} (h : ((s.slot k n).reg (ctlRs1 w)).toNat % 4 = 0) :
    s.jr k n w = s.updSlot k n (fun x => { x with pc := (s.slot k n).reg (ctlRs1 w) }) :=
  if_neg (not_not_intro h)

theorem State.slot_issued_self (s : State) (k : Nat) (n : Fin 4) :
    (s.updSite k (fun a => a.issued n)).slot k n = { s.slot k n with line := some ((s.site k).lineOf n) } := by
  rw [State.slot_issued, if_pos rfl]

/-- Settles O7: each instruction is the one that its opcode selects, so the slot that fetches its word issues it. -/
theorem immediatesAndJumps : Obligations.ImmediatesAndJumps := by
  intro core n w s hf
  refine ⟨fun e he hop => ?immediate, fun hop hres => ?shi, fun hop => ?lui, fun hop => ?luih, fun hop haligned => ?jr⟩
  case immediate =>
    obtain ⟨op, hd, hexec⟩ := immediateTable_issues e he
    rw [hexec, State.issueSlot_of_fetches hf (hd w hop)]
    rfl
  case shi =>
    have hd : ctlDecode w = some .shi := by simp only [ctlDecode, hop, hres, if_true]
    refine congrArg Host.Outcome.next ((State.issueSlot_of_fetches hf hd).trans ?_)
    simp only [← opShi_eq]
    rfl
  case lui =>
    rw [← luiInstr_eq]
    exact congrArg Host.Outcome.next (State.issueSlot_of_fetches hf (by simp only [ctlDecode, hop]))
  case luih =>
    exact congrArg Host.Outcome.next (State.issueSlot_of_fetches hf (by simp only [ctlDecode, hop]))
  case jr =>
    refine congrArg Host.Outcome.next ((State.issue_of_fetches hf (by simp only [ctlDecode, hop])).trans ?_)
    have hreg : ((s.updSite core.key (fun a => a.issued n)).slot core.key n).reg (ctlRs1 w) = (s.slot core.key n).reg (ctlRs1 w) := by
      rw [State.slot_issued_self]; rfl
    rw [State.jr_of_aligned (by rw [hreg]; exact haligned)]
    exact State.updSlot_congr rfl

/-! ## Loads and stores (R29, R30) -/

theorem ctlDecode_of_load {w : W32} (h1 : 0x18 ≤ ctlOpcode w) (h2 : ctlOpcode w < 0x1c) : ctlDecode w = some .load := by
  obtain h | h | h | h : ctlOpcode w = 0x18 ∨ ctlOpcode w = 0x19 ∨ ctlOpcode w = 0x1a ∨ ctlOpcode w = 0x1b := by omega
  all_goals simp only [ctlDecode, h]

theorem ctlDecode_of_store {w : W32} (h1 : 0x1c ≤ ctlOpcode w) (h2 : ctlOpcode w < 0x20) : ctlDecode w = some .store := by
  obtain h | h | h | h : ctlOpcode w = 0x1c ∨ ctlOpcode w = 0x1d ∨ ctlOpcode w = 0x1e ∨ ctlOpcode w = 0x1f := by omega
  all_goals simp only [ctlDecode, h]

theorem Site.homeAccess_of_ok {a : Site} {n : Fin 4} {off len : Nat} (halign : off % len = 0) (hin : a.inWindow (a.homeOf n) off len = true) :
    a.homeAccess n off len len = none := by
  simp [Site.homeAccess, halign, hin]

section
variable {s : State} {k : Nat} {n : Fin 4} {w : W32} {off len : Nat}

theorem State.load_of_ok (hoff : (s.slot k n).memOff w = off) (hlen : memBytes w = len)
    (haccess : (s.site k).homeAccess n off len len = none)
    (hgood : (s.site k).spad.flawed ((s.site k).homeAddr n off) len = false) :
    s.load k n w = s.updSlot k n (fun x => wrote (ctlRd w)
      (BitVec.ofNat 64 (leNat (Memory.read (s.site k).spad.mem ((s.site k).homeAddr n off) len))) x) := by
  subst hoff hlen
  unfold State.load
  dsimp only
  rw [show (s.site k).homeAccess n ((s.site k).slots[n].memOff w) (memBytes w) (memBytes w) = none from haccess]
  exact State.readChecked_of_good (List.forall_mem_singleton.mpr hgood)

theorem State.store_of_ok (hoff : (s.slot k n).memOff w = off) (hlen : memBytes w = len)
    (haccess : (s.site k).homeAccess n off len len = none)
    (hmerge : (s.site k).spad.badMerge [((s.site k).homeAddr n off, leBytes len ((s.slot k n).reg (ctlRd w)).toNat)] = none) :
    s.store k n w = (s.updSlot k n (fun x => x.next id)).updSite k
      (fun a => a.putRuns [[((s.site k).homeAddr n off, leBytes len ((s.slot k n).reg (ctlRd w)).toNat)]]) := by
  subst hoff hlen
  unfold State.store
  dsimp only
  rw [show (s.site k).homeAccess n ((s.site k).slots[n].memOff w) (memBytes w) (memBytes w) = none from haccess]
  refine State.writeChecked_of_good ?_
  rw [State.updSlot, State.site_upd_self]
  exact Spad.badMerges_singleton hmerge

end

@[simp] theorem Site.putRuns_mem_singleton (a : Site) (addr : Nat) (bs : List Byte) :
    (a.putRuns [[(addr, bs)]]).spad.mem = Memory.write a.spad.mem addr bs := rfl

theorem length_leBytes (len n : Nat) : (leBytes len n).length = len := by
  induction len generalizing n with
  | zero => rfl
  | succ len ih => rw [leBytes, List.length_cons, ih]

/-- Settles O8: the accesses of an aligned LOAD and STORE in the home window pass their checks. -/
theorem loadsAndStores : Obligations.LoadsAndStores := by
  intro core n w s off len hf hoff hlen halign hin
  let s' := s.updSite core.key (fun a => a.issued n)
  have hsite : s'.site core.key = (s.site core.key).issued n := State.site_upd_self s _ _
  have hslot : s'.slot core.key n = { s.slot core.key n with line := some ((s.site core.key).lineOf n) } := State.slot_issued_self s _ n
  have haddr : (s'.site core.key).homeAddr n off = (s.site core.key).homeAddr n off := by rw [hsite, Site.homeAddr_issued]
  have hspad : (s'.site core.key).spad = (s.site core.key).spad := by rw [hsite]; rfl
  have hoff' : (s'.slot core.key n).memOff w = off := by rw [hslot, hoff]; rfl
  have haccess : (s'.site core.key).homeAccess n off len len = none := by
    refine Site.homeAccess_of_ok halign ?_
    rw [hsite, Site.homeOf_issued]
    exact hin
  refine ⟨fun h1 h2 hgood => ?load, fun h1 h2 hmerge => ?store⟩
  case load =>
    refine congrArg Host.Outcome.next ((State.issue_of_fetches hf (ctlDecode_of_load h1 h2)).trans ?_)
    rw [State.load_of_ok hoff' hlen.symm haccess (by rw [haddr, hspad]; exact hgood), haddr, hspad]
    rfl
  case store =>
    have hreg : (s'.slot core.key n).reg (ctlRd w) = (s.slot core.key n).reg (ctlRd w) := by rw [hslot]; rfl
    refine ⟨_, congrArg Host.Outcome.next (State.issue_of_fetches hf (ctlDecode_of_store h1 h2)), ?_⟩
    rw [State.store_of_ok hoff' hlen.symm haccess (by rw [haddr, hspad, hreg]; exact hmerge), haddr, hreg]
    have hmem : ∀ bs : List Byte, (((s'.updSlot core.key n (fun x => x.next id)).updSite core.key
        (fun a => a.putRuns [[((s.site core.key).homeAddr n off, bs)]])).site core.key).spad.mem
          = Memory.write (s.site core.key).spad.mem ((s.site core.key).homeAddr n off) bs := fun bs => by
      rw [State.site_upd_self, Site.putRuns_mem_singleton, State.updSlot, State.site_upd_self, ← hspad]
      rfl
    refine ⟨?_, ?_, fun a ha => ?_⟩
    · rw [State.slot, State.site_upd_self]
      show (s'.updSlot core.key n (fun x => x.next id)).slot core.key n = _
      rw [State.slot_updSlot_self, hslot]
      rfl
    · rw [hmem]
      have hread := Memory.read_write (s.site core.key).spad.mem ((s.site core.key).homeAddr n off)
        (leBytes len ((s.slot core.key n).reg (ctlRd w)).toNat)
      rwa [length_leBytes] at hread
    · rw [hmem]
      exact Memory.get_write_out _ _ _ a (by rwa [length_leBytes])

end Sys2Proof.Machine
end

section
/-! PROOFS. Waits and summaries, and the starting, stopping and faulting of slots (R35, R38, R46–R51, R263). -/

namespace Sys2Proof.Machine

open Sys2Proof.Claims

/-! ## Waits and summaries (R35, R38) -/

section
variable {s : State} {k : Nat} {n : Fin 4} {w : W32}

theorem State.waitInstr_eq (s : State) (k : Nat) (n : Fin 4) (w : W32) : s.waitInstr k n w = s.updSlot k n (fun x =>
    if 0 ≤ ((s.site k).qdone[(ctlRd w).toNat % 4] - ((s.slot k n).reg (ctlRs1 w)).setWidth 32).toInt then { x with pc := x.pc + 4 }
    else { x with st := .blocked, block := .count ((ctlRd w).setWidth 2) ((s.slot k n).reg (ctlRs1 w)) }) := by
  have hq : ((ctlRd w).setWidth 2).toNat = (ctlRd w).toNat % 4 := BitVec.toNat_setWidth 2 _
  have hcount : (s.site k).qdone[((ctlRd w).setWidth 2).toNat] = (s.site k).qdone[(ctlRd w).toNat % 4] := by simp only [hq]
  simp only [State.waitInstr, reached, hcount, decide_eq_true_eq]
  unfold State.slot
  split <;> rfl

theorem State.sqpop_of_summary {v : W64} {vs : List W64} (h : (s.slot k n).summaries = v :: vs) :
    s.sqpop k n w = s.updSlot k n (fun x => wrote (ctlRd w) v { x with summaries := vs }) := by
  have hne : (s.site k).slots[n].summaries ≠ [] := by rw [show (s.site k).slots[n].summaries = v :: vs from h]; exact List.cons_ne_nil _ _
  refine (if_pos hne).trans (State.updSlot_congr ?_)
  show (s.slot k n).next (fun x => x.popTo (ctlRd w)) = _
  rw [Slot.next, Slot.popTo, h]
  rfl

end

/-- Settles O9: WAIT and SQPOP as they find the counter and the summaries, the others as effects on their slot alone. -/
theorem waitsAndSummaries : Obligations.WaitsAndSummaries := by
  refine ⟨fun core n w s hf => ⟨fun hop => ?wait, fun hop v vs hv => ?sqpop, fun hop => ?sqcnt, fun hop => ?yield, fun hop => ?halt⟩,
    fun core n s hst hstop => ⟨fun q target hblock hreached => ?release, fun rd v vs hblock hv => ?resume⟩⟩
  case wait =>
    refine congrArg Host.Outcome.next ((State.issue_of_fetches hf (by simp only [ctlDecode, hop])).trans ?_)
    rw [State.waitInstr_eq, State.slot_issued_self, State.site_upd_self]
    rfl
  case sqpop =>
    refine congrArg Host.Outcome.next ((State.issue_of_fetches hf (by simp only [ctlDecode, hop])).trans ?_)
    rw [State.sqpop_of_summary (by rw [State.slot_issued_self]; exact hv)]
    rfl
  case sqcnt => exact congrArg Host.Outcome.next (State.issueSlot_of_fetches hf (by simp only [ctlDecode, hop]))
  case yield => exact congrArg Host.Outcome.next (State.issueSlot_of_fetches hf (by simp only [ctlDecode, hop]))
  case halt => exact congrArg Host.Outcome.next (State.issueSlot_of_fetches hf (by simp only [ctlDecode, hop]))
  case release =>
    unfold State.slot at hst hstop hblock
    refine congrArg Host.Outcome.next ?_
    simp only [hst, hblock, hstop, reached, decide_eq_true hreached, Bool.not_false, Bool.and_self, if_true]
    rfl
  case resume =>
    refine congrArg Host.Outcome.next ?_
    simp only [hst, hblock, hstop, hv, Bool.false_eq_true, if_false, ne_eq, List.cons_ne_nil, not_false_eq_true, if_true]
    refine State.updSlot_congr ?_
    rw [Slot.unblock, Slot.next, Slot.popTo, hv]
    rfl

/-! ## Stopping (R51) -/

/-- A slot that a STOP has brought to its end. -/
def Slot.stopped (x : Slot) (byPan : Bool) : Slot := ({ x with stopping := true, stopByPan := x.stopByPan || byPan } : Slot).finishStop

theorem Site.updSlot_updSlot (a : Site) (n : Fin 4) (f g : Slot → Slot) : (a.updSlot n f).updSlot n g = a.updSlot n (fun x => g (f x)) := by
  simp [Site.updSlot]

theorem Site.settleStop_of_stopping {a : Site} {n : Fin 4} (hstop : a.slots[n].stopping = true) (hflight : a.inFlight n = 0) :
    a.settleStop n = a.updSlot n Slot.finishStop := by
  rw [Site.settleStop, hstop, hflight]; rfl

theorem Site.stopSlot_of_settled {a : Site} {n : Fin 4} (hflight : a.inFlight n = 0) (hst : a.slots[n].st = .ready ∨ a.slots[n].st = .blocked)
    (byPan : Bool) : a.stopSlot n byPan = a.updSlot n (fun x => x.stopped byPan) := by
  have hgo : (a.slots[n].st == .ready || a.slots[n].st == .blocked) = true := by
    rcases hst with h | h <;> rw [h] <;> rfl
  refine (if_pos hgo).trans ((Site.settleStop_of_stopping
    (a := a.updSlot n (fun x => { x with stopping := true, stopByPan := x.stopByPan || byPan })) ?_ hflight).trans (Site.updSlot_updSlot a n _ _))
  rw [Site.slots_updSlot, if_pos rfl]

theorem Site.slots_stopSlot_ne (a : Site) {n m : Fin 4} (h : m ≠ n) (byPan : Bool) : (a.stopSlot n byPan).slots[m] = a.slots[m] := by
  unfold Site.stopSlot Site.settleStop
  split
  case isTrue => split <;> simp only [Site.slots_updSlot, if_neg h]
  case isFalse => rfl

/-- A slot that is neither READY nor BLOCKED stays as it is under a STOP. -/
theorem Site.stopSlot_of_quiet {a : Site} {n : Fin 4} (h1 : a.slots[n].st ≠ .ready) (h2 : a.slots[n].st ≠ .blocked) (byPan : Bool) :
    a.stopSlot n byPan = a := by
  rw [Site.stopSlot, beq_eq_false_iff_ne.mpr h1, beq_eq_false_iff_ne.mpr h2]; rfl

theorem Site.queues_stopSlot (a : Site) (n : Fin 4) (byPan : Bool) : (a.stopSlot n byPan).queues = a.queues := by
  unfold Site.stopSlot Site.settleStop
  split
  case isTrue => split <;> rfl
  case isFalse => rfl

theorem Site.inFlight_stopSlot (a : Site) (n m : Fin 4) (byPan : Bool) : (a.stopSlot n byPan).inFlight m = a.inFlight m := by
  unfold Site.inFlight
  rw [Site.queues_stopSlot]

/-- HALT_ALL brings every slot to the end of its stop where none has a summary in flight and each is READY or BLOCKED. -/
theorem Site.slots_haltAll_of_settled {a : Site} (h : ∀ n, a.inFlight n = 0 ∧ (a.slots[n].st = .ready ∨ a.slots[n].st = .blocked))
    (byPan : Bool) (n : Fin 4) : (a.haltAll byPan).slots[n] = a.slots[n].stopped byPan := by
  have hself : ∀ (b : Site) (m : Fin 4), b.inFlight m = a.inFlight m → b.slots[m] = a.slots[m] →
      (b.stopSlot m byPan).slots[m] = a.slots[m].stopped byPan := fun b m hflight hslot => by
    rw [Site.stopSlot_of_settled (hflight ▸ (h m).1) (hslot ▸ (h m).2), Site.slots_updSlot, if_pos rfl, hslot]
  unfold Site.haltAll
  match n with
  | 0 => rw [Site.slots_stopSlot_ne _ (by decide), Site.slots_stopSlot_ne _ (by decide), Site.slots_stopSlot_ne _ (by decide)]
         exact hself a 0 rfl rfl
  | 1 => rw [Site.slots_stopSlot_ne _ (by decide), Site.slots_stopSlot_ne _ (by decide)]
         exact hself _ 1 (by simp only [Site.inFlight_stopSlot]) (Site.slots_stopSlot_ne _ (by decide) _)
  | 2 => rw [Site.slots_stopSlot_ne _ (by decide)]
         refine hself _ 2 (by simp only [Site.inFlight_stopSlot]) ?_
         rw [Site.slots_stopSlot_ne _ (by decide), Site.slots_stopSlot_ne _ (by decide)]
  | 3 => refine hself _ 3 (by simp only [Site.inFlight_stopSlot]) ?_
         rw [Site.slots_stopSlot_ne _ (by decide), Site.slots_stopSlot_ne _ (by decide), Site.slots_stopSlot_ne _ (by decide)]

/-! ## What a fault leaves of a unit (R48, R49, R263) -/

/-- Unit b has a's queues and fault record, and every slot of a for which keep holds. -/
structure Site.Keeps (keep : Slot → Prop) (a b : Site) : Prop where
  queues : b.queues = a.queues
  pending : b.pending = a.pending
  firstCode : b.firstCode = a.firstCode
  firstSlot : b.firstSlot = a.firstSlot
  slots : ∀ m : Fin 4, keep a.slots[m] → b.slots[m] = a.slots[m]

section
variable {keep : Slot → Prop} {a b c : Site}

theorem Site.Keeps.refl (keep : Slot → Prop) (a : Site) : Site.Keeps keep a a := ⟨rfl, rfl, rfl, rfl, fun _ _ => rfl⟩

theorem Site.Keeps.trans (h : Site.Keeps keep a b) (g : Site.Keeps keep b c) : Site.Keeps keep a c := by
  refine ⟨g.queues.trans h.queues, g.pending.trans h.pending, g.firstCode.trans h.firstCode, g.firstSlot.trans h.firstSlot, fun m hm => ?_⟩
  have hab := h.slots m hm
  exact (g.slots m (hab ▸ hm)).trans hab

theorem Site.Keeps.of_updSlot {n : Fin 4} {f : Slot → Slot} (h : keep a.slots[n] → f a.slots[n] = a.slots[n]) :
    Site.Keeps keep a (a.updSlot n f) := by
  refine ⟨rfl, rfl, rfl, rfl, fun m hm => ?_⟩
  rw [Site.slots_updSlot]
  split
  case isTrue he => subst he; exact h hm
  case isFalse => rfl

theorem Site.Keeps.ite {p : Prop} [Decidable p] {d : Site} (hb : Site.Keeps keep a b) (hd : Site.Keeps keep a d) :
    Site.Keeps keep a (if p then b else d) := by
  split <;> assumption

end

theorem Site.keeps_tempo (keep : Slot → Prop) (a : Site) (t : Tempo) : Site.Keeps keep a { a with tempo := t } :=
  ⟨rfl, rfl, rfl, rfl, fun _ _ => rfl⟩

/-- A slot that a STOP leaves alone. -/
def Slot.Quiet (x : Slot) : Prop := x.st ≠ .ready ∧ x.st ≠ .blocked

theorem Site.stopSlot_keeps (a : Site) (n : Fin 4) (byPan : Bool) : Site.Keeps Slot.Quiet a (a.stopSlot n byPan) := by
  by_cases hq : a.slots[n].Quiet
  · rw [Site.stopSlot_of_quiet hq.1 hq.2]
    exact Site.Keeps.refl _ _
  · unfold Site.stopSlot Site.settleStop
    have hupd : ∀ f, Site.Keeps Slot.Quiet a (a.updSlot n f) := fun f => Site.Keeps.of_updSlot fun h => absurd h hq
    refine Site.Keeps.ite (Site.Keeps.ite ?_ (hupd _)) (Site.Keeps.refl _ _)
    rw [Site.updSlot_updSlot]
    exact hupd _

theorem Site.forceStop_keeps (a : Site) : Site.Keeps Slot.Quiet a a.forceStop := by
  have hhalt : Site.Keeps Slot.Quiet a (a.haltAll true) :=
    (((a.stopSlot_keeps 0 true).trans (Site.stopSlot_keeps _ 1 true)).trans (Site.stopSlot_keeps _ 2 true)).trans (Site.stopSlot_keeps _ 3 true)
  exact Site.Keeps.ite (Site.Keeps.refl _ _) (hhalt.trans (Site.keeps_tempo _ _ _))

theorem State.site_cycleNow_self (s : State) (k : Nat) :
    (s.cycleNow k).2.site k = { s.site k with trc := { (s.site k).trc with cycle := (s.cycleNow k).1 } } :=
  State.site_upd_self s.draw.2 k _

theorem State.site_cycleNow_ne (s : State) {k j : Nat} (h : j ≠ k) : (s.cycleNow k).2.site j = s.site j :=
  State.site_upd_ne s.draw.2 _ h

/-- A trace record changes nothing of any unit but its trace state. -/
theorem State.site_trace (s : State) (k : Nat) (src : Option Nat) (ty slot : BitVec 8) (payload : BitVec 128) (j : Nat) :
    ∃ t, (s.trace k src ty slot payload).site j = { s.site j with trc := t } := by
  refine iteInduction (motive := fun u : State => ∃ t, u.site j = { s.site j with trc := t }) (fun _ => ?_) (fun _ => ⟨_, rfl⟩)
  by_cases h : j = k
  · subst h
    exact ⟨_, (State.site_upd_self (s.cycleNow j).2 j _).trans
      (congrArg (fun a : Site => { a with trc := a.trc.push ty slot payload }) (State.site_cycleNow_self s j))⟩
  · exact ⟨_, (State.site_upd_ne _ _ h).trans (State.site_cycleNow_ne s h)⟩

theorem State.trace_keeps {keep : Slot → Prop} (s : State) (k : Nat) (src : Option Nat) (ty slot : BitVec 8) (payload : BitVec 128) (j : Nat) :
    Site.Keeps keep (s.site j) ((s.trace k src ty slot payload).site j) := by
  obtain ⟨t, ht⟩ := s.site_trace k src ty slot payload j
  rw [ht]
  exact ⟨rfl, rfl, rfl, rfl, fun _ _ => rfl⟩

theorem State.updSite_keeps {keep : Slot → Prop} {f : Site → Site} (s : State) (k j : Nat) (h : Site.Keeps keep (s.site k) (f (s.site k))) :
    Site.Keeps keep (s.site j) ((s.updSite k f).site j) := by
  rw [State.site_upd]
  split
  case isTrue he => subst he; exact h
  case isFalse => exact Site.Keeps.refl _ _

theorem State.foldl_keeps {keep : Slot → Prop} {α : Type} {f : State → α → State} {j : Nat} (l : List α) (s : State)
    (h : ∀ s x, Site.Keeps keep (s.site j) ((f s x).site j)) : Site.Keeps keep (s.site j) ((l.foldl f s).site j) := by
  induction l generalizing s with
  | nil => exact Site.Keeps.refl _ _
  | cons x l ih => exact (h s x).trans (ih (f s x))

theorem State.panForceStop_keeps (s : State) (n j : Nat) : Site.Keeps Slot.Quiet (s.site j) ((s.panForceStop n).site j) := by
  unfold State.panForceStop
  by_cases hrun : ((s.pan n).st == .running || (s.pan n).st == .stopping) = true
  · rw [if_pos hrun]
    refine State.foldl_keeps (s.panSites n) s fun s k => ?_
    exact State.updSite_keeps s k j (Site.forceStop_keeps _)
  · rw [if_neg hrun]
    exact Site.Keeps.refl _ _

/-! ### Events change no unit -/

@[simp] theorem State.sendMsix_site (s : State) (p : Fin 4) (v : BitVec 11) (j : Nat) : (s.sendMsix p v).site j = s.site j := by
  unfold State.sendMsix
  split <;> rfl

@[simp] theorem State.ringPost_site (s : State) (ev : Event) (p : Fin 4) (j : Nat) : (s.ringPost ev p).site j = s.site j := by
  unfold State.ringPost
  dsimp only
  split
  case isTrue =>
    split
    case isTrue => rfl
    case isFalse => exact State.sendMsix_site _ _ _ _
  case isFalse => rfl

@[simp] theorem State.post_site (s : State) (code sev path kind index : Nat) (detail : List Nat) (j : Nat) :
    (s.post code sev path kind index detail).site j = s.site j := by
  unfold State.post allPorts
  simp only [List.foldl_cons, List.foldl_nil, State.ringPost_site]
  rfl

@[simp] theorem State.entryFault_site (s : State) (q reason entry shard code j : Nat) :
    (s.entryFault q reason entry shard code).site j = s.site j := by
  rw [State.entryFault, State.post_site]; rfl

/-- The fault of a shard halts the other shards' slots and no slot that is FAULTED. -/
theorem State.shardFault_keeps (s : State) (k code j : Nat) :
    Site.Keeps (fun x => x.st = .faulted) (s.site j) ((s.shardFault k code).site j) := by
  unfold State.shardFault
  dsimp only
  split
  case isFalse => exact Site.Keeps.refl _ _
  case isTrue =>
    rw [State.entryFault_site]
    refine State.foldl_keeps _ s fun s e => ?_
    split
    case isTrue => exact State.updSite_keeps s _ j (Site.Keeps.of_updSlot fun h => if_pos h)
    case isFalse => exact Site.Keeps.refl _ _

/-! ### A unit's own task fault -/

section
variable (a : Site) (n : Fin 4) (code : Nat) (command : Bool) (pc : W64)

/-- A unit whose slot n has taken a fault that is recorded. -/
def Site.faulted : Site := (a.updSlot n (fun x => x.takeFault code command pc)).recordFault n code

theorem Site.taskFault_eq : a.taskFault n code command pc
    = if a.faultStop then (a.faulted n code command pc).doFaultStop else a.faulted n code command pc := rfl

theorem Site.slots_faulted (m : Fin 4) : (a.faulted n code command pc).slots[m]
    = if m = n then a.slots[n].takeFault code command pc else a.slots[m] :=
  Site.slots_updSlot a n m (fun x => x.takeFault code command pc)

theorem Site.slots_doFaultStop (m : Fin 4) : a.doFaultStop.slots[m] = a.slots[m].faultHalt := by
  simp [Site.doFaultStop]

theorem Slot.quiet_of_faulted {x : Slot} (h : x.st = .faulted) : x.Quiet := by
  simp [Slot.Quiet, h]

theorem Slot.faultHalt_of_faulted {x : Slot} (h : x.st = .faulted) : x.faultHalt = { x with summaries := [] } := by
  simp [Slot.faultHalt, h]

theorem Slot.faultHalt_quiet (x : Slot) : x.faultHalt.Quiet ∧ x.faultHalt.summaries = [] := by
  unfold Slot.faultHalt Slot.Quiet
  split
  case isTrue => exact ⟨⟨by simp, by simp⟩, rfl⟩
  case isFalse h => exact ⟨by simpa using h, rfl⟩

theorem Slot.faultHalt_of_running {x : Slot} (h : x.st = .ready ∨ x.st = .blocked) : x.faultHalt.st = .halted ∧ x.faultHalt.block = .nothing := by
  rcases h with h | h <;> simp [Slot.faultHalt, h]

/-- The charged slot after the unit's own fault, but for its summaries. -/
theorem Site.slot_taskFault : ∃ v, (a.taskFault n code command pc).slots[n] = { a.slots[n].takeFault code command pc with summaries := v } := by
  rw [Site.taskFault_eq]
  split
  case isTrue =>
    refine ⟨[], ?_⟩
    rw [Site.slots_doFaultStop, Site.slots_faulted, if_pos rfl]
    exact Slot.faultHalt_of_faulted rfl
  case isFalse => exact ⟨a.slots[n].summaries, by rw [Site.slots_faulted, if_pos rfl]; rfl⟩

theorem Site.record_taskFault : (a.taskFault n code command pc).pending = a.pending ||| BitVec.twoPow 16 code
    ∧ (a.taskFault n code command pc).firstCode = (if a.pending = 0 then BitVec.ofNat 8 code else a.firstCode)
    ∧ (a.taskFault n code command pc).firstSlot = (if a.pending = 0 then BitVec.ofNat 2 n.val else a.firstSlot)
    ∧ (a.taskFault n code command pc).faultStop = a.faultStop := by
  rw [Site.taskFault_eq]
  split <;> exact ⟨rfl, rfl, rfl, rfl⟩

theorem Site.queued_not_mem_doFaultStop (q : Fin 4) : ∀ e ∈ a.doFaultStop.queues[q], e.phase ≠ .queued := by
  intro e he
  have he : e ∈ faultStopQueue a.queues[q] := by simpa [Site.doFaultStop] using he
  obtain ⟨y, hy, rfl⟩ := List.mem_map.mp he
  have hphase : y.phase ≠ .queued := by simpa using (List.mem_filter.mp hy).2
  split <;> exact hphase

end

/-- What the whole fault leaves of its unit: an array's keeps every slot that no STOP changes, and an update engine's the slots that
are FAULTED. -/
theorem State.taskFault_keeps (s : State) (k : Nat) (n : Fin 4) (code : Nat) (command : Bool) (pc : W64) :
    let a := (s.site k).taskFault n code command pc
    let t := s.taskFault k n code command pc
    Site.Keeps (fun x => x.st = .faulted) a (t.site k) ∧ (k < 65536 → Site.Keeps Slot.Quiet a (t.site k))
      ∧ (k < 65536 → (s.site k).faultStop = false → Site.Keeps (fun _ => True) a (t.site k)) := by
  intro a t
  have hstop : a.faultStop = (s.site k).faultStop := ((s.site k).record_taskFault n code command pc).2.2.2
  have htrace : ∀ {keep}, Site.Keeps keep a
      (((s.updSite k (fun a => a.taskFault n code command pc)).trace k (some 2) 3 (BitVec.ofNat 8 n.val)
        (payload20 code (pc.toNat / 4 * 4 % 8388608))).site k) := fun {keep} => by
    have h := State.trace_keeps (keep := keep) (s.updSite k (fun a => a.taskFault n code command pc)) k (some 2) 3 (BitVec.ofNat 8 n.val)
      (payload20 code (pc.toNat / 4 * 4 % 8388608)) k
    rwa [State.site_upd_self] at h
  obtain ⟨trc, htrc⟩ := (s.updSite k (fun a => a.taskFault n code command pc)).site_trace k (some 2) 3 (BitVec.ofNat 8 n.val)
    (payload20 code (pc.toNat / 4 * 4 % 8388608)) k
  rw [State.site_upd_self] at htrc
  have hweak : ∀ {b c : Site}, Site.Keeps Slot.Quiet b c → Site.Keeps (fun x => x.st = .faulted) b c := fun h =>
    ⟨h.queues, h.pending, h.firstCode, h.firstSlot, fun m hm => h.slots m (Slot.quiet_of_faulted hm)⟩
  by_cases hk : 65536 ≤ k
  · refine ⟨?_, fun h => absurd hk (Nat.not_le.mpr h), fun h => absurd hk (Nat.not_le.mpr h)⟩
    have ht : t = State.shardFault _ k code := if_pos hk
    rw [ht]
    exact htrace.trans (State.shardFault_keeps _ k code k)
  · have ht : t = _ := if_neg hk
    rw [htrc] at ht
    by_cases hs : (s.site k).faultStop = true
    · have hquiet : Site.Keeps Slot.Quiet a (t.site k) := by
        rw [ht, if_pos (hstop.trans hs)]
        split
        · exact htrace.trans (State.panForceStop_keeps _ _ k)
        · exact htrace
      exact ⟨hweak hquiet, fun _ => hquiet, fun _ h => absurd hs (by simp [h])⟩
    · have hf : a.faultStop = false := hstop.trans (by simpa using hs)
      rw [if_neg (by simpa using hf)] at ht
      rw [ht]
      exact ⟨htrace, fun _ => htrace, fun _ _ => htrace⟩

/-- R48, R49: what a task fault leaves. -/
theorem State.taskFault_leaves (s : State) (k : Nat) (n : Fin 4) (code : Nat) (command : Bool) (pc : W64) :
    let t := s.taskFault k n code command pc
    (t.slot k n).st = .faulted ∧ (t.slot k n).faultCode = BitVec.ofNat 8 code ∧ (t.slot k n).faultCommand = command
    ∧ (t.slot k n).faultPc = pc.setWidth 23 &&& 0x7ffffc
    ∧ (t.site k).pending = (s.site k).pending ||| BitVec.twoPow 16 code
    ∧ ((s.site k).pending = 0 → (t.site k).firstCode = BitVec.ofNat 8 code ∧ (t.site k).firstSlot = BitVec.ofNat 2 n.val) := by
  intro t
  obtain ⟨hkeeps, -, -⟩ := s.taskFault_keeps k n code command pc
  obtain ⟨v, hv⟩ := (s.site k).slot_taskFault n code command pc
  obtain ⟨hpending, hcode, hslot, -⟩ := (s.site k).record_taskFault n code command pc
  have hn : t.slot k n = { (s.slot k n).takeFault code command pc with summaries := v } := (hkeeps.slots n (by rw [hv]; rfl)).trans hv
  refine ⟨by rw [hn]; rfl, by rw [hn]; rfl, by rw [hn]; rfl, by rw [hn]; rfl, hkeeps.pending.trans hpending, fun h0 => ?_⟩
  rw [if_pos h0] at hcode hslot
  exact ⟨hkeeps.firstCode.trans hcode, hkeeps.firstSlot.trans hslot⟩

/-- Settles O10: START and STOP act on their slot alone, and a fault on its unit as R48 and R49 say, since nothing that follows it
changes a slot that has stopped. -/
theorem startAndStop : Obligations.StartAndStop := by
  refine ⟨fun core n s hpower hst => ?start, fun core n s hflight hst => ?stop, fun core s h => ?haltAll,
    fun core n s hstop hflight => ?done, fun core n code command pc s t ht => ?fault⟩
  case start =>
    refine congrArg Host.Outcome.next ((if_pos hpower).trans (State.updSlot_congr (if_pos ?_)))
    rcases hst with h | h | h <;> rw [Slot.quiet, h] <;> rfl
  case stop =>
    refine ⟨_, rfl, ?_⟩
    have hsite : ∀ m, (s.updSite core.key (fun a => a.stopSlot n false)).slot core.key m
        = if m = n then (s.slot core.key n).stopped false else s.slot core.key m := fun m => by
      rw [State.slot, State.site_upd_self, Site.stopSlot_of_settled hflight hst, Site.slots_updSlot]; rfl
    have hself := (hsite n).trans (if_pos rfl)
    exact ⟨by rw [hself]; rfl, by rw [hself]; rfl, by rw [hself]; rfl, by rw [hself]; rfl, fun m hm => by rw [hsite, if_neg hm]⟩
  case haltAll =>
    refine ⟨_, rfl, fun n => ?_⟩
    rw [State.slot, State.site_upd_self, Site.slots_haltAll_of_settled h]
    exact ⟨rfl, rfl⟩
  case done =>
    refine ⟨_, rfl, ?_⟩
    rw [State.slot, State.site_upd_self, Site.settleStop_of_stopping hstop hflight, Site.slots_updSlot, if_pos rfl]
    exact ⟨rfl, rfl, rfl⟩
  case fault =>
    subst ht
    obtain ⟨hst, hcode, hcommand, hpc, hpending, hfirst⟩ := s.taskFault_leaves core.key n code command pc
    obtain ⟨-, hquiet, hall⟩ := s.taskFault_keeps core.key n code command pc
    refine ⟨hst, hcode, hcommand, hpc, hpending, hfirst, fun hk hstop => ?_, fun hk hstop => ?_⟩
    · have hkeeps := hall hk hstop
      rw [Site.taskFault_eq, if_neg (by simp [hstop])] at hkeeps
      exact ⟨hkeeps.queues, fun m hm => (hkeeps.slots m trivial).trans ((Site.slots_faulted _ n code command pc m).trans (if_neg hm))⟩
    · have hkeeps := hquiet hk
      rw [Site.taskFault_eq, if_pos hstop] at hkeeps
      have hslot : ∀ m, (s.taskFault core.key n code command pc).slot core.key m
          = (((s.site core.key).faulted n code command pc).slots[m]).faultHalt := fun m => by
        have h := Site.slots_doFaultStop ((s.site core.key).faulted n code command pc) m
        exact (hkeeps.slots m (by rw [h]; exact (Slot.faultHalt_quiet _).1)).trans h
      refine ⟨fun m => ⟨by rw [hslot]; exact (Slot.faultHalt_quiet _).2, fun hm hrun => ?_⟩, fun q => ?_⟩
      · rw [hslot, Site.slots_faulted, if_neg hm]
        exact Slot.faultHalt_of_running hrun
      · show ∀ e ∈ ((s.taskFault core.key n code command pc).site core.key).queues[q], _
        rw [hkeeps.queues]
        exact Site.queued_not_mem_doFaultStop _ q

end Sys2Proof.Machine
end

section
/-! PROOFS. Pushes to the queues, the completion of entries, and register access by CSRR and CSRW (R4, R29–R38, R46, R47, R83). -/

namespace Sys2Proof.Machine

open Sys2Proof.Claims

/-- Element p of an array whose element q is replaced. -/
theorem getElem_set_fin {α : Type} {n : Nat} (v : Vector α n) (q p : Fin n) (x : α) : (v.set q x)[p] = if p = q then x else v[p] := by
  by_cases h : p = q
  · subst h
    rw [if_pos rfl]
    exact Vector.getElem_set_self _
  · rw [if_neg h]
    exact Vector.getElem_set_ne _ p.isLt (fun e => h (Fin.ext e.symm))

/-! ## The check of a push -/

section
variable (a : Site) (k : Nat) (n q : Fin 4) (b : BitVec 256)

theorem Site.mxCheck_issued : (a.issued n).mxCheck n b = a.mxCheck n b := by
  unfold Site.mxCheck Site.mxInWindow
  rw [Site.homeOf_issued]
  rfl

theorem Site.vCheck_issued : (a.issued n).vCheck n b = a.vCheck n b := by
  unfold Site.vCheck Site.creditsInUse
  rw [Site.homeOf_issued, Site.slot_issued_self]
  rfl

theorem Site.dmaReason_issued : (a.issued n).dmaReason k n b = a.dmaReason k n b := by
  unfold Site.dmaReason Site.dLocalOk
  rw [Site.slot_issued_self]
  rfl

/-- The issue of the push itself changes nothing that its check looks at. -/
theorem Site.pushCheck_issued : ((a.issued n).pushCheck k n q b).2 = (a.pushCheck k n q b).2 := by
  unfold Site.pushCheck
  split
  · exact Site.mxCheck_issued a n b
  · exact Site.vCheck_issued a n b
  · rw [Site.dmaReason_issued]
    cases a.dmaReason k n b <;> rfl

end

/-! ## One entry pushed -/

/-- What a push fixes of an entry, and what it leaves of the unit. -/
theorem Site.pushFix_spec (a : Site) (q : Fin 4) (e : QEntry) :
    (a.pushFix q e).2.bits = e.bits ∧ (a.pushFix q e).2.slot = e.slot ∧ (a.pushFix q e).2.pc = e.pc ∧ (a.pushFix q e).2.phase = e.phase
    ∧ (q = 1 → (a.pushFix q e).2.vl = a.slots[e.slot].vl) ∧ (a.pushFix q e).1.queues = a.queues := by
  match q with
  | 0 => exact ⟨rfl, rfl, rfl, rfl, fun h => absurd h (by decide), rfl⟩
  | 1 =>
    refine ⟨rfl, rfl, rfl, rfl, fun _ => rfl, ?_⟩
    show (ite _ _ _ : Site).queues = _
    split <;> rfl
  | 2 => exact ⟨rfl, rfl, rfl, rfl, fun h => absurd h (by decide), rfl⟩
  | 3 => exact ⟨rfl, rfl, rfl, rfl, fun h => absurd h (by decide), rfl⟩

/-- A push leaves its slot as it was, but for the VL that a VSETVL sets (R83). -/
theorem Site.slot_pushFix (a : Site) (q : Fin 4) (e : QEntry) : (a.pushFix q e).1.slots[e.slot]
    = if q = 1 ∧ vOp e.bits = 1 then { a.slots[e.slot] with vl := BitVec.ofNat 7 (vField e.bits 32 7) } else a.slots[e.slot] := by
  match q with
  | 0 => rfl
  | 1 =>
    show (ite _ _ _ : Site).slots[e.slot] = _
    by_cases h : vOp e.bits = 1
    · rw [if_pos h, if_pos ⟨rfl, h⟩, Site.slots_updSlot, if_pos rfl]
    · rw [if_neg h, if_neg (fun h' => h h'.2)]
  | 2 => rfl
  | 3 => rfl

/-- The entry that a push puts in its queue. -/
def Site.pushed (a : Site) (n q : Fin 4) (b : BitVec 256) (pc : W64) : QEntry :=
  (a.pushFix q { id := a.nextId, slot := n, pc := pc, bits := b }).2

section
variable (a : Site) (n q : Fin 4) (b : BitVec 256) (pc : W64)

theorem Site.queue_enqueue (p : Fin 4) :
    (a.enqueue n q b pc).queues[p] = if p = q then a.queues[q] ++ [a.pushed n q b pc] else a.queues[p] := by
  have hqueues := (a.pushFix_spec q { id := a.nextId, slot := n, pc := pc, bits := b }).2.2.2.2.2
  refine (getElem_set_fin (a.pushFix q { id := a.nextId, slot := n, pc := pc, bits := b }).1.queues q p _).trans ?_
  rw [hqueues]
  rfl

theorem Site.slot_enqueue : (a.enqueue n q b pc).slots[n]
    = if q = 1 ∧ vOp b = 1 then { a.slots[n] with vl := BitVec.ofNat 7 (vField b 32 7) } else a.slots[n] :=
  a.slot_pushFix q { id := a.nextId, slot := n, pc := pc, bits := b }

theorem Site.pushed_spec : (a.pushed n q b pc).bits = b ∧ (a.pushed n q b pc).slot = n ∧ (a.pushed n q b pc).pc = pc
    ∧ (a.pushed n q b pc).phase = .queued ∧ (q = 1 → (a.pushed n q b pc).vl = a.slots[n].vl) := by
  obtain ⟨hbits, hslot, hpc, hphase, hvl, -⟩ := a.pushFix_spec q { id := a.nextId, slot := n, pc := pc, bits := b }
  exact ⟨hbits, hslot, hpc, hphase, hvl⟩

end

theorem State.pushEntry_of_ok {s : State} {k : Nat} {n q : Fin 4} {b : BitVec 256} (h : PushOk s k n q b) (pc : W64) :
    s.pushEntry k n q b pc = (s.updSite k (fun a => a.enqueue n q b pc), true) := by
  have hcheck : (s.site k).pushCheck k n q b = (((s.site k).pushCheck k n q b).1, none) := Prod.ext rfl h
  rw [State.pushEntry, hcheck]

/-! ## QPUSH -/

@[simp] theorem Site.countRuns_nil (a : Site) : a.countRuns [] = a := by
  simp [Site.countRuns]

/-- Reading no bytes changes no unit. -/
theorem State.readRuns_nil (s : State) (k : Nat) : s.readRuns k [] id = s.updSite k (fun a => a) := by
  simp [State.readRuns, State.readChecked]

theorem State.entries_updSite_enqueue (s : State) (k : Nat) (n q : Fin 4) (b : BitVec 256) (pc : W64) (p : Fin 4) :
    entries (s.updSite k (fun a => a.enqueue n q b pc)) k p
      = if p = q then entries s k q ++ [(s.site k).pushed n q b pc] else entries s k p := by
  unfold entries
  rw [State.site_upd_self, Site.queue_enqueue]

theorem State.entries_updSlot (s : State) (k : Nat) (n : Fin 4) (f : Slot → Slot) (p : Fin 4) :
    entries (s.updSlot k n f) k p = entries s k p := by
  rw [entries, State.updSlot, State.site_upd_self]; rfl

/-- The state whose slot n has pushed one entry and goes on after its QPUSH. -/
def State.pushedOne (s : State) (k : Nat) (n q : Fin 4) (b : BitVec 256) : State :=
  (s.updSite k (fun a => a.enqueue n q b (s.slot k n).pc)).updSlot k n (fun x => x.unblock id)

theorem State.doPush_of_qpush {s : State} {k : Nat} {n : Fin 4} {w : W32} (hop : ctlOpcode w = 0x28)
    (hok : PushOk s k n (qOf w) ((s.slot k n).pushBits (qOf w).val (ctlRs1 w))) :
    s.doPush k n w = (s.pushedOne k n (qOf w) ((s.slot k n).pushBits (qOf w).val (ctlRs1 w))).latchOps k := by
  have hload : isQload w = false := by rw [isQload, hop]; rfl
  have hentries : (s.site k).entriesOf n w = [([], (s.slot k n).pushBits (qOf w).val (ctlRs1 w))] := by
    simp only [Site.entriesOf, hload]; rfl
  have hsite : (s.updSite k (fun a => a)).site k = s.site k := State.site_upd_self s k _
  have hok' : PushOk (s.updSite k (fun a => a)) k n (qOf w) ((s.slot k n).pushBits (qOf w).val (ctlRs1 w)) := by
    unfold PushOk; rw [hsite]; exact hok
  have hpush : s.pushEntries k n (qOf w) (s.slot k n).pc [([], (s.slot k n).pushBits (qOf w).val (ctlRs1 w))]
      = (s.updSite k (fun a => a.enqueue n (qOf w) ((s.slot k n).pushBits (qOf w).val (ctlRs1 w)) (s.slot k n).pc), true) := by
    unfold State.pushEntries
    rw [if_neg (by simp), State.readRuns_nil, State.pushEntry_of_ok hok', State.updSite_updSite]
    rfl
  rw [State.doPush, hentries, hpush]
  rfl

/-- What one pushed entry leaves. -/
theorem State.pushedOne_spec (s : State) (k : Nat) (n q : Fin 4) (b : BitVec 256) :
    let t := s.pushedOne k n q b
    ∃ e, entries t k q = entries s k q ++ [e] ∧ e.bits = b ∧ e.slot = n ∧ e.pc = (s.slot k n).pc ∧ e.phase = .queued
      ∧ (t.slot k n).pc = (s.slot k n).pc + 4 ∧ (t.slot k n).st = .ready ∧ (t.slot k n).block = .nothing ∧ TakesVl s t k n q e
      ∧ ∀ p, p ≠ q → entries t k p = entries s k p := by
  intro t
  obtain ⟨hbits, hslot, hpc, hphase, hvl⟩ := (s.site k).pushed_spec n q b (s.slot k n).pc
  have hs : ((s.updSite k (fun a => a.enqueue n q b (s.slot k n).pc)).slot k n)
      = if q = 1 ∧ vOp b = 1 then { s.slot k n with vl := BitVec.ofNat 7 (vField b 32 7) } else s.slot k n := by
    rw [State.slot, State.site_upd_self, Site.slot_enqueue]; rfl
  have ht : t.slot k n = (if q = 1 ∧ vOp b = 1 then { s.slot k n with vl := BitVec.ofNat 7 (vField b 32 7) } else s.slot k n).unblock id := by
    rw [← hs]
    exact State.slot_updSlot_self _ k n _
  refine ⟨(s.site k).pushed n q b (s.slot k n).pc, ?_, hbits, hslot, hpc, hphase, ?_, ?_, ?_, fun hq => ⟨hvl hq, ?_⟩, fun p hp => ?_⟩
  · exact (State.entries_updSlot _ k n _ q).trans ((State.entries_updSite_enqueue s k n q b _ q).trans (if_pos rfl))
  · rw [ht]; split <;> rfl
  · rw [ht]; rfl
  · rw [ht]; rfl
  · rw [ht, hbits]
    simp only [hq, true_and]
    split <;> rfl
  · exact (State.entries_updSlot _ k n _ p).trans ((State.entries_updSite_enqueue s k n q b _ p).trans (if_neg hp))

/-! ## QLOAD -/

/-- Bytes without an uncorrectable word are read, whatever single-bit errors they hold, and only the scratchpad's counts change. -/
theorem State.site_readRuns_of_not_bad {s : State} {k : Nat} {rs : List (Nat × Nat)}
    (h : ¬rs.any (fun r => ((s.site k).spad.bad r.1 r.2).isSome) = true) : ∃ m, (s.readRuns k rs id).site k = { s.site k with spad := m } := by
  have hnone : rs.findSome? (fun r => (s.site k).spad.bad r.1 r.2) = none := by
    rw [List.findSome?_eq_none_iff]
    intro r hr
    by_contra hne
    exact h (List.any_eq_true.mpr ⟨r, hr, Option.isSome_iff_ne_none.mpr hne⟩)
  unfold State.readRuns State.readChecked
  split
  · exact ⟨_, State.site_upd_self s k _⟩
  · rw [hnone]
    refine ⟨(Site.countRuns { s.site k with spad := (s.site k).spad.correct (inRanges rs) } rs).spad, (State.site_upd_self _ k _).trans ?_⟩
    rw [State.site_upd_self]
    rfl

/-- Entries that are pushed one after another without a fault join their queue in order, each queued for the slot. -/
theorem State.pushEntries_spec (k : Nat) (n q : Fin 4) (pc : W64) (l : List (List (Nat × Nat) × BitVec 256)) (s : State)
    (h : (s.pushEntries k n q pc l).2 = true) :
    ∃ added, entries (s.pushEntries k n q pc l).1 k q = entries s k q ++ added ∧ added.map (fun e => e.bits) = l.map (fun b => b.2)
      ∧ (∀ e ∈ added, e.slot = n ∧ e.pc = pc ∧ e.phase = .queued)
      ∧ ((s.pushEntries k n q pc l).1.slot k n).pc = (s.slot k n).pc := by
  induction l generalizing s with
  | nil => exact ⟨[], (List.append_nil _).symm, rfl, fun e he => absurd he List.not_mem_nil, rfl⟩
  | cons x l ih =>
    obtain ⟨rs, b⟩ := x
    by_cases hbad : rs.any (fun r => ((s.site k).spad.bad r.1 r.2).isSome) = true
    · rw [State.pushEntries, if_pos hbad] at h
      exact absurd h Bool.false_ne_true
    · rw [State.pushEntries, if_neg hbad] at h ⊢
      obtain ⟨m, hm⟩ := State.site_readRuns_of_not_bad hbad
      have hentries : ∀ p, entries (s.readRuns k rs id) k p = entries s k p := fun p => by rw [entries, hm]; rfl
      by_cases hok : PushOk (s.readRuns k rs id) k n q b
      · rw [State.pushEntry_of_ok hok] at h ⊢
        dsimp only at h ⊢
        obtain ⟨added, hadd, hbits, hall, hpc⟩ := ih _ h
        obtain ⟨hb, hslot, hp, hphase, -⟩ := ((s.readRuns k rs id).site k).pushed_spec n q b pc
        refine ⟨_ :: added, ?_, ?_, List.forall_mem_cons.mpr ⟨⟨hslot, hp, hphase⟩, hall⟩, ?_⟩
        · rw [hadd, State.entries_updSite_enqueue, if_pos rfl, hentries, List.append_assoc, List.singleton_append]
        · rw [List.map_cons, List.map_cons, hbits, hb]
        · rw [hpc, State.slot, State.site_upd_self, Site.slot_enqueue, hm]
          split <;> rfl
      · obtain ⟨code, hcode⟩ := Option.ne_none_iff_exists'.mp hok
        have hcheck : ((s.readRuns k rs id).site k).pushCheck k n q b
            = ((((s.readRuns k rs id).site k).pushCheck k n q b).1, some code) := Prod.ext rfl hcode
        rw [State.pushEntry, hcheck] at h
        exact absurd h Bool.false_ne_true

/-- A QLOAD whose entries are all pushed goes on after them. -/
theorem State.doPush_of_pushed {s : State} {k : Nat} {n : Fin 4} {w : W32}
    (h : (s.pushEntries k n (qOf w) (s.slot k n).pc ((s.site k).entriesOf n w)).2 = true) : s.doPush k n w
      = ((s.pushEntries k n (qOf w) (s.slot k n).pc ((s.site k).entriesOf n w)).1.updSlot k n (fun x => x.unblock id)).latchOps k := by
  have hpair : s.pushEntries k n (qOf w) (s.slot k n).pc ((s.site k).entriesOf n w)
      = ((s.pushEntries k n (qOf w) (s.slot k n).pc ((s.site k).entriesOf n w)).1, true) := Prod.ext rfl h
  rw [State.doPush, hpair]

theorem Site.loadBits_issued (a : Site) (n : Fin 4) (q off count : Nat) : (a.issued n).loadBits n q off count = a.loadBits n q off count := by
  simp only [Site.loadBits, Site.homeAddr_issued]
  rfl

/-! ## The obligation on pushes -/

theorem not_ue_matrix {k : Nat} {q : Fin 4} (h : q = 0 → k < 65536) : ¬(65536 ≤ k ∧ q.val = 0) := fun ⟨hk, hq⟩ =>
  absurd (h (Fin.ext hq)) (Nat.not_lt.mpr hk)

/-- A QPUSH without a fault before its entry pushes it where it fits, and else blocks its slot. -/
theorem State.pushInstr_of_qpush {s : State} {k : Nat} {n : Fin 4} {w : W32} (hue : qOf w = 0 → k < 65536) (hop : ctlOpcode w = 0x28)
    (hcount : ctlCountM1 w = 0) (hregs : (ctlRs1 w).toNat % qRegs (qOf w).val = 0) : s.pushInstr k n w
      = if (s.site k).waitingIn (qOf w) + 1 ≤ queueDepth (qOf w).val then s.doPush k n w
        else s.updSlot k n (fun x => { x with st := .blocked, block := .queue w }) := by
  have hload : isQload w = false := by rw [isQload, hop]; rfl
  have hfault : (s.site k).qFault k n w = none := by
    simp only [Site.qFault, not_ue_matrix hue, hload, hcount, hregs, ne_eq, not_true_eq_false, or_self, if_false, Bool.false_eq_true]
  rw [State.pushInstr, hfault]
  simp only [Site.fits, qCount, hload, Bool.false_eq_true, if_false, decide_eq_true_eq]

theorem State.site_issued (s : State) (k : Nat) (n : Fin 4) : (s.updSite k (fun a => a.issued n)).site k = (s.site k).issued n :=
  State.site_upd_self s k _

theorem Slot.pushBits_with_line (x : Slot) (l : Option (Nat × List Byte)) (q : Nat) (rs : BitVec 5) :
    ({ x with line := l } : Slot).pushBits q rs = x.pushBits q rs := rfl

/-- Settles O11: the issue of a push changes nothing that its check or its entry is made of, and what is pushed joins its queue in
order. -/
theorem pushesAppendEntries : Obligations.PushesAppendEntries := by
  refine ⟨fun core n w s hue hcount hregs => ⟨fun hf hop hres => ⟨fun hfits hok => ?qpush, fun hfull => ?blocks⟩,
    fun hst hstop hblock hop hfits hok => ?resume⟩, fun core n w s off len hf hop hres hoff hlen hue halign hin hgood hfits hall => ?qload⟩
  case qpush =>
    let s' := s.updSite core.key (fun a => a.issued n)
    have hslot : s'.slot core.key n = { s.slot core.key n with line := some ((s.site core.key).lineOf n) } := State.slot_issued_self s _ n
    have hbits : (s'.slot core.key n).pushBits (qOf w).val (ctlRs1 w) = (s.slot core.key n).pushBits (qOf w).val (ctlRs1 w) := by
      rw [hslot]; rfl
    have hwait : (s'.site core.key).waitingIn (qOf w) = (s.site core.key).waitingIn (qOf w) := by rw [State.site_issued]; rfl
    have hok' : PushOk s' core.key n (qOf w) ((s'.slot core.key n).pushBits (qOf w).val (ctlRs1 w)) := by
      unfold PushOk
      rw [hbits, State.site_issued, Site.pushCheck_issued]
      exact hok
    have hexec : exec (.qpush core n) s = .next (s'.doPush core.key n w) := by
      refine congrArg Host.Outcome.next ((State.issue_of_fetches hf (by simp only [ctlDecode, hop, hres, if_true])).trans ?_)
      rw [State.pushInstr_of_qpush hue hop hcount hregs]
      exact if_pos (hwait ▸ hfits)
    rw [State.doPush_of_qpush hop hok'] at hexec
    obtain ⟨e, hentries, heb, hes, hepc, hephase, hpc, hst, -, hvl, hother⟩ :=
      s'.pushedOne_spec core.key n (qOf w) ((s'.slot core.key n).pushBits (qOf w).val (ctlRs1 w))
    have hkept : ∀ p, entries s' core.key p = entries s core.key p := fun p => by rw [entries, State.site_issued]; rfl
    refine ⟨_, e, hexec, ?_, heb.trans hbits, hes, ?_, hephase, ?_, hst, fun hq => ?_, fun q hq => (hother q hq).trans (hkept q)⟩
    · rw [hentries, hkept]
    · rw [hepc, hslot]
    · rw [hpc, hslot]
    · obtain ⟨hev, htv⟩ := hvl hq
      have hsame : (s'.slot core.key n).vl = (s.slot core.key n).vl := by rw [hslot]
      rw [hsame] at hev htv
      exact ⟨hev, htv⟩
  case blocks =>
    refine congrArg Host.Outcome.next ((State.issue_of_fetches hf (by simp only [ctlDecode, hop, hres, if_true])).trans ?_)
    rw [State.pushInstr_of_qpush hue hop hcount hregs, State.site_issued]
    exact if_neg (Nat.not_le.mpr hfull)
  case resume =>
    have hload : isQload w = false := by rw [isQload, hop]; rfl
    have hexec : exec (.queueSpaceResume core n) s = .next (s.doPush core.key n w) := by
      unfold State.slot at hst hstop hblock
      refine congrArg Host.Outcome.next ?_
      simp only [hst, hblock, hstop, Site.fits, qCount, hload, Bool.false_eq_true, if_false, decide_eq_true hfits, Bool.not_false, Bool.and_self,
        if_true]
    rw [State.doPush_of_qpush hop hok] at hexec
    obtain ⟨e, hentries, heb, -, -, -, hpc, hst, hnothing, hvl, -⟩ :=
      s.pushedOne_spec core.key n (qOf w) ((s.slot core.key n).pushBits (qOf w).val (ctlRs1 w))
    exact ⟨_, e, hexec, hentries, heb, hpc, hst, hnothing, hvl⟩
  case qload =>
    subst hoff hlen
    let s' := s.updSite core.key (fun a => a.issued n)
    have hload : isQload w = true := by rw [isQload, hop]; rfl
    have hslot : s'.slot core.key n = { s.slot core.key n with line := some ((s.site core.key).lineOf n) } := State.slot_issued_self s _ n
    have hreg : ((s'.site core.key).slots[n].reg (ctlRs1 w)).toNat = ((s.slot core.key n).reg (ctlRs1 w)).toNat := by
      show ((s'.slot core.key n).reg (ctlRs1 w)).toNat = _
      rw [hslot]; rfl
    have hfault : (s'.site core.key).qFault core.key n w = none := by
      simp only [Site.qFault, not_ue_matrix hue, hload, if_false, if_true, hreg, qCount]
      simp only [Site.homeAccess, halign, ne_eq, not_true_eq_false, if_false]
      rw [State.site_issued, Site.homeOf_issued]
      have hin' : ((s.site core.key).issued n).inWindow ((s.site core.key).homeOf n) ((s.slot core.key n).reg (ctlRs1 w)).toNat
          (entryBytes (qOf w).val * (ctlCountM1 w + 1)) = true := hin
      simp only [hin', Bool.not_true, Bool.false_eq_true, if_false]
    have hentries : (s'.site core.key).entriesOf n w
        = (s.site core.key).loadBits n (qOf w).val ((s.slot core.key n).reg (ctlRs1 w)).toNat (ctlCountM1 w + 1) := by
      simp only [Site.entriesOf, hload, if_true, hreg, qCount]
      rw [State.site_issued, Site.loadBits_issued]
    have hpc : (s'.slot core.key n).pc = (s.slot core.key n).pc := by rw [hslot]
    have hpush : (s'.pushEntries core.key n (qOf w) (s'.slot core.key n).pc ((s'.site core.key).entriesOf n w)).2 = true := by
      rw [hentries, hpc]
      exact hall
    have hexec : exec (.qload core n) s = .next (s'.doPush core.key n w) := by
      refine congrArg Host.Outcome.next ((State.issue_of_fetches hf (by simp only [ctlDecode, hop, hres, if_true])).trans ?_)
      rw [State.pushInstr, hfault]
      refine if_pos (decide_eq_true ?_)
      rw [State.site_issued, qCount, if_pos hload]
      exact hfits
    rw [State.doPush_of_pushed hpush] at hexec
    obtain ⟨added, hadd, hbits, hadded, hpc'⟩ := State.pushEntries_spec core.key n (qOf w) (s'.slot core.key n).pc _ s' hpush
    refine ⟨_, added, hexec, ?_, by rw [hbits, hentries], fun e he => ?_, ?_, ?_⟩
    · rw [State.entries_updSlot, hadd, entries, State.site_issued]; rfl
    · obtain ⟨h1, h2, h3⟩ := hadded e he
      exact ⟨h1, h2.trans hpc, h3⟩
    · rw [State.slot_updSlot_self, ← hpc]
      exact congrArg (· + 4) hpc'
    · rw [State.slot_updSlot_self]; rfl

/-! ## Completion (R35–R38, R83) -/

theorem Site.queue_updEntry (a : Site) (q : Fin 4) (id : Nat) (f : QEntry → QEntry) :
    (a.updEntry q id f).queues[q] = a.queues[q].map (fun x => if x.id = id then f x else x) :=
  Vector.getElem_set_self _

theorem map_updated_of_head {e : QEntry} {rest : List QEntry} (f : QEntry → QEntry) (h : ∀ x ∈ rest, x.id ≠ e.id) :
    (e :: rest).map (fun x => if x.id = e.id then f x else x) = f e :: rest := by
  rw [List.map_cons, if_pos rfl, List.map_congr_left (fun x hx => if_neg (h x hx)), List.map_id']

theorem drop_length_takeWhile {α : Type} (p : α → Bool) (l : List α) : l.drop (l.takeWhile p).length = l.dropWhile p := by
  conv => lhs; arg 2; rw [← List.takeWhile_append_dropWhile (p := p) (l := l)]
  exact List.drop_left

/-- A summary that its entry does not drop joins those of its slot. -/
def Slot.received (x : Slot) (e : QEntry) : Slot :=
  match e.summary with
  | some v => if e.dropSummary then x else { x with summaries := x.summaries ++ [v] }
  | none => x

/-- The unit after the oldest entry of queue q has completed. -/
def Site.completedHead (a : Site) (q : Fin 4) (e : QEntry) : Site :=
  ((a.updEntry q e.id (fun x => { x with phase := .complete })).deliver q e).countDone q

section
variable {a : Site} {q : Fin 4} {e : QEntry} {rest : List QEntry}

theorem Site.slot_completedHead (a : Site) (q : Fin 4) (e : QEntry) : (a.completedHead q e).slots[e.slot]
    = if q = 1 ∧ vOp e.bits = 1 then { (a.slots[e.slot].received e) with vlDone := BitVec.ofNat 7 (vField e.bits 32 7) }
      else a.slots[e.slot].received e :=
  (Site.slots_updSlot (a.updEntry q e.id (fun x => { x with phase := .complete })) e.slot e.slot (fun x => if q = 1 ∧ vOp e.bits = 1
    then { (x.received e) with vlDone := BitVec.ofNat 7 (vField e.bits 32 7) } else x.received e)).trans (if_pos rfl)

theorem Site.queue_completedHead (hq : a.queues[q] = e :: rest) (hids : ∀ x ∈ rest, x.id ≠ e.id) :
    (a.completedHead q e).queues[q] = rest.dropWhile (fun x => x.phase == .complete)
    ∧ (a.completedHead q e).qdone[q] = a.qdone[q] + BitVec.ofNat 32 (1 + (rest.takeWhile (fun x => x.phase == .complete)).length) := by
  have hqueue : ((a.updEntry q e.id (fun x => { x with phase := .complete })).deliver q e).queues[q]
      = { e with phase := .complete } :: rest := by
    show (a.updEntry q e.id (fun x => { x with phase := .complete })).queues[q] = _
    rw [Site.queue_updEntry, hq, map_updated_of_head _ hids]
  have htake : (({ e with phase := .complete } :: rest : List QEntry).takeWhile (fun x => x.phase == .complete)).length
      = 1 + (rest.takeWhile (fun x => x.phase == .complete)).length := by
    rw [List.takeWhile_cons_of_pos rfl, List.length_cons, Nat.add_comm]
  refine ⟨(Vector.getElem_set_self _).trans ?_, (Vector.getElem_set_self _).trans ?_⟩
  · rw [hqueue, drop_length_takeWhile]
    exact List.dropWhile_cons_of_pos rfl
  · rw [hqueue, htake]
    rfl

end

/-- Settles O12: the completed head, the completed entries behind it, and the entry of a hung engine. -/
theorem queueEntriesComplete : Obligations.QueueEntriesComplete := by
  refine ⟨fun core q s e rest hq hran hids => ?complete, fun core q s e he => ?hang⟩
  case complete =>
    have hfind : (s.site core.key).ranEntry q = some e := by
      rw [Site.ranEntry, show (s.site core.key).queues[q] = e :: rest from hq]
      exact List.find?_cons_of_pos (by rw [hran]; rfl)
    let s' := s.updSite core.key (fun a => a.completedHead q e)
    let t := s'.trace core.key (some 1) 2 (BitVec.ofNat 8 e.slot.val) (payload20 q.val (s'.site core.key).qdone[q].toNat)
    have hexec : exec (.queueEntryComplete core q) s = .next t :=
      congrArg Host.Outcome.next (by rw [hfind]; rfl)
    have hsite : ∃ trc, t.site core.key = { (s.site core.key).completedHead q e with trc := trc } := by
      obtain ⟨trc, h⟩ := s'.site_trace core.key (some 1) 2 (BitVec.ofNat 8 e.slot.val) (payload20 q.val (s'.site core.key).qdone[q].toNat)
        core.key
      exact ⟨trc, h.trans (by rw [State.site_upd_self])⟩
    obtain ⟨trc, hsite⟩ := hsite
    obtain ⟨hqueue, hdone⟩ := Site.queue_completedHead hq hids
    have hslot : t.slot core.key e.slot = _ := (congrArg (fun a : Site => a.slots[e.slot]) hsite).trans ((s.site core.key).slot_completedHead q e)
    refine ⟨t, hexec, ?_, ?_, fun v hv hdrop => ?_, fun hnone => ?_, ?_⟩
    · rw [entries, hsite]; exact hqueue
    · rw [hsite]; exact hdone
    · rw [hslot, Slot.received, hv, hdrop]
      split <;> rfl
    · rw [hslot, Slot.received, hnone]
      split <;> rfl
    · rw [hslot]
      refine (apply_ite Slot.vlDone _ _ _).trans (if_congr Iff.rfl rfl ?_)
      unfold Slot.received
      split
      · split <;> rfl
      · rfl
  case hang => exact congrArg Host.Outcome.next (by rw [he])

/-! ## CSRR and CSRW (R4, R29) -/

section
variable {s : State} {k : Nat} {n : Fin 4} {w : W32}

theorem State.csrr_of_aligned (h : (ctlImm w).toNat % 8 = 0) : s.csrr k n w
    = (Reg.readAt (csrReg (some n) k (ctlImm w).toNat) .whole s).2.updSlot k n
        (wrote (ctlRd w) (Reg.readAt (csrReg (some n) k (ctlImm w).toNat) .whole s).1) :=
  if_neg (not_not_intro h)

theorem State.csrw_of_aligned (h : (ctlImm w).toNat % 8 = 0) (hkick : (ctlImm w).toNat ≠ 0x3200) : s.csrw k n w
    = (Reg.writeAt (csrReg (some n) k (ctlImm w).toNat) .whole ((s.slot k n).reg (ctlRs1 w)) s).updSlot k n
        (fun x => if x.st = .faulted then x else { x with pc := x.pc + 4 }) := by
  refine (if_neg (not_not_intro h)).trans ?_
  rw [if_neg (fun hk => hkick hk.1)]
  rfl

end

/-- Settles O13: an aligned access passes its check, and reads or writes the register of its offset. -/
theorem controlRegisterAccess : Obligations.ControlRegisterAccess := by
  intro core n w s s' hf halign hs'
  have hcsrr : ctlOpcode w = 0x30 → exec (.csrr core n) s = .next (s'.csrr core.key n w) := fun hop => by
    subst hs'
    exact congrArg Host.Outcome.next (State.issue_of_fetches hf (by simp only [ctlDecode, hop]))
  have hcsrw : ctlOpcode w = 0x31 → exec (.csrw core n) s = .next (s'.csrw core.key n w) := fun hop => by
    subst hs'
    exact congrArg Host.Outcome.next (State.issue_of_fetches hf (by simp only [ctlDecode, hop]))
  have hreg : (s'.slot core.key n).reg (ctlRs1 w) = (s.slot core.key n).reg (ctlRs1 w) := by
    subst hs'
    rw [State.slot_issued_self]; rfl
  refine ⟨fun hop r hr => ?_, fun hop hr => ?_, fun hop hkick r hr => ?_, fun hop hkick hr => ?_⟩
  · rw [hcsrr hop, State.csrr_of_aligned halign, hr]; rfl
  · rw [hcsrr hop, State.csrr_of_aligned halign, hr]; rfl
  · rw [hcsrw hop, State.csrw_of_aligned halign hkick, hr, hreg]; rfl
  · rw [hcsrw hop, State.csrw_of_aligned halign hkick, hr]; rfl

end Sys2Proof.Machine
end

section
/-! PROOFS. Answers, PUTs and control messages that arrive at a unit, and what a site does for itself (R41, R45, R107, R108, R110, R114,
R130, R131, R152, R165, R181). -/

namespace Sys2Proof.Machine

open Sys2Proof.Claims

/-! ## A DMA request completed (R45) -/

/-- The unit whose DMA request r, of descriptor id of engine e, has its answer. -/
def Site.requestDone (a : Site) (r : Req) (e : Fin 2) (id : Nat) (status : BitVec 3) : Site :=
  ({ a with reqs := a.reqs.filter (fun q => q.tag != r.tag) } : Site).updEntry (dmaQueue e) id (fun x => x.answered status)

/-- The unit after the scratchpad's write port has taken a run of bytes. -/
def Site.tookRun (a : Site) (addr : Nat) (bs : List Byte) : Site := (a.countRuns [(addr, bs.length)]).putRuns [[(addr, bs)]]

section
variable {s : State} {k : Nat} {r : Req} {e : Fin 2} {id : Nat}

theorem State.finishReq_of_no_bytes (howner : r.owner = .dma e id) (status : BitVec 3) :
    s.finishReq k r status [] = s.updSite k (fun a => a.requestDone r e id status) := by
  unfold State.finishReq
  simp only [List.isEmpty_nil, Bool.not_true, Bool.and_false, Bool.false_eq_true, if_false, State.updSite_updSite]
  refine State.updSite_congr ?_
  rw [howner]
  rfl

theorem State.finishReq_of_bytes (howner : r.owner = .dma e id) (status : BitVec 3) {bs : List Byte} (hbs : bs ≠ [])
    (hgood : (s.site k).spad.badMerge [(r.dst, bs)] = none) :
    s.finishReq k r status bs = s.updSite k (fun a => (a.tookRun r.dst bs).requestDone r e id status) := by
  have hwrites : (r.writesBytes && !bs.isEmpty) = true := by
    rw [Req.writesBytes, howner, Bool.true_and, List.isEmpty_eq_false_iff.mpr hbs]; rfl
  unfold State.finishReq
  simp only [hwrites, if_true]
  rw [State.writeRun_of_good (by rw [State.site_upd_self]; exact hgood), State.updSite_updSite, State.updSite_updSite]
  refine State.updSite_congr ?_
  rw [howner]
  rfl

/-- A streamer without a kick issues nothing. -/
theorem State.streamPump_of_idle (h : (s.site k).ws.kicks = []) : s.streamPump k = s := by
  have hcur : (s.site k).ws.cur = none := by rw [Ws.cur, h]
  simp only [State.streamPump, hcur]

theorem Site.queue_requestDone (a : Site) (r : Req) (e : Fin 2) (id : Nat) (status : BitVec 3) : (a.requestDone r e id status).queues[dmaQueue e]
    = a.queues[dmaQueue e].map (fun x => if x.id = id then x.answered status else x) :=
  Site.queue_updEntry { a with reqs := a.reqs.filter (fun q => q.tag != r.tag) } (dmaQueue e) id (fun x => x.answered status)

/-- An update of unit k that ends in the completion of a request, with whatever of the scratchpad the answer has brought. -/
theorem State.updSite_requestDone {f : Site → Site} {t : State} {status : BitVec 3}
    (ht : t = s.updSite k (fun a => (f a).requestDone r e id status)) (hreqs : (f (s.site k)).reqs = (s.site k).reqs)
    (hqueues : (f (s.site k)).queues = (s.site k).queues) :
    (t.site k).spad = (f (s.site k)).spad ∧ (t.site k).arrived = (f (s.site k)).arrived
      ∧ (t.site k).reqs = (s.site k).reqs.filter (fun q => q.tag != r.tag)
      ∧ entries t k (dmaQueue e) = answeredEntries s k e id status := by
  have hsite : t.site k = (f (s.site k)).requestDone r e id status := by rw [ht, State.site_upd_self]
  refine ⟨by rw [hsite]; rfl, by rw [hsite]; rfl, by rw [hsite, ← hreqs]; rfl, ?_⟩
  rw [entries, hsite, Site.queue_requestDone, hqueues]
  rfl

end

theorem siteId_key_lt (x : SiteId) : x.key < 65536 := by
  have := x.w.isLt; have := x.y.isLt; have := x.x.isLt
  unfold SiteId.key
  omega

/-- The inbound write of a site that is made next is the first that arrived. -/
theorem State.nextInbound_site (s : State) (x : SiteId) : s.nextInbound (.site x) x.key = (s.site x.key).arrived.find? inboundWrite := by
  unfold State.nextInbound
  simp only [decide_eq_true (siteId_key_lt x), Bool.true_or, Bool.and_true]
  rfl

theorem contains_of_delivered {s : State} {n : Node} {p : Packet} {ty : BitVec 6} (h : Delivered s n p ty) : (s.arrivedAt n).contains p = true :=
  List.contains_iff_mem.mpr h.1

theorem delivered_of_first {s : State} {x : SiteId} {p : Packet} {ty : BitVec 6} (h : DeliveredFirst s x p ty) :
    Delivered s (.site x) p ty :=
  ⟨List.mem_of_find?_eq_some h.1, h.2⟩

/-! ## Answers -/

section
variable {s : State} {x : SiteId} {p : Packet} {r : Req} {e : Fin 2} {id : Nat}

/-- The arrival of a request's answer takes the packet and completes the request. -/
theorem State.answer_of_bytes (hkicks : (s.site x.key).ws.kicks = []) (howner : r.owner = .dma e id) (status : BitVec 3) {bs : List Byte}
    (hbs : bs ≠ []) (hgood : (s.site x.key).spad.badMerge [(r.dst, bs)] = none) :
    ((s.takeAt (.site x) p).finishReq x.key r status bs).streamPump x.key
      = s.updSite x.key (fun a => (({ a with arrived := a.arrived.erase p } : Site).tookRun r.dst bs).requestDone r e id status) := by
  have hfinish : (s.takeAt (.site x) p).finishReq x.key r status bs
      = s.updSite x.key (fun a => (({ a with arrived := a.arrived.erase p } : Site).tookRun r.dst bs).requestDone r e id status) := by
    rw [State.finishReq_of_bytes howner status hbs (by rw [State.takeAt, State.site_upd_self]; exact hgood), State.takeAt,
      State.updSite_updSite]
  rw [hfinish, State.streamPump_of_idle]
  rw [State.site_upd_self]
  exact hkicks

theorem State.answer_of_no_bytes (hkicks : (s.site x.key).ws.kicks = []) (howner : r.owner = .dma e id) (status : BitVec 3) :
    ((s.takeAt (.site x) p).finishReq x.key r status []).streamPump x.key
      = s.updSite x.key (fun a => ({ a with arrived := a.arrived.erase p } : Site).requestDone r e id status) := by
  rw [State.finishReq_of_no_bytes howner status, State.takeAt, State.updSite_updSite, State.streamPump_of_idle]
  rw [State.site_upd_self]
  exact hkicks

theorem exec_readRspArrive_of_first (h : DeliveredFirst s x p ptReadRsp) (hr : (s.site x.key).readFor p = some r) :
    exec (.readRspArrive (.site x) p) s
      = .next (((s.takeAt (.site x) p).finishReq x.key r (if p.poison then 3 else 0) (readBytes r p)).streamPump x.key) := by
  have hgo : (s.nextInbound (.site x) x.key == some p && p.ptype == ptReadRsp) = true := by
    rw [State.nextInbound_site, h.1, h.2]
    exact Bool.and_eq_true_iff.mpr ⟨beq_self_eq_true _, rfl⟩
  refine congrArg Host.Outcome.next ?_
  simp only [unitOf, hgo, if_true, hr]

theorem exec_ackArrive_of_delivered {ty : BitVec 6} (h : Delivered s (.site x) p ty) (hack : isAck ty = true) :
    exec (.ackArrive (.site x) p) s = .next (s.ackUnit (.site x) x.key p) := by
  have hgo : ((s.arrivedAt (.site x)).contains p && (isAck p.ptype || p.ptype == ptCtrlAck)) = true := by
    rw [contains_of_delivered h, h.2, hack]; rfl
  exact congrArg Host.Outcome.next (if_pos hgo)

theorem State.ackUnit_of_no_payload (hty : p.ptype ≠ ptAtomicRsp) (hpayload : p.payload = [])
    (hr : (s.site x.key).reqs.find? (fun q => q.tag == p.tag && q.ptype != ptReadReq) = some r) :
    s.ackUnit (.site x) x.key p = ((s.takeAt (.site x) p).finishReq x.key r (p.status.setWidth 3) []).streamPump x.key := by
  simp only [State.ackUnit, hty, false_and, if_false, hr, hpayload, statusOf]

theorem State.ackUnit_of_atomic (h : DeliveredFirst s x p ptAtomicRsp) (hpoison : p.poison = false)
    (hr : (s.site x.key).reqs.find? (fun q => q.tag == p.tag && q.ptype != ptReadReq) = some r) :
    s.ackUnit (.site x) x.key p = ((s.takeAt (.site x) p).finishReq x.key r (p.status.setWidth 3) p.payload).streamPump x.key := by
  have hnext : s.nextInbound (.site x) x.key = some p := by rw [State.nextInbound_site, h.1]
  simp only [State.ackUnit, hnext, ne_eq, not_true_eq_false, and_false, if_false, hr, hpoison, Bool.false_eq_true, false_and, statusOf]

theorem exec_completionArrive_of_delivered (h : Delivered s (.site x) p ptCompletion)
    (hr : (s.site x.key).reqs.find? (fun q => q.tag == p.tag) = some r) :
    exec (.completionArrive (.site x) p) s
      = .next (((s.takeAt (.site x) p).finishReq x.key r (p.status.setWidth 3) []).streamPump x.key) := by
  have hgo : ((s.arrivedAt (.site x)).contains p && p.ptype == ptCompletion) = true := by
    rw [contains_of_delivered h, h.2]; rfl
  refine congrArg Host.Outcome.next ((if_pos hgo).trans ?_)
  show s.completionUnit (.site x) x.key p = _
  simp only [State.completionUnit, hr, statusOf]

/-- What an answer with bytes leaves. -/
theorem State.site_answer_of_bytes {status : BitVec 3} {bs : List Byte} {t : State}
    (ht : t = s.updSite x.key (fun a => (({ a with arrived := a.arrived.erase p } : Site).tookRun r.dst bs).requestDone r e id status)) :
    Memory.read (t.site x.key).spad.mem r.dst bs.length = bs
      ∧ (∀ a, a < r.dst ∨ r.dst + bs.length ≤ a → Memory.get (t.site x.key).spad.mem a = Memory.get (s.site x.key).spad.mem a)
      ∧ (t.site x.key).reqs = (s.site x.key).reqs.filter (fun q => q.tag != r.tag)
      ∧ entries t x.key (dmaQueue e) = answeredEntries s x.key e id status
      ∧ (t.site x.key).arrived = (s.site x.key).arrived.erase p := by
  obtain ⟨hspad, harrived, hreqs, hentries⟩ := State.updSite_requestDone
    (f := fun a => ({ a with arrived := a.arrived.erase p } : Site).tookRun r.dst bs) ht rfl rfl
  have hmem : (t.site x.key).spad.mem = Memory.write (s.site x.key).spad.mem r.dst bs := by rw [hspad]; rfl
  refine ⟨?_, fun a ha => ?_, hreqs, hentries, harrived⟩
  · rw [hmem, Memory.read_write]
  · rw [hmem]
    exact Memory.get_write_out _ _ _ a ha

/-- What an answer without bytes leaves. -/
theorem State.site_answer_of_no_bytes {status : BitVec 3} {t : State}
    (ht : t = s.updSite x.key (fun a => ({ a with arrived := a.arrived.erase p } : Site).requestDone r e id status)) :
    (t.site x.key).spad = (s.site x.key).spad
      ∧ (t.site x.key).reqs = (s.site x.key).reqs.filter (fun q => q.tag != r.tag)
      ∧ entries t x.key (dmaQueue e) = answeredEntries s x.key e id status := by
  obtain ⟨hspad, -, hreqs, hentries⟩ := State.updSite_requestDone (f := fun a => { a with arrived := a.arrived.erase p }) ht rfl rfl
  exact ⟨hspad, hreqs, hentries⟩

end

/-- Settles O15: each answer finds its request, and completes it with the bytes that it brings or with none. -/
theorem answersCompleteRequests : Obligations.AnswersCompleteRequests := by
  refine ⟨fun x p s r e id hfirst hkicks hr howner hgood hbs => ?read, fun x p s r e id hkicks howner =>
    ⟨fun hdel hpayload hr => ?ack, fun hfirst hty hgood hbs hpoison hr => ?atomic, fun hdel hr => ?completion⟩⟩
  case read =>
    refine ⟨_, exec_readRspArrive_of_first hfirst hr, ?_⟩
    exact State.site_answer_of_bytes (State.answer_of_bytes hkicks howner _ hbs hgood)
  case ack =>
    have hexec : exec (.ackArrive (.site x) p) s = .next (s.ackUnit (.site x) x.key p) ∧ p.ptype ≠ ptAtomicRsp := by
      rcases hdel with h | h
      · exact ⟨exec_ackArrive_of_delivered h (by decide), by rw [h.2]; decide⟩
      · exact ⟨exec_ackArrive_of_delivered h (by decide), by rw [h.2]; decide⟩
    rw [State.ackUnit_of_no_payload hexec.2 hpayload hr] at hexec
    exact ⟨_, hexec.1, State.site_answer_of_no_bytes (State.answer_of_no_bytes hkicks howner _)⟩
  case atomic =>
    have hexec := exec_ackArrive_of_delivered (delivered_of_first hfirst) (by decide)
    rw [State.ackUnit_of_atomic hfirst hpoison hr] at hexec
    obtain ⟨hread, hkept, hreqs, hentries, -⟩ := State.site_answer_of_bytes (State.answer_of_bytes (p := p) hkicks howner (p.status.setWidth 3) hbs hgood)
    exact ⟨_, hexec, hread, hkept, hreqs, hentries⟩
  case completion =>
    exact ⟨_, exec_completionArrive_of_delivered hdel hr, State.site_answer_of_no_bytes (State.answer_of_no_bytes hkicks howner _)⟩

/-! ## The end of a descriptor (R45) -/

/-- The unit whose descriptor x of engine e has run, its status recorded. -/
def Site.descriptorRan (a : Site) (e : Fin 2) (x : QEntry) : Site :=
  { (a.updEntry (dmaQueue e) x.id (fun y => { y with phase := .ran })) with dma := a.dma.set e (a.dma[e].record x.dmaStatus (dTag x.bits)) }

theorem Site.dma_descriptorRan (a : Site) (e : Fin 2) (x : QEntry) : (a.descriptorRan e x).dma[e] = a.dma[e].record x.dmaStatus (dTag x.bits) :=
  Vector.getElem_set_self _

theorem DmaEng.errFault_record (d : DmaEng) (status : BitVec 3) (tag : Nat) : (d.record status tag).errFault = d.errFault := by
  unfold DmaEng.record
  split <;> rfl

/-- The engine keeps the first status that is not OK. -/
theorem DmaEng.status_record (d : DmaEng) (status : BitVec 3) (tag : Nat) :
    (d.record status tag).status = if d.status = 0 then status else d.status := by
  unfold DmaEng.record
  by_cases h : d.status = 0
  · rw [if_pos h]
    by_cases hs : status = 0
    · rw [if_neg (fun hn => hn.2 hs), h, hs]
    · rw [if_pos ⟨h, hs⟩]
  · rw [if_neg (fun hn => h hn.1), if_neg h]

theorem exec_dmaCompletion_of_ready {core : CoreId} {e : Fin 2} {s : State} {x : QEntry} (h : (s.site core.key).dmaReady e = some x) :
    exec (.dmaCompletion core e) s = .next (if x.dmaStatus ≠ 0 ∧ (s.site core.key).dma[e].errFault
      then (s.updSite core.key (fun a => a.descriptorRan e x)).taskFault core.key x.slot fcDmaError true x.pc
      else s.updSite core.key (fun a => a.descriptorRan e x)) := by
  refine congrArg Host.Outcome.next ?_
  rw [h]
  have herr : ((s.updSite core.key (fun a => a.descriptorRan e x)).site core.key).dma[e].errFault = (s.site core.key).dma[e].errFault := by
    rw [State.site_upd_self, Site.dma_descriptorRan, DmaEng.errFault_record]
  rw [← herr]
  rfl

/-- Settles O16: the descriptor has run either way, and with ERR_FAULT a status that is not OK is a task fault. -/
theorem descriptorsComplete : Obligations.DescriptorsComplete := by
  intro core e s x hready
  have hexec := exec_dmaCompletion_of_ready hready
  refine ⟨fun h => ⟨s.updSite core.key (fun a => a.descriptorRan e x), ?_, ?_, ?_, fun n => ?_⟩, fun hst herr => ?_⟩
  · rw [hexec, if_neg]
    rintro ⟨hst, herr⟩
    exact h.elim hst (fun hf => by rw [hf] at herr; exact Bool.false_ne_true herr)
  · rw [entries, State.site_upd_self]
    exact Site.queue_updEntry (s.site core.key) (dmaQueue e) x.id _
  · rw [State.site_upd_self, Site.dma_descriptorRan, DmaEng.status_record]
  · rw [State.slot, State.site_upd_self]; rfl
  · rw [hexec, if_pos ⟨hst, herr⟩]
    rfl

/-! ## PUTs and control messages (R41, R108, R110, R165) -/

theorem exec_putArrive_of_first {s : State} {x : SiteId} {p : Packet} (h : DeliveredFirst s x p ptPut) :
    let w := BitVec.ofNat 3 (bitsOf p.addr.toNat 23 3)
    let off := bitsOf p.addr.toNat 0 23
    let s' := s.updSite x.key (fun a => { a with arrived := a.arrived.erase p })
    exec (.putArrive x p) s = .next (
      if p.poison then s'.sendFrom x.key (p.answer ptPutAck stPoison [] false)
      else if (vget {} (s.site x.key).spad.win w.toNat).remoteEn && (s.site x.key).inWindow w off p.payload.length then
        (s'.writeRun x.key ((s.site x.key).winBase w + off) p.payload).sendFrom x.key (p.answer ptPutAck stOk [] false)
      else s'.sendFrom x.key (p.answer ptPutAck stOutOfWindow [] false)) := by
  have hgo : ((s.site x.key).arrived.find? inboundWrite == some p && p.ptype == ptPut) = true := by
    rw [h.1, h.2]
    exact Bool.and_eq_true_iff.mpr ⟨beq_self_eq_true _, rfl⟩
  exact congrArg Host.Outcome.next (if_pos hgo)

theorem exec_ctrlMsgArrive_of_delivered {s : State} {node : Node} {p : Packet} (h : Delivered s node p ptCtrlMsg) :
    exec (.ctrlMsgArrive node p) s = .next (if ((s.takeAt node p).inboxOf node).length < 16
      then ((s.takeAt node p).addInbox node p).sendNode node (p.answer ptCtrlAck stOk [] false)
      else (s.takeAt node p).sendNode node (p.answer ptCtrlAck stBusy [] false)) := by
  have hgo : ((s.arrivedAt node).contains p && p.ptype == ptCtrlMsg) = true := by rw [contains_of_delivered h, h.2]; rfl
  exact congrArg Host.Outcome.next (if_pos hgo)

/-- Settles O17: a PUT is written, refused or dropped by its poison and its window, and a message enters the inbox that has room. -/
theorem putsAndControlMessagesArrive : Obligations.PutsAndControlMessagesArrive := by
  refine ⟨fun x p s s' w off hfirst hw hoff hs' => ?put, fun node p s hdel => ?message⟩
  case put =>
    have hexec := exec_putArrive_of_first hfirst
    dsimp only at hexec
    rw [← hw, ← hoff, ← hs'] at hexec
    rw [hexec]
    refine ⟨fun hpoison hremote hin hgood => ?_, fun hpoison hno => ?_, fun hpoison => ?_⟩
    · have hgood' : (s'.site x.key).spad.badMerge [((s.site x.key).winBase w + off, p.payload)] = none := by
        rw [hs', State.site_upd_self]; exact hgood
      simp only [hpoison, hremote, hin, Bool.and_self, Bool.false_eq_true, if_false, if_true]
      rw [State.writeRun_of_good hgood', moved, State.updSite_updSite]
    · have hrefused : ((vget {} (s.site x.key).spad.win w.toNat).remoteEn && (s.site x.key).inWindow w off p.payload.length) = false :=
        Bool.and_eq_false_iff.mpr hno
      simp only [hpoison, hrefused, Bool.false_eq_true, if_false]
    · simp only [hpoison, if_true]
  case message =>
    rw [exec_ctrlMsgArrive_of_delivered hdel]
    exact ⟨fun hroom => by rw [if_pos hroom], fun hfull => by rw [if_neg (Nat.not_lt.mpr hfull)]⟩

/-! ## What a site does for itself (R107, R114, R130, R131) -/

theorem Noise.seed_eq (n : Noise) (v : W64) : n.seed v = { n with
    s0 := (if v = 0 then 0x5a5a5a5a5a5a5a5a else v) ++ (if v = 0 then 0x5a5a5a5a5a5a5a5a else v)
    s1 := ~~~((if v = 0 then 0x5a5a5a5a5a5a5a5a else v) ++ (if v = 0 then 0x5a5a5a5a5a5a5a5a else v)), autoOff := true } := by
  rw [Noise.seed, repeat64, repeat64, BitVec.not_append]

/-- A reseed changes the two streams of its unit alone. -/
theorem State.site_reseed (s : State) (k : Nat) :
    ∃ s0 s1, (s.reseed k).site k = { s.site k with noise := { (s.site k).noise with s0 := s0, s1 := s1 } } := by
  unfold State.reseed
  split
  · exact ⟨_, _, rfl⟩
  · exact ⟨_, _, State.site_upd_self s.draw.2.draw.2.draw.2.draw.2 k _⟩

theorem Spad.grantAged_of_aged {m : Spad} {waits : List Nat} (h : ∃ w ∈ waits, m.age.toNat ≤ w) :
    m.grantAged waits = { m with agePromote := satAdd m.agePromote 1 } := by
  obtain ⟨w, hw, hle⟩ := h
  exact if_pos (List.any_eq_true.mpr ⟨w, hw, decide_eq_true hle⟩)

theorem Spad.grantAged_of_young {m : Spad} {waits : List Nat} (h : ∀ w ∈ waits, w < m.age.toNat) : m.grantAged waits = m := by
  refine if_neg fun hany => ?_
  obtain ⟨w, hw, hle⟩ := List.any_eq_true.mp hany
  exact absurd (h w hw) (Nat.not_lt.mpr (of_decide_eq_true hle))

/-- Settles O18: each event changes the one register or count that it names. -/
theorem siteHousekeeping : Obligations.SiteHousekeeping := by
  refine ⟨fun x v s => ?seed, fun x s => ?reseed, fun x s => ⟨fun h => ?off, fun h => ?auto⟩, fun _ _ => rfl, fun _ _ => rfl,
    fun core waits s hpower hasks => ?grant⟩
  case seed =>
    refine congrArg Host.Outcome.next (State.updSite_congr ?_)
    rw [Noise.seed_eq]
  case reseed =>
    obtain ⟨s0, s1, hsite⟩ := s.site_reseed x.key
    refine ⟨_, rfl, ?_⟩
    rw [State.noiseReseed, State.site_upd_self, hsite]
    exact ⟨rfl, rfl, rfl⟩
  case off => exact congrArg Host.Outcome.next (if_pos h)
  case auto => exact congrArg Host.Outcome.next (if_neg (by rw [h]; exact Bool.false_ne_true))
  case grant =>
    have hexec : exec (.spadAgeGrant ⟨core, waits⟩) s
        = .next (s.updSite core.key (fun a => { a with spad := a.spad.grantAged waits })) :=
      congrArg Host.Outcome.next (if_pos (Bool.and_eq_true_iff.mpr ⟨hpower, hasks⟩))
    rw [hexec]
    refine ⟨fun haged => congrArg Host.Outcome.next (State.updSite_congr ?_), fun hyoung => congrArg Host.Outcome.next (State.updSite_congr ?_)⟩
    · rw [Spad.grantAged_of_aged haged]
    · rw [Spad.grantAged_of_young hyoung]

end Sys2Proof.Machine
end

section
/-! PROOFS. The matrix engine: MMA, ZERO, LDTAB, drains and their operands (R53–R78). -/

namespace Sys2Proof.Machine

open Sys2Proof.Claims

/-! ## Accumulator tiles -/

/-- Element (r, c) of a tile, where accumulator tile t is replaced whole. -/
theorem Mx.accGet_setAccTile (m : Mx) (t : Nat) {ws : List W32} (hws : ws.length = 4096) {r c : Nat} (hr : r < 64) (hc : c < 64) (i : Nat) :
    (m.setAccTile t ws).accGet i r c = if i = t then ws.getD (64 * r + c) 0 else m.accGet i r c := by
  unfold Mx.accGet Mx.setAccTile
  split
  case isTrue h =>
    subst h
    rw [Nat.add_assoc]
    exact Sparse.get_write_in 0 _ _ ws _ (by omega)
  case isFalse h => exact Sparse.get_write_out 0 _ _ ws _ (by omega)

theorem getD_toArray {α : Type} (l : List α) (i : Nat) (d : α) : l.toArray.getD i d = l.getD i d := by
  simp [Array.getD_eq_getD_getElem?]

theorem Mx.getD_accTile (m : Mx) (t : Nat) {r c : Nat} (hr : r < 64) (hc : c < 64) : (m.accTile t).getD (64 * r + c) 0 = m.accGet t r c := by
  rw [Mx.accTile, getD_toArray, Sparse.getD_read 0 _ _ _ _ (by omega), Mx.accGet, Nat.add_assoc]

theorem getD_matOf {α : Type} (f : Nat → Nat → α) (z : α) {i j : Nat} (hi : i < 64) (hj : j < 64) : (matOf f).getD (64 * i + j) z = f i j := by
  have hlt : 64 * i + j < 4096 := by omega
  have hdiv : (64 * i + j) / 64 = i := by omega
  have hmod : (64 * i + j) % 64 = j := by omega
  rw [matOf, getD_toArray, List.getD_eq_getElem?_getD, List.getElem?_map, List.getElem?_range hlt, Option.map_some, Option.getD_some,
    hdiv, hmod]

/-- A column sum reads row m of its first matrix and column n of its second. -/
theorem colSum_matOf (f g : Nat → Nat → Fp) {m n : Nat} (hm : m < 64) (hn : n < 64) : colSum (matOf f) (matOf g) m n
    = (List.range 63).foldl (fun z k => f32Add z (toF32 ((f m (k + 1)).mul (g (k + 1) n)))) (toF32 ((f m 0).mul (g 0 n))) := by
  have hprod : ∀ k, k < 64 → toF32 (((matOf f).getD (64 * m + k) .zero).mul ((matOf g).getD (64 * k + n) .zero))
      = toF32 ((f m k).mul (g k n)) := fun k hk => by rw [getD_matOf f _ hm hk, getD_matOf g _ hk hn]
  show (List.range 63).foldl (fun z k => f32Add z (toF32 (((matOf f).getD (64 * m + (k + 1)) .zero).mul ((matOf g).getD (64 * (k + 1) + n) .zero))))
    (toF32 (((matOf f).getD (64 * m + 0) .zero).mul ((matOf g).getD (64 * 0 + n) .zero))) = _
  rw [hprod 0 (by decide)]
  exact List.foldl_ext _ _ _ fun z k hk => by rw [hprod (k + 1) (by have := List.mem_range.mp hk; omega)]

theorem colSumInt_matOf (f g : Nat → Nat → Int) {m n : Nat} (hm : m < 64) (hn : n < 64) : colSumInt (matOf f) (matOf g) m n
    = ((List.range 64).map (fun k => f m k * g k n)).sum := by
  unfold colSumInt
  rw [List.sum_eq_foldl, List.foldl_map]
  exact List.foldl_ext _ _ _ fun z k hk => by
    rw [getD_matOf f _ hm (List.mem_range.mp hk), getD_matOf g _ (List.mem_range.mp hk) hn]

/-- An INT32 accumulation that wraps. -/
theorem accInt_wraps (c : W32) (sum : Int) : (accInt false c sum).1 = BitVec.ofInt 32 (c.toInt + sum) := by
  unfold accInt
  dsimp only
  split <;> rfl

theorem intOverflows_iff (i : Int) : intOverflows 32 i = true ↔ i < -2 ^ 31 ∨ 2 ^ 31 ≤ i := by
  simp [intOverflows]

/-- An INT32 accumulation that saturates. -/
theorem accInt_clamps (c : W32) (sum : Int) : (accInt true c sum).1.toInt = max (-2 ^ 31) (min (2 ^ 31 - 1) (c.toInt + sum)) := by
  unfold accInt
  dsimp only
  generalize c.toInt + sum = i
  by_cases hover : intOverflows 32 i = true
  · rw [if_pos hover, if_pos rfl]
    rcases (intOverflows_iff i).mp hover with hlow | hhigh
    · rw [if_pos (by omega), show BitVec.toInt (0x80000000 : W32) = -2 ^ 31 by decide]
      omega
    · rw [if_neg (by omega), show BitVec.toInt (0x7fffffff : W32) = 2 ^ 31 - 1 by decide]
      omega
  · rw [if_neg hover, BitVec.toInt_ofInt]
    rw [intOverflows_iff, not_or] at hover
    rw [Int.bmod_eq_of_le (by omega) (by omega)]
    omega

/-! ## The command at the head -/

section
variable {s : State} {k op : Nat} {e : QEntry}

theorem Site.drainOpen_of_next (h : NextMatrix s k e op) (p : QEntry → Bool) : (s.site k).drainOpen p = false := by
  obtain ⟨-, -, hnone, -⟩ := h
  refine List.any_eq_false.mpr fun x hx => ?_
  rw [beq_eq_false_iff_ne.mpr (hnone x hx)]
  exact Bool.false_ne_true

/-- The next matrix command runs, and a draining command that has come to the head then reads its operands. -/
theorem State.mxStart_of_next {may : Site → QEntry → Bool} {run : State → QEntry → State} (h : NextMatrix s k e op)
    (hmay : may (s.site k) e = true) :
    s.mxStart k op may run = (run (s.updSite k (fun a => a.countRuns (mxStartReads a e))) e).latchOps k := by
  obtain ⟨hhead, hop, -, hgood⟩ := h
  unfold State.mxStart
  rw [hhead]
  exact (if_pos ⟨hop, hmay⟩).trans (by rw [State.readChecked_of_good hgood])

/-- An entry of queue q is replaced in a unit whose queues were as before. -/
theorem State.entryNow_setEntry {t : State} {b : Site} {q : Fin 4} {e' : QEntry} (ht : t.site k = b.setEntry q e') (hid : e'.id = e.id)
    (hqueues : b.queues = (s.site k).queues) : entryNow s t k q e e' := by
  refine ⟨?_, fun p hp => ?_⟩
  · rw [entries, ht]
    refine (getElem_set_fin b.queues q q _).trans ?_
    rw [if_pos rfl, hqueues, hid]
    rfl
  · rw [entries, ht]
    refine (getElem_set_fin b.queues q p _).trans ?_
    rw [if_neg hp, hqueues]
    rfl

theorem mxStartReads_of_not_ldtab {a : Site} (h : mxOp e.bits ≠ 4) : mxStartReads a e = [] := if_neg h

/-- A command that reads nothing but tiles starts from the state as it is. -/
theorem State.updSite_countStart (h : mxOp e.bits ≠ 4) : s.updSite k (fun a => a.countRuns (mxStartReads a e)) = s.updSite k (fun a => a) :=
  State.updSite_congr (by rw [mxStartReads_of_not_ldtab h, Site.countRuns_nil])

/-! ## MMA (R54–R58, R64, R75) -/

/-- The unit after the next K-step of MMA e. -/
def Site.mmaStep (a : Site) (e : QEntry) : Site := ((a.mmaConflicts (a.holdTiles e)).runMma (a.holdTiles e)).setEntry 0 (a.holdTiles e).stepped

theorem exec_mma_of_next {x : SiteId} (h : NextMatrix s x.key e 1) :
    exec (.mma x) s = .next ((s.updSite x.key (fun a => a.mmaStep e)).latchOps x.key) := by
  refine congrArg Host.Outcome.next ((State.mxStart_of_next h ?_).trans ?_)
  · rw [Site.drainOpen_of_next h, Bool.not_false, Bool.or_true]
  · rw [State.updSite_countStart (by rw [h.2.1]; decide), State.updSite_updSite]
    rfl

/-- The tiles that the K-step uses are those of the statement: an MXFP4 tile that it reads is held from then on. -/
theorem Site.operandA_holdTiles (s : State) (k : Nat) (e : QEntry) :
    ((s.site k).mmaConflicts ((s.site k).holdTiles e)).operandA ((s.site k).holdTiles e) = tileA s k e := by
  unfold Site.operandA tileA
  by_cases h9 : mxAfmt e.bits = 9
  · rw [if_pos (show mxAfmt ((s.site k).holdTiles e).bits = 9 from h9)]
    by_cases hodd : e.row % 2 = 1
    · rw [if_pos ⟨h9, hodd⟩]
      simp only [Site.holdTiles, h9, hodd, one_ne_zero, and_false, if_false]
    · have heven : e.row % 2 = 0 := by omega
      rw [if_neg (fun h => hodd h.2)]
      simp only [Site.holdTiles, h9, heven, and_self, if_true, Site.addrA, Site.operandAt, stepTile]
      rfl
  · rw [if_neg (show ¬mxAfmt ((s.site k).holdTiles e).bits = 9 from h9), if_neg (fun h => h9 h.1)]
    rfl

theorem Site.operandB_holdTiles (s : State) (k : Nat) (e : QEntry) :
    ((s.site k).mmaConflicts ((s.site k).holdTiles e)).operandB ((s.site k).holdTiles e) = tileB s k e := by
  unfold Site.operandB tileB
  by_cases h9 : mxBfmt e.bits = 9
  · rw [if_pos (show mxBfmt ((s.site k).holdTiles e).bits = 9 from h9)]
    by_cases hodd : e.row % 2 = 1
    · rw [if_pos ⟨h9, hodd⟩]
      simp only [Site.holdTiles, h9, hodd, one_ne_zero, and_false, if_false]
    · have heven : e.row % 2 = 0 := by omega
      rw [if_neg (fun h => hodd h.2)]
      simp only [Site.holdTiles, h9, heven, and_self, if_true, Site.addrB, Site.operandAt, stepTile]
      rfl
  · rw [if_neg (show ¬mxBfmt ((s.site k).holdTiles e).bits = 9 from h9), if_neg (fun h => h9 h.1)]
    rfl

theorem Site.length_kstep (a : Site) (e : QEntry) (anew : Bool) (c : Array W32) : (a.kstep e anew c).1.toList.length = 4096 := by
  unfold Site.kstep
  by_cases hfmt : mxAfmt e.bits = 10
  · simp only [hfmt, if_true, List.length_map, List.length_range]
  · simp only [hfmt, if_false, List.length_map, List.length_range]

/-- Element (m, n) of a K-step that is not of INT8 operands. -/
theorem Site.getD_kstep_float {a : Site} {e : QEntry} (hfmt : mxAfmt e.bits ≠ 10) (anew : Bool) (c : Array W32) {m n : Nat} (hm : m < 64)
    (hn : n < 64) : (a.kstep e anew c).1.toList.getD (64 * m + n) 0
      = (let p := colSum (matOf (opA (a.operandA e) (mxAori e.bits) (stepSub (mxAfmt e.bits) e.row)))
          (matOf (opB (a.operandB e) (mxBori e.bits) (stepSub (mxBfmt e.bits) e.row))) m n
        if anew then p else f32Add (c.getD (64 * m + n) 0) p) := by
  have hlt : 64 * m + n < 4096 := by omega
  have hdiv : (64 * m + n) / 64 = m := by omega
  have hmod : (64 * m + n) % 64 = n := by omega
  unfold Site.kstep
  simp only [hfmt, if_false]
  rw [List.getD_eq_getElem?_getD, List.getElem?_map, List.getElem?_range hlt, Option.map_some, Option.getD_some, hdiv, hmod]
  rfl

/-- Element (m, n) of a K-step of INT8 operands. -/
theorem Site.getD_kstep_int {a : Site} {e : QEntry} (hfmt : mxAfmt e.bits = 10) (anew : Bool) (c : Array W32) {m n : Nat} (hm : m < 64)
    (hn : n < 64) : (a.kstep e anew c).1.toList.getD (64 * m + n) 0
      = (accInt a.mx.intSat (if anew then 0 else c.getD (64 * m + n) 0)
          (colSumInt (matOf (fun m k => if mxAori e.bits then (a.operandA e).int8 k m else (a.operandA e).int8 m k))
            (matOf (fun k n => if mxBori e.bits then (a.operandB e).int8 n k else (a.operandB e).int8 k n)) m n)).1 := by
  have hlt : 64 * m + n < 4096 := by omega
  have hdiv : (64 * m + n) / 64 = m := by omega
  have hmod : (64 * m + n) % 64 = n := by omega
  unfold Site.kstep
  simp only [hfmt, if_true]
  rw [List.map_map, List.getD_eq_getElem?_getD, List.getElem?_map, List.getElem?_range hlt, Option.map_some, Option.getD_some]
  simp only [Function.comp, hdiv, hmod]

end

/-- Element (m, n) of tile i of the unit after a K-step. -/
theorem Site.accGet_mmaStep (a : Site) (e : QEntry) {m n : Nat} (hm : m < 64) (hn : n < 64) (i : Nat) : (a.mmaStep e).mx.accGet i m n
    = if i = mxAcc e.bits then
        ((a.mmaConflicts (a.holdTiles e)).kstep (a.holdTiles e) (mxAccop e.bits == 0 && e.row == 0) (a.mx.accTile (mxAcc e.bits))).1.toList.getD
          (64 * m + n) 0
      else a.mx.accGet i m n :=
  Mx.accGet_setAccTile a.mx (mxAcc e.bits)
    ((a.mmaConflicts (a.holdTiles e)).length_kstep (a.holdTiles e) (mxAccop e.bits == 0 && e.row == 0) (a.mx.accTile (mxAcc e.bits))) hm hn i

/-- The condition of an overwriting MMA's first K-step. -/
theorem ite_overwrites {α : Type} (e : QEntry) (x y : α) :
    (if (mxAccop e.bits == 0 && e.row == 0) = true then x else y) = if mxAccop e.bits = 0 ∧ e.row = 0 then x else y := by
  simp only [Bool.and_eq_true, beq_iff_eq]

/-- Settles O19: a K-step is the column sums of its two tiles, added to the accumulator or written over it. -/
theorem mmaComputesItsTile : Obligations.MmaComputesItsTile := by
  intro x s e h
  let t := s.updSite x.key (fun a => a.mmaStep e)
  have hsite : t.site x.key = (s.site x.key).mmaStep e := State.site_upd_self s _ _
  have hacc : ∀ i m n, m < 64 → n < 64 → accAt t x.key i m n = _ := fun i m n hm hn =>
    (congrArg (fun a : Site => a.mx.accGet i m n) hsite).trans ((s.site x.key).accGet_mmaStep e hm hn i)
  refine ⟨t, exec_mma_of_next h, fun hfmt m n hm hn => ?float, fun hfmt m n hm hn v hv => ?int, fun i m n hi hm hn => ?others, ?entry, ?mem, ?vx⟩
  case float =>
    rw [hacc _ _ _ hm hn, if_pos rfl]
    refine (Site.getD_kstep_float (e := (s.site x.key).holdTiles e) hfmt _ _ hm hn).trans ?_
    rw [Mx.getD_accTile _ _ hm hn, Site.operandA_holdTiles, Site.operandB_holdTiles]
    dsimp only
    rw [colSum_matOf _ _ hm hn, ite_overwrites]
    rfl
  case int =>
    have hsum : (if mxAccop e.bits = 0 ∧ e.row = 0 then 0 else accAt s x.key (mxAcc e.bits) m n).toInt
        = if mxAccop e.bits = 0 ∧ e.row = 0 then 0 else (accAt s x.key (mxAcc e.bits) m n).toInt := by
      split <;> rfl
    have helem : accAt t x.key (mxAcc e.bits) m n = (accInt (s.site x.key).mx.intSat
        (if mxAccop e.bits = 0 ∧ e.row = 0 then 0 else accAt s x.key (mxAcc e.bits) m n)
        ((List.range 64).map (fun k => (if mxAori e.bits then (tileA s x.key e).int8 k m else (tileA s x.key e).int8 m k)
          * (if mxBori e.bits then (tileB s x.key e).int8 n k else (tileB s x.key e).int8 k n))).sum).1 := by
      rw [hacc _ _ _ hm hn, if_pos rfl]
      refine (Site.getD_kstep_int (e := (s.site x.key).holdTiles e) hfmt _ _ hm hn).trans ?_
      rw [Mx.getD_accTile _ _ hm hn, Site.operandA_holdTiles, Site.operandB_holdTiles, colSumInt_matOf _ _ hm hn, ite_overwrites]
      rfl
    refine ⟨fun hsat => ?_, fun hsat => ?_⟩
    · rw [helem, hsat, accInt_wraps, hsum, ← hv]
    · rw [helem, hsat, accInt_clamps, hsum, ← hv]
  case others => rw [hacc _ _ _ hm hn, if_neg hi]; rfl
  case entry => exact State.entryNow_setEntry hsite rfl rfl
  case mem => rw [hsite]; rfl
  case vx => rw [hsite]; rfl

/-! ## ZERO and LDTAB (R61, R69) -/

section
variable {s : State} {k : Nat} {e : QEntry} {x : SiteId}

/-- The unit after ZERO e. -/
def Site.zeroed (a : Site) (e : QEntry) : Site :=
  ({ a with mx := { a.mx with acc := Sparse.clear a.mx.acc (4096 * mxAcc e.bits) (4096 * mxKsteps e.bits), curAcc := BitVec.ofNat 6 (mxAcc e.bits) } }
    : Site).setEntry 0 { e with phase := .ran }

theorem exec_zero_of_next (h : NextMatrix s x.key e 3) :
    exec (.zero x) s = .next ((s.updSite x.key (fun a => a.zeroed e)).latchOps x.key) := by
  refine congrArg Host.Outcome.next ((State.mxStart_of_next h ?_).trans ?_)
  · rw [Site.drainOpen_of_next h, Bool.not_false]
  · rw [State.updSite_countStart (by rw [h.2.1]; decide), State.updSite_updSite]
    rfl

theorem Site.accGet_zeroed (a : Site) (e : QEntry) (i : Nat) {r c : Nat} (hr : r < 64) (hc : c < 64) : (a.zeroed e).mx.accGet i r c
    = if mxAcc e.bits ≤ i ∧ i < mxAcc e.bits + mxKsteps e.bits then 0 else a.mx.accGet i r c := by
  refine (Sparse.get_clear 0 a.mx.acc _ _ _).trans (if_congr ?_ rfl rfl)
  omega

/-- The words of the table image that an LDTAB reads. -/
def Site.tableWords (a : Site) (e : QEntry) : List W32 := (a.words (a.homeAddr e.slot (64 * mxAaddr e.bits)) 4 528).map (BitVec.ofNat 32)

/-- The unit after LDTAB e. -/
def Site.tableLoaded (a : Site) (e : QEntry) : Site :=
  ({ a with mx := { a.mx with tables := Sparse.write 0 a.mx.tables (1024 * (mxAcc e.bits % 2)) (a.tableWords e) } } : Site).setEntry 0
    { e with phase := .ran }

theorem exec_ldtab_of_next (h : NextMatrix s x.key e 4) : exec (.ldtab x) s
    = .next ((s.updSite x.key (fun a => (a.countRuns (mxStartReads a e)).tableLoaded e)).latchOps x.key) := by
  refine congrArg Host.Outcome.next ((State.mxStart_of_next h ?_).trans ?_)
  · rw [Site.drainOpen_of_next h, Bool.not_false]
  · rw [State.updSite_updSite]
    rfl

theorem Site.length_tableWords (a : Site) (e : QEntry) : (a.tableWords e).length = 528 := by
  simp [Site.tableWords, Site.words]

theorem Site.getD_tableWords (a : Site) (e : QEntry) {i : Nat} (hi : i < 528) : (a.tableWords e).getD i 0
    = BitVec.ofNat 32 (leNat (Memory.read a.spad.mem (a.homeAddr e.slot (64 * mxAaddr e.bits) + 4 * i) 4)) := by
  rw [Site.tableWords, Site.words, List.map_map, List.getD_eq_getElem?_getD, List.getElem?_map, List.getElem?_range hi, Option.map_some,
    Option.getD_some]
  rfl

theorem Site.get_tableLoaded (a : Site) (e : QEntry) {i : Nat} (hi : i < 528) :
    Sparse.get 0 (a.tableLoaded e).mx.tables (1024 * (mxAcc e.bits % 2) + i)
      = BitVec.ofNat 32 (leNat (Memory.read a.spad.mem (a.homeAddr e.slot (64 * mxAaddr e.bits) + 4 * i) 4)) :=
  (Sparse.get_write_in 0 a.mx.tables _ _ i (by rw [Site.length_tableWords]; exact hi)).trans (a.getD_tableWords e hi)

/-! ## Drains (R66–R73, R78) -/

/-- What write accesses leave of the bytes. -/
theorem Site.mem_putRuns (a : Site) (accs : List WriteRuns) :
    (a.putRuns accs).spad.mem = accs.flatten.foldl (fun m r => Memory.write m r.1 r.2) a.spad.mem := by
  show (accs.foldl Spad.writeRuns a.spad).mem = _
  generalize a.spad = m
  induction accs generalizing m with
  | nil => rfl
  | cons ws accs ih =>
    rw [List.foldl_cons, ih, List.flatten_cons, List.foldl_append]
    rfl

/-- The state after a drain whose writes merge with no uncorrectable word. -/
theorem State.drainEntry_of_good {clear : Bool} {d : Site × List WriteRuns}
    (hd : (s.site k).drainTile e (mxAcc e.bits) (mxDaddr e.bits) clear = d) (hgood : d.1.spad.badMerges d.2 = none) :
    s.drainEntry k e clear = (s.setSite k (d.1.setEntry 0 { e with phase := .ran })).updSite k (fun a => a.putRuns d.2) := by
  subst hd
  exact State.writeChecked_of_good (by rw [State.site_set_self]; exact hgood)

/-- The unit after such a drain. -/
theorem State.site_drainEntry {clear : Bool} {d : Site × List WriteRuns}
    (hd : (s.site k).drainTile e (mxAcc e.bits) (mxDaddr e.bits) clear = d) (hgood : d.1.spad.badMerges d.2 = none) :
    (s.drainEntry k e clear).site k = (d.1.putRuns d.2).setEntry 0 { e with phase := .ran } := by
  rw [State.drainEntry_of_good hd hgood, State.site_upd_self, State.site_set_self]
  rfl

theorem Mx.acc_ite_amax (m : Mx) (p : Prop) [Decidable p] (v : Vector Amax 8) : (if p then { m with amax := v } else m).acc = m.acc := by
  split <;> rfl

theorem Site.drainTile_spec (a : Site) (e : QEntry) (t daddr : Nat) (clear : Bool) :
    (a.drainTile e t daddr clear).1.spad.mem = a.spad.mem ∧ (a.drainTile e t daddr clear).1.queues = a.queues
      ∧ (a.drainTile e t daddr clear).1.mx.acc = if clear then Sparse.clear a.mx.acc (4096 * t) 4096 else a.mx.acc := by
  refine ⟨rfl, rfl, ?_⟩
  cases clear with
  | false => exact Mx.acc_ite_amax _ _ _
  | true => exact congrArg (fun acc => Sparse.clear acc (4096 * t) 4096) (Mx.acc_ite_amax _ _ _)

theorem exec_drain_of_next (h : NextMatrix s x.key e 2) : exec (.drain x) s
    = .next ((((s.updSite x.key (fun a => a)).drainEntry x.key e false).updSite x.key
        (fun a => { a with mx := { a.mx with curAcc := BitVec.ofNat 6 (mxAcc e.bits) } })).latchOps x.key) := by
  refine congrArg Host.Outcome.next ((State.mxStart_of_next h ?_).trans ?_)
  · rw [Site.drainOpen_of_next h, Bool.not_false]
  · rw [State.updSite_countStart (by rw [h.2.1]; decide)]

/-! ## The operands of a drain (R68) -/

theorem State.latchOps_of_reads (hhead : (s.site k).headOf 0 = some e) (hdrains : mxDrains e.bits = true) (hnew : e.opsRead = false)
    (hgood : ∀ r ∈ mxOperandReads (s.site k) e, (s.site k).spad.flawed r.1 r.2 = false) :
    s.latchOps k = s.updSite k (fun a => (a.countRuns (mxOperandReads (s.site k) e)).setEntry 0 (a.withOperands e)) := by
  unfold State.latchOps
  rw [hhead]
  refine (if_pos (by rw [hdrains, hnew]; rfl)).trans ?_
  unfold State.readRuns
  rw [State.readChecked_of_good hgood]
  exact State.updSite_updSite s k _ _

theorem State.latchOps_of_none (hhead : (s.site k).headOf 0 = some e) (h : mxDrains e.bits = false ∨ e.opsRead = true) : s.latchOps k = s := by
  have hno : (mxDrains e.bits && !e.opsRead) = false := by
    rcases h with h | h <;> rw [h]
    · rfl
    · exact Bool.and_false _
  unfold State.latchOps
  rw [hhead]
  exact if_neg (by rw [hno]; exact Bool.false_ne_true)

end

/-- Settles O20: each command changes the tiles, the tables or the accesses that its entry names. -/
theorem tablesZeroesAndDrains : Obligations.TablesZeroesAndDrains := by
  refine ⟨fun x s e => ⟨fun h => ?zero, fun h => ?ldtab⟩, fun x s e clear d hd hgood => ⟨fun h hclear => ?drain, fun hfind hclear => ?accDrain⟩,
    fun x s e hhead => ⟨fun hdrains hnew hgood => ?latch, fun h => State.latchOps_of_none hhead h⟩⟩
  case zero =>
    have hsite : (s.updSite x.key (fun a => a.zeroed e)).site x.key = (s.site x.key).zeroed e := State.site_upd_self s _ _
    refine ⟨_, exec_zero_of_next h, State.entryNow_setEntry hsite rfl rfl, fun i r c hr hc => ?_, ?_⟩
    · rw [accAt, hsite]
      exact Site.accGet_zeroed _ e i hr hc
    · rw [hsite]; rfl
  case ldtab =>
    have hsite : (s.updSite x.key (fun a => (a.countRuns (mxStartReads a e)).tableLoaded e)).site x.key
        = ((s.site x.key).countRuns (mxStartReads (s.site x.key) e)).tableLoaded e := State.site_upd_self s _ _
    refine ⟨_, exec_ldtab_of_next h, State.entryNow_setEntry hsite rfl rfl, fun i hi => ?_, ?_, ?_⟩
    · rw [hsite]
      exact Site.get_tableLoaded _ e hi
    · rw [hsite]; rfl
    · rw [hsite]; rfl
  case drain =>
    subst hclear
    have hd' : ((s.updSite x.key (fun a => a)).site x.key).drainTile e (mxAcc e.bits) (mxDaddr e.bits) false = d := by
      rw [State.site_upd_self]; exact hd.symm
    obtain ⟨hmem, hqueues, hacc⟩ := (s.site x.key).drainTile_spec e (mxAcc e.bits) (mxDaddr e.bits) false
    rw [← hd] at hmem hqueues hacc
    have hsite : (((s.updSite x.key (fun a => a)).drainEntry x.key e false).updSite x.key
        (fun a => { a with mx := { a.mx with curAcc := BitVec.ofNat 6 (mxAcc e.bits) } })).site x.key
          = ({ d.1.putRuns d.2 with mx := { d.1.mx with curAcc := BitVec.ofNat 6 (mxAcc e.bits) } } : Site).setEntry 0 { e with phase := .ran } := by
      rw [State.site_upd_self, State.site_drainEntry hd' hgood]; rfl
    refine ⟨_, exec_drain_of_next h, State.entryNow_setEntry hsite rfl hqueues, ?_, ?_, ?_⟩
    · rw [hsite, ← hmem]
      exact d.1.mem_putRuns d.2
    · rw [hsite]; rfl
    · rw [hsite]
      exact hacc
  case accDrain =>
    subst hclear
    obtain ⟨hmem, hqueues, hacc⟩ := (s.site x.key).drainTile_spec e (mxAcc e.bits) (mxDaddr e.bits) true
    rw [← hd] at hmem hqueues hacc
    have hexec : exec (.accDrainStart x) s = .next (s.drainEntry x.key e true) :=
      congrArg Host.Outcome.next (by rw [show (s.site x.key).queues[(0 : Fin 4)].find? (fun y => y.phase == .drainWait) = some e from hfind])
    have hsite := State.site_drainEntry hd.symm hgood
    refine ⟨_, hexec, State.entryNow_setEntry hsite rfl hqueues, ?_, fun r c hr hc => ?_⟩
    · rw [hsite, ← hmem]
      exact d.1.mem_putRuns d.2
    · rw [accAt, hsite]
      show Sparse.get 0 d.1.mx.acc (4096 * mxAcc e.bits + 64 * r + c) = 0
      rw [hacc, if_pos rfl, Sparse.get_clear, if_pos (by omega)]
  case latch =>
    have hlatch := State.latchOps_of_reads hhead hdrains hnew hgood
    have hsite : (s.latchOps x.key).site x.key = ((s.site x.key).countRuns (mxOperandReads (s.site x.key) e)).setEntry 0
        ((s.site x.key).withOperands e) := by rw [hlatch, State.site_upd_self]
    exact ⟨State.entryNow_setEntry hsite rfl rfl, by rw [hsite]; rfl, by rw [hsite]; rfl⟩

end Sys2Proof.Machine
end

section
/-! PROOFS. Vector arithmetic, logic, conversions and compares (R83, R85, R87, R89, R132). -/

namespace Sys2Proof.Machine

open Sys2Proof.Claims

/-! ## The lanes that an instruction writes -/

theorem Vx.length_vreg (v : Vx) (r : Nat) : (v.vreg r).length = 64 := by
  rw [Vx.vreg, Sparse.read_eq, List.length_map, List.length_range]

theorem Vx.length_operandB (v : Vx) (b : BitVec 256) : (v.operandB b).length = 64 := by
  unfold Vx.operandB
  split
  · exact List.length_replicate
  · exact v.length_vreg _

/-- A list of n values, by their places. -/
theorem eq_map_getD_range {α : Type} {l : List α} {n : Nat} (z : α) (hl : l.length = n) : l = (List.range n).map (fun i => l.getD i z) := by
  subst hl
  apply List.ext_getElem <;> simp +contextual

/-- The operands of the lanes below VL. -/
theorem State.operands_eq (s : State) (k : Nat) (e : QEntry) : (s.site k).vx.operands e = (List.range (min e.vl.toNat 64)).map
    (fun i => (lane s k (vrVa e.bits) i, laneB s k e i, lane s k (vrVd e.bits) i)) := by
  have hreg : ∀ r, (s.site k).vx.vreg r = (List.range 64).map (lane s k r) := fun r => Sparse.read_eq 0 _ _ _
  have hb : (s.site k).vx.operandB e.bits = (List.range 64).map (laneB s k e) := eq_map_getD_range 0 (Vx.length_operandB _ _)
  rw [Vx.operands, hreg, hreg, hb, List.zip_map', List.zip_map', ← List.map_take, List.take_range]

/-- What an instruction does that writes g i, a value and its flags, to every lane i below VL of register d. -/
theorem State.vRan_writeLanes {s : State} {k d : Nat} {e : QEntry} (g : Nat → W32 × BitVec 8) :
    let t := s.vRan k e ((s.site k).vx.writeLanes d ((List.range (min e.vl.toNat 64)).map g))
    VectorRan s t k e ∧ LanesKept s t k d e.vl.toNat ∧ PredicatesKept s t k ∧ (∀ i, i < 64 → i < e.vl.toNat → lane t k d i = (g i).1)
      ∧ (vE e.bits = false → (t.site k).vx.vstat = (s.site k).vx.vstat ||| (List.range (min e.vl.toNat 64)).foldl (fun f i => f ||| (g i).2) 0) := by
  have hv : ((s.site k).vx.writeLanes d ((List.range (min e.vl.toNat 64)).map g)).v
      = ((s.site k).vx.setVreg d (((List.range (min e.vl.toNat 64)).map g).map (fun l => l.1))).v := rfl
  refine ⟨State.vectorRan_vRan s k e rfl, fun r i hi hout => ?_, State.predicatesKept_vRan s k e rfl, fun i hi hvl => ?_, fun hE => ?_⟩
  · exact State.lanesKept_vRan hv (n := min e.vl.toNat 64) (by simp) (Nat.min_le_right _ _) r i hi (by omega)
  · have hlt : i < min e.vl.toNat 64 := lt_min hvl hi
    rw [State.lane_vRan_of_written hv (by simpa using ⟨hvl, hi⟩)]
    simp [hvl, hi]
  · rw [State.vx_vRan, Vx.summarise_of_not_emits hE]
    simp only [Vx.writeLanes, Vx.raise, Vx.setVreg, List.foldl_map]

/-! ## Arithmetic -/

/-- Lane i of the result of an arithmetic instruction, and its flags. -/
def arithAt (s : State) (k : Nat) (e : QEntry) (op i : Nat) : W32 × BitVec 8 :=
  arithLane op (vrType e.bits) (lane s k (vrVa e.bits) i) (laneB s k e i) (lane s k (vrVd e.bits) i)

theorem State.doArith_eq {s : State} {k op : Nat} {e : QEntry} (hop : vOp e.bits = op) :
    (s.site k).vx.doArith e = (s.site k).vx.writeLanes (vrVd e.bits) ((List.range (min e.vl.toNat 64)).map (arithAt s k e op)) := by
  subst hop
  rw [Vx.doArith, State.operands_eq, List.map_map]; rfl

/-- Settles O21: an arithmetic instruction writes its lanes' results and flags. -/
theorem vectorArithmetic : Obligations.VectorArithmetic := by
  unfold Obligations.VectorArithmetic
  intro c hc core s e h
  refine ⟨_, (vectorTable_runsAs c hc).exec_of_next h, ?_⟩
  rw [State.doArith_eq h.2]
  exact State.vRan_writeLanes (arithAt s core.key e c.2)

/-! ### INT32 lanes -/

/-- An INT32 lane is one element. -/
theorem arithLane_int32 (op : Nat) (a b d : W32) :
    (arithLane op 0xb a b d).1 = BitVec.ofNat 32 (arithElem op 0xb a.toNat b.toNat d.toNat).1 := by
  have hone : ∀ w : W32, laneElems 0xb w = [w.toNat] := fun w => by
    have hw := w.isLt
    simp [laneElems, typeBits, bitsOf, Nat.mod_eq_of_lt hw]
  apply BitVec.eq_of_toNat_eq
  simp [arithLane, hone, elemsLane, typeBits]

/-- The magnitude of a word, wrapped. -/
theorem ofInt_natAbs_toInt (a : W32) : BitVec.ofInt 32 a.toInt.natAbs = if a.toInt < 0 then -a else a := by
  split
  · next h =>
    rw [Int.ofNat_natAbs_of_nonpos h.le, BitVec.ofInt_neg, BitVec.ofInt_toInt]
  · next h => rw [Int.natAbs_of_nonneg (Int.not_lt.mp h), BitVec.ofInt_toInt]

/-- VADD to VNEG on one INT32 element. -/
def int32Elem (op : Nat) (a b d : W32) : W32 :=
  match op with
  | 0x10 => BitVec.ofInt 32 (a.toInt + b.toInt)
  | 0x11 => BitVec.ofInt 32 (a.toInt - b.toInt)
  | 0x12 => BitVec.ofInt 32 (a.toInt * b.toInt)
  | 0x13 => BitVec.ofInt 32 (a.toInt * b.toInt + d.toInt)
  | 0x14 => if a.toInt < b.toInt then a else b
  | 0x15 => if a.toInt < b.toInt then b else a
  | 0x16 => BitVec.ofInt 32 a.toInt.natAbs
  | _ => BitVec.ofInt 32 (-a.toInt)

theorem arithElem_of_wrapTable (a b d : W32) :
    ∀ c ∈ wrapTable, (arithElem c.2.1 0xb a.toNat b.toNat d.toNat).1 = (int32Elem c.2.1 a b d).toNat := by
  have hword : ∀ w : W32, (BitVec.ofNat (typeBits 0xb) w.toNat).toInt = w.toInt := fun w => by
    show (BitVec.ofNat 32 w.toNat).toInt = w.toInt
    rw [BitVec.ofNat_toNat, BitVec.setWidth_eq]
  simp only [wrapTable, List.forall_mem_cons, List.not_mem_nil, false_imp_iff, implies_true, and_true, true_and, arithElem, or_true, if_true, hword,
    int32Elem, ← apply_ite BitVec.toNat]
  exact ⟨rfl, rfl, rfl, rfl, rfl, rfl⟩

theorem int32Elem_of_wrapTable (a b d : W32) : ∀ c ∈ wrapTable, int32Elem c.2.1 a b d = c.2.2 a b d := by
  simp only [wrapTable, List.forall_mem_cons, List.not_mem_nil, false_imp_iff, implies_true, and_true, int32Elem, ofInt_natAbs_toInt,
    Int.sub_eq_add_neg, BitVec.ofInt_add, BitVec.ofInt_mul, BitVec.ofInt_neg, BitVec.ofInt_toInt, BitVec.sub_eq_add_neg]

/-- The instructions whose INT32 results wrap are the arithmetic ones. -/
theorem vectorTable_eq_wrapTable : vectorTable = wrapTable.map (fun c => (c.1, c.2.1)) := rfl

/-- Settles O22: an INT32 lane is one element, whose exact result is cut to 32 bits. -/
theorem integerLanesWrap : Obligations.IntegerLanesWrap := by
  unfold Obligations.IntegerLanesWrap
  intro c hc core s e h hint
  have hmem : (c.1, c.2.1) ∈ vectorTable := vectorTable_eq_wrapTable ▸ List.mem_map_of_mem hc
  obtain ⟨t, hexec, -, -, -, hlanes, -⟩ := vectorArithmetic _ hmem core s e h
  refine ⟨t, hexec, fun i hi hvl => ?_⟩
  rw [hlanes i hi hvl, hint, arithLane_int32, arithElem_of_wrapTable _ _ _ c hc, BitVec.ofNat_toNat, BitVec.setWidth_eq]
  exact int32Elem_of_wrapTable _ _ _ c hc

/-! ## Logic, conversions and special functions -/

theorem zipIdx_map_range {α : Type} (f : Nat → α) (n : Nat) : ((List.range n).map f).zipIdx = (List.range n).map (fun i => (f i, i)) := by
  apply List.ext_getElem <;> simp

section
variable (s : State) (k : Nat) (e : QEntry)

theorem State.doPlain_eq : (s.site k).vx.doPlain e = (s.site k).vx.writeLanes (vrVd e.bits) ((List.range (min e.vl.toNat 64)).map
    (fun i => (plainLane (vOp e.bits) (pbit s k (vrPx e.bits) i) (lane s k (vrVa e.bits) i) (laneB s k e i), 0))) := by
  rw [Vx.doPlain, State.operands_eq, zipIdx_map_range, List.map_map]; rfl

theorem State.doCvt_eq : (s.site k).vx.doCvt e = (s.site k).vx.writeLanes (vrVd e.bits) ((List.range (min e.vl.toNat 64)).map
    (fun i => cvtLane (vrType e.bits) (lane s k (vrVa e.bits) i))) := by
  rw [Vx.doCvt, State.operands_eq, List.map_map]; rfl

theorem State.doSpecial_eq : (s.site k).vx.doSpecial e = (s.site k).vx.writeLanes (vrVd e.bits) ((List.range (min e.vl.toNat 64)).map
    (fun i => specialLane (vOp e.bits) (lane s k (vrVa e.bits) i))) := by
  rw [Vx.doSpecial, State.operands_eq, List.map_map]; rfl

end

theorem plainLane_of_bitTable (sel : Bool) (a b : W32) : ∀ c ∈ bitTable, plainLane c.2.1 sel a b = c.2.2 a b := by
  simp only [bitTable, List.forall_mem_cons, List.not_mem_nil, false_imp_iff, implies_true, and_true, plainLane]

theorem vcvt_runsAs : RunsAs (.vcvt, 0x1e) Vx.doCvt := fun _ _ => rfl

theorem vsel_runsAs : RunsAs (.vsel, 0x1f) Vx.doPlain := fun _ _ => rfl

/-- Settles O23: each group writes its function of the operands to the lanes below VL. -/
theorem vectorLogicAndConversions : Obligations.VectorLogicAndConversions := by
  unfold Obligations.VectorLogicAndConversions
  rintro core s e vd va vl rfl rfl rfl
  refine ⟨fun c hc h => ⟨_, (bitTable_runsAs c hc).exec_of_next h, ?_⟩, fun h => ⟨_, vsel_runsAs.exec_of_next h, ?_⟩,
    fun h => ⟨_, vcvt_runsAs.exec_of_next h, ?_⟩, fun c hc h => ⟨_, (specialTable_runsAs c hc).exec_of_next h, ?_⟩⟩
  · rw [State.doPlain_eq]
    obtain ⟨hran, hkept, hpred, hlanes, -⟩ := State.vRan_writeLanes (s := s) (k := core.key) (d := vrVd e.bits) (e := e) _
    refine ⟨hran, hkept, hpred, fun i hi hvl => (hlanes i hi hvl).trans ?_⟩
    rw [h.2]
    exact plainLane_of_bitTable _ _ _ c hc
  · rw [State.doPlain_eq]
    obtain ⟨hran, hkept, hpred, hlanes, -⟩ := State.vRan_writeLanes (s := s) (k := core.key) (d := vrVd e.bits) (e := e) _
    refine ⟨hran, hkept, hpred, fun i hi hvl => (hlanes i hi hvl).trans ?_⟩
    rw [h.2]; rfl
  · rw [State.doCvt_eq]
    obtain ⟨hran, hkept, hpred, hlanes, -⟩ := State.vRan_writeLanes (s := s) (k := core.key) (d := vrVd e.bits) (e := e) _
    exact ⟨hran, hkept, hpred, hlanes⟩
  · rw [State.doSpecial_eq, h.2]
    obtain ⟨hran, hkept, hpred, hlanes, -⟩ := State.vRan_writeLanes (s := s) (k := core.key) (d := vrVd e.bits) (e := e) _
    exact ⟨hran, hkept, hpred, hlanes⟩

/-! ## Predicates -/

theorem getLsbD_putBit {n : Nat} (w : BitVec n) (j : Nat) (b : Bool) {i : Nat} (hi : i < n) :
    (putBit w j b).getLsbD i = if i = j then b else w.getLsbD i := by
  unfold putBit
  by_cases hij : i = j
  · subst hij
    cases b <;> simp [hi]
  · cases b <;> simp [hi, hij]

/-- The bits below m replaced one by one. -/
theorem getLsbD_foldl_putBit {n : Nat} (f : Nat → Bool) (w : BitVec n) (m : Nat) {i : Nat} (hi : i < n) :
    ((List.range m).foldl (fun w j => putBit w j (f j)) w).getLsbD i = if i < m then f i else w.getLsbD i := by
  induction m with
  | zero => rfl
  | succ m ih =>
    rw [List.range_succ, List.foldl_concat, getLsbD_putBit _ _ _ hi, ih]
    by_cases him : i = m
    · simp [him]
    · rw [if_neg him, if_congr (Nat.lt_succ_iff_lt_or_eq.trans (or_iff_left him)) rfl rfl]

theorem vget_vset {α : Type} {n : Nat} (z : α) (v : Vector α n) {i : Nat} (hi : i < n) (x : α) (j : Nat) :
    vget z (vset v i x) j = if j = i then x else vget z v j := by
  unfold vget vset
  rw [Vector.getElem?_setIfInBounds]
  by_cases hij : j = i
  · subst hij; simp [hi]
  · rw [if_neg (Ne.symm hij), if_neg hij]

/-- The bits of the predicates after the bits below m of one have been replaced. -/
theorem Vx.getLsbD_preg_setPreg (v : Vx) {d : Nat} (hd : d < 8) (f : Nat → Bool) (m r : Nat) {i : Nat} (hi : i < 64) :
    ((v.setPreg d ((List.range m).map f)).preg r).getLsbD i = if r = d ∧ i < m then f i else (v.preg r).getLsbD i := by
  rw [Vx.setPreg, Vx.preg, vget_vset _ _ hd, zipIdx_map_range, List.foldl_map]
  by_cases hr : r = d
  · subst hr
    rw [if_pos rfl, getLsbD_foldl_putBit _ _ _ hi]
    simp
  · rw [if_neg hr, if_neg fun h => hr h.1]; rfl

/-- What an instruction does that gives the predicates the bits of g and leaves the vector registers and tiles. -/
theorem State.vRan_of_pregs {s : State} {k : Nat} {e : QEntry} {v : Vx} (hv : v.v = (s.site k).vx.v) (ht : v.t = (s.site k).vx.t)
    {g : Nat → Nat → Bool} (hg : ∀ r i, r < 8 → i < 64 → (v.preg r).getLsbD i = g r i) :
    let t := s.vRan k e v
    VectorRan s t k e ∧ (t.site k).vx.v = (s.site k).vx.v ∧ ∀ r i, r < 8 → i < 64 → pbit t k r i = g r i := by
  refine ⟨State.vectorRan_vRan s k e ht, ?_, fun r i hr hi => ?_⟩
  · rw [State.vx_vRan, Vx.summarise_v, hv]
  · rw [pbit, State.preg_vRan, hg r i hr hi]

/-- What an instruction does that writes f i to every bit i of predicate d that is below VL. -/
theorem State.vRan_setPreg {s : State} {k d m : Nat} {e : QEntry} (hd : d < 8) (hm : ∀ i, i < 64 → (i < m ↔ i < e.vl.toNat)) (f : Nat → Bool) :
    let t := s.vRan k e ((s.site k).vx.setPreg d ((List.range m).map f))
    VectorRan s t k e ∧ (t.site k).vx.v = (s.site k).vx.v ∧ PbitsKept s t k d e.vl.toNat ∧ ∀ i, i < 64 → i < e.vl.toNat → pbit t k d i = f i := by
  obtain ⟨hran, hv, hbits⟩ := State.vRan_of_pregs (s := s) (k := k) (e := e) (v := (s.site k).vx.setPreg d ((List.range m).map f)) rfl rfl
    (fun r i _ hi => Vx.getLsbD_preg_setPreg _ hd f m r hi)
  refine ⟨hran, hv, fun r i hr hi hout => ?_, fun i hi hvl => ?_⟩
  · have hm := hm i hi
    rw [hbits r i hr hi, if_neg (by omega)]; rfl
  · rw [hbits d i hd hi, if_pos ⟨rfl, (hm i hi).mpr hvl⟩]

theorem State.doCompare_eq (s : State) (k : Nat) (e : QEntry) : (s.site k).vx.doCompare e = (s.site k).vx.setPreg (vrVd e.bits)
    ((List.range (min e.vl.toNat 64)).map (fun i => compare (vOp e.bits) (cmpValue (vrType e.bits) (lane s k (vrVa e.bits) i))
      (cmpValue (vrType e.bits) (laneB s k e i)))) := by
  rw [Vx.doCompare, State.operands_eq, List.map_map]; rfl

theorem compare_of_compareTable (a b : Fp) : ∀ c ∈ compareTable, compare c.2.1 a b = c.2.2 a b := by
  simp only [compareTable, List.forall_mem_cons, List.not_mem_nil, false_imp_iff, implies_true, and_true, compare]

/-- PAND to PFILL replace the bits below VL. -/
theorem State.doPred_of_predicateTable (s : State) (k : Nat) (e : QEntry) : ∀ c ∈ predicateTable, vOp e.bits = c.2.1 →
    (s.site k).vx.doPred e = (s.site k).vx.setPreg (vrVd e.bits) ((List.range e.vl.toNat).map (fun i =>
      c.2.2 (pbit s k (vrVa e.bits) i) (pbit s k (vrVb e.bits) i) (vField e.bits 32 1 == 1))) := by
  simp only [predicateTable, List.forall_mem_cons, List.not_mem_nil, false_imp_iff, implies_true, and_true]
  refine ⟨fun h => ?_, fun h => ?_, fun h => ?_, fun h => ?_, fun h => ?_⟩ <;> rw [Vx.doPred, h] <;> rfl

/-- Bit j of predicate d set to b where j is below VL, as PSETL and PCLRL do. -/
theorem Vx.getLsbD_preg_putBit (v : Vx) {d : Nat} (hd : d < 8) (j vl : Nat) (b : Bool) (r : Nat) {i : Nat} (hi : i < 64) :
    ((if j < vl then { v with p := vset v.p d (putBit (v.preg d) j b) } else v).preg r).getLsbD i
      = if r = d ∧ i = j ∧ i < vl then b else (v.preg r).getLsbD i := by
  by_cases hj : j < vl
  · rw [if_pos hj, Vx.preg, vget_vset _ _ hd]
    by_cases hr : r = d
    · subst hr
      rw [if_pos rfl, getLsbD_putBit _ _ _ hi]
      exact if_congr ⟨fun h => ⟨rfl, h, h ▸ hj⟩, fun h => h.2.1⟩ rfl rfl
    · rw [if_neg hr, if_neg fun h => hr h.1]; rfl
  · rw [if_neg hj, if_neg (by omega)]

theorem ite_vx_v (p : Prop) [Decidable p] (v : Vx) (w : Vector W64 8) : (if p then { v with p := w } else v).v = v.v := by
  split <;> rfl

theorem ite_vx_t (p : Prop) [Decidable p] (v : Vx) (w : Vector W64 8) : (if p then { v with p := w } else v).t = v.t := by
  split <;> rfl

theorem psetl_runsAs : RunsAs (.psetl, 0x3c) Vx.doPred := fun _ _ => rfl

theorem pclrl_runsAs : RunsAs (.pclrl, 0x3d) Vx.doPred := fun _ _ => rfl

/-- PSETL and PCLRL, as what they do to their bit. -/
theorem State.vRan_putBit {s : State} {k d : Nat} {e : QEntry} (hd : d < 8) (j : Nat) (b : Bool) {v : Vx}
    (hv : v = if j < e.vl.toNat then { (s.site k).vx with p := vset (s.site k).vx.p d (putBit ((s.site k).vx.preg d) j b) } else (s.site k).vx) :
    let t := s.vRan k e v
    VectorRan s t k e ∧ (t.site k).vx.v = (s.site k).vx.v
      ∧ ∀ r i, r < 8 → i < 64 → pbit t k r i = if r = d ∧ i = j ∧ i < e.vl.toNat then b else pbit s k r i := by
  subst hv
  exact State.vRan_of_pregs (ite_vx_v _ _ _) (ite_vx_t _ _ _) (fun r i _ hi => Vx.getLsbD_preg_putBit _ hd j _ b r hi)

/-- Settles O24: the compares and PAND to PFILL replace the bits below VL of their predicate, PSETL and PCLRL one bit. -/
theorem comparesAndPredicates : Obligations.ComparesAndPredicates := by
  unfold Obligations.ComparesAndPredicates
  rintro core s e vd va vl rfl rfl rfl hvd
  refine ⟨fun c hc h => ⟨_, (compareTable_runsAs c hc).exec_of_next h, ?_⟩, fun c hc h => ⟨_, (predicateTable_runsAs c hc).exec_of_next h, ?_⟩,
    fun h => ⟨_, psetl_runsAs.exec_of_next h, ?_⟩, fun h => ⟨_, pclrl_runsAs.exec_of_next h, ?_⟩⟩
  · rw [State.doCompare_eq]
    obtain ⟨hran, hv, hkept, hbits⟩ := State.vRan_setPreg (s := s) (k := core.key) (e := e) (m := min e.vl.toNat 64) hvd (fun i hi => by omega) _
    refine ⟨hran, hv, hkept, fun i hi hi' => (hbits i hi hi').trans ?_⟩
    rw [h.2]
    exact compare_of_compareTable _ _ c hc
  · rw [State.doPred_of_predicateTable s core.key e c hc h.2]
    exact State.vRan_setPreg hvd (fun _ _ => Iff.rfl) _
  · exact State.vRan_putBit hvd _ true (by rw [Vx.doPred, h.2]; rfl)
  · exact State.vRan_putBit hvd _ false (by rw [Vx.doPred, h.2]; rfl)

end Sys2Proof.Machine
end

section
/-! PROOFS. The vector engine's loads, stores and tile instructions (R85, R90–R95). -/

namespace Sys2Proof.Machine

open Sys2Proof.Claims

/-! ## An instruction whose words hold no error -/

/-- Unit a after instruction e, which writes the runs ws, has run: its summary is formed and its entry has run. -/
def Site.vmRan (a : Site) (e : QEntry) (ws : List WriteRuns) : Site :=
  ({ a with vx := (a.vx.summarise e).1 }.setEntry 1 { (a.vx.summarise e).2 with phase := .ran }).putRuns ws

section
variable (a : Site) (e : QEntry) (ws : List WriteRuns)

@[simp] theorem Site.vmRan_v : (a.vmRan e ws).vx.v = a.vx.v := Vx.summarise_v a.vx e

@[simp] theorem Site.vmRan_t : (a.vmRan e ws).vx.t = a.vx.t := Vx.summarise_t a.vx e

@[simp] theorem Site.vmRan_p : (a.vmRan e ws).vx.p = a.vx.p := Vx.summarise_p a.vx e

@[simp] theorem Site.vmRan_mx : (a.vmRan e ws).mx = a.mx := rfl

@[simp] theorem Site.vmRan_nil_spad : (a.vmRan e []).spad = a.spad := rfl

theorem Site.vmRan_mem : (a.vmRan e ws).spad.mem = ws.flatten.foldl (fun m r => Memory.write m r.1 r.2) a.spad.mem :=
  Site.mem_putRuns _ ws

end

/-- The next instruction runs on its unit, and makes its writes. -/
theorem State.site_vmStart_of_good {s : State} {k op : Nat} {e : QEntry} {run : Site → QEntry → Site × List WriteRuns} (h : NextAccess s k e op)
    (hmerge : (run (s.site k) e).1.spad.badMerges (run (s.site k) e).2 = none) :
    (s.vmStart k op run).site k = (run (s.site k) e).1.vmRan e (run (s.site k) e).2 := by
  obtain ⟨⟨hhead, hop⟩, hgood⟩ := h
  unfold State.vmStart
  rw [hhead]
  refine (congrArg (fun t : State => t.site k) (if_pos hop)).trans ?_
  rw [State.readChecked_of_good hgood, State.writeChecked_of_good (by rw [State.site_set_self]; exact hmerge), State.site_upd_self,
    State.site_set_self]
  rfl

/-- The next instruction, one that writes no run. -/
theorem State.site_vmStart_of_noRuns {s : State} {k op : Nat} {e : QEntry} (f : Site → QEntry → Site) (h : NextAccess s k e op) :
    (s.vmStart k op (fun a e => noRuns (f a e))).site k = (f (s.site k) e).vmRan e [] :=
  State.site_vmStart_of_good h rfl

/-! ## Registers, predicates and tiles after it -/

section
variable {s t : State} {k d : Nat} {ws : List W32}

theorem lane_of_written (hv : (t.site k).vx.v = ((s.site k).vx.setVreg d ws).v) {i : Nat} (hi : i < ws.length) : lane t k d i = ws.getD i 0 := by
  rw [lane, hv]
  exact Sparse.get_write_in 0 _ _ ws i hi

theorem lanesKept_of_written (hv : (t.site k).vx.v = ((s.site k).vx.setVreg d ws).v) {n : Nat} (hlen : ws.length = min n 64) :
    LanesKept s t k d n := by
  intro r i hi hout
  rw [lane, hv]
  exact Sparse.get_write_out 0 _ _ ws _ (by omega)

end

theorem Site.length_specTile (a : Site) (sp : Nat) : (a.specTile sp).size = 4096 := by
  unfold Site.specTile Mx.accTile
  split <;> rw [List.size_toArray, Sparse.length_read]

theorem Site.getD_specTile (a : Site) (sp : Nat) {i : Nat} (hi : i < 4096) :
    (a.specTile sp).getD i 0 = if sp < 64 then Sparse.get 0 a.vx.t (4096 * sp + i) else Sparse.get 0 a.mx.acc (4096 * (sp - 64) + i) := by
  unfold Site.specTile Mx.accTile
  split <;> rw [getD_toArray, Sparse.getD_read 0 _ _ _ _ hi]

/-- A place of a tile, where one tile of 4,096 elements has been written. -/
theorem Sparse.get_write_tile (m : WMem) (d : Nat) {ws : List W32} (hws : ws.length = 4096) (sp : Nat) {i : Nat} (hi : i < 4096) :
    Sparse.get 0 (Sparse.write 0 m (4096 * d) ws) (4096 * sp + i) = if sp = d then ws.getD i 0 else Sparse.get 0 m (4096 * sp + i) := by
  split
  case isTrue h =>
    subst h
    exact Sparse.get_write_in 0 _ _ ws _ (by omega)
  case isFalse h => exact Sparse.get_write_out 0 _ _ ws _ (by omega)

/-- The elements of the tiles where one of them is replaced. -/
theorem Site.getD_specTile_setSpecTile (a : Site) (d : Nat) {ws : List W32} (hws : ws.length = 4096) (sp : Nat) {i : Nat} (hi : i < 4096) :
    ((a.setSpecTile d ws).specTile sp).getD i 0 = if sp = d then ws.getD i 0 else (a.specTile sp).getD i 0 := by
  rw [Site.getD_specTile _ _ hi, Site.getD_specTile _ _ hi]
  unfold Site.setSpecTile
  by_cases hd : d < 64
  · rw [if_pos hd, Sparse.get_write_tile _ _ hws _ hi]
    split <;> split <;> simp_all
  · rw [if_neg hd]
    show (if sp < 64 then _ else Sparse.get 0 (Sparse.write 0 a.mx.acc (4096 * (d - 64)) ws) _) = _
    rw [Sparse.get_write_tile _ _ hws _ hi]
    by_cases hsp : sp < 64
    · rw [if_pos hsp, if_pos hsp, if_neg (by omega)]
    · have hsub : sp - 64 = d - 64 ↔ sp = d := by omega
      rw [if_neg hsp, if_neg hsp, if_congr hsub rfl rfl]

section
variable (a : Site) (d : Nat) (ws : List W32)

@[simp] theorem Site.setSpecTile_v : (a.setSpecTile d ws).vx.v = a.vx.v := by
  unfold Site.setSpecTile; split <;> rfl

@[simp] theorem Site.setSpecTile_spad : (a.setSpecTile d ws).spad = a.spad := by
  unfold Site.setSpecTile; split <;> rfl

end

/-- The tiles of a unit are those of another with the same tile registers and accumulators. -/
theorem Site.specTile_congr {a b : Site} (ht : a.vx.t = b.vx.t) (hmx : a.mx = b.mx) (sp : Nat) : a.specTile sp = b.specTile sp := by
  unfold Site.specTile
  rw [ht, hmx]

/-- Units a and b have the same tile registers and accumulators. -/
def SameTiles (a b : Site) : Prop := a.vx.t = b.vx.t ∧ a.mx = b.mx

theorem Site.setSpecTile_sameTiles {a b : Site} (h : SameTiles a b) (d : Nat) (ws : List W32) :
    SameTiles (a.setSpecTile d ws) (b.setSpecTile d ws) := by
  obtain ⟨ht, hmx⟩ := h
  unfold Site.setSpecTile
  split
  · exact ⟨by rw [← ht], hmx⟩
  · exact ⟨ht, by rw [← hmx]⟩

/-- An element of a tile where tile d has been replaced. -/
theorem tileElem_of_written {s t : State} {k d : Nat} {ws : List W32} (ht : SameTiles (t.site k) ((s.site k).setSpecTile d ws))
    (hws : ws.length = 4096) (sp : Nat) {i : Nat} (hi : i < 4096) :
    tileElem t k sp i = if sp = d then ws.getD i 0 else tileElem s k sp i := by
  obtain ⟨ht, hmx⟩ := ht
  rw [tileElem, Site.specTile_congr ht hmx, Site.getD_specTile_setSpecTile _ _ hws _ hi]
  rfl

/-- What replacing tile d does to the tiles. -/
theorem tiles_of_written {s t : State} {k d : Nat} {ws : List W32} (ht : SameTiles (t.site k) ((s.site k).setSpecTile d ws))
    (hws : ws.length = 4096) : TilesKept s t k d ∧ ∀ i, i < 4096 → tileElem t k d i = ws.getD i 0 :=
  ⟨fun sp i _ hi hne => by rw [tileElem_of_written ht hws sp hi, if_neg hne],
    fun i hi => by rw [tileElem_of_written ht hws d hi, if_pos rfl]⟩

/-! ## Loads -/

theorem Site.length_vldLanes (a : Site) (e : QEntry) : (a.vldLanes e).length = 64 := by
  unfold Site.vldLanes
  dsimp only
  split <;> rw [List.length_map, List.length_range]

theorem getD_take {α : Type} (l : List α) (z : α) {n i : Nat} (hi : i < n) : (l.take n).getD i z = l.getD i z := by
  rw [List.getD_eq_getElem?_getD, List.getElem?_take_of_lt hi, List.getD_eq_getElem?_getD]

/-- Settles O26: VLD writes the lanes of its operand that are below VL, PLD the bits of its row. -/
theorem vectorLoads : Obligations.VectorLoads := by
  unfold Obligations.VectorLoads
  refine fun core s e => ⟨fun h => ⟨_, rfl, ?_⟩, fun h hpx => ⟨_, rfl, ?_⟩⟩
  · have hsite := State.site_vmStart_of_noRuns Site.doVld h
    have hv : ((s.vmStart core.key 0x48 (fun a e => noRuns (a.doVld e))).site core.key).vx.v
        = ((s.site core.key).vx.setVreg (vmReg e.bits) (((s.site core.key).vldLanes e).take e.vl.toNat)).v := by
      rw [hsite, Site.vmRan_v]; rfl
    have hlen : (((s.site core.key).vldLanes e).take e.vl.toNat).length = min e.vl.toNat 64 := by
      rw [List.length_take, Site.length_vldLanes]
    refine ⟨?_, lanesKept_of_written hv hlen, ?_, fun i hi hvl => ?_⟩
    · rw [hsite]; rfl
    · rw [PredicatesKept, hsite, Site.vmRan_p]; rfl
    · rw [lane_of_written hv (by omega), getD_take _ _ hvl]
  · have hsite := State.site_vmStart_of_noRuns Site.doPld h
    have hbits : ∀ r i, i < 64 → pbit (s.vmStart core.key 0x4b (fun a e => noRuns (a.doPld e))) core.key r i
        = if r = vmPx e.bits ∧ i < e.vl.toNat
          then (leNat ((s.site core.key).bytes ((s.site core.key).maskRow e) 8)).testBit i else pbit s core.key r i := by
      intro r i hi
      rw [pbit, hsite, Vx.preg, Site.vmRan_p]
      exact Vx.getLsbD_preg_setPreg _ hpx _ _ r hi
    refine ⟨?_, ?_, fun r i _ hi hout => ?_, fun i hi hvl => ?_⟩
    · rw [hsite]; rfl
    · rw [hsite, Site.vmRan_v]; rfl
    · rw [hbits r i hi, if_neg (by omega)]
    · rw [hbits _ i hi, if_pos ⟨rfl, hvl⟩]; rfl

/-! ## Stores -/

/-- Which bad word a list of accesses merges with is a matter of the bad words alone. -/
theorem Spad.badMerges_congr {m n : Spad} (h : m.badWords = n.badWords) (ws : List WriteRuns) : m.badMerges ws = n.badMerges ws := by
  induction ws generalizing m n with
  | nil => rfl
  | cons w ws ih =>
    have hrest : (m.writeRuns w).badMerges ws = (n.writeRuns w).badMerges ws := ih (by simp only [Spad.writeRuns, h])
    simp only [Spad.badMerges, Spad.badMerge, h, hrest]

theorem Memory.get_writes_out (rs : WriteRuns) (m : Mem) {a : Nat} (h : ∀ r ∈ rs, a < r.1 ∨ r.1 + r.2.length ≤ a) :
    Memory.get (rs.foldl (fun m r => Memory.write m r.1 r.2) m) a = Memory.get m a := by
  induction rs generalizing m with
  | nil => rfl
  | cons r rs ih =>
    rw [List.foldl_cons, ih _ fun q hq => h q (List.mem_cons_of_mem _ hq)]
    exact Memory.get_write_out _ _ _ _ (h r List.mem_cons_self)

/-- Unit b has the bytes, the bad words and the registers of a. -/
def SameRegisters (a b : Site) : Prop :=
  b.spad.mem = a.spad.mem ∧ b.spad.badWords = a.spad.badWords ∧ b.vx.v = a.vx.v ∧ b.vx.p = a.vx.p ∧ b.vx.t = a.vx.t ∧ b.mx = a.mx

/-- What a store does, an instruction that writes its runs and changes no register. -/
theorem State.vmStart_stores {s : State} {k op : Nat} {e : QEntry} {run : Site → QEntry → Site × List WriteRuns} {ws : List WriteRuns}
    (h : NextAccess s k e op) (hsame : SameRegisters (s.site k) (run (s.site k) e).1) (hmerge : MergesGood s k ws)
    (hws : ws = (run (s.site k) e).2) :
    let t := s.vmStart k op run
    Stored s t k ws
      ∧ (∀ a, (∀ r ∈ ws.flatten, a < r.1 ∨ r.1 + r.2.length ≤ a) → Memory.get (t.site k).spad.mem a = Memory.get (s.site k).spad.mem a)
      ∧ (t.site k).vx.v = (s.site k).vx.v ∧ PredicatesKept s t k ∧ (t.site k).vx.t = (s.site k).vx.t ∧ (t.site k).mx = (s.site k).mx := by
  subst hws
  obtain ⟨hmem, hbad, hv, hp, ht, hmx⟩ := hsame
  have hsite := State.site_vmStart_of_good h ((Spad.badMerges_congr hbad _).trans hmerge)
  have hstored : Stored s (s.vmStart k op run) k (run (s.site k) e).2 := by
    rw [Stored, hsite, Site.vmRan_mem, hmem]
  refine ⟨hstored, fun a ha => ?_, ?_, ?_, ?_, ?_⟩
  · rw [hstored, Memory.get_writes_out _ _ ha]
  · rw [hsite, Site.vmRan_v, hv]
  · rw [PredicatesKept, hsite, Site.vmRan_p, hp]
  · rw [hsite, Site.vmRan_t, ht]
  · rw [hsite, Site.vmRan_mx, hmx]

theorem Site.doVst_sameRegisters (a : Site) (e : QEntry) : SameRegisters a (Site.stored e (a.doVst e)).1 := by
  unfold Site.doVst
  dsimp only
  split <;> exact ⟨rfl, rfl, rfl, rfl, rfl, rfl⟩

/-- Settles O27: each store changes no register, and its runs are its writes. -/
theorem vectorStores : Obligations.VectorStores := by
  unfold Obligations.VectorStores
  rintro core s e c ws hmerge (⟨rfl, h, hws⟩ | ⟨rfl, h, hws⟩ | ⟨rfl, h, hws⟩ | ⟨rfl, h, hws⟩ | ⟨rfl, h, hws⟩ | ⟨rfl, h, hws⟩)
  · exact ⟨_, rfl, State.vmStart_stores h (Site.doVst_sameRegisters _ e) hmerge hws⟩
  · exact ⟨_, rfl, State.vmStart_stores h ⟨rfl, rfl, rfl, rfl, rfl, rfl⟩ hmerge hws⟩
  · exact ⟨_, rfl, State.vmStart_stores h ⟨rfl, rfl, rfl, rfl, rfl, rfl⟩ hmerge hws⟩
  · exact ⟨_, rfl, State.vmStart_stores h ⟨rfl, rfl, rfl, rfl, rfl, rfl⟩ hmerge hws⟩
  · exact ⟨_, rfl, State.vmStart_stores h ⟨rfl, rfl, rfl, rfl, rfl, rfl⟩ hmerge hws⟩
  · exact ⟨_, rfl, State.vmStart_stores h ⟨rfl, rfl, rfl, rfl, rfl, rfl⟩ hmerge hws⟩

/-! ## Tile instructions -/

/-- A tile by rows, its element of row r and column c given by f. -/
theorem getD_map_tilePlaces {α : Type} (f : Nat × Nat → α) (z : α) {r c : Nat} (hr : r < 64) (hc : c < 64) :
    (tilePlaces.map f).getD (64 * r + c) z = f (r, c) := by
  have hlt : 64 * r + c < 4096 := by omega
  have hdiv : (64 * r + c) / 64 = r := by omega
  have hmod : (64 * r + c) % 64 = c := by omega
  rw [tilePlaces, List.map_map, List.getD_eq_getElem?_getD, List.getElem?_map, List.getElem?_range hlt, Option.map_some, Option.getD_some,
    Function.comp_apply, hdiv, hmod]

theorem length_map_tilePlaces {α : Type} (f : Nat × Nat → α) : (tilePlaces.map f).length = 4096 := by
  rw [tilePlaces, List.map_map, List.length_map, List.length_range]

theorem getD_map_range {α : Type} (f : Nat → α) (z : α) {n i : Nat} (hi : i < n) : ((List.range n).map f).getD i z = f i := by
  rw [List.getD_eq_getElem?_getD, List.getElem?_map, List.getElem?_range hi, Option.map_some, Option.getD_some]

theorem size_foldl_setIfInBounds (p : Nat → Nat) (f : Nat → W32) (l : List Nat) (t : Array W32) :
    (l.foldl (fun t j => t.setIfInBounds (p j) (f j)) t).size = t.size := by
  induction l generalizing t with
  | nil => rfl
  | cons j l ih => rw [List.foldl_cons, ih, Array.size_setIfInBounds]

/-- Places of an array that differ hold what is written there one after another. -/
theorem getD_foldl_setIfInBounds {p : Nat → Nat} {m : Nat} (hp : ∀ i j, i < m → j < m → p i = p j → i = j) (f : Nat → W32) (t : Array W32)
    {n : Nat} (hn : n ≤ m) {i : Nat} (hi : i < n) (hlt : p i < t.size) :
    ((List.range n).foldl (fun t j => t.setIfInBounds (p j) (f j)) t).getD (p i) 0 = f i := by
  induction n with
  | zero => exact absurd hi (Nat.not_lt_zero i)
  | succ n ih =>
    rw [List.range_succ, List.foldl_concat, Array.getD_eq_getD_getElem?, Array.getElem?_setIfInBounds]
    by_cases hin : i = n
    · subst hin
      rw [if_pos rfl, if_pos (by rw [size_foldl_setIfInBounds]; exact hlt), Option.getD_some]
    · rw [if_neg fun h => hin (hp n i (by omega) (by omega) h).symm, ← Array.getD_eq_getD_getElem?]
      exact ih (by omega) (by omega)

theorem linePlace_lt {file : Bool} {n i : Nat} (hn : n < 64) (hi : i < 64) : linePlace file n i < 4096 := by
  unfold linePlace
  split <;> omega

theorem linePlace_injective {file : Bool} {n i j : Nat} (h : linePlace file n i = linePlace file n j) : i = j := by
  unfold linePlace at h
  split at h <;> omega

section
variable {s t : State} {k : Nat} {e : QEntry}

/-- What an instruction does that replaces tile td of its unit, and besides changes flags and counters. -/
theorem State.vmStart_replaces {op td : Nat} {f : Site → QEntry → Site} {ws : List W32} (h : NextAccess s k e op)
    (hf : SameTiles (f (s.site k) e) ((s.site k).setSpecTile td ws)) (hws : ws.length = 4096) :
    TilesKept s (s.vmStart k op (fun a e => noRuns (f a e))) k td
      ∧ ∀ i, i < 4096 → tileElem (s.vmStart k op (fun a e => noRuns (f a e))) k td i = ws.getD i 0 := by
  obtain ⟨ht, hmx⟩ := hf
  refine tiles_of_written ⟨?_, ?_⟩ hws
  · rw [State.site_vmStart_of_noRuns f h, Site.vmRan_t, ht]
  · rw [State.site_vmStart_of_noRuns f h, Site.vmRan_mx, hmx]

/-- What an instruction does that writes the lanes below VL of register d. -/
theorem State.vmStart_writes {op d : Nat} {f : Site → QEntry → Site} {g : Nat → W32} (h : NextAccess s k e op) (hvl : e.vl.toNat ≤ 64)
    (hf : (f (s.site k) e).vx.v = ((s.site k).vx.setVreg d ((List.range e.vl.toNat).map g)).v) :
    LanesKept s (s.vmStart k op (fun a e => noRuns (f a e))) k d e.vl.toNat
      ∧ ∀ i, i < e.vl.toNat → lane (s.vmStart k op (fun a e => noRuns (f a e))) k d i = g i := by
  have hv : ((s.vmStart k op (fun a e => noRuns (f a e))).site k).vx.v = ((s.site k).vx.setVreg d ((List.range e.vl.toNat).map g)).v := by
    rw [State.site_vmStart_of_noRuns f h, Site.vmRan_v, hf]
  have hlen : ((List.range e.vl.toNat).map g).length = e.vl.toNat := by rw [List.length_map, List.length_range]
  refine ⟨lanesKept_of_written hv (by omega), fun i hi => ?_⟩
  rw [lane_of_written hv (by omega), getD_map_range g 0 hi]

theorem State.spad_vmStart {op : Nat} {f : Site → QEntry → Site} (h : NextAccess s k e op) (hf : (f (s.site k) e).spad = (s.site k).spad) :
    ((s.vmStart k op (fun a e => noRuns (f a e))).site k).spad = (s.site k).spad := by
  rw [State.site_vmStart_of_noRuns f h, Site.vmRan_nil_spad, hf]

/-- TPUT leaves its lanes in the places of its line. -/
theorem Site.getD_tput (a : Site) {i : Nat} (hvl : e.vl.toNat ≤ 64) (hi : i < e.vl.toNat) :
    (((List.range e.vl.toNat).foldl (fun (t : Array W32) i => t.setIfInBounds (linePlace (vtFile e.bits) (vField e.bits 32 6) i)
      ((a.vx.vreg (vtTa e.bits)).getD i 0)) (a.specTile (vtTd e.bits))).toList).getD (linePlace (vtFile e.bits) (vField e.bits 32 6) i) 0
        = (a.vx.vreg (vtTa e.bits)).getD i 0 := by
  rw [← getD_toArray, Array.toArray_toList]
  refine getD_foldl_setIfInBounds (m := 64) (fun i j _ _ h => linePlace_injective h) (fun i => (a.vx.vreg (vtTa e.bits)).getD i 0) _ hvl hi ?_
  rw [Site.length_specTile]
  exact linePlace_lt (vField_lt _ _ _) (by omega)

end

section
variable (a : Site) (e : QEntry)

/-- The elements of a tile after TOPV or TOPT. -/
def Site.topTile (other : Nat → Nat → W32) : List W32 :=
  (tilePlaces.map (fun p => arithLane (topOp (vField e.bits 32 2)) (if vField e.bits 34 1 = 1 then 0xb else 0)
    ((a.specTile (vtTa e.bits)).getD (64 * p.1 + p.2) 0) (other p.1 p.2) 0)).map (fun r => r.1)

theorem Site.length_topTile (other : Nat → Nat → W32) : (a.topTile e other).length = 4096 := by
  rw [Site.topTile, List.length_map, length_map_tilePlaces]

theorem Site.getD_topTile (other : Nat → Nat → W32) {r c : Nat} (hr : r < 64) (hc : c < 64) : (a.topTile e other).getD (64 * r + c) 0
    = (arithLane (topOp (vField e.bits 32 2)) (if vField e.bits 34 1 = 1 then 0xb else 0)
        ((a.specTile (vtTa e.bits)).getD (64 * r + c) 0) (other r c) 0).1 := by
  rw [Site.topTile, List.map_map, getD_map_tilePlaces _ _ hr hc]; rfl

/-- The elements of a tile after TLD. -/
def Site.tldTile : List W32 :=
  let t := a.tile (vtFmt e.bits) (a.homeAddr e.slot (vtAddr e.bits))
  let sub := b2n (vtFmt e.bits == 9 && vtBit21 e.bits)
  tilePlaces.map (fun p => if vtFile e.bits then t.lane p.2 p.1 sub else t.lane p.1 p.2 sub)

theorem Site.length_tldTile : (a.tldTile e).length = 4096 := by
  rw [Site.tldTile, length_map_tilePlaces]

theorem Site.doTld_sameTiles : SameTiles (a.doTld e) (a.setSpecTile (vtTd e.bits) (a.tldTile e)) := by
  have hcount : SameTiles (a.countTile (a.homeAddr e.slot (vtAddr e.bits)) (vtFmt e.bits) false) a := ⟨rfl, rfl⟩
  exact Site.setSpecTile_sameTiles hcount (vtTd e.bits) (a.tldTile e)

theorem Site.doTld_mem : (a.doTld e).spad.mem = a.spad.mem := by
  show ((a.countTile (a.homeAddr e.slot (vtAddr e.bits)) (vtFmt e.bits) false).setSpecTile (vtTd e.bits) (a.tldTile e)).spad.mem = a.spad.mem
  rw [Site.setSpecTile_spad]
  rfl

theorem Site.doTop_sameTiles (other : Nat → Nat → W32) :
    SameTiles (a.doTop e other) (a.setSpecTile (vtTd e.bits) (a.topTile e other)) := ⟨rfl, rfl⟩

/-- The second operand of TOPV by place. -/
def Site.topvOther (r c : Nat) : W32 := (a.vx.vreg (vtTb e.bits)).getD (if vtFile e.bits then r else c) 0

/-- The second operand of TOPT by place. -/
def Site.toptOther (r c : Nat) : W32 := (a.specTile (vtTb e.bits)).getD (64 * r + c) 0

theorem Site.doTopv_sameTiles : SameTiles (a.doTopv e) (a.setSpecTile (vtTd e.bits) (a.topTile e (a.topvOther e))) :=
  a.doTop_sameTiles e (a.topvOther e)

theorem Site.doTopt_sameTiles : SameTiles (a.doTopt e) (a.setSpecTile (vtTd e.bits) (a.topTile e (a.toptOther e))) :=
  a.doTop_sameTiles e (a.toptOther e)

theorem Site.doTop_spad (other : Nat → Nat → W32) : (a.doTop e other).spad = a.spad :=
  Site.setSpecTile_spad a (vtTd e.bits) (a.topTile e other)

end

/-- Settles O28: each tile instruction is a replacement of one tile, or a write of one register's lanes. -/
theorem tileInstructions : Obligations.TileInstructions := by
  unfold Obligations.TileInstructions
  rintro core s e td ta tb rfl rfl rfl -
  refine ⟨fun h => ⟨_, rfl, ?tld⟩, fun h => ⟨_, rfl, ?tzero⟩, fun h _ hvl => ⟨_, rfl, ?tget⟩, fun h hvl => ⟨_, rfl, ?tput⟩,
    fun h hvl => ⟨_, rfl, ?tred⟩, fun h => ⟨_, rfl, ?topv⟩, fun h => ⟨_, rfl, ?topt⟩⟩
  case tld =>
    have hsite := State.site_vmStart_of_noRuns Site.doTld h
    obtain ⟨hkept, helems⟩ := State.vmStart_replaces h (Site.doTld_sameTiles _ e) (Site.length_tldTile _ e)
    refine ⟨?_, hkept, ?_, fun r c hr hc => ?_⟩
    · rw [hsite, Site.vmRan_nil_spad, Site.doTld_mem]
    · rw [hsite, Site.vmRan_v]
      exact Site.setSpecTile_v _ _ _
    · rw [helems _ (by omega), Site.tldTile, getD_map_tilePlaces _ _ hr hc]
      simp [b2n]
  case tzero =>
    obtain ⟨hkept, helems⟩ := State.vmStart_replaces (f := Site.doTzero) h ⟨rfl, rfl⟩ List.length_replicate
    refine ⟨State.spad_vmStart h (Site.setSpecTile_spad _ _ _), hkept, fun i hi => ?_⟩
    rw [helems i hi, List.getD_replicate _ hi]
  case tget =>
    obtain ⟨hkept, hlanes⟩ := State.vmStart_writes (f := Site.doTget) h hvl rfl
    exact ⟨State.spad_vmStart h rfl, hkept, hlanes⟩
  case tput =>
    obtain ⟨hkept, helems⟩ := State.vmStart_replaces (f := Site.doTput) h ⟨rfl, rfl⟩
      (by rw [Array.length_toList, size_foldl_setIfInBounds, Site.length_specTile])
    refine ⟨State.spad_vmStart h (Site.setSpecTile_spad _ _ _), hkept, fun i hi => ?_⟩
    have hplace : linePlace (vtFile e.bits) (vField e.bits 32 6) i < 4096 := linePlace_lt (vField_lt _ _ _) (by omega)
    rw [← State.getD_vreg (hi.trans_le hvl), ← Site.getD_tput _ hvl hi]
    exact helems _ hplace
  case tred =>
    obtain ⟨hkept, hlanes⟩ := State.vmStart_writes (f := Site.doTred) h hvl (congrArg (fun ws => ((s.site core.key).vx.setVreg _ ws).v) (List.map_map ..))
    exact ⟨State.spad_vmStart h rfl, hkept, hlanes⟩
  case topv =>
    obtain ⟨hkept, helems⟩ := State.vmStart_replaces (f := Site.doTopv) h (Site.doTopv_sameTiles _ e) (Site.length_topTile _ e _)
    refine ⟨State.spad_vmStart h (Site.doTop_spad _ e (Site.topvOther _ e)), hkept, fun r c hr hc => ?_⟩
    rw [helems _ (by omega), Site.getD_topTile _ _ _ hr hc, Site.topvOther, State.getD_vreg (by split <;> assumption)]
    rfl
  case topt =>
    obtain ⟨hkept, helems⟩ := State.vmStart_replaces (f := Site.doTopt) h (Site.doTopt_sameTiles _ e) (Site.length_topTile _ e _)
    refine ⟨State.spad_vmStart h (Site.doTop_spad _ e (Site.toptOther _ e)), hkept, fun r c hr hc => ?_⟩
    rw [helems _ (by omega), Site.getD_topTile _ _ _ hr hc]
    rfl

end Sys2Proof.Machine
end

section
/-! PROOFS. Atomics of the shared caches (R180–R182). -/

namespace Sys2Proof.Machine

open Sys2Proof.Claims

/-! ## What a report of an event leaves unchanged -/

/-- Of state s only what reports use has changed: the free values, the event log, the RMC, the host ports and what has gone out. -/
def Reported (s t : State) : Prop := ∃ n f r h o, t = { s with freeNext := n, fault := f, rmc := r, hps := h, out := o }

theorem Reported.refl (s : State) : Reported s s := ⟨_, _, _, _, _, rfl⟩

theorem Reported.trans {s t u : State} (h : Reported s t) (h' : Reported t u) : Reported s u := by
  obtain ⟨_, _, _, _, _, rfl⟩ := h
  obtain ⟨_, _, _, _, _, rfl⟩ := h'
  exact ⟨_, _, _, _, _, rfl⟩

theorem Reported.stack {s t : State} (h : Reported s t) (k : Nat) : t.stack k = s.stack k := by
  obtain ⟨_, _, _, _, _, rfl⟩ := h
  rfl

theorem State.sendMsix_reported (s : State) (p : Fin 4) (v : BitVec 11) : Reported s (s.sendMsix p v) := by
  unfold State.sendMsix
  split <;> exact ⟨_, _, _, _, _, rfl⟩

theorem State.ringPost_reported (s : State) (ev : Event) (p : Fin 4) : Reported s (s.ringPost ev p) := by
  unfold State.ringPost
  dsimp only
  split
  case isTrue =>
    split
    case isTrue => exact ⟨_, _, _, _, _, rfl⟩
    case isFalse => exact (Reported.trans ⟨_, _, _, _, _, rfl⟩ (State.sendMsix_reported _ _ _)).trans ⟨_, _, _, _, _, rfl⟩
  case isFalse => exact Reported.refl s

theorem State.post_reported (s : State) (code sev path kind index : Nat) (detail : List Nat) : Reported s (s.post code sev path kind index detail) := by
  unfold State.post allPorts
  simp only [List.foldl_cons, List.foldl_nil]
  exact ((((Reported.trans ⟨_, _, _, _, _, rfl⟩ (State.ringPost_reported _ _ _)).trans (State.ringPost_reported _ _ _)).trans
    (State.ringPost_reported _ _ _)).trans (State.ringPost_reported _ _ _))

/-! ## The bytes of a line as elements -/

/-- Piece i of bytes that are written piece by piece, each of w bytes. -/
theorem take_drop_flatMap {α β : Type} {f : α → List β} {w : Nat} (hf : ∀ x, (f x).length = w) {l : List α} {i : Nat} (hi : i < l.length) :
    ((l.flatMap f).drop (w * i)).take w = f l[i] := by
  induction l generalizing i with
  | nil => exact absurd hi (Nat.not_lt_zero i)
  | cons x l ih =>
    rw [List.flatMap_cons]
    cases i with
    | zero => rw [Nat.mul_zero, List.drop_zero, ← hf x, List.take_left]; rfl
    | succ i =>
      rw [Nat.mul_succ, Nat.add_comm, ← List.drop_drop, show List.drop w (f x ++ l.flatMap f) = l.flatMap f by rw [← hf x, List.drop_left]]
      exact ih (Nat.lt_of_succ_lt_succ hi)

theorem length_flatMap_const {α β : Type} {f : α → List β} {w : Nat} (hf : ∀ x, (f x).length = w) (l : List α) :
    (l.flatMap f).length = w * l.length := by
  induction l with
  | nil => rfl
  | cons x l ih => rw [List.flatMap_cons, List.length_append, ih, hf, List.length_cons, Nat.mul_succ, Nat.add_comm]

/-- The value of bytes written. -/
theorem leNat_leBytes_mod (n v : Nat) : leNat (leBytes n v) = v % 256 ^ n := by
  induction n generalizing v with
  | zero => rw [Nat.pow_zero, Nat.mod_one]; rfl
  | succ n ih =>
    rw [leBytes, leNat, ih, Nat.pow_succ', Nat.mod_mul]
    rfl

section
variable {w : Nat} {line operand : List Byte} (f : Nat → Nat → Nat) (hline : line.length = 64) (hoperand : operand.length = 64)
include hline hoperand

/-- The elements of two lines in pairs. -/
theorem zip_lineElems : (lineElems w line).zip (lineElems w operand)
    = (List.range (64 / w)).map (fun i => (leNat ((line.drop (w * i)).take w), leNat ((operand.drop (w * i)).take w))) := by
  rw [lineElems, lineElems, hline, hoperand, List.zip_map']

theorem length_atomicMap (hw : w ∣ 64) : (atomicMap w f line operand).length = 64 := by
  rw [atomicMap, length_flatMap_const (fun q => length_leBytes w _), zip_lineElems hline hoperand, List.length_map, List.length_range,
    Nat.mul_div_cancel' hw]

/-- Element i of the result of an operation by elements. -/
theorem atomicMap_elem {i : Nat} (hi : i < 64 / w) : leNat (((atomicMap w f line operand).drop (w * i)).take w)
    = f (leNat ((line.drop (w * i)).take w)) (leNat ((operand.drop (w * i)).take w)) % 256 ^ w := by
  have hpairs : i < ((lineElems w line).zip (lineElems w operand)).length := by
    rw [zip_lineElems hline hoperand, List.length_map, List.length_range]
    exact hi
  rw [atomicMap, take_drop_flatMap (fun q => length_leBytes w _) hpairs, leNat_leBytes_mod]
  simp only [zip_lineElems hline hoperand, List.getElem_map, List.getElem_range]

/-- An atomic's result is a line. -/
theorem length_atomicLine (aop : Nat) : (atomicLine aop line operand).length = 64 := by
  unfold atomicLine
  split
  case h_8 => exact hoperand
  case h_9 =>
    split
    · rw [List.length_append, List.length_drop, List.length_drop, hline, hoperand]
    · exact hline
  all_goals exact length_atomicMap _ hline hoperand (by decide)

end

/-- Settles O33: ADD_I32 is an operation by words, and the rest are cases of the operation. -/
theorem atomicResults : Obligations.AtomicResults := by
  unfold Obligations.AtomicResults
  intro line operand hline hoperand
  refine ⟨fun i hi => ?_, rfl, fun h => if_pos h, fun h => if_neg h⟩
  exact (atomicMap_elem (w := 4) (fun x y => (x + y) % 2 ^ 32) hline hoperand hi).trans (Nat.mod_mod _ _)

/-! ## A line written to the shared cache or the device -/

theorem Stack.line_of_cached {a : Stack} {l : Nat} {c : CacheLine} (h : a.cached l = some c) : a.line l = (c.bytes, c.poison) := by
  rw [Stack.line, h]

theorem contains_insertNat (l : List Nat) (n : Nat) : (insertNat l n).contains n = true := by
  induction l with
  | nil => simp [insertNat]
  | cons x l ih =>
    unfold insertNat
    split
    · simp
    · split
      · next h => simp [h]
      · simpa using Or.inr ih

/-- A line put in the cache is there. -/
theorem Stack.cached_putCache (a : Stack) (c : CacheLine) : (a.putCache c).cached c.line = some c := by
  have hlast : ∀ l : List CacheLine, (∀ d ∈ l, d.line ≠ c.line) → (l ++ [c]).find? (fun d => d.line == c.line) = some c := by
    intro l hl
    rw [List.find?_append, List.find?_eq_none.mpr (fun d hd => by simpa using hl d hd), Option.none_or, List.find?_cons, beq_self_eq_true]
  have hothers : ∀ d ∈ a.cache.filter (fun d => d.line != c.line), d.line ≠ c.line := fun d hd => by
    simpa using (List.mem_filter.mp hd).2
  unfold Stack.putCache Stack.cached
  dsimp only
  split
  · exact hlast _ hothers
  · split
    · exact hlast _ fun d hd => hothers d (List.mem_filter.mp hd).1
    · exact hlast _ hothers

/-- A whole line written to the device is read there, if the cache does not hold it. -/
theorem Stack.line_putDevice {a : Stack} {l : Nat} (hcached : a.cached l = none) {bs : List Byte} (hbs : bs.length = 64) (poison : Bool) :
    (a.putDevice l bs poison).line l = (bs, poison) := by
  have hmark : (a.putDevice l bs poison).poisonLines.contains l = poison := by
    unfold Stack.putDevice
    cases poison
    · simp
    · exact contains_insertNat _ _
  have hmem : Memory.read (Memory.write a.mem (64 * l) bs) (64 * l) 64 = bs := hbs ▸ Memory.read_write a.mem (64 * l) bs
  unfold Stack.line
  rw [show (a.putDevice l bs poison).cached l = none from hcached]
  exact Prod.ext hmem hmark

/-- A line written is read back. -/
theorem Stack.line_putLine (a : Stack) (atomic : Bool) (l : Nat) {bs : List Byte} (hbs : bs.length = 64) (poison : Bool) :
    (a.putLine atomic l bs poison).line l = (bs, poison) := by
  unfold Stack.putLine
  split
  case isTrue h =>
    dsimp only
    split <;> exact Stack.line_of_cached (a.cached_putCache { line := l, bytes := bs, dirty := true, poison := poison })
  case isFalse h =>
    refine Stack.line_putDevice ?_ hbs poison
    cases hc : a.cached l with
    | none => rfl
    | some c => simp [hc] at h

/-! ## What reading and writing lines leaves of a stack -/

/-- Stacks a and b have taken the same requests, and count the same atomics. -/
def SameIntake (a b : Stack) : Prop := a.arrived = b.arrived ∧ a.atomicCount = b.atomicCount

theorem Stack.putDevice_sameIntake (a : Stack) (l : Nat) (bs : List Byte) (poison : Bool) : SameIntake (a.putDevice l bs poison) a := ⟨rfl, rfl⟩

theorem Stack.putCache_sameIntake (a : Stack) (c : CacheLine) : SameIntake (a.putCache c) a := by
  unfold Stack.putCache
  dsimp only
  split
  · exact ⟨rfl, rfl⟩
  · split
    · split <;> exact ⟨rfl, rfl⟩
    · exact ⟨rfl, rfl⟩

theorem Stack.touch_sameIntake (a : Stack) (l : Nat) : SameIntake (a.touch l) a := by
  unfold Stack.touch
  split
  · exact a.putCache_sameIntake _
  · split
    · exact a.putCache_sameIntake _
    · exact ⟨rfl, rfl⟩

theorem Stack.putLine_sameIntake (a : Stack) (atomic : Bool) (l : Nat) (bs : List Byte) (poison : Bool) :
    SameIntake (a.putLine atomic l bs poison) a := by
  unfold Stack.putLine
  split
  case isTrue =>
    dsimp only
    split <;> exact a.putCache_sameIntake _
  case isFalse => exact ⟨rfl, rfl⟩

theorem State.noteStackUe_sameIntake (s : State) (st l : Nat) : SameIntake ((s.noteStackUe st l).stack st) (s.stack st) := by
  rw [State.noteStackUe, (State.post_reported _ _ _ _ _ _ _).stack, State.stack_upd_self]
  exact ⟨rfl, rfl⟩

/-- A read of line l gives its bytes and its poison, and leaves the intake. -/
theorem State.readStack_line {s : State} {st l : Nat} {old : List Byte} {bad : Bool} (hline : (s.stack st).line l = (old, bad))
    (hold : old.length = 64) : ∃ t, s.readStack st (64 * l) 64 = (t, old, bad) ∧ SameIntake (t.stack st) (s.stack st) := by
  have hlines : linesOf (64 * l) 64 = [l] := by
    rw [linesOf, show (64 * l + 64 - 1) / 64 - 64 * l / 64 + 1 = 1 by omega, show 64 * l / 64 = l by omega]
    rfl
  have htouch : SameIntake ((s.updStack st (fun a => [l].foldl Stack.touch a)).stack st) (s.stack st) := by
    rw [State.stack_upd_self]
    exact Stack.touch_sameIntake _ l
  have htake : old.take 64 = old := List.take_of_length_le hold.le
  unfold State.readStack State.readLines
  simp only [hlines, List.flatMap_cons, List.flatMap_nil, List.append_nil, List.filter_cons, List.filter_nil, hline, Nat.mul_mod_right,
    List.drop_zero, htake]
  cases bad
  · exact ⟨_, rfl, htouch⟩
  · obtain ⟨harrived, hcount⟩ := State.noteStackUe_sameIntake (s.updStack st (fun a => [l].foldl Stack.touch a)) st l
    exact ⟨_, rfl, harrived.trans htouch.1, hcount.trans htouch.2⟩

/-! ## An atomic that finds nothing queued -/

/-- Nothing is queued at a stack: no device access, open entry or waiting read. -/
def Stack.Idle (a : Stack) : Prop := a.jobs = [] ∧ a.entries = [] ∧ a.waiting = []

/-- No entry of an idle stack is there to close. -/
theorem Stack.closeBlock_of_idle {a : Stack} (h : a.Idle) (block : Nat) : a.closeBlock block = a := by
  obtain ⟨-, hentries, hwaiting⟩ := h
  unfold Stack.closeBlock
  rw [hwaiting]
  show a.closeEntry block = a
  rw [Stack.closeEntry, hentries]
  rfl

theorem Stack.use_of_idle {a : Stack} (h : a.Idle) : a.linesInUse = 0 ∧ a.readsInUse = 0 := by
  obtain ⟨hjobs, -, -⟩ := h
  rw [Stack.linesInUse, Stack.readsInUse, hjobs]
  exact ⟨rfl, rfl⟩

/-- An atomic of a line leaves its result there, counts itself and answers the line's prior bytes. -/
theorem State.applyAtomic_of_idle {s : State} {st l : Nat} (aop : Nat) {operand old : List Byte} {bad : Bool} (hidle : (s.stack st).Idle)
    (hline : (s.stack st).line l = (old, bad)) (hold : old.length = 64) (hoperand : operand.length = 64) :
    ∃ t, s.applyAtomic st l aop operand = (t, old, bad) ∧ (t.stack st).line l = (atomicLine aop old operand, bad)
      ∧ (t.stack st).atomicCount = satAdd (s.stack st).atomicCount 1 ∧ (t.stack st).arrived = (s.stack st).arrived := by
  have hclose : s.closeBlock st ((hbmBase + st * 2 ^ 37) / 512 + l / 8) = s.updStack st (fun a => a) :=
    State.updStack_congr (Stack.closeBlock_of_idle hidle _)
  have hsame : (s.updStack st (fun a => a)).stack st = s.stack st := State.stack_upd_self s st _
  have hflush : (s.updStack st (fun a => a)).flushJobs st = s.updStack st (fun a => a) := by
    rw [State.flushJobs, hsame, hidle.1]
    rfl
  obtain ⟨t, hread, harrived, hcount⟩ := State.readStack_line (s := s.updStack st (fun a => a)) (hsame ▸ hline) hold
  obtain ⟨harrived', -⟩ := Stack.putLine_sameIntake (t.stack st) true l (atomicLine aop old operand) bad
  unfold State.applyAtomic
  rw [hclose, hflush]
  dsimp only
  rw [hread]
  refine ⟨_, rfl, ?_, ?_, ?_⟩
  · rw [State.stack_upd_self]
    exact Stack.line_putLine (t.stack st) true l (length_atomicLine hold hoperand aop) bad
  · rw [State.stack_upd_self]
    exact congrArg (satAdd · 1) (hcount.trans (congrArg Stack.atomicCount hsame))
  · rw [State.stack_upd_self]
    exact harrived'.trans (harrived.trans (congrArg Stack.arrived hsame))

/-- An atomic that has arrived, and finds nothing queued. -/
theorem State.atomicReq_of_idle {s : State} {st : Fin 192} {p : Packet} {aop : Nat} (hat : AtStack s st.val p ptAtomicReq)
    (haop : p.aop.toNat = aop) (hhbm : isHbm p.addr.toNat = true) (hfree : s.stageLocked p.addr.toNat = false) (hidle : (s.stack st.val).Idle)
    {t : State} {old : List Byte} {bad : Bool}
    (happly : (s.updStack st.val (fun a => a.take p)).applyAtomic st.val (stackOff p.addr.toNat / 64) aop p.payload = (t, old, bad)) :
    s.atomicReq st aop p = t.sendStack (stackRouter st.val p.addr.toNat) (p.answer ptAtomicRsp stOk old bad) := by
  obtain ⟨hfirst, htype, htarget, hpop, hserves⟩ := hat
  have hdark : (s.stack st.val).dark = false := by
    simp only [Stack.serves, Bool.and_eq_true, Bool.not_eq_true'] at hserves
    exact hserves.2
  obtain ⟨hlines, hreads⟩ := Stack.use_of_idle hidle
  have hguard : (!((s.stack st.val).isFirst p && p.ptype == ptAtomicReq && p.aop.toNat == aop && isHbm p.addr.toNat
      && targetOf p.addr.toNat == .stack st.val)) = false := by
    simp [Stack.isFirst, hfirst, htype, haop, hhbm, htarget]
  unfold State.atomicReq
  simp only [hguard, hdark, hpop, hserves, hfree, Stack.closeBlock_of_idle hidle, hlines, hreads, happly]
  rfl

theorem exec_of_atomicTable (st : Fin 192) (p : Packet) (s : State) : ∀ c ∈ atomicTable, exec (c.1 st p) s = .next (s.atomicReq st c.2 p) := by
  simp only [atomicTable, List.forall_mem_cons, List.not_mem_nil, false_imp_iff, implies_true, and_true]
  exact ⟨rfl, rfl, rfl, rfl, rfl, rfl, rfl, rfl, rfl⟩

/-- Settles O32: with nothing queued the atomic is applied at once, and its answer changes no stack. -/
theorem atomicsReplaceTheirLine : Obligations.AtomicsReplaceTheirLine := by
  unfold Obligations.AtomicsReplaceTheirLine
  rintro c hc st p s l old bad hat haop hhbm hfree rfl hjobs hentries hwaiting hline hold hpayload
  have hself : (s.updStack st.val (fun a => a.take p)).stack st.val = (s.stack st.val).take p := State.stack_upd_self s st.val _
  obtain ⟨t, happly, hnew, hcount, harrived⟩ := State.applyAtomic_of_idle (s := s.updStack st.val (fun a => a.take p)) c.2
    (by rw [hself]; exact ⟨hjobs, hentries, hwaiting⟩) (by rw [hself]; exact hline) hold hpayload
  refine ⟨_, (exec_of_atomicTable st p s c hc).trans (congrArg Host.Outcome.next
    (State.atomicReq_of_idle hat haop hhbm hfree ⟨hjobs, hentries, hwaiting⟩ happly)), hnew, ?_, ?_⟩
  · exact hcount.trans (by rw [hself]; rfl)
  · exact harrived.trans (by rw [hself]; rfl)

end Sys2Proof.Machine
end

section
/-! PROOFS. Routers: routes, grants, credits and liveness (R144–R168, R413). -/

namespace Sys2Proof.Machine

open Sys2Proof.Claims

/-! ## Input buffers -/

theorem Router.queue_setQueue (r : Router) (key : Nat) (q : List BufPkt) (j : Nat) :
    (r.setQueue key q).queue j = if j = key then q else r.queue j := Tbl.get_set _ _ _ _ _

/-- A router whose buffers differ from those of another in one. -/
def Router.QueueIs (r r' : Router) (key : Nat) (q : List BufPkt) : Prop :=
  r'.queue key = q ∧ ∀ j, j ≠ key → r'.queue j = r.queue j

theorem Router.queueIs_setQueue (r : Router) (key : Nat) (q : List BufPkt) : r.QueueIs (r.setQueue key q) key q :=
  ⟨by rw [Router.queue_setQueue, if_pos rfl], fun j hj => by rw [Router.queue_setQueue, if_neg hj]⟩

/-- A packet that leaves a buffer of a neighbour, or one at whose endpoint none waits, leaves the rest of the buffer. -/
theorem Router.queueIs_dequeue {r : Router} {port : RPort} {key : Nat} {b : BufPkt} {rest : List BufPkt} (hq : r.queue key = b :: rest)
    (hwaits : portIdx port < 4 ∨ Tbl.get (fun _ => []) r.waits key = []) : r.QueueIs (r.dequeue port key) key rest := by
  have hset := r.queueIs_setQueue key rest
  unfold Router.dequeue
  rw [hq]
  dsimp only
  split
  case isTrue => exact hset
  case isFalse =>
    split
    case isTrue => exact hset
    case isFalse h =>
      rw [show Tbl.get (fun _ => []) (r.setQueue key rest).waits key = [] from hwaits.resolve_left h]
      exact hset

theorem State.updRouter_congr {s : State} {k : Nat} {f g : Router → Router} (h : f (s.site k).rt = g (s.site k).rt) :
    s.updRouter k f = s.updRouter k g := State.updSite_congr (by rw [h])

theorem State.bufferNow_updRouter {s : State} {k key : Nat} {f : Router → Router} {q : List BufPkt}
    (h : (s.site k).rt.QueueIs (f (s.site k).rt) key q) : BufferNow s (s.updRouter k f) k key q := by
  obtain ⟨hkey, hothers⟩ := h
  refine ⟨?_, fun j hj => ?_, fun j hj => State.site_upd_ne s _ hj⟩
  · rw [State.updRouter, State.site_upd_self]
    exact hkey
  · rw [State.updRouter, State.site_upd_self]
    exact hothers j hj

/-! ## Routes (R150–R152) -/

section
variable {s : State} {k : Nat} {x : SiteId} {port : RPort} {c : TClass} {lane : Fin 2} {p : Packet} {b : BufPkt} {rest : List BufPkt}

/-- A packet that need not combine takes its place as the head of its buffer. -/
theorem Router.place_of_not_combining {r : Router} {key : Nat} (o : RPort) (p' : Packet) (hq : r.queue key = b :: rest)
    (hnot : p'.ptype ≠ ptReduce ∨ r.combineEn = false) :
    r.place port key o p' = r.setQueue key ({ b with routed := true, copies := [(o, p')] } :: rest) := by
  have hcond : ¬(p'.ptype = ptReduce ∧ r.combineEn = true) := fun ⟨htype, hen⟩ => by
    rcases hnot with h | h
    · exact h htype
    · exact Bool.false_ne_true (h.symm.trans hen)
  unfold Router.place
  dsimp only
  rw [if_neg hcond, hq]
  rfl

/-- The default route, with the port that DPORT names as a choice of three. -/
theorem defaultRoute_eq (k : Nat) (p : Packet) : defaultRoute k p =
    (if posCol k < p.dcol then .e else if p.dcol < posCol k then .w else if posRow k < p.drow then .s else if p.drow < posRow k then .n
      else if p.dport = 0 then .loc else if p.dport = 1 then .edge else .service) := by
  have hport : ∀ d : BitVec 2, (match d.toNat with | 0 => RPort.loc | 1 => RPort.edge | _ => RPort.service)
      = if d = 0 then .loc else if d = 1 then .edge else .service := by decide
  unfold defaultRoute
  dsimp only
  exact if_congr Iff.rfl rfl (if_congr Iff.rfl rfl (if_congr Iff.rfl rfl (if_congr Iff.rfl rfl (hport p.dport))))

/-- ROUTER_FORWARD of a single copy, by its route. -/
theorem exec_routerForward_of_heads (h : Heads s x.key port c lane p rest) (hdset : p.dset = false) {o : RPort} {p' : Packet}
    (hroute : (s.site x.key).rt.route x.key port p = (o, p')) :
    exec (.routerForward x port c lane) s = .next (
      if s.outBlocked x.key o p' = true then (s.updRouter x.key (fun r => r.dequeue port (bufKey port c.idx lane.val))).discardBlocked x.key port p
      else s.updRouter x.key (fun r => r.place port (bufKey port c.idx lane.val) o p')) := by
  obtain ⟨hforwards, b, hq, hrouted, rfl, hclass⟩ := h
  refine congrArg Host.Outcome.next ?_
  dsimp only
  rw [hq]
  dsimp only
  rw [hrouted, hforwards, hroute]
  simp [hclass, hdset]

/-- A packet whose output is free is given that output. -/
theorem exec_routerForward_of_free (h : Heads s x.key port c lane p rest) (hdset : p.dset = false) {o : RPort} {p' : Packet}
    (hnot : p'.ptype ≠ ptReduce ∨ (s.site x.key).rt.combineEn = false)
    (hroute : (s.site x.key).rt.route x.key port p = (o, p')) (hfree : s.outBlocked x.key o p' = false) :
    ∃ t b, exec (.routerForward x port c lane) s = .next t ∧ BufferNow s t x.key (bufKey port c.idx lane.val) (b :: rest) ∧ b.pkt = p
      ∧ b.routed = true ∧ b.copies = [(o, p')] := by
  have hexec := exec_routerForward_of_heads h hdset hroute
  rw [hfree, if_neg Bool.false_ne_true] at hexec
  obtain ⟨-, b, hq, -, hpkt, -⟩ := h
  refine ⟨_, { b with routed := true, copies := [(o, p')] }, hexec, State.bufferNow_updRouter ?_, hpkt, rfl, rfl⟩
  rw [Router.place_of_not_combining o p' hq hnot]
  exact Router.queueIs_setQueue _ _ _

end

theorem Router.dropSluice_refill (port : RPort) (key : Nat) (ps : List Packet) (r : Router) : (r.refill port key ps).dropSluice = r.dropSluice := by
  induction ps generalizing r with
  | nil => rfl
  | cons p ps ih =>
    unfold Router.refill
    split
    case isTrue => exact ih _
    case isFalse => rfl

theorem Router.dropSluice_dequeue (r : Router) (port : RPort) (key : Nat) : (r.dequeue port key).dropSluice = r.dropSluice := by
  unfold Router.dequeue
  split
  · rfl
  · dsimp only
    split
    · rfl
    · split
      · rfl
      · exact Router.dropSluice_refill _ _ _ _

/-- A sluice packet whose output is blocked leaves its buffer and is counted. -/
theorem discardBlocked_of_sluice {s : State} {k : Nat} {port : RPort} {p : Packet} {f : Router → Router} (h : p.cls = .sluice) :
    (s.updRouter k f).discardBlocked k port p = s.updRouter k (fun r => { f r with dropSluice := satAdd (f r).dropSluice 1 }) := by
  unfold State.discardBlocked
  rw [h]
  exact State.updSite_updSite s k _ _

/-- DSET_FORK where every output of the rectangle is open. -/
theorem exec_dsetFork_of_open {s : State} {x : SiteId} {port : RPort} {lane : Fin 2} {p : Packet} {rest : List BufPkt}
    (h : Heads s x.key port .sluice lane p rest) (hdset : p.dset = true) (hloc : port ≠ .loc) (hservice : port ≠ .service)
    (harray : (s.site x.key).holdsArray = true) (hopen : ∀ o ∈ forkOutputs x.key port p, o = .loc ∨ s.blocked x.key o = false)
    (hsome : forkOutputs x.key port p ≠ []) :
    ∃ b : BufPkt, b.routed = true ∧ b.copies = (forkOutputs x.key port p).map (fun o => (o, p))
      ∧ exec (.dsetFork x port lane) s = .next (s.updRouter x.key (fun r => r.setQueue (bufKey port 0 lane.val) (b :: rest))) := by
  obtain ⟨hforwards, b, hq, hrouted, rfl, -⟩ := h
  have houts : (forkOutputs x.key port b.pkt).filter (fun o => o != .loc || (s.site x.key).holdsArray) = forkOutputs x.key port b.pkt :=
    List.filter_eq_self.mpr fun o _ => by rw [harray, Bool.or_true]
  have hgo : (forkOutputs x.key port b.pkt).filter (fun o => o == .loc || !s.blocked x.key o) = forkOutputs x.key port b.pkt :=
    List.filter_eq_self.mpr fun o ho => by rcases hopen o ho with h | h <;> simp [h]
  have hshut : (forkOutputs x.key port b.pkt).filter (fun o => o != .loc && s.blocked x.key o) = [] :=
    List.filter_eq_nil_iff.mpr fun o ho => by rcases hopen o ho with h | h <;> simp [h]
  have hq' : (s.site x.key).rt.queue (bufKey port 0 lane.val) = b :: rest := hq
  refine ⟨{ b with routed := true, copies := _ }, rfl, rfl, congrArg Host.Outcome.next ?_⟩
  dsimp only
  rw [hq']
  dsimp only
  rw [hrouted, hdset, hforwards, houts, hgo, hshut]
  simp only [Bool.not_true, Bool.or_false, beq_eq_false_iff_ne.mpr hloc, beq_eq_false_iff_ne.mpr hservice, Bool.false_eq_true, if_false,
    List.isEmpty_eq_false_iff.mpr hsome, List.foldl_nil]
  exact State.updRouter_congr (by rw [hq']; rfl)

/-- Settles O29: the route of the head decides its place, a fork whose outputs are open copies it to each. -/
theorem packetsTakeTheirRoutes : Obligations.PacketsTakeTheirRoutes := by
  unfold Obligations.PacketsTakeTheirRoutes
  rintro x port c lane s p rest k key rfl rfl hwaits
  refine ⟨fun h hdset hnot => ⟨?default, ?detour, ?blocked⟩, ?fork, ?hold⟩
  case default =>
    rintro hnone o rfl hfree
    refine exec_routerForward_of_free h hdset hnot ?_ hfree
    rw [Router.route, hnone, defaultRoute_eq]
  case detour =>
    rintro d o p' hd rfl rfl hfree
    refine exec_routerForward_of_free h hdset ?_ ?_ hfree
    · split <;> exact hnot
    · rw [Router.route, hd]; rfl
  case blocked =>
    intro hblocked hsluice
    have hexec := exec_routerForward_of_heads h hdset (Prod.mk.eta).symm
    rw [if_pos hblocked] at hexec
    obtain ⟨-, b, hq, -, -, -⟩ := h
    rw [discardBlocked_of_sluice hsluice] at hexec
    refine ⟨_, hexec, State.bufferNow_updRouter ?_, ?_⟩
    · exact Router.queueIs_dequeue hq hwaits
    · rw [State.updRouter, State.site_upd_self]
      exact congrArg (satAdd · 1) (Router.dropSluice_dequeue _ _ _)
  case fork =>
    intro h hdset hloc hservice harray hopen hsome
    obtain ⟨b, hrouted, hcopies, hexec⟩ := exec_dsetFork_of_open h hdset hloc hservice harray hopen hsome
    exact ⟨_, b, hexec, State.bufferNow_updRouter (Router.queueIs_setQueue _ _ _), hrouted, hcopies⟩
  case hold =>
    intro b hq
    refine ⟨_, rfl, State.bufferNow_updRouter ?_⟩
    rw [hq]
    exact Router.queueIs_setQueue _ _ _

/-! ## Grants (R144, R149, R162) -/

theorem Router.candidates_of_pick {r : Router} {o : RPort} {takes : Packet → Bool} {c : Nat} {q : RPort × Nat × Bool}
    (h : r.pick o takes c = some q) : r.candidates o takes c ≠ [] := by
  intro hnone
  rw [Router.pick, hnone] at h
  exact absurd h (by simp)

section
variable {s : State} {k : Nat} {o : RPort}

theorem State.anyReady_of_candidates (hforwards : (s.site k).forwards = true) (c : Fin 4)
    (h : (s.site k).rt.candidates o (s.sinkTakes k o) c.val ≠ []) : s.anyReady k o = true := by
  rw [State.anyReady, hforwards, Bool.true_and, List.any_eq_true]
  exact ⟨c.val, List.mem_range.mpr c.isLt, by simpa using h⟩

theorem State.anyReady_of_none (h : ∀ c, c < 4 → (s.site k).rt.candidates o (s.sinkTakes k o) c = []) : s.anyReady k o = false := by
  rw [State.anyReady, Bool.and_eq_false_iff, List.any_eq_false]
  exact .inr fun c hc => by simp [h c (List.mem_range.mp hc)]

/-- The output after its class has sent a packet: the class's weight is added, and the packet's flits are taken. -/
def OutState.sent (y : OutState) (r : Router) (key flits : Nat) : OutState :=
  let c := y.pointer
  { pointer := c, arrived := false
    deficit := vset (vset y.deficit c.val (vget 0 y.deficit c.val + r.weight c.val)) c.val
      (vget 0 (vset y.deficit c.val (vget 0 y.deficit c.val + r.weight c.val)) c.val - flits)
    last := vset y.last c.val (((classQueues c.val).findIdx? (fun q => q.2 == key)).getD 0) }

/-- A packet that is picked within its class's deficit is chosen at once. -/
theorem Router.arbitrate_of_pick {r : Router} {takes : Packet → Bool} {n key : Nat} {port : RPort} {p : Packet}
    (hpick : r.pick o takes (r.out o).pointer.val = some (port, key, false)) (hready : r.ready o takes key = some p)
    (harrived : (r.out o).arrived = true)
    (hfits : p.flits ≤ vget 0 (r.out o).deficit (r.out o).pointer.val + r.weight (r.out o).pointer.val) :
    Router.arbitrate o takes (n + 1) r = (r.setOut o ((r.out o).sent r key p.flits), some (port, key)) := by
  have hfits' : p.flits ≤ vget 0 (vset (r.out o).deficit (r.out o).pointer.val
      (vget 0 (r.out o).deficit (r.out o).pointer.val + r.weight (r.out o).pointer.val)) (r.out o).pointer.val := by
    rw [vget_vset _ _ (r.out o).pointer.isLt, if_pos rfl]
    exact hfits
  unfold Router.arbitrate
  simp only [hpick, hready, harrived, if_true, Bool.false_eq_true, if_false, if_pos hfits']
  rfl

theorem State.grant_of_shedding {port : RPort} {key : Nat} {p : Packet} (hforwards : (s.site k).forwards = true)
    (hshed : s.shedding k o = some (port, key, p)) : s.grant k o = s.shed k o port key p := by
  rw [State.grant, if_pos hforwards, hshed]

theorem State.grant_of_none_ready (hforwards : (s.site k).forwards = true) (hshed : s.shedding k o = none) (hyields : s.seamYields k o = false)
    (hready : s.anyReady k o = false) : s.grant k o = s.updRouter k (fun r => r.setOut o (r.out o).pass) := by
  rw [State.grant, if_pos hforwards, hshed]
  dsimp only
  rw [hyields, hready, if_neg Bool.false_ne_true, if_neg Bool.false_ne_true]

theorem State.grant_of_ready {r : Router} {port : RPort} {key : Nat} (hforwards : (s.site k).forwards = true) (hshed : s.shedding k o = none)
    (hyields : s.seamYields k o = false) (hready : s.anyReady k o = true)
    (harb : Router.arbitrate o (s.sinkTakes k o) 64 (s.site k).rt = (r, some (port, key))) :
    s.grant k o = ((s.updRouter k (fun _ => r)).seamSent k o).sendOut k o port key := by
  rw [State.grant, if_pos hforwards, hshed]
  dsimp only
  rw [hyields, hready, if_neg Bool.false_ne_true, if_pos rfl, harb]

end

/-- CREDIT_RETURN, at a router whose neighbour is another. -/
theorem exec_creditReturn_of_neighbour {x : SiteId} {port : RPort} {c : TClass} {lane : Fin 2} {s : State} {j : Nat}
    (hj : neighbour x.key port = some j) (hne : j ≠ x.key) :
    ∃ t, exec (.creditReturn x port c lane) s = .next t
      ∧ Tbl.get (fun _ => 0) (t.site j).rt.owed (bufKey (portOpp port) c.idx lane.val) = 0
      ∧ Tbl.get (fun _ => 0) (t.site x.key).rt.used (bufKey port c.idx lane.val) =
          Tbl.get (fun _ => 0) (s.site x.key).rt.used (bufKey port c.idx lane.val)
            - Tbl.get (fun _ => 0) (s.site j).rt.owed (bufKey (portOpp port) c.idx lane.val) := by
  have hexec : exec (.creditReturn x port c lane) s = .next
      ((s.updRouter j (fun r => { r with owed := Tbl.set r.owed (bufKey (portOpp port) c.idx lane.val) 0 })).updRouter x.key
        (fun r => { r with used := Tbl.set r.used (bufKey port c.idx lane.val) (Tbl.get (fun _ => 0) r.used (bufKey port c.idx lane.val)
          - Tbl.get (fun _ => 0) (s.site j).rt.owed (bufKey (portOpp port) c.idx lane.val)) })) := by
    refine congrArg Host.Outcome.next ?_
    dsimp only
    rw [hj]
  refine ⟨_, hexec, ?_, ?_⟩
  · rw [State.updRouter, State.site_upd_ne _ _ hne, State.updRouter, State.site_upd_self]
    exact (Tbl.get_set _ _ _ _ _).trans (if_pos rfl)
  · rw [State.updRouter, State.site_upd_self, State.updRouter, State.site_upd_ne _ _ hne.symm]
    exact (Tbl.get_set _ _ _ _ _).trans (if_pos rfl)

/-! ## Liveness (R413, R419) -/

/-- LIVENESS_ARRIVE consumes the flit; a neighbour that is taken to be off and not fenced is then a disagreement. -/
theorem exec_livenessArrive {x : SiteId} {port : RPort} {s : State} (hport : portIdx port < 4) :
    exec (.livenessArrive x port) s = .next (match neighbour x.key port with
      | none => s.updRouter x.key (fun r => { r with liveIn := putBit r.liveIn (portIdx port) false })
      | some j =>
        if (s.site x.key).forwards && !(s.site j).forwards && !(s.site j).fenced then
          (s.updRouter x.key (fun r => { r with liveIn := putBit r.liveIn (portIdx port) false })).livenessDisagree x.key j
        else s.updRouter x.key (fun r => { r with liveIn := putBit r.liveIn (portIdx port) false })) := by
  have hconsumed : s.updRouter x.key (fun r => if portIdx port < 4 then { r with liveIn := putBit r.liveIn (portIdx port) false } else r)
      = s.updRouter x.key (fun r => { r with liveIn := putBit r.liveIn (portIdx port) false }) := State.updRouter_congr (if_pos hport)
  refine congrArg Host.Outcome.next ?_
  rw [hconsumed] <;> rfl

/-- LIVENESS_LOST of a forwarding neighbour whose flit has not come. -/
theorem exec_livenessLost_of_silent {x : SiteId} {port : RPort} {s : State} {j : Nat} (hj : neighbour x.key port = some j)
    (hforwards : (s.site x.key).forwards = true) (hneighbour : (s.site j).forwards = true)
    (hon : (s.site x.key).rt.liveOn.getLsbD (portIdx port) = true) (hin : (s.site x.key).rt.liveIn.getLsbD (portIdx port) = false) :
    exec (.livenessLost x port) s = .next ((s.updRouter x.key (fun r => { r with liveLost := putBit r.liveLost (portIdx port) true })).hwFault j 0
      fcLiveness 3 [x.key]) := by
  refine congrArg Host.Outcome.next ?_
  dsimp only
  rw [hj]
  exact if_pos (by simp [bit, hforwards, hneighbour, hon, hin])

/-- ROUTE_AUDIT_DONE of the load at the head whose audit has not ended. -/
theorem exec_routeAuditDone_of_load {s : State} {l : ImgLoad} {ls : List ImgLoad} (hloads : s.images.loads = l :: ls) (hstep : l.step = 6)
    (haudited : l.audited = false) : exec .routeAuditDone s
      = .next ((routeAudit (s.tablesAfter (s.peek l.stage l.bytes) l.isPartial l.pan)).elim s.auditPass s.auditFail) := by
  refine congrArg Host.Outcome.next ?_
  rw [hloads]
  exact if_neg (by simp [hstep, haudited])

/-- Settles O30: a grant by the state of its output, and each other event of a router by its own rule. -/
theorem routersGrantAndReturn : Obligations.RoutersGrantAndReturn := by
  unfold Obligations.RoutersGrantAndReturn
  refine ⟨?grant, fun x o s hforwards => ⟨?shed, ?pass⟩, ?age, ?credit, fun _ _ _ => rfl, ?send, ?arrive, ?lost, ?audit⟩
  case grant =>
    rintro x o s c port key p r y takes rfl rfl rfl hforwards hshed hyields rfl hpick hready harrived hfits
    have hany := State.anyReady_of_candidates hforwards _ (Router.candidates_of_pick hpick)
    exact congrArg Host.Outcome.next
      (State.grant_of_ready hforwards hshed hyields hany (Router.arbitrate_of_pick hpick hready harrived hfits))
  case shed => exact fun port key p hshed => congrArg Host.Outcome.next (State.grant_of_shedding hforwards hshed)
  case pass =>
    exact fun hshed hyields hnone => congrArg Host.Outcome.next
      (State.grant_of_none_ready hforwards hshed hyields (State.anyReady_of_none hnone))
  case age =>
    rintro x o port c lane s key rfl hready
    exact congrArg Host.Outcome.next (if_pos hready)
  case credit => exact fun x port c lane s j hj hne => exec_creditReturn_of_neighbour hj hne
  case send => exact fun x s hforwards => congrArg Host.Outcome.next (if_pos hforwards)
  case arrive =>
    rintro x port s t hport rfl
    rw [exec_livenessArrive hport]
    refine ⟨fun j hj hforwards hoff hfenced => ?_, fun hother => ?_⟩
    · rw [hj]
      exact congrArg Host.Outcome.next (if_pos (by rw [hforwards, hoff, hfenced]; rfl))
    · cases hj : neighbour x.key port with
      | none => rfl
      | some j => exact congrArg Host.Outcome.next (if_neg (by rcases hother j hj with h | h | h <;> simp [h]))
  case lost => exact fun x port s j hj hforwards hneighbour hon hin => exec_livenessLost_of_silent hj hforwards hneighbour hon hin
  case audit =>
    intro s l ls hloads hstep haudited
    rw [exec_routeAuditDone_of_load hloads hstep haudited]
    exact ⟨fun h => by rw [h]; rfl, fun r h => by rw [h]; rfl⟩

end Sys2Proof.Machine
end

section
/-! PROOFS. HBM stacks: requests, device accesses, power and temperature (R158, R171–R190). -/

namespace Sys2Proof.Machine

open Sys2Proof.Claims

/-! ## Requests that have arrived (R158, R173, R174) -/

theorem Stack.not_dark_of_serves {a : Stack} {off : Nat} (h : a.serves off = true) : a.dark = false := by
  simp only [Stack.serves, Bool.and_eq_true, Bool.not_eq_true'] at h
  exact h.2

/-- A READ_REQ that has arrived, with a tracker entry free: it is served alone, or by the state of its block. -/
theorem exec_hbmReadReq_of_atStack {st : Fin 192} {p : Packet} {s : State} (hat : AtStack s st.val p ptReadReq)
    (hroom : (s.stack st.val).readsInUse < 8192) :
    exec (.hbmReadReq st p) s = .next (
      let t := s.updStack st.val (fun a => a.take p)
      if p.nomerge || (s.stack st.val).window == 0 then t.updStack st.val (fun a => { a with jobs := a.jobs ++ [.read p] })
      else match (s.stack st.val).entries.find? (fun m => m.block == p.addr.toNat / 512) with
        | some m =>
          if m.has p then t.updStack st.val (fun a => { a with waiting := a.waiting ++ [p] })
          else
            let u := t.updStack st.val (fun a => { a with
              joined := satAdd a.joined 1
              entries := updFirst (fun m => m.block == p.addr.toNat / 512) (fun m => { m with members := m.members ++ [memberOf p] }) a.entries })
            if m.members.length + 1 = 1024 then u.closeEntry st.val (p.addr.toNat / 512) else u
        | none =>
          if (s.stack st.val).entries.length < 64 then
            t.updStack st.val (fun a => { a with entries := a.entries ++ [⟨p.addr.toNat / 512, [memberOf p]⟩] })
          else t.updStack st.val (fun a => { a with jobs := a.jobs ++ [.read p] })) := by
  obtain ⟨hfirst, htype, htarget, hpop, hserves⟩ := hat
  have hguard : (!((s.stack st.val).isFirst p && p.ptype == ptReadReq && targetOf p.addr.toNat == .stack st.val)) = false := by
    simp [Stack.isFirst, hfirst, htype, htarget]
  refine congrArg Host.Outcome.next ?_
  dsimp only
  rw [hguard, Stack.not_dark_of_serves hserves, hpop, hserves, Bool.not_true, if_neg Bool.false_ne_true, if_neg Bool.false_ne_true,
    if_neg Bool.false_ne_true, if_neg Bool.false_ne_true, if_neg (Nat.not_le.mpr hroom)] <;> rfl

/-- A read that joins an open entry short of its 1,024 members. -/
theorem exec_hbmReadReq_joins {st : Fin 192} {p : Packet} {s : State} {m : MergeEntry} (hat : AtStack s st.val p ptReadReq)
    (hroom : (s.stack st.val).readsInUse < 8192) (hmerge : p.nomerge = false) (hwindow : (s.stack st.val).window ≠ 0)
    (hentry : (s.stack st.val).entries.find? (fun m => m.block == p.addr.toNat / 512) = some m) (hhas : m.has p = false)
    (hfull : m.members.length + 1 < 1024) :
    exec (.hbmReadReq st p) s = .next ((s.updStack st.val (fun a => a.take p)).updStack st.val (fun a => { a with
      joined := satAdd a.joined 1
      entries := updFirst (fun m => m.block == p.addr.toNat / 512) (fun m => { m with members := m.members ++ [memberOf p] }) a.entries })) := by
  rw [exec_hbmReadReq_of_atStack hat hroom]
  dsimp only
  rw [hmerge, Bool.false_or, if_neg (by simpa using hwindow), hentry]
  dsimp only
  rw [hhas, if_neg Bool.false_ne_true, if_neg hfull.ne]

/-! ### Closing entries -/

theorem Stack.closeEntry_of_none {a : Stack} {block : Nat} (h : a.entries.find? (fun m => m.block == block) = none) :
    a.closeEntry block = a := by
  rw [Stack.closeEntry, h]

/-- An entry of a block for which no read waits is closed into one access. -/
theorem Stack.closeEntry_of_some {a : Stack} {block : Nat} {m : MergeEntry} (h : a.entries.find? (fun m => m.block == block) = some m)
    (hwaiting : a.waiting.filter (fun p => p.addr.toNat / 512 == block) = []) :
    a.closeEntry block = { a with
      entries := a.entries.filter (fun m => m.block != block)
      waiting := a.waiting.filter (fun p => !(p.addr.toNat / 512 == block))
      jobs := a.jobs ++ [.merged block m.members] } := by
  rw [Stack.closeEntry, h]
  dsimp only
  rw [hwaiting]
  simp

theorem Stack.closeBlock_of_none {a : Stack} {block : Nat} (h : a.entries.find? (fun m => m.block == block) = none) :
    a.closeBlock block = a := by
  have hfold : ∀ l : List Nat, l.foldl (fun (a : Stack) _ => a.closeEntry block) a = a := by
    intro l
    induction l with
    | nil => rfl
    | cons _ l ih => rw [List.foldl_cons, Stack.closeEntry_of_none h, ih]
  exact hfold _

theorem Stack.closeBlock_of_some {a : Stack} {block : Nat} (hwaiting : a.waiting.filter (fun p => p.addr.toNat / 512 == block) = []) :
    a.closeBlock block = a.closeEntry block := by
  have hcount : a.waiting.countP (fun p => p.addr.toNat / 512 == block) = 0 := by rw [List.countP_eq_length_filter, hwaiting]; rfl
  rw [Stack.closeBlock, hcount]
  rfl

theorem Stack.readsInUse_append_merged {a : Stack} {block : Nat} {ms : List Member} (jobs : List StackJob) (hjobs : a.jobs = jobs ++ [.merged block ms]) :
    a.readsInUse = ({ a with jobs := jobs } : Stack).readsInUse + 1 := by
  rw [Stack.readsInUse, Stack.readsInUse, hjobs, List.countP_append]
  rfl

/-- A WRITE that has arrived, with room for its lines and for the accesses of the entries of its block. -/
theorem exec_hbmWrite_of_atStack {st : Fin 192} {p : Packet} {s : State} (hat : AtStack s st.val p ptWrite) (hhbm : isHbm p.addr.toNat = true)
    (hfree : s.stageLocked p.addr.toNat = false) (hroom : (s.stack st.val).linesInUse + p.payload.length / 64 ≤ 4096)
    (hreads : ((s.stack st.val).closeBlock (p.addr.toNat / 512)).readsInUse ≤ 8192) :
    exec (.hbmWrite st p) s = .next (((s.updStack st.val (fun a => a.take p)).closeBlock st.val (p.addr.toNat / 512)).updStack st.val
      (fun a => { a with jobs := a.jobs ++ [.write p] })) := by
  obtain ⟨hfirst, htype, htarget, hpop, hserves⟩ := hat
  have hguard : (!((s.stack st.val).isFirst p && p.ptype == ptWrite && isHbm p.addr.toNat && targetOf p.addr.toNat == .stack st.val)) = false := by
    simp [Stack.isFirst, hfirst, htype, hhbm, htarget]
  refine congrArg Host.Outcome.next ?_
  dsimp only
  rw [hguard, Stack.not_dark_of_serves hserves, hpop, hserves, hfree, Bool.not_true, Bool.or_self, if_neg Bool.false_ne_true,
    if_neg Bool.false_ne_true, if_neg Bool.false_ne_true, if_neg Bool.false_ne_true, if_pos ⟨hroom, hreads⟩]

theorem State.stack_hbmWritten (s : State) (st : Nat) (p : Packet) :
    (((s.updStack st (fun a => a.take p)).closeBlock st (p.addr.toNat / 512)).updStack st (fun a => { a with jobs := a.jobs ++ [.write p] })).stack st
      = { ((s.stack st).take p).closeBlock (p.addr.toNat / 512) with
          jobs := (((s.stack st).take p).closeBlock (p.addr.toNat / 512)).jobs ++ [.write p] } := by
  rw [State.stack_upd_self, State.closeBlock, State.stack_upd_self, State.stack_upd_self]

/-! ## Device accesses (R174, R186) -/

/-- The oldest device access is taken from the queue and done. -/
theorem exec_hbmDeviceAccessDone_of_jobs {st : Fin 192} {s : State} {j : StackJob} {rest : List StackJob} (h : (s.stack st.val).jobs = j :: rest) :
    exec (.hbmDeviceAccessDone st) s = .next ((s.updStack st.val (fun a => { a with jobs := rest })).runJob st.val j) := by
  refine congrArg Host.Outcome.next ?_
  rw [State.stepJobs, h]

/-- A read that a stack serves is answered with its bytes, or with POISON and zeros. -/
theorem State.runJob_of_read {s : State} {st : Nat} {p : Packet} (h : (s.stack st).serves (stackOff p.addr.toNat) = true) :
    s.runJob st (.read p) = (s.readStack st (stackOff p.addr.toNat) (p.bytesM1.toNat + 1)).1.sendStack (stackRouter st p.addr.toNat)
      (p.answer ptReadRsp stOk (if (s.readStack st (stackOff p.addr.toNat) (p.bytesM1.toNat + 1)).2.2
          then List.replicate (s.readStack st (stackOff p.addr.toNat) (p.bytesM1.toNat + 1)).2.1.length 0
          else (s.readStack st (stackOff p.addr.toNat) (p.bytesM1.toNat + 1)).2.1)
        (s.readStack st (stackOff p.addr.toNat) (p.bytesM1.toNat + 1)).2.2) := by
  unfold State.runJob
  dsimp only
  rw [if_pos h]
  generalize s.readStack st (stackOff p.addr.toNat) (p.bytesM1.toNat + 1) = q
  rfl

/-- A line of an uncached range that the cache does not hold is written to the device. -/
theorem Stack.writeLine_of_uncached {a : Stack} {l : Nat} (hcached : a.cached l = none) (hrange : a.inCachedRange l = false) (bs : List Byte)
    (poison : Bool) : a.writeLine l bs poison = a.putDevice l bs poison := by
  rw [Stack.writeLine, Stack.putLine, hcached, hrange]
  exact if_neg (by simp)

theorem Stack.writeLines_line (a : Stack) (off : Nat) {bs : List Byte} (hbs : bs.length = 64) (poison : Bool) :
    a.writeLines off bs poison = a.writeLine (off / 64) bs poison := by
  rw [Stack.writeLines, hbs]
  show a.writeLine (off / 64 + 0) ((bs.drop (64 * 0)).take 64) poison = _
  rw [Nat.add_zero, Nat.mul_zero, List.drop_zero, List.take_of_length_le hbs.le]

/-- Settles O31: each request and each device access by its own lemma. -/
theorem stacksQueueAndCompleteAccesses : Obligations.StacksQueueAndCompleteAccesses := by
  unfold Obligations.StacksQueueAndCompleteAccesses
  refine ⟨?requests, ?accesses⟩
  case requests =>
    rintro st p s a t rfl rfl
    refine ⟨fun hat hroom => ⟨fun halone => ?alone, fun hmerge hwindow => ⟨fun hnone hlen => ?opens, fun hnone hlen => ?full,
      fun m hm hhas => ?waits, fun m hm hhas hlen => ?joins⟩⟩, fun b m hroom hm hwaiting => ?close,
      fun hat hhbm hfree hroom => ⟨fun hnone hreads => ?write, fun m hm hreads hwaiting => ?writeCloses⟩, fun _ => rfl⟩
    case alone =>
      refine ⟨_, exec_hbmReadReq_of_atStack hat hroom, ?_⟩
      dsimp only
      rw [if_pos (by simpa using halone), State.stack_upd_self, State.stack_upd_self]
      rfl
    case opens =>
      refine ⟨_, exec_hbmReadReq_of_atStack hat hroom, ?_⟩
      dsimp only
      rw [hmerge, Bool.false_or, if_neg (by simpa using hwindow), hnone]
      dsimp only
      rw [if_pos hlen, State.stack_upd_self, State.stack_upd_self]
      rfl
    case full =>
      refine ⟨_, exec_hbmReadReq_of_atStack hat hroom, ?_⟩
      dsimp only
      rw [hmerge, Bool.false_or, if_neg (by simpa using hwindow), hnone]
      dsimp only
      rw [if_neg (Nat.not_lt.mpr hlen), State.stack_upd_self, State.stack_upd_self]
      rfl
    case waits =>
      refine ⟨_, exec_hbmReadReq_of_atStack hat hroom, ?_⟩
      dsimp only
      rw [hmerge, Bool.false_or, if_neg (by simpa using hwindow), hm]
      dsimp only
      rw [if_pos hhas, State.stack_upd_self, State.stack_upd_self]
      rfl
    case joins =>
      refine ⟨_, exec_hbmReadReq_joins hat hroom hmerge hwindow hm hhas hlen, ?_⟩
      rw [State.stack_upd_self, State.stack_upd_self]
      exact ⟨rfl, rfl, rfl⟩
    case close =>
      refine ⟨_, congrArg Host.Outcome.next (if_pos hroom), ?_⟩
      rw [State.closeEntry, State.stack_upd_self, Stack.closeEntry_of_some hm hwaiting]
      exact ⟨rfl, rfl⟩
    case write =>
      refine ⟨_, exec_hbmWrite_of_atStack hat hhbm hfree hroom (by rw [Stack.closeBlock_of_none hnone]; exact hreads), ?_⟩
      rw [State.stack_hbmWritten, Stack.closeBlock_of_none (a := (s.stack st.val).take p) hnone]
      rfl
    case writeCloses =>
      have hclosed : ∀ a : Stack, a.entries = (s.stack st.val).entries → a.waiting = (s.stack st.val).waiting → a.jobs = (s.stack st.val).jobs →
          (a.closeBlock (p.addr.toNat / 512)).jobs = (s.stack st.val).jobs ++ [.merged (p.addr.toNat / 512) m.members]
            ∧ (a.closeBlock (p.addr.toNat / 512)).entries = (s.stack st.val).entries.filter (fun m => m.block != p.addr.toNat / 512) := by
        intro a hentries hwait hjobs
        rw [Stack.closeBlock_of_some (by rw [hwait]; exact hwaiting), Stack.closeEntry_of_some (by rw [hentries]; exact hm) (by rw [hwait]; exact hwaiting)]
        exact ⟨by rw [hjobs], by rw [hentries]⟩
      have hcount : ((s.stack st.val).closeBlock (p.addr.toNat / 512)).readsInUse ≤ 8192 := by
        rw [Stack.readsInUse_append_merged _ (hclosed _ rfl rfl rfl).1]
        exact hreads
      refine ⟨_, exec_hbmWrite_of_atStack hat hhbm hfree hroom hcount, ?_⟩
      obtain ⟨hjobs, hentries⟩ := hclosed ((s.stack st.val).take p) rfl rfl rfl
      rw [State.stack_hbmWritten]
      exact ⟨by rw [hjobs, List.append_assoc]; rfl, hentries⟩
  case accesses =>
    intro st p s rest off hoff
    rw [hoff]
    intro hserves
    have hserves' : ((s.updStack st.val (fun a => { a with jobs := rest })).stack st.val).serves (stackOff p.addr.toNat) = true := by
      rw [State.stack_upd_self]
      exact hserves
    refine ⟨fun hjobs hlen haligned hcached hrange => ?line, fun hjobs r hr => ?read⟩
    case line =>
      rw [exec_hbmDeviceAccessDone_of_jobs hjobs]
      have hcached' : ({ s.stack st.val with jobs := rest } : Stack).cached (stackOff p.addr.toNat / 64) = none := hcached
      refine ⟨_, congrArg Host.Outcome.next (if_pos hserves'), ?_⟩
      rw [State.sendStack, State.inject, State.updSite_stack, State.stack_upd_self, State.stack_upd_self, Stack.writeLines_line _ _ hlen,
        Stack.writeLine_of_uncached hcached' hrange]
      refine ⟨rfl, Stack.line_putDevice hcached' hlen p.poison, fun x hx => Memory.get_write_out _ _ _ _ ?_⟩
      omega
    case read =>
      rw [hr, exec_hbmDeviceAccessDone_of_jobs hjobs]
      exact congrArg Host.Outcome.next (State.runJob_of_read hserves')

end Sys2Proof.Machine
end

section
/-! PROOFS. Power banks and temperature of HBM stacks (R183–R190). -/

namespace Sys2Proof.Machine

open Sys2Proof.Claims

/-! ## Requests of banks (R187–R189) -/

/-- Settling a stack changes no more than its state as a whole. -/
theorem Stack.settle_eq (a : Stack) : ∃ n, a.settle = { a with stackState := n } := by
  unfold Stack.settle
  split
  · exact ⟨1, rfl⟩
  · split
    · exact ⟨_, rfl⟩
    · exact ⟨0, rfl⟩

section
variable (a : Stack)

@[simp] theorem Stack.settle_banks : a.settle.banks = a.banks := by
  obtain ⟨n, h⟩ := a.settle_eq; rw [h]

@[simp] theorem Stack.settle_drainTo : a.settle.drainTo = a.drainTo := by
  obtain ⟨n, h⟩ := a.settle_eq; rw [h]

@[simp] theorem Stack.settle_jobs : a.settle.jobs = a.jobs := by
  obtain ⟨n, h⟩ := a.settle_eq; rw [h]

@[simp] theorem Stack.settle_mem : a.settle.mem = a.mem := by
  obtain ⟨n, h⟩ := a.settle_eq; rw [h]

@[simp] theorem Stack.settle_held : a.settle.held = a.held := by
  obtain ⟨n, h⟩ := a.settle_eq; rw [h]

@[simp] theorem Stack.settle_refused : a.settle.refused = a.refused := by
  obtain ⟨n, h⟩ := a.settle_eq; rw [h]

@[simp] theorem Stack.settle_lost : a.settle.lost = a.lost := by
  obtain ⟨n, h⟩ := a.settle_eq; rw [h]

@[simp] theorem Stack.settle_cache : a.settle.cache = a.cache := by
  obtain ⟨n, h⟩ := a.settle_eq; rw [h]

@[simp] theorem Stack.settle_thermalOff : a.settle.thermalOff = a.thermalOff := by
  obtain ⟨n, h⟩ := a.settle_eq; rw [h]

@[simp] theorem Stack.settle_celsius : a.settle.celsius = a.celsius := by
  obtain ⟨n, h⟩ := a.settle_eq; rw [h]

end

/-- The bytes of a lost bank read 0. -/
theorem Stack.get_loseBank (a : Stack) (b : Fin 8) {x : Nat} (hlow : b.val * 2 ^ 34 ≤ x) (hhigh : x < (b.val + 1) * 2 ^ 34) :
    Memory.get (a.loseBank b).mem x = 0 := by
  refine (Sparse.get_clear _ _ _ _ _).trans (if_pos ⟨hlow, ?_⟩)
  rwa [Nat.add_one_mul] at hhigh

section
variable {a : Stack} {b : Fin 8} {t : BankState}

/-- A bank that is ON drains for a request of another state; its dirty lines are queued to be written back. -/
theorem Stack.requestBank_of_on (h : a.banks[b] = .on) (ht : t ≠ .on) : a.requestBank b t =
    { a with banks := a.banks.set b .draining, drainTo := a.drainTo.set b t
             jobs := a.jobs ++ (a.cache.filter (dirtyIn b)).map (fun c => .writeback c.line) } := by
  unfold Stack.requestBank
  rw [h]
  cases t
  case on => exact absurd rfl ht
  all_goals rfl

/-- A bank in RETAIN turns off at once. -/
theorem Stack.requestBank_off_of_retain (h : a.banks[b] = .retain) :
    a.requestBank b .off = ({ a with banks := a.banks.set b .off }).loseBank b := by
  unfold Stack.requestBank
  rw [h]
  rfl

/-- A bank that is OFF opens for a request for ON. -/
theorem Stack.requestBank_on_of_off (h : a.banks[b] = .off) (hheat : a.thermalOff = false) :
    a.requestBank b .on = { a with banks := a.banks.set b .opening } := by
  unfold Stack.requestBank
  rw [h, hheat]
  rfl

/-- A bank in RETAIN turns on; the first of a stack in RETAIN starts its samples anew. -/
theorem Stack.requestBank_on_of_retain (h : a.banks[b] = .retain) (hheat : a.thermalOff = false) :
    (a.requestBank b .on).banks = a.banks.set b .on ∧ (a.requestBank b .on).mem = a.mem := by
  unfold Stack.requestBank
  rw [h, hheat]
  show (if a.stackState = 1 then _ else _ : Stack).banks = _ ∧ (if a.stackState = 1 then _ else _ : Stack).mem = _
  split <;> exact ⟨rfl, rfl⟩

/-- A stack that went off line for heat refuses ON. -/
theorem Stack.requestBank_on_of_heat (h : a.banks[b] = .off ∨ a.banks[b] = .retain) (hheat : a.thermalOff = true) :
    a.requestBank b .on = { a with refused := true } := by
  unfold Stack.requestBank
  rw [hheat]
  rcases h with h | h <;> rw [h] <;> rfl

/-- A request of a bank in transition is held, but for one that a stack going off line for heat drops. -/
theorem Stack.requestBank_of_moving (h : a.banks[b] = .draining ∨ a.banks[b] = .opening) :
    (a.requestBank b t).held = (if a.thermalOff = true ∧ t ≠ .off then a.held else a.held.set b (some t))
      ∧ (a.requestBank b t).banks = a.banks := by
  have hmoving : a.banks[b].moving = true := by rcases h with h | h <;> rw [h] <;> rfl
  unfold Stack.requestBank
  dsimp only
  rw [if_pos hmoving]
  by_cases hkeeps : a.thermalOff = true ∧ t ≠ .off
  · rw [if_pos hkeeps, if_pos (by simpa using hkeeps)]
    exact ⟨rfl, rfl⟩
  · rw [if_neg hkeeps, if_neg (by simpa using hkeeps)]
    exact ⟨rfl, rfl⟩

end

/-- What a request of bank b leaves of a stack: its cache, its thermal record, and the other banks. -/
def Stack.KeptBut (a a' : Stack) (b : Fin 8) : Prop :=
  a'.cache = a.cache ∧ a'.thermalOff = a.thermalOff ∧ a'.celsius = a.celsius ∧ ∀ j, j ≠ b → a'.banks[j] = a.banks[j] ∧ a'.drainTo[j] = a.drainTo[j]

theorem Stack.keptBut_of_set {a a' : Stack} {b : Fin 8} (hcache : a'.cache = a.cache) (hheat : a'.thermalOff = a.thermalOff)
    (hcelsius : a'.celsius = a.celsius) (hbanks : a'.banks = a.banks ∨ ∃ x, a'.banks = a.banks.set b x)
    (hdrain : a'.drainTo = a.drainTo ∨ ∃ x, a'.drainTo = a.drainTo.set b x) : a.KeptBut a' b := by
  refine ⟨hcache, hheat, hcelsius, fun j hj => ⟨?_, ?_⟩⟩
  · rcases hbanks with h | ⟨x, h⟩
    · rw [h]
    · rw [h, getElem_set_fin, if_neg hj]
  · rcases hdrain with h | ⟨x, h⟩
    · rw [h]
    · rw [h, getElem_set_fin, if_neg hj]

theorem Stack.requestBank_keptBut (a : Stack) (b : Fin 8) (t : BankState) : a.KeptBut (a.requestBank b t) b := by
  unfold Stack.requestBank
  dsimp only
  split
  case isTrue =>
    split <;> exact Stack.keptBut_of_set rfl rfl rfl (.inl rfl) (.inl rfl)
  case isFalse =>
    split
    · split
      · exact Stack.keptBut_of_set rfl rfl rfl (.inl rfl) (.inl rfl)
      · split
        · split <;> exact Stack.keptBut_of_set rfl rfl rfl (.inr ⟨_, rfl⟩) (.inl rfl)
        · split
          · exact Stack.keptBut_of_set rfl rfl rfl (.inr ⟨_, rfl⟩) (.inl rfl)
          · exact Stack.keptBut_of_set rfl rfl rfl (.inl rfl) (.inl rfl)
    · split
      · exact Stack.keptBut_of_set rfl rfl rfl (.inl rfl) (.inl rfl)
      · split
        · exact Stack.keptBut_of_set rfl rfl rfl (.inr ⟨_, rfl⟩) (.inr ⟨_, rfl⟩)
        · split
          · exact Stack.keptBut_of_set rfl rfl rfl (.inr ⟨_, rfl⟩) (.inl rfl)
          · exact Stack.keptBut_of_set rfl rfl rfl (.inl rfl) (.inl rfl)

/-- A request of several banks does to bank b of them what one of bank b does. -/
theorem Stack.foldl_requestBank {P Q : Stack → Prop} (b : Fin 8) (t : BankState) (hhit : ∀ a, P a → Q (a.requestBank b t))
    (hP : ∀ a a' j, j ≠ b → a.KeptBut a' j → P a → P a') (hQ : ∀ a a' j, j ≠ b → a.KeptBut a' j → Q a → Q a')
    {l : List (Fin 8)} (hl : l.Nodup) (hb : b ∈ l) {a : Stack} (ha : P a) : Q (l.foldl (fun a j => a.requestBank j t) a) := by
  have hrest : ∀ l : List (Fin 8), b ∉ l → ∀ a, Q a → Q (l.foldl (fun a j => a.requestBank j t) a) := by
    intro l
    induction l with
    | nil => exact fun _ a h => h
    | cons j l ih =>
      intro hb a h
      rw [List.mem_cons, not_or] at hb
      exact ih hb.2 _ (hQ _ _ j (Ne.symm hb.1) (a.requestBank_keptBut j t) h)
  induction l generalizing a with
  | nil => exact absurd hb List.not_mem_nil
  | cons j l ih =>
    rw [List.nodup_cons] at hl
    by_cases hj : b = j
    · subst hj
      exact hrest l hl.1 _ (hhit a ha)
    · exact ih hl.2 ((List.mem_cons.mp hb).resolve_left hj) (hP _ _ j (Ne.symm hj) (a.requestBank_keptBut j t) ha)

/-- A request of the whole stack names every bank. -/
theorem mem_banksNamed_whole (bank b : Fin 8) : b ∈ banksNamed true bank := by
  show b ∈ ([0, 1, 2, 3, 4, 5, 6, 7] : List (Fin 8))
  revert b
  decide

theorem nodup_banksNamed_whole (bank : Fin 8) : (banksNamed true bank).Nodup := by
  show ([0, 1, 2, 3, 4, 5, 6, 7] : List (Fin 8)).Nodup
  decide

/-- The stack after a request of each of its banks. -/
def Stack.requestAll (a : Stack) (bank : Fin 8) (t : BankState) : Stack := (banksNamed true bank).foldl (fun a j => a.requestBank j t) a

section
variable {a : Stack} (bank : Fin 8) {t : BankState}

theorem Stack.requestAll_kept (a : Stack) (bank : Fin 8) (t : BankState) : (a.requestAll bank t).cache = a.cache
    ∧ (a.requestAll bank t).thermalOff = a.thermalOff ∧ (a.requestAll bank t).celsius = a.celsius := by
  unfold Stack.requestAll
  generalize banksNamed true bank = l
  induction l generalizing a with
  | nil => exact ⟨rfl, rfl, rfl⟩
  | cons j l ih =>
    obtain ⟨hcache, hheat, hcelsius⟩ := ih (a.requestBank j t)
    obtain ⟨hcache', hheat', hcelsius', -⟩ := a.requestBank_keptBut j t
    exact ⟨hcache.trans hcache', hheat.trans hheat', hcelsius.trans hcelsius'⟩

/-- Every bank that is ON drains, for a request of another state. -/
theorem Stack.requestAll_of_on {b : Fin 8} (ht : t ≠ .on) (h : a.banks[b] = .on) :
    (a.requestAll bank t).banks[b] = .draining ∧ (a.requestAll bank t).drainTo[b] = t := by
  refine Stack.foldl_requestBank (P := fun a => a.banks[b] = .on) (Q := fun a => a.banks[b] = .draining ∧ a.drainTo[b] = t) b t
    (fun a h => ?hit) (fun a a' j hj hkept h => ?before) (fun a a' j hj hkept h => ?after) (nodup_banksNamed_whole bank)
    (mem_banksNamed_whole bank b) h
  case hit =>
    rw [Stack.requestBank_of_on h ht]
    exact ⟨(getElem_set_fin _ _ _ _).trans (if_pos rfl), (getElem_set_fin _ _ _ _).trans (if_pos rfl)⟩
  case before => exact (hkept.2.2.2 b hj.symm).1.trans h
  case after => exact ⟨(hkept.2.2.2 b hj.symm).1.trans h.1, (hkept.2.2.2 b hj.symm).2.trans h.2⟩

/-- A bank that is OFF or in RETAIN, of a stack that did not go off line for heat, opens or turns on. -/
theorem Stack.requestAll_on {b : Fin 8} {x y : BankState} (hone : ∀ a : Stack, a.thermalOff = false → a.banks[b] = x → (a.requestBank b .on).banks[b] = y)
    (hheat : a.thermalOff = false) (h : a.banks[b] = x) : (a.requestAll bank .on).banks[b] = y := by
  refine Stack.foldl_requestBank (P := fun a => a.thermalOff = false ∧ a.banks[b] = x) (Q := fun a => a.banks[b] = y) b .on
    (fun a h => hone a h.1 h.2) (fun a a' j hj hkept h => ?before) (fun a a' j hj hkept h => ?after) (nodup_banksNamed_whole bank)
    (mem_banksNamed_whole bank b) ⟨hheat, h⟩
  case before => exact ⟨hkept.2.1.trans h.1, (hkept.2.2.2 b hj.symm).1.trans h.2⟩
  case after => exact (hkept.2.2.2 b hj.symm).1.trans h

end

/-! ## The commands of HBM.PWR_CTL -/

theorem State.stack_powerRequest_one (s : State) (st : Nat) (bank : Fin 8) (t : BankState) :
    (s.powerRequest st false bank t).stack st = ((s.stack st).requestBank bank t).settle := State.stack_upd_self _ _ _

theorem State.stack_powerRequest_whole (s : State) (st : Nat) (bank : Fin 8) (t : BankState) :
    (s.powerRequest st true bank t).stack st = ((s.stack st).requestAll bank t).settle := State.stack_upd_self _ _ _

/-- Each request of HBM.PWR_CTL, at a stack that is not dark. -/
theorem exec_of_powerTable {st : Fin 192} {s : State} (hdark : (s.stack st.val).dark = false) (whole : Bool) (bank : Fin 8) :
    ∀ c ∈ powerTable, exec (c.1 st whole bank) s = .next (s.powerRequest st.val whole bank c.2) := by
  have hnot : ¬(s.stack st.val).dark = true := by rw [hdark]; exact Bool.false_ne_true
  simp only [powerTable, List.forall_mem_cons, List.not_mem_nil, false_imp_iff, implies_true, and_true]
  exact ⟨congrArg Host.Outcome.next (if_neg hnot), congrArg Host.Outcome.next (if_neg hnot), congrArg Host.Outcome.next (if_neg hnot)⟩

/-! ## The end of a transition (R187) -/

theorem Stack.release_of_none {a : Stack} {b : Fin 8} (h : a.held[b] = none) : a.release b = a := by
  rw [Stack.release, h]

theorem State.foldl_stack {α : Type} {f : State → α → State} {j : Nat} (hf : ∀ s x, (f s x).stack j = s.stack j) (l : List α) (s : State) :
    (l.foldl f s).stack j = s.stack j := by
  induction l generalizing s with
  | nil => rfl
  | cons x l ih => rw [List.foldl_cons, ih, hf]

theorem State.sendStack_stack (s : State) (r : Nat) (p : Packet) (j : Nat) : (s.sendStack r p).stack j = s.stack j := rfl

theorem State.sendBlock_stack (s : State) (st block : Nat) (ms : List Member) (bs : List Byte) (bad : Bool) (j : Nat) :
    (s.sendBlock st block ms bs bad).stack j = s.stack j :=
  (State.foldl_stack (fun s _ => s.sendStack_stack _ _ j) _ _).trans (State.foldl_stack (fun s _ => s.sendStack_stack _ _ j) _ _)

theorem State.poisonJob_stack (s : State) (st : Nat) (job : StackJob) (j : Nat) : (s.poisonJob st job).stack j = s.stack j := by
  unfold State.poisonJob
  split
  · rfl
  · exact State.sendBlock_stack _ _ _ _ _ _ _
  · rfl

/-- A drained bank of a stack without open entries enters its target. -/
theorem State.stack_enterBank {s : State} {st : Nat} {b : Fin 8} {a : Stack} (ha : s.stack st = a) (hheld : a.held[b] = none)
    (hentries : a.entries = []) : ((s.enterBank st b).stack st).banks = a.banks.set b a.drainTo[b] ∧ ((s.enterBank st b).stack st).lost = a.lost := by
  subst ha
  have hclose : s.closeBank st b = s := by
    rw [State.closeBank, hentries]
    rfl
  unfold State.enterBank
  rw [hclose, State.stack_upd_self, State.foldl_stack (fun s job => s.poisonJob_stack st job st), State.stack_upd_self]
  dsimp only
  rw [Stack.release_of_none (by split <;> exact hheld), Stack.settle_banks, Stack.settle_lost]
  split <;> exact ⟨rfl, rfl⟩

/-- HBM_DRAIN_FORCED of a draining bank of a stack without open entries. -/
theorem State.stack_drainForced {s : State} {st : Fin 192} {b : Fin 8} (hstate : (s.stack st.val).banks[b] = .draining)
    (hheld : (s.stack st.val).held[b] = none) (hentries : (s.stack st.val).entries = []) :
    ∃ t, exec (.hbmDrainForced st b) s = .next t ∧ (t.stack st.val).banks = (s.stack st.val).banks.set b (s.stack st.val).drainTo[b]
      ∧ (t.stack st.val).lost = satAdd (s.stack st.val).lost ((s.stack st.val).outstandingWrites b) := by
  refine ⟨_, congrArg Host.Outcome.next (if_pos hstate), ?_⟩
  exact State.stack_enterBank ((State.foldl_stack (fun s _ => s.sendStack_stack _ _ _) _ _).trans (State.stack_upd_self s st.val _)) hheld hentries

/-! ## Temperature (R183, R185) -/

theorem bandOf_le (t : Nat) : bandOf t ≤ 5 := by
  unfold bandOf
  split_ifs <;> decide

section
variable (a : Stack) (v : BitVec 8)

theorem Stack.sample_banks : (a.sample v.toNat).banks = a.banks := rfl

theorem Stack.sample_thermalOff : (a.sample v.toNat).thermalOff = a.thermalOff := rfl

theorem Stack.sample_celsius : (a.sample v.toNat).celsius = v := by
  show BitVec.ofNat 8 v.toNat = v
  rw [BitVec.ofNat_toNat, BitVec.setWidth_eq]

theorem Stack.sample_hotCount (h : v.toNat ≤ 105) : (a.sample v.toNat).hotCount = 0 := if_neg (Nat.not_lt.mpr h)

end

/-- A band of the table above the shown one is shown at once, when sixteen samples exist and the floor allows it. -/
theorem Stack.sample_band {a : Stack} {t : Nat} (hsamples : 15 ≤ a.samples.toNat) (hfloor : a.floor.toNat ≤ bandOf t)
    (hband : a.band.toNat < bandOf t) : (a.sample t).band.toNat = bandOf t := by
  have hmany : min 16 (a.samples.toNat + 1) = 16 := by omega
  have hle := bandOf_le t
  have hup : max (bandOf t) (max a.floor.toNat 0) = bandOf t := by omega
  unfold Stack.sample
  simp only [hmany, Nat.lt_irrefl, if_false, hup, if_pos hband, BitVec.toNat_ofNat]
  exact Nat.mod_eq_of_lt (by omega)

/-- What a sample leaves before the stack is looked at for its limits: an event tells where band 5 begins. -/
def State.sampled (s : State) (st : Nat) (v : BitVec 8) : State :=
  let u := s.updStack st (fun a => a.sample v.toNat)
  if (u.stack st).throttle && !(s.stack st).throttle then u.post 0x0d 1 0 ukStack st [(u.stack st).tempWord] else u

theorem State.stack_sampled (s : State) (st : Nat) (v : BitVec 8) : (s.sampled st v).stack st = (s.stack st).sample v.toNat := by
  unfold State.sampled
  dsimp only
  split
  · rw [(State.post_reported _ _ _ _ _ _ _).stack, State.stack_upd_self]
  · rw [State.stack_upd_self]

theorem exec_hbmTempSample_of_not_dark {st : Fin 192} {s : State} {v : BitVec 8} (hdark : (s.stack st.val).dark = false) :
    exec (.hbmTempSample st v) s = .next (
      if (16 ≤ ((s.stack st.val).sample v.toNat).hotCount ∨ 110 ≤ v.toNat) ∧ (s.stack st.val).thermalOff = false then
        (((s.sampled st.val v).updStack st.val (fun a => { a with thermalOff := true })).post 0x0d 2 0 ukStack st.val
          [((s.stack st.val).sample v.toNat).tempWord]).powerRequest st.val true 0 .off
      else s.sampled st.val v) := by
  have hnot : ¬(s.stack st.val).dark = true := by rw [hdark]; exact Bool.false_ne_true
  have hself : (s.updStack st.val (fun a => a.sample v.toNat)).stack st.val = (s.stack st.val).sample v.toNat := State.stack_upd_self _ _ _
  refine congrArg Host.Outcome.next ((if_neg hnot).trans ?_)
  unfold State.sampled
  dsimp only
  rw [hself]
  rfl

/-- Settles O34: a request of HBM.PWR_CTL by the state of its bank, the ends of transitions, and samples by their limits. -/
theorem stackPowerAndTemperature : Obligations.StackPowerAndTemperature := by
  unfold Obligations.StackPowerAndTemperature
  refine ⟨?power, ?temperature⟩
  case power =>
    rintro st bank s a rfl hdark
    refine ⟨fun c hc hne hon => ?drain, fun hretain => ?off, fun hheat => ⟨fun hoff => ?opens, fun hretain => ?turnsOn⟩,
      fun hheat hstate => ?refuses, fun c hc hmoving => ?held, fun c hc => ?whole, fun hstate hheld hentries => ⟨fun hnone => ?drained,
        State.stack_drainForced hstate hheld hentries⟩, fun hstate hheld => ?opened⟩
    case drain =>
      refine ⟨_, exec_of_powerTable hdark false bank c hc, ?_⟩
      rw [State.stack_powerRequest_one, Stack.requestBank_of_on hon hne]
      simp only [Stack.settle_banks, Stack.settle_drainTo, Stack.settle_jobs, Stack.settle_mem, and_self]
    case off =>
      refine ⟨_, exec_of_powerTable hdark false bank (.hbmPwrOff, .off) (by simp [powerTable]), ?_⟩
      rw [State.stack_powerRequest_one, Stack.requestBank_off_of_retain hretain, Stack.settle_banks, Stack.settle_mem]
      exact ⟨rfl, fun x hlow hhigh => Stack.get_loseBank _ bank hlow hhigh⟩
    case opens =>
      refine ⟨_, exec_of_powerTable hdark false bank (.hbmPwrOn, .on) (by simp [powerTable]), ?_⟩
      rw [State.stack_powerRequest_one, Stack.requestBank_on_of_off hoff hheat, Stack.settle_banks, Stack.settle_mem]
      exact ⟨rfl, rfl⟩
    case turnsOn =>
      refine ⟨_, exec_of_powerTable hdark false bank (.hbmPwrOn, .on) (by simp [powerTable]), ?_⟩
      rw [State.stack_powerRequest_one, Stack.settle_banks, Stack.settle_mem]
      exact Stack.requestBank_on_of_retain hretain hheat
    case refuses =>
      refine ⟨_, exec_of_powerTable hdark false bank (.hbmPwrOn, .on) (by simp [powerTable]), ?_⟩
      rw [State.stack_powerRequest_one, Stack.requestBank_on_of_heat hstate hheat, Stack.settle_refused, Stack.settle_banks]
      exact ⟨rfl, rfl⟩
    case held =>
      refine ⟨_, exec_of_powerTable hdark false bank c hc, ?_⟩
      rw [State.stack_powerRequest_one, Stack.settle_held, Stack.settle_banks]
      exact Stack.requestBank_of_moving hmoving
    case whole =>
      refine ⟨_, exec_of_powerTable hdark true bank c hc, ?_⟩
      rw [State.stack_powerRequest_whole]
      simp only [Stack.settle_cache, Stack.settle_banks, Stack.settle_drainTo]
      refine ⟨(Stack.requestAll_kept _ bank c.2).1, fun hne b hon => Stack.requestAll_of_on bank hne hon, fun hon hheat b => ?_⟩
      rw [hon]
      refine ⟨fun hoff => Stack.requestAll_on bank (fun a hheat hoff => ?_) hheat hoff,
        fun hretain => Stack.requestAll_on bank (fun a hheat hretain => ?_) hheat hretain⟩
      · rw [Stack.requestBank_on_of_off hoff hheat]
        exact (getElem_set_fin _ _ _ _).trans (if_pos rfl)
      · rw [(Stack.requestBank_on_of_retain hretain hheat).1]
        exact (getElem_set_fin _ _ _ _).trans (if_pos rfl)
    case drained =>
      exact ⟨_, congrArg Host.Outcome.next (if_pos ⟨hstate, hnone⟩), (State.stack_enterBank rfl hheld hentries).1⟩
    case opened =>
      refine ⟨_, congrArg Host.Outcome.next (if_pos hstate), ?_⟩
      rw [State.stack_upd_self, Stack.release_of_none (by exact hheld), Stack.settle_banks, Stack.settle_mem]
      exact ⟨rfl, fun x hlow hhigh => Stack.get_loseBank _ bank hlow hhigh⟩
  case temperature =>
    rintro st s v a rfl
    refine ⟨fun hdark => ⟨fun hcool => ?cool, fun hhot hheat => ?hot⟩, fun hoff => ⟨?sample, fun hfence hwafer hcool => ?init,
      fun hfence => ?fenced, fun hfence hwafer hheat hhot => ?tooHot⟩, fun hinit => ⟨_, congrArg Host.Outcome.next (if_pos hinit), ?_⟩⟩
    case cool =>
      refine ⟨_, exec_hbmTempSample_of_not_dark hdark, ?_⟩
      rw [if_neg (by rw [Stack.sample_hotCount _ _ hcool]; omega), State.stack_sampled]
      exact ⟨Stack.sample_celsius _ _, Stack.sample_hotCount _ _ hcool, rfl, Stack.sample_band⟩
    case hot =>
      refine ⟨_, exec_hbmTempSample_of_not_dark hdark, ?_⟩
      rw [if_pos ⟨.inr hhot, hheat⟩, State.stack_powerRequest_whole, (State.post_reported _ _ _ _ _ _ _).stack, State.stack_upd_self,
        State.stack_sampled]
      simp only [Stack.settle_celsius, Stack.settle_thermalOff, Stack.settle_banks, Stack.settle_drainTo]
      obtain ⟨-, hkeptHeat, hkeptCelsius⟩ := Stack.requestAll_kept { (s.stack st.val).sample v.toNat with thermalOff := true } 0 .off
      exact ⟨hkeptCelsius.trans (Stack.sample_celsius (s.stack st.val) v), hkeptHeat, fun b hon => Stack.requestAll_of_on 0 (by decide) hon⟩
    case sample => exact congrArg Host.Outcome.next (if_neg (Nat.not_lt.mpr hoff))
    case init =>
      refine congrArg Host.Outcome.next ((if_neg ?_).trans (if_neg ?_))
      · simp [bit, hfence, hwafer, Nat.lt_of_succ_le hoff]
      · rintro ⟨hheat, hhot⟩
        rcases hcool with h | h
        · rw [h] at hheat
          exact Bool.false_ne_true hheat
        · omega
    case fenced => exact congrArg Host.Outcome.next (if_pos (.inr hfence))
    case tooHot =>
      refine congrArg Host.Outcome.next ((if_neg ?_).trans (if_pos ⟨hheat, hhot⟩))
      simp [bit, hfence, hwafer, Nat.lt_of_succ_le hoff]
    · rw [State.stack_upd_self]
      exact ⟨rfl, rfl, rfl, rfl, rfl⟩

end Sys2Proof.Machine
end

section
/-! PROOFS. The weight streamer (R194–R196). -/

namespace Sys2Proof.Machine

open Sys2Proof.Claims

/-- A kick that passes its checks joins the streamer. -/
theorem State.wsKick_of_ok {s : State} {k : Nat} {n : Fin 4} {v pc : W64} {ds : List WsDesc} (hfree : (s.site k).ws.kicks.length < 4)
    (hcheck : (s.site k).wsCheck n (32 * bitsOf v.toNat 5 18) (bitsOf v.toNat 24 6 + 1) = .ok ds)
    (hgood : (s.site k).spad.flawed ((s.site k).homeAddr n (32 * bitsOf v.toNat 5 18)) (32 * (bitsOf v.toNat 24 6 + 1)) = false) :
    s.wsKick k n v pc = (moved s k ((s.site k).homeAddr n (32 * bitsOf v.toNat 5 18)) (32 * (bitsOf v.toNat 24 6 + 1))).updSite k
      (fun a => { a with ws := { a.ws with kicks := a.ws.kicks ++ [ds] } }) := by
  unfold State.wsKick
  dsimp only
  rw [if_neg (Nat.not_le.mpr hfree), State.readRuns_of_good hgood, hcheck]

/-- The descriptor that runs leaves the streamer, with a status other than STALE_SLAB. -/
theorem exec_wsDescComplete_of_finished {x : SiteId} {s : State} {status : BitVec 3} {d : WsDesc} {ds : List WsDesc} {rest : List (List WsDesc)}
    (hphase : (s.site x.key).ws.phase = some (.finished status)) (hkicks : (s.site x.key).ws.kicks = (d :: ds) :: rest) (hstatus : status ≠ 6) :
    exec (.wsDescComplete x) s = .next (s.updSite x.key (fun a => { a with ws := a.ws.complete d status })) := by
  have hcur : (s.site x.key).ws.cur = some d := by rw [Ws.cur, hkicks]
  refine congrArg Host.Outcome.next ?_
  dsimp only
  rw [hphase, hcur]
  exact if_neg hstatus

/-- Settles O35: each command of the streamer where its guard holds. -/
theorem streamerRunsDescriptors : Obligations.StreamerRunsDescriptors := by
  unfold Obligations.StreamerRunsDescriptors
  rintro x s a rfl
  refine ⟨fun n v ds hready hstopping hfree hcheck hgood => ?kick, fun hphase hcur hreads htag => ?start, fun hphase htag => ?retry,
    fun status d ds rest hphase hkicks hstatus => ⟨_, exec_wsDescComplete_of_finished hphase hkicks hstatus, ?_⟩⟩
  case kick =>
    exact congrArg Host.Outcome.next ((if_pos ⟨hready, hstopping⟩).trans (State.wsKick_of_ok hfree hcheck hgood))
  case start =>
    exact congrArg Host.Outcome.next (if_pos ⟨by rw [hphase]; rfl, hcur, hreads, htag⟩)
  case retry => exact congrArg Host.Outcome.next (if_pos ⟨hphase, htag⟩)
  · rw [State.site_upd_self]
    refine ⟨rfl, rfl, ?_, rfl⟩
    show (Ws.complete (s.site x.key).ws d status).kicks = _
    unfold Ws.complete
    rw [hkicks]
    cases ds <;> rfl

end Sys2Proof.Machine
end

section
/-! PROOFS. Tempo counters, and pans that stop and run (R205–R209, R378, R381). -/

namespace Sys2Proof.Machine

open Sys2Proof.Claims

/-! ## Tempo counters (R205, R207) -/

/-- The END of one slot. -/
theorem Site.tempoEnd_single (a : Site) (b : Fin 4) : a.tempoEnd (BitVec.ofNat 4 (2 ^ b.val)) = a.endSlot b := by
  have hbit : ∀ n : Fin 4, bit (BitVec.ofNat 4 (2 ^ b.val)) n.val = decide (n = b) := by
    revert b
    decide
  have hstep : a.tempoEnd (BitVec.ofNat 4 (2 ^ b.val))
      = [0, 1, 2, 3].foldl (fun (a : Site) (n : Fin 4) => if decide (n = b) = true then a.endSlot n else a) a := by
    unfold Site.tempoEnd
    simp only [hbit]
  rw [hstep]
  fin_cases b <;> rfl

/-- The END of a slot of SLOTS that has not ended this tempo. -/
theorem Site.endSlot_of_open {a : Site} {b : Fin 4} (hslots : a.tempo.slots.getLsbD b.val = true) (harrived : a.tempo.arrived.getLsbD b.val = false) :
    a.endSlot b = { a with tempo := { a.tempo with
      arrived := putBit a.tempo.arrived b.val true, waitIds := a.tempo.waitIds ++ a.openIds b } } :=
  if_pos (by rw [bit, bit, hslots, harrived]; rfl)

section
variable {s : State} {k n : Nat}

theorem State.panIn_of_panOf (hpan : s.panOf k = some n) (p : Pan → Bool) : s.panIn k p = p (s.pan n) := by
  rw [State.panIn, hpan]

/-- An advance of a unit's tempo leaves CURRENT greater by one and ARRIVED clear. -/
theorem State.tempo_advance (s : State) (k : Nat) : ((s.advance k).site k).tempo = (Site.advance (s.site k)).tempo := by
  obtain ⟨t, ht⟩ := State.site_trace (s.updSite k Site.advance) k (some 3) 4 0xff
    (payload20 ((s.updSite k Site.advance).site k).tempo.current.toNat 0) k
  rw [State.advance, ht, State.site_upd_self]

end

/-- Settles O36: each command of the tempo where its guard holds. -/
theorem tempoCounts : Obligations.TempoCounts := by
  unfold Obligations.TempoCounts
  rintro x s a n rfl hpan
  refine ⟨fun b hslots harrived => ⟨_, rfl, ?_⟩, fun v hquiet => congrArg Host.Outcome.next (State.updSite_congr (if_pos hquiet)),
    fun v hbusy => ⟨_, rfl, ?_⟩, fun hdone hst hvalid harmed => ⟨s.advance x.key, ?_, ?_⟩, fun hdone hst hvalid hcurrent hboundary => ?boundary,
    fun hst hforced => ?arm, fun v htarget hst harmed => ?target⟩
  · rw [State.site_upd_self, Site.tempoEnd_single, Site.endSlot_of_open hslots harrived]
    exact ⟨rfl, rfl⟩
  · rw [State.site_upd_self]
    exact if_neg (by rw [hbusy]; exact Bool.false_ne_true)
  · refine congrArg Host.Outcome.next ((if_pos ?_).trans ((if_neg ?_).trans (if_neg ?_)))
    · rw [hdone, State.panIn_of_panOf hpan, hst]; rfl
    · rw [hvalid]; exact Bool.false_ne_true
    · rw [harmed]; exact Bool.false_ne_true
  · rw [State.tempo_advance]
    exact ⟨rfl, rfl⟩
  case boundary =>
    refine congrArg Host.Outcome.next ((if_pos ?_).trans ((if_pos ?_).trans (if_neg ?_)))
    · rw [hdone, State.panIn_of_panOf hpan, hst]; rfl
    · rw [hvalid, hcurrent, beq_self_eq_true]; rfl
    · rw [hboundary]; exact Bool.false_ne_true
  case arm =>
    refine congrArg Host.Outcome.next (if_pos ?_)
    rw [State.panIn_of_panOf hpan, hst, hforced]; rfl
  case target =>
    refine congrArg Host.Outcome.next ?_
    rw [hpan]
    dsimp only
    rw [htarget]
    exact if_pos ⟨hst, harmed⟩

/-! ## Pans (R207–R209, R378, R381) -/

/-- The greatest of a list's numbers, from m on. -/
theorem foldl_max_bounds {α : Type} (f : α → Nat) (l : List α) (m : Nat) :
    m ≤ l.foldl (fun m x => max m (f x)) m ∧ (∀ x ∈ l, f x ≤ l.foldl (fun m x => max m (f x)) m)
      ∧ (l.foldl (fun m x => max m (f x)) m = m ∨ ∃ x ∈ l, f x = l.foldl (fun m x => max m (f x)) m) := by
  induction l generalizing m with
  | nil => exact ⟨le_rfl, fun _ h => absurd h List.not_mem_nil, .inl rfl⟩
  | cons y l ih =>
    obtain ⟨hge, hall, hsome⟩ := ih (max m (f y))
    refine ⟨(le_max_left _ _).trans hge, fun x hx => ?_, ?_⟩
    · rcases List.mem_cons.mp hx with rfl | hx
      · exact (le_max_right _ _).trans hge
      · exact hall x hx
    · rcases hsome with h | ⟨x, hx, h⟩
      · rcases max_choice m (f y) with hm | hm
        · exact .inl (h.trans hm)
        · exact .inr ⟨y, List.mem_cons_self, (h.trans hm).symm⟩
      · exact .inr ⟨x, List.mem_cons_of_mem _ hx, h⟩

section
variable (s : State) (ks : List Nat)

theorem State.maxCurrent_toNat : (s.maxCurrent ks).toNat = ks.foldl (fun m k => max m (s.site k).tempo.current.toNat) 0 := by
  obtain ⟨-, -, hsome⟩ := foldl_max_bounds (fun k => (s.site k).tempo.current.toNat) ks 0
  have hlt : ks.foldl (fun m k => max m (s.site k).tempo.current.toNat) 0 < 2 ^ 32 := by
    rcases hsome with h | ⟨k, -, h⟩
    · rw [h]; decide
    · rw [← h]; exact (s.site k).tempo.current.isLt
  rw [State.maxCurrent, BitVec.toNat_ofNat, Nat.mod_eq_of_lt hlt]

theorem State.le_maxCurrent : ∀ k ∈ ks, (s.site k).tempo.current.toNat ≤ (s.maxCurrent ks).toNat := by
  rw [State.maxCurrent_toNat]
  exact (foldl_max_bounds (fun k => (s.site k).tempo.current.toNat) ks 0).2.1

theorem State.maxCurrent_mem (hks : ks ≠ []) : ∃ k ∈ ks, (s.site k).tempo.current = s.maxCurrent ks := by
  obtain ⟨-, hall, hsome⟩ := foldl_max_bounds (fun k => (s.site k).tempo.current.toNat) ks 0
  rcases hsome with h | ⟨k, hk, h⟩
  · obtain ⟨k, hk⟩ := List.exists_mem_of_ne_nil ks hks
    have hzero := hall k hk
    refine ⟨k, hk, BitVec.eq_of_toNat_eq ?_⟩
    rw [State.maxCurrent_toNat]
    omega
  · exact ⟨k, hk, BitVec.eq_of_toNat_eq (h.trans (State.maxCurrent_toNat s ks).symm)⟩

end

/-- A forced stop of a pan that runs or stops leaves it STOPPING by force. -/
theorem State.pan_panForceStop {s : State} {n : Nat} (h : (s.pan n).st = .running ∨ (s.pan n).st = .stopping) :
    ((s.panForceStop n).pan n).st = .stopping ∧ ((s.panForceStop n).pan n).forcedStop = true := by
  have hcond : ((s.pan n).st == .running || (s.pan n).st == .stopping) = true := by simpa using h
  rw [State.panForceStop, if_pos hcond, State.pan_upd_self]
  exact ⟨rfl, rfl⟩

/-- Settles O37: each command of a pan where its guard holds, and the refusal of a write where it does not. -/
theorem pansStopAndRun : Obligations.PansStopAndRun := by
  unfold Obligations.PansStopAndRun
  rintro p s x rfl
  refine ⟨fun h => congrArg Host.Outcome.next (if_pos h), fun h => congrArg Host.Outcome.next (if_neg h),
    fun hst hforced harmed => ⟨s.maxCurrent (s.liveSites p.val), congrArg Host.Outcome.next (if_pos ⟨hst, hforced, List.all_eq_true.mpr harmed⟩),
      State.le_maxCurrent s _, State.maxCurrent_mem s _⟩, fun hst hquiet => ?stopped,
    fun hst => ⟨_, congrArg Host.Outcome.next (if_pos hst), State.pan_panForceStop (.inr hst)⟩,
    fun hst => ⟨_, congrArg Host.Outcome.next (if_pos hst), State.pan_panForceStop hst⟩, fun hst hall => ?run, fun hst => ?refuse⟩
  case stopped =>
    have hall : s.panQuiet p.val = true := List.all_eq_true.mpr fun k hk => by simpa using hquiet k hk
    exact congrArg (fun t => Host.Outcome.next (State.goOn t)) (if_pos ⟨hst, hall⟩)
  case run =>
    have hmay : s.mayRun p.val = true := by
      rw [State.mayRun, hst, beq_self_eq_true, Bool.true_and, List.all_eq_true]
      intro k hk
      obtain ⟨hforced, hparked, hfenced, hclearing, hwafer⟩ := hall k hk
      simp [bit, hforced, hparked, hfenced, hclearing, hwafer]
    refine ⟨_, congrArg Host.Outcome.next (if_pos hmay), ?_⟩
    rw [State.panStart, State.pan_upd_self]
  case refuse =>
    have hnot : ¬s.mayRun p.val = true := by simp [State.mayRun, hst]
    exact congrArg Host.Outcome.next (if_neg hnot)

end Sys2Proof.Machine
end

section
/-! PROOFS. Activation units and the commands of reduction jobs (R215–R228, R233–R236). -/

namespace Sys2Proof.Machine

open Sys2Proof.Claims

/-- A command that takes a delivered packet of its type goes on. -/
theorem guard_of_delivered {s : State} {n : Node} {p : Packet} {ty : BitVec 6} (h : Delivered s n p ty) :
    ((s.arrivedAt n).contains p && p.ptype == ty) = true := by
  rw [contains_of_delivered h, h.2, beq_self_eq_true]; rfl

/-! ## Activation units (R215–R228) -/

section
variable {u : Fin 12} {s : State} {p : Packet} {q : AcuReq}

theorem exec_acuWrite_of_delivered (h : Delivered s (acuNode u.val) p ptWrite) (hwindow : (acuOffset u.val p.addr.toNat).isSome = true)
    (hreq : s.acuReq u.val p = some q) :
    exec (.acuWrite u p) s = .next (
      if p.poison then (s.takeAt (acuNode u.val) p).sendNode (acuNode u.val) (p.answer ptWriteAck stPoison [] false)
      else if 524288 < (s.acu u.val).stagedLines + p.payload.length / 64 then s
      else ((s.takeAt (acuNode u.val) p).updAcu u.val (fun a => a.writeLines u.val q p.payload)).sendNode (acuNode u.val)
        (p.answer ptWriteAck stOk [] false)) := by
  refine congrArg Host.Outcome.next ?_
  rw [guard_of_delivered h, hwindow, hreq]
  rfl

theorem exec_acuRead_of_delivered (h : Delivered s (acuNode u.val) p ptReadReq) (hwindow : (acuOffset u.val p.addr.toNat).isSome = true)
    (hreq : s.acuReq u.val p = some q) (hfree : (s.acu u.val).waiting.length < 4096) :
    exec (.acuRead u p) s = .next (((s.takeAt (acuNode u.val) p).acuReadReq u.val p q).getD s) := by
  refine congrArg Host.Outcome.next ?_
  rw [guard_of_delivered h, hwindow, hreq]
  exact if_neg (Nat.not_le.mpr hfree)

end

/-- Settles O38: each command of an activation unit where its guard holds. -/
theorem activationUnits : Obligations.ActivationUnits := by
  unfold Obligations.ActivationUnits
  rintro u s p n rfl
  refine ⟨fun q h hwindow hreq hpoison hroom => ?write, fun q t h hwindow hreq hfree ht => ?read,
    fun q h hwindow hreq hfree ht => ?full, fun b hfind hup => ?sent, fun b bs s1 hfind hpad => ?fallback,
    fun block data q hreq hhost hany => ?fetched, fun set word v => rfl⟩
  case write =>
    rw [exec_acuWrite_of_delivered h hwindow hreq, hpoison]
    exact congrArg Host.Outcome.next ((if_neg Bool.false_ne_true).trans (if_neg (Nat.not_lt.mpr hroom)))
  case read => rw [exec_acuRead_of_delivered h hwindow hreq hfree, ht, Option.getD_some]
  case full => rw [exec_acuRead_of_delivered h hwindow hreq hfree, ht, Option.getD_none]
  case sent =>
    refine congrArg Host.Outcome.next ?_
    dsimp only
    rw [hfind]
    exact (if_neg Bool.false_ne_true).trans (if_pos hup)
  case fallback =>
    refine congrArg Host.Outcome.next ?_
    dsimp only
    rw [hfind]
    dsimp only
    rw [hpad]
    rfl
  case fetched =>
    refine congrArg Host.Outcome.next ?_
    dsimp only
    rw [hreq]
    dsimp only
    rw [hhost]
    exact (if_neg Bool.false_ne_true).trans (if_pos hany)

/-! ## Commands of reduction jobs (R233, R234, R236, R245) -/

section
variable {s : State} {q j : Nat}

theorem State.redResult_of_eq (henable : (s.pc q).red.enable = true) {r : State × Nat} {t : State} {code : Nat} (h : r = (t, code)) :
    s.redResult q j r = redAnswered t q j code := by
  subst h
  exact if_pos henable

theorem State.redOpen_of_passing {x : Job} {s1 s2 : State} {peers : List (Nat × W32)} {gs : List Grant} (hx : x = s.job q j) (hst : x.st = .closed)
    (hfields : x.fieldsOk = true) (hspace : s.spaceOk q x = true)
    (hmap : s.readMap x ((x.parent.map (fun e => e.1)).toList ++ x.kids.map (fun k => k.2)) = (s1, some peers))
    (hgrants : s1.readGrants x 0 x.grantCount = (s2, some gs)) :
    s.redOpen q j = (let u := s2.updJob q j (fun x => { w := x.w, st := .opened, peers := peers, grants := gs })
      (if x.shadowEn then u.updShadow (shadowOf q) j (fun _ => { w := x.w, peers := peers }) else u, resOk)) := by
  subst hx
  unfold State.redOpen
  dsimp only
  rw [if_neg (by rw [hst]; exact not_not_intro rfl), hfields, hspace, Bool.not_true, if_neg Bool.false_ne_true, if_neg Bool.false_ne_true, hmap]
  dsimp only
  rw [hgrants]
  dsimp only
  split <;> rfl

end

/-- Settles O39: each command by the state of its job. -/
theorem reductionCommands : Obligations.ReductionCommands := by
  unfold Obligations.ReductionCommands
  rintro c job s q j x rfl rfl rfl henable
  refine ⟨fun s1 s2 peers gs hst hfields hspace hmap hgrants u hu => ?opens, fun hst => congrArg Host.Outcome.next (State.redResult_of_eq henable <| if_pos hst),
    fun hst => congrArg Host.Outcome.next (State.redResult_of_eq henable <| if_pos hst), fun hst => congrArg Host.Outcome.next (State.redResult_of_eq henable <| if_neg hst), fun hst => congrArg Host.Outcome.next (State.redResult_of_eq henable <| if_pos hst), fun hst => congrArg Host.Outcome.next (State.redResult_of_eq henable <| if_neg ?_),
    fun hst => congrArg Host.Outcome.next (State.redResult_of_eq henable <| if_pos hst), fun hst => congrArg Host.Outcome.next (State.redResult_of_eq henable <| if_neg ?_)⟩
  case opens =>
    subst hu
    exact congrArg Host.Outcome.next (State.redResult_of_eq henable <| State.redOpen_of_passing rfl hst hfields hspace hmap hgrants)
  · rcases hst with h | h <;> rw [h] <;> decide
  · rcases hst with h | h | h <;> rw [h] <;> decide

end Sys2Proof.Machine
end

section
/-! PROOFS. The traffic of reduction jobs (R236–R248, R309). -/

namespace Sys2Proof.Machine

open Sys2Proof.Claims

/-! ## Rules of the job table and of a chunk's counts -/

theorem getElem?_updAt {α : Type} (xs : List α) (i j : Nat) (f : α → α) : (updAt xs i f)[j]? = if j = i then xs[j]?.map f else xs[j]? := by
  induction xs generalizing i j with
  | nil => simp [updAt]
  | cons x xs ih =>
    cases i with
    | zero => cases j <;> simp [updAt]
    | succ i =>
      cases j with
      | zero => simp [updAt]
      | succ j => simp [updAt, ih]

section
variable (s : State) (q j : Nat)

theorem State.job_updJob_self (f : Job → Job) : (s.updJob q j f).job q j = f (s.job q j) := by
  rw [State.updJob, State.updRed, State.job, State.pc_upd_self]
  exact (Tbl.get_set _ _ _ _ _).trans (if_pos rfl)

theorem State.buf_updJob (f : Job → Job) : ((s.updJob q j f).pc q).red.buf = (s.pc q).red.buf := by
  rw [State.updJob, State.updRed, State.pc_upd_self]

theorem State.buf_putUnit (u off : Nat) (bs : List Byte) :
    ((s.putUnit q u off bs).pc q).red.buf = Memory.write (s.pc q).red.buf (512 * u + off) bs := by
  rw [State.putUnit, State.updRed, State.pc_upd_self]

theorem State.job_updRed {f : Red → Red} (h : ∀ r, (f r).jobs = r.jobs) (k : Nat) : (s.updRed q f).job k j = s.job k j := by
  rw [State.updRed, State.job, State.job, State.pc_upd]
  split
  next hk => rw [hk]; exact congrArg (fun t => Tbl.get (fun _ => {}) t j) (h _)
  · rfl

theorem State.job_putUnit (u off : Nat) (bs : List Byte) : (s.putUnit q u off bs).job q j = s.job q j := State.job_updRed _ _ _ (by exact fun _ => rfl) _

theorem State.buf_recordNf (c : Nat) (f : Option (Nat × Nat)) : ((s.recordNf q j c f).pc q).red.buf = (s.pc q).red.buf := by
  rw [State.recordNf, State.buf_updJob, State.updRed, State.pc_upd_self, Red.noteJob]
  split <;> rfl

end

/-- A line's count does not see what else of a chunk is written. -/
theorem Job.lineCount_congr {x y : Job} {c l : Nat} {f : Chunk → Chunk} (hchunks : y.chunks = updAt x.chunks c f) (hf : ∀ h, (f h).counts = h.counts) :
    y.lineCount l = x.lineCount l := by
  rw [Job.lineCount, Job.lineCount, hchunks, getElem?_updAt]
  split
  · cases x.chunks[l / 8]? <;> simp [hf]
  · rfl

theorem State.lineCount_recordNf (s : State) (q j c l : Nat) (f : Option (Nat × Nat)) :
    ((s.recordNf q j c f).job q j).lineCount l = (s.job q j).lineCount l := by
  rw [State.recordNf, State.job_updJob_self, State.job_updRed _ _ _ (fun r => by rw [Red.noteJob]; split <;> rfl)]
  exact Job.lineCount_congr rfl fun _ => rfl

/-! ## A line of a mesh packet (R238) -/

theorem length_redAdd {rfmt : Nat} {a b : List Byte} (ha : a.length = 64) (hb : b.length = 64) : (redAdd rfmt a b).1.length = 64 := by
  rw [redAdd, elemBytes, length_flatMap_const (fun x => length_leBytes _ x)]
  simp only [reduceElems, List.length_map, List.length_zip, List.length_range, ha, hb]
  split <;> rfl

/-- The bytes that a line leaves at its place, and the place of a non-finite sum. -/
def Job.lineSum (x : Job) (h : Chunk) (buf : Mem) (l : Nat) (bs : List Byte) : List Byte × Option Nat :=
  if decide (x.lineCount l = 0) && (h.kids.isEmpty || x.sampled (l / 8)) then (bs, none)
  else redAdd x.rfmt (Memory.read buf (512 * (x.slot + l / 8) + 64 * (l % 8)) 64) bs

section
variable {s : State} {q j l count : Nat} {bs : List Byte} {h : Chunk}

/-- The line written and counted. -/
def State.lineAdded (s : State) (q j l count : Nat) (r : List Byte) : State :=
  (s.putUnit q ((s.job q j).slot + l / 8) (64 * (l % 8)) r).updJob q j (fun x => { x with chunks := updAt x.chunks (l / 8) (fun h =>
    { h with counts := vset h.counts (l % 8) (vget 0 h.counts (l % 8) + count) }) })

theorem State.lineCount_lineAdded (hchunk : (s.job q j).chunks[l / 8]? = some h) (r : List Byte) :
    ((s.lineAdded q j l count r).job q j).lineCount l = (s.job q j).lineCount l + count := by
  have hcounts : vget 0 (vset h.counts (l % 8) (vget 0 h.counts (l % 8) + count)) (l % 8) = vget 0 h.counts (l % 8) + count := by
    rw [vget_vset _ _ (Nat.mod_lt _ (by decide)), if_pos rfl]
  rw [State.lineAdded, State.job_updJob_self, State.job_putUnit, Job.lineCount, Job.lineCount]
  dsimp only
  rw [getElem?_updAt, if_pos rfl, hchunk]
  exact hcounts

theorem State.buf_lineAdded (r : List Byte) : ((s.lineAdded q j l count r).pc q).red.buf
    = Memory.write (s.pc q).red.buf (512 * ((s.job q j).slot + l / 8) + 64 * (l % 8)) r := by
  rw [State.lineAdded, State.buf_updJob, State.buf_putUnit]

/-- What an added line leaves of its count and of the buffer. -/
theorem State.addLine_spec (hchunk : (s.job q j).chunks[l / 8]? = some h) :
    ((s.addLine q j l count bs).job q j).lineCount l = (s.job q j).lineCount l + count
      ∧ ((s.addLine q j l count bs).pc q).red.buf = Memory.write (s.pc q).red.buf (512 * ((s.job q j).slot + l / 8) + 64 * (l % 8))
          ((s.job q j).lineSum h (s.pc q).red.buf l bs).1 := by
  have hadd : s.addLine q j l count bs = match ((s.job q j).lineSum h (s.pc q).red.buf l bs).2 with
      | some i => (s.lineAdded q j l count ((s.job q j).lineSum h (s.pc q).red.buf l bs).1).recordNf q j (l / 8)
          (some ((s.job q j).member, (s.job q j).elemIndex (64 * l) + i))
      | none => s.lineAdded q j l count ((s.job q j).lineSum h (s.pc q).red.buf l bs).1 := by
    unfold State.addLine
    dsimp only
    rw [hchunk] <;> rfl
  rw [hadd]
  split
  · rw [State.lineCount_recordNf, State.buf_recordNf]
    exact ⟨State.lineCount_lineAdded hchunk _, State.buf_lineAdded _⟩
  · exact ⟨State.lineCount_lineAdded hchunk _, State.buf_lineAdded _⟩

end

/-! ## Grants, and mesh packets (R236, R238) -/

theorem lt_of_findIdx? {α : Type} {p : α → Bool} {l : List α} {i : Nat} (h : l.findIdx? p = some i) : i < l.length :=
  (List.findIdx?_eq_some_iff_findIdx_eq.mp h).1

section
variable {c : Fin 8} {p : Packet} {s t : State} {x : Job}

theorem exec_pcReduceArrive_of_reduce (hmem : p ∈ (s.pc c.val).arrived) (htype : p.ptype = ptReduce) :
    exec (.pcReduceArrive c p) s = .next ((s.updPc c.val (fun d => { d with arrived := d.arrived.erase p })).meshReduce c.val p) :=
  congrArg Host.Outcome.next ((if_pos (List.contains_iff_mem.mpr hmem)).trans (if_pos htype))

theorem State.job_arrived (f : Pc → List Packet) (q j : Nat) : (s.updPc q (fun d => { d with arrived := f d })).job q j = s.job q j := by
  rw [State.job, State.pc_upd_self]; rfl

end

/-- A packet that its job does not take is discarded. -/
theorem State.meshReduce_of_refused {t : State} {q : Nat} {p : Packet} (h : (t.pc q).red.enable = false ∨ (t.job q p.tag.toNat).st ≠ .running
    ∨ reduceFmt p ≠ (t.job q p.tag.toNat).rfmt ∨ (t.job q p.tag.toNat).slotBytes < p.addr.toNat + (p.bytesM1.toNat + 1)) :
    t.meshReduce q p = t.discardMesh q false := by
  refine if_pos ?_
  rcases h with h | h | h | h <;> simp [h]

section
variable {t : State} {q : Nat} {p : Packet} (henable : (t.pc q).red.enable = true) (hst : (t.job q p.tag.toNat).st = .running)
  (hfmt : reduceFmt p = (t.job q p.tag.toNat).rfmt) (hfits : p.addr.toNat + (p.bytesM1.toNat + 1) ≤ (t.job q p.tag.toNat).slotBytes)
include henable hst hfmt hfits

theorem State.meshReduce_guard : ¬(!(t.pc q).red.enable || (t.job q p.tag.toNat).st != .running || reduceFmt p != (t.job q p.tag.toNat).rfmt
    || decide ((t.job q p.tag.toNat).slotBytes < p.addr.toNat + (p.bytesM1.toNat + 1))) = true := by
  simp [henable, hst, hfmt, Nat.not_lt.mpr hfits]

/-- A packet of which a line would pass EXPECT is discarded whole. -/
theorem State.meshReduce_of_excess (hexcess : ∃ i, i < (p.addr.toNat + (p.bytesM1.toNat + 1) - 1) / 64 - p.addr.toNat / 64 + 1
      ∧ (t.job q p.tag.toNat).expect < (t.job q p.tag.toNat).lineCount (p.addr.toNat / 64 + i) + reduceCount p) :
    t.meshReduce q p = t.discardMesh q true := by
  refine (if_neg (State.meshReduce_guard henable hst hfmt hfits)).trans (if_pos ?_)
  obtain ⟨i, hi, hlt⟩ := hexcess
  exact List.any_eq_true.mpr ⟨_, List.mem_map.mpr ⟨i, List.mem_range.mpr hi, rfl⟩, decide_eq_true hlt⟩

/-- A packet that the job takes enters the slot line by line. -/
theorem State.meshReduce_of_taken (hexpect : ∀ i, i < (p.addr.toNat + (p.bytesM1.toNat + 1) - 1) / 64 - p.addr.toNat / 64 + 1 →
      (t.job q p.tag.toNat).lineCount (p.addr.toNat / 64 + i) + reduceCount p ≤ (t.job q p.tag.toNat).expect)
    (hsquash : (t.job q p.tag.toNat).squash = false) (hnf : p.nf = false) (hpoison : p.poison = false) :
    t.meshReduce q p = (((List.range ((p.addr.toNat + (p.bytesM1.toNat + 1) - 1) / 64 - p.addr.toNat / 64 + 1)).map (fun i => p.addr.toNat / 64 + i)).foldl
      (fun u l => u.addLine q p.tag.toNat l (reduceCount p)
        (((elemBytes (t.job q p.tag.toNat).rfmt (reduceElems (t.job q p.tag.toNat).rfmt p.payload)).drop (64 * (l - p.addr.toNat / 64))).take 64))
      (t.updJob q p.tag.toNat (fun x => { x with
        squashed := satAdd x.squashed (reduceSquashed p)
        chunks := updAt x.chunks (p.addr.toNat / 64 / 8) (fun h => { h with trailer := { h.trailer with
          squashed := min 0xffffffff (h.trailer.squashed + reduceSquashed p) } }) }))).redAdvance q p.tag.toNat := by
  refine (if_neg (State.meshReduce_guard henable hst hfmt hfits)).trans ((if_neg ?_).trans ?_)
  · rw [List.any_eq_true]
    rintro ⟨l, hl, hlt⟩
    obtain ⟨i, hi, rfl⟩ := List.mem_map.mp hl
    exact absurd (of_decide_eq_true hlt) (Nat.not_lt.mpr (hexpect i (List.mem_range.mp hi)))
  · simp only [hsquash, hnf, hpoison, Bool.false_and, Bool.or_false, Bool.false_eq_true, if_false]
    rfl

end

/-! ## Packets of the tree (R240, R243) -/

/-- A packet that is accepted is handled on the state with it taken. -/
theorem State.withRed_of_accepted {s t : State} {q : Nat} {p : FabPkt} {kind at_ : Nat} {from_ : Job → RedMsg → Option Nat} {m : RedMsg} {x : Job}
    (h : RedAccepted s t q p kind at_ from_ m x) (f : State → Job → RedMsg → State) : s.withRed q p kind at_ from_ f = f t x m := by
  obtain ⟨htake, hty, hparse, hkind, rfl, hfate⟩ := h
  unfold State.withRed
  rw [htake]
  dsimp only
  rw [if_neg (not_not_intro hty), hparse]
  dsimp only
  rw [if_neg (not_not_intro hkind), hfate]

/-- Settles O40: each message of a reduction by what its job takes. -/
theorem reductionTraffic : Obligations.ReductionTraffic := by
  unfold Obligations.ReductionTraffic
  refine ⟨fun x s p rest w hinbox hw => ?grant, fun c job row col s => rfl, fun c p s t x j l0 l1 stop hmem htype ht hj hx hstop h0 h1 => ?mesh,
    fun c j l count bs s t x h at_ ht hx hchunk hat => ?line, fun c p s t m x => ⟨fun h hnf hfirst => ?up, fun h u y hu hy => ?down, fun h => ?shadowUp, fun h => ?shadowDown⟩,
    fun c job s => ⟨fun y hfind houtward hst => ?copy, fun hst hdone => ⟨fun hheld => ?passHeld, fun hheld => ?passGoes⟩,
      fun hst hbegun hopen => ?shortfall, fun hst hmember hsent hdone => ?downTimeout⟩⟩
  case grant =>
    subst hw
    refine ⟨fun i hfind => ⟨_, rfl, ?_⟩, fun hfind => ⟨_, rfl, ?_⟩⟩
    · have hi : i < 8 := (lt_of_findIdx? hfind).trans_eq Vector.length_toList
      rw [State.site_upd_self, hinbox]
      dsimp only
      unfold Site.takeGrant
      dsimp only
      rw [hfind]
      dsimp only
      rw [vget_vset _ _ hi, if_pos rfl]
      exact ⟨rfl, rfl⟩
    · rw [State.site_upd_self, hinbox]
      dsimp only
      unfold Site.takeGrant
      dsimp only
      rw [hfind]
      exact ⟨rfl, rfl⟩
  case mesh =>
    subst ht hj hx hstop h0 h1
    rw [exec_pcReduceArrive_of_reduce hmem htype]
    have hjob := State.job_arrived (s := s) (fun d => d.arrived.erase p) c.val p.tag.toNat
    have henabled : ((s.updPc c.val (fun d => { d with arrived := d.arrived.erase p })).pc c.val).red.enable = (s.pc c.val).red.enable := by
      rw [State.pc_upd_self]
    refine ⟨fun h => congrArg Host.Outcome.next (State.meshReduce_of_refused ?_), fun henable hst hfmt hfits =>
      ⟨fun hexcess => congrArg Host.Outcome.next (State.meshReduce_of_excess ?_ ?_ ?_ ?_ ?_),
        fun hexpect hsquash hnf hpoison => congrArg Host.Outcome.next ?_⟩⟩
    all_goals rw [← hjob] at *
    · rwa [henabled]
    · rwa [henabled]
    all_goals try assumption
    exact State.meshReduce_of_taken (henabled.trans henable) hst hfmt hfits hexpect hsquash hnf hpoison
  case line =>
    subst ht hx hat
    obtain ⟨hcount, hbuf⟩ := State.addLine_spec (count := count) (bs := bs) hchunk
    refine ⟨hcount, fun hzero hkids => ?_, fun sum hne hsum => ?_, fun hlen a ha => ?_⟩
    · rw [hbuf, Job.lineSum, if_pos (by simp [hzero, hkids]), Memory.read_write]
    · rw [hbuf, Job.lineSum, if_neg (by simp [hne]), hsum, Memory.read_write]
    · rw [hbuf]
      refine Memory.get_write_out _ _ _ _ ?_
      have hlength : ((s.job c.val j).lineSum h (s.pc c.val).red.buf l bs).1.length = 64 := by
        rw [Job.lineSum]
        split
        · exact hlen
        · exact length_redAdd (Memory.length_read _ _ _) hlen
      rwa [hlength]
  case up =>
    refine congrArg Host.Outcome.next ((State.withRed_of_accepted h _).trans ?_)
    dsimp only
    rw [if_neg (by simp [hnf, hfirst])]
  case down =>
    subst hu hy
    exact congrArg Host.Outcome.next (State.withRed_of_accepted h _)
  case shadowUp => exact congrArg Host.Outcome.next (State.withRed_of_accepted h _)
  case shadowDown => exact congrArg Host.Outcome.next (State.withRed_of_accepted h _)
  case copy =>
    refine congrArg Host.Outcome.next ?_
    dsimp only
    rw [hfind]
    refine (if_pos houtward).trans (if_pos ?_)
    exact (congrArg Job.st (State.job_updRed _ _ _ (by exact fun _ => rfl) _)).trans hst
  case passHeld => exact congrArg Host.Outcome.next ((if_pos ⟨hst, hdone⟩).trans (if_pos hheld))
  case passGoes => exact congrArg Host.Outcome.next ((if_pos ⟨hst, hdone⟩).trans (if_neg hheld))
  case shortfall =>
    obtain ⟨i, h, hi, hchunk, hcomplete⟩ := hopen
    refine congrArg Host.Outcome.next (if_pos ⟨hst, hbegun, List.any_eq_true.mpr ⟨i, List.mem_range.mpr hi, ?_⟩⟩)
    rw [hchunk]
    dsimp only
    rw [hcomplete]
    rfl
  case downTimeout =>
    obtain ⟨h, hmem, hnot⟩ := hdone
    exact congrArg Host.Outcome.next (if_pos ⟨hst, hmember, List.all_eq_true.mpr hsent, List.all_eq_false.mpr ⟨h, hmem, by rw [hnot]; exact Bool.false_ne_true⟩⟩)

end Sys2Proof.Machine
end

section
/-! PROOFS. Update engines (R255–R272), and the links and packets of the module fabric (R274–R312). -/

namespace Sys2Proof.Machine

open Sys2Proof.Claims

/-! ## Update engines (R255–R272) -/

theorem ueKey_pc {q : Nat} (e : Fin 16) : (ueKey q e.val - 65536) / 16 = q := by
  rw [ueKey]
  omega

section
variable {c : Fin 8} {s : State} {job : Fin 4096}

/-- The entries of a job that can be queued. -/
def State.jobEntries (s : State) (q j : Nat) : List Nat := ((s.pc q).ue.layers.filter (fun e => e.2.valid && e.2.job == j)).map (fun e => e.1)

theorem exec_ueTasksQueued_of_held (henable : (s.pc c.val).ue.enable = true) (htasked : (s.job c.val job.val).tasked = false)
    (hheld : (s.job c.val job.val).st = .held) : exec (.ueTasksQueued c job) s = .next (
      let r := s.recordFlags (s.job c.val job.val)
      let t := r.1.updJob c.val job.val (fun x => { x with tasked := true, awaiting := s.jobEntries c.val job.val })
      if (s.jobEntries c.val job.val).isEmpty then (t.updUe c.val (fun u => { u with noEntry := true })).leaveHeld c.val job.val
      else (s.jobEntries c.val job.val).foldl (fun t n => t.queueEntry c.val n (s.job c.val job.val) (r.2.1, r.2.2.1, r.2.2.2)) t) := by
  refine congrArg Host.Outcome.next ((if_pos ⟨henable, htasked, .inl hheld⟩).trans ?_)
  unfold State.jobEntries
  generalize s.recordFlags (s.job c.val job.val) = r
  obtain ⟨t, nf, ab, cf⟩ := r
  exact ite_congr rfl (fun _ => if_pos hheld) (fun _ => rfl)

/-- A release of an engine whose task waits for it. -/
theorem State.ueRelease_of_active {k : Nat} {code : BitVec 3} (hactive : (s.site k).ue.active = true) (hreleased : (s.site k).ue.released = none)
    (hlow : 1 ≤ code.toNat) (hhigh : code.toNat ≤ 4) : s.ueRelease k code = (
      let t := s.updSite k (fun a => { a with ue := { a.ue with released := some (code.setWidth 8) } })
      if (t.taskMates k).all (fun k' => (t.site k').ue.released.isSome) then
        (t.freeEngines ((k - 65536) / 16) (s.site k).ue.entry.toNat).releaseEntry ((k - 65536) / 16) (s.site k).ue.entry.toNat
          ((((t.taskMates k).find? (fun k' => (t.site k').ue.shard == 0)).bind (fun k' => (t.site k').ue.released)).getD 0).toNat
      else t) :=
  if_pos ⟨hactive, hreleased, hlow, hhigh⟩

/-- A line of the release window: the entry that it names. -/
theorem releaseLine_entry {a base n : Nat} (h : a = base + 64 * n) : (a - base) / 64 = n := by omega

end

/-- Settles O41: each command of the update engines where its guard holds. -/
theorem updateEngineTasks : Obligations.UpdateEngineTasks := by
  unfold Obligations.UpdateEngineTasks
  rintro c s q rfl
  refine ⟨fun job x hx henable htasked hheld hnone => ?noEntry, fun job x es r hx henable htasked hheld hes hne hr => ?queued,
    fun k rest e hqueue he henable hst hidle => ?start, fun e => rfl, fun e code hactive hreleased hlow hhigh t ht => ⟨fun hwaits => ?waits, fun n k0 v hall hn hfind hv => ?releases⟩,
    fun p n code hmem htype haddr hn hcode harrays hst hlow hhigh => ?line, fun n hst => congrArg Host.Outcome.next (if_pos hst),
    fun n word v y hpos hword hvalid hy => ?write⟩
  case noEntry =>
    subst hx
    have hes : s.jobEntries c.val job.val = [] := by rw [State.jobEntries, hnone, List.map_nil]
    rw [exec_ueTasksQueued_of_held henable htasked hheld, hes]
    rfl
  case queued =>
    subst hx hr
    have hjob : s.jobEntries c.val job.val = es := hes.symm
    rw [exec_ueTasksQueued_of_held henable htasked hheld, hjob]
    exact congrArg Host.Outcome.next (if_neg (by rwa [List.isEmpty_iff]))
  case start =>
    subst he
    refine congrArg Host.Outcome.next ?_
    dsimp only
    rw [hqueue]
    exact if_pos ⟨henable, hst, hidle⟩
  case waits =>
    subst ht
    obtain ⟨k, hk, hnone⟩ := hwaits
    refine congrArg Host.Outcome.next ((State.ueRelease_of_active hactive hreleased hlow hhigh).trans (if_neg ?_))
    rw [List.all_eq_true]
    intro hall
    have hsome := hall k hk
    rw [hnone] at hsome
    exact Bool.false_ne_true hsome
  case releases =>
    subst ht hn
    refine congrArg Host.Outcome.next ((State.ueRelease_of_active hactive hreleased hlow hhigh).trans ((if_pos ?_).trans ?_))
    · exact List.all_eq_true.mpr fun k hk => Option.isSome_iff_ne_none.mpr (hall k hk)
    · rw [hfind, Option.bind_some, hv, Option.getD_some, ueKey_pc]
  case line =>
    subst hcode
    have hentry := releaseLine_entry haddr
    refine congrArg Host.Outcome.next ?_
    dsimp only
    rw [hentry, if_pos ⟨List.contains_iff_mem.mpr hmem, htype, by omega, hn⟩]
    refine congrArg (fun t => State.sendService t _ _) (if_pos ?_)
    rw [State.layer, State.pc_upd_self]
    exact ⟨harrays, hst, hlow, hhigh⟩
  case write =>
    subst hy
    refine congrArg Host.Outcome.next ((if_neg (Nat.not_le.mpr hword)).trans ((if_neg ?_).trans (if_neg fun h => hpos.ne' h.1)))
    rw [if_neg hpos.ne', hvalid]
    exact Bool.false_ne_true

/-! ## Links of the module fabric (R274–R281, R312, R432) -/

section
variable {s : State} {n : Nat}

theorem Reported.port {s t : State} (h : Reported s t) (k : Nat) : t.port k = s.port k := by
  obtain ⟨_, _, _, _, _, rfl⟩ := h
  rfl

/-- What a link that goes down leaves of its port. -/
theorem State.port_linkDown (st : PortState) : (s.linkDown n st).port n = { (s.port n).dropLink with st := st } := by
  rw [State.linkDown]
  dsimp only
  split
  · rw [(State.post_reported _ _ _ _ _ _ _).port, State.port_upd_self]
  · rw [State.port_upd_self]

/-- A flit with a good check that asks for no resend: its ACK and credits are taken, and what then may leave leaves. -/
theorem State.takeFlit_of_good {bs : List Byte} (hcheck : bytesAt bs 248 8 = (crc64 (bs.take 248)).toNat) (hresend : bitsOf (bytesAt bs 0 8) 32 1 = 0)
    (hidle : bitsOf (bytesAt bs 0 8) 33 1 = 0) (hlinkctl : bitsOf (bytesAt bs 0 8) 63 1 = 0) : s.takeFlit n bs = (
      let h := bytesAt bs 0 8
      let t := (s.updPort n (fun p => { (p.takeAck (BitVec.ofNat 16 (bitsOf h 16 16))) with
        peerFreed := vset p.peerFreed (bitsOf h 47 3) (BitVec.ofNat 12 (bitsOf h 50 12)) })).pumpPort n
      if BitVec.ofNat 16 h = (t.port n).rxSeq then (t.updPort n (fun p =>
        ({ p with rxSeq := p.rxSeq + 1, nakSent := false }).takeFlit (bitsOf h 34 2) (bitsOf h 36 1) (bitsOf h 37 1 == 1)
          (bitsOf h 38 1 == 1) (bitsOf h 39 8) ((bs.drop 8).take 240))).idleOut n
      else t.discardFlit n) := by
  refine (if_neg (not_not_intro hcheck)).trans ?_
  rw [hresend, hidle, hlinkctl]
  rfl

end

theorem exec_flitReceive_of_up {port : Fin 96} {s : State} {flit : List Byte} (hup : (s.port port.val).st = .up) (hlen : flit.length = 256) :
    exec (.flitReceive port flit) s = .next (s.takeFlit port.val flit) :=
  congrArg Host.Outcome.next (if_pos ⟨hup, hlen⟩)

/-- Settles O42: each event of a link by the state of its port. -/
theorem fabricLinks : Obligations.FabricLinks := by
  unfold Obligations.FabricLinks
  rintro port s n p rfl rfl
  refine ⟨fun flit hup hlen hcheck => ?badFlit, fun flit h t hup hlen hcheck hh hresend hidle hlinkctl ht => ?goodFlit, fun hnak => congrArg Host.Outcome.next (if_pos hnak),
    fun hup => congrArg Host.Outcome.next (if_pos hup), fun henable => ⟨_, congrArg Host.Outcome.next (if_pos henable), ?_⟩,
    fun henable => ⟨_, congrArg Host.Outcome.next (if_pos henable), ?_⟩, ?idleState,
    fun peer peerPort henable hoptics hst => congrArg Host.Outcome.next (if_pos ⟨henable, hoptics, hst⟩), fun henable => ?enable,
    fun henable => congrArg Host.Outcome.next ((if_pos rfl).trans (if_pos henable)), ⟨_, congrArg Host.Outcome.next (if_neg Bool.false_ne_true), ?_⟩,
    fun cl session k t ht => ⟨fun hne => ht.trans (if_neg hne), fun heq => ht.trans (if_pos heq)⟩⟩
  case badFlit => exact (exec_flitReceive_of_up hup hlen).trans (congrArg Host.Outcome.next (if_pos hcheck))
  case goodFlit =>
    subst hh ht
    rw [exec_flitReceive_of_up hup hlen, State.takeFlit_of_good hcheck hresend hidle hlinkctl]
    exact ⟨fun hseq => congrArg Host.Outcome.next (if_pos hseq), fun hseq => congrArg Host.Outcome.next (if_neg hseq)⟩
  case idleState =>
    unfold Port.idleState
    cases (s.port port.val).optics <;> decide
  case enable => exact congrArg Host.Outcome.next ((if_pos rfl).trans (if_neg (by rw [henable]; exact Bool.false_ne_true)))
  · rw [State.port_linkDown]
    exact ⟨rfl, rfl, rfl⟩
  · rw [State.port_linkDown]
  · rw [State.port_upd_self, State.port_linkDown]
    exact ⟨rfl, rfl⟩

/-! ## Packets of the module fabric (R282–R291, R308–R311) -/

section
variable {port : Fin 96} {s : State} {r : RxPkt} {rest : List RxPkt} (hrx : (s.port port.val).rx = r :: rest)
include hrx

theorem exec_fabricPacketRoute_of_class (hclass : fabClass r.pkt.ty = some r.cls) : exec (.fabricPacketRoute port) s = .next (
    let u := s.updPort port.val (fun p => { p with rx := rest })
    match u.fabRoute r.pkt true with
    | .discard => (u.fabStep (port.val / 12) r.pkt true .free).freeFlits port.val (clKey r.cls r.lane) r.session r.flits
    | _ => u.fabStep (port.val / 12) r.pkt true (.port port.val (clKey r.cls r.lane) r.session)) := by
  refine congrArg Host.Outcome.next ?_
  dsimp only
  rw [hrx]
  exact if_neg (not_not_intro hclass)

theorem exec_fabricPacketRoute_of_wrongClass (hclass : fabClass r.pkt.ty ≠ some r.cls) : exec (.fabricPacketRoute port) s = .next (
    ((s.updPort port.val (fun p => { p with rx := rest })).countDiscard (port.val / 12)).freeFlits port.val (clKey r.cls r.lane) r.session r.flits) := by
  refine congrArg Host.Outcome.next ?_
  dsimp only
  rw [hrx]
  exact if_pos hclass

end

/-- Settles O43: each command of the fabric's packets where its guard holds. -/
theorem fabricPackets : Obligations.FabricPackets := by
  unfold Obligations.FabricPackets
  refine ⟨fun port s u r rest hrx hu => ⟨fun hclass => ?wrongClass, fun hclass hroute => ?goesOn, fun hclass hroute => ?discards⟩,
    fun c s hfatal => congrArg Host.Outcome.next (if_neg (by rw [hfatal]; exact Bool.false_ne_true)), fun n s hup hfenced => ?fenced,
    fun c p s t ⟨htype, htake⟩ => ?arrives, fun a s hlinked hheard => ?lost, fun s => ⟨fun b hbad => ?badEntry, fun hbad => ?commits⟩, fun n v s => rfl⟩
  case wrongClass => rw [exec_fabricPacketRoute_of_wrongClass hrx hclass, hu]
  case goesOn =>
    subst hu
    rw [exec_fabricPacketRoute_of_class hrx hclass]
    dsimp only
    split
    next h => exact absurd h hroute
    · rfl
  case discards =>
    subst hu
    rw [exec_fabricPacketRoute_of_class hrx hclass]
    dsimp only
    rw [hroute]
  case fenced =>
    refine (if_pos hup).trans (if_pos ?_)
    rw [hfenced, Bool.true_or]
  case arrives =>
    refine congrArg Host.Outcome.next ((if_pos htype).trans ?_)
    rw [htake, Option.getD_some]
  case lost =>
    refine congrArg Host.Outcome.next (if_pos ?_)
    rw [hlinked, hheard]
    rfl
  case badEntry =>
    refine congrArg Host.Outcome.next ?_
    rw [State.fwdCommit, hbad]
  case commits =>
    refine congrArg Host.Outcome.next ?_
    rw [State.fwdCommit, hbad]

end Sys2Proof.Machine
end

section
/-! PROOFS. Windows, answers and the dispatch of tokens (R284–R312). -/

namespace Sys2Proof.Machine

open Sys2Proof.Claims

/-! ## Windows, answers and send channels (R284, R293–R300, R304, R312) -/

section
variable {s t : State} {c : Fin 8} {p : FabPkt}

theorem State.fabAnswered_of_taken {ty : BitVec 8} (h : FabTaken s t c.val p ty) : s.fabAnswered c.val p =
    ((t.pc c.val).disp.reqFor p.ty p.tag).elim (t.countDiscard c.val) (fun r => t.fabComplete c.val r p.status) := by
  unfold State.fabAnswered
  rw [h.2]
  dsimp only
  cases (t.pc c.val).disp.reqFor p.ty p.tag <;> rfl

/-- Every answer's command takes the answer to its request. -/
theorem exec_of_answer {i : Instr} (h : (i = .wackArrive c p ∧ FabTaken s t c.val p ftWack) ∨ (i = .tackArrive c p ∧ FabTaken s t c.val p ftTack)
    ∨ (i = .tackArrive c p ∧ FabTaken s t c.val p ftRack) ∨ (i = .ctrlPacketArrive c p ∧ FabTaken s t c.val p ftCack)) :
    exec i s = .next (((t.pc c.val).disp.reqFor p.ty p.tag).elim (t.countDiscard c.val) (fun r => t.fabComplete c.val r p.status)) := by
  rcases h with ⟨rfl, h⟩ | ⟨rfl, h⟩ | ⟨rfl, h⟩ | ⟨rfl, h⟩
  · exact congrArg Host.Outcome.next ((if_pos h.1).trans (State.fabAnswered_of_taken h))
  · exact congrArg Host.Outcome.next ((if_pos (.inl h.1)).trans (State.fabAnswered_of_taken h))
  · exact congrArg Host.Outcome.next ((if_pos (.inr h.1)).trans (State.fabAnswered_of_taken h))
  · exact congrArg Host.Outcome.next ((if_neg (by rw [h.1]; decide)).trans ((if_pos h.1).trans (State.fabAnswered_of_taken h)))

theorem exec_ctrlPacketArrive_of_ctrl (h : FabTaken s t c.val p ftCtrl) : exec (.ctrlPacketArrive c p) s = .next (
    if (t.pc c.val).disp.ctrl.length < inboxCap then
      (t.updDisp c.val (fun d => { d with ctrl := d.ctrl ++ [p] })).fabSend c.val (p.answerTo t.ownAddr ftCack 0)
    else t.fabSend c.val (p.answerTo t.ownAddr ftCack 5)) := by
  refine congrArg Host.Outcome.next ((if_pos h.1).trans ?_)
  rw [h.2]

end

/-- The INDEX that an enabled engine's valid channel gives to the array that wrote a packet. -/
def State.channelPlace (t : State) (c : Fin 8) (ch : Nat) (p : Packet) : Option Nat :=
  if (t.pc c.val).disp.enable && bit (vget 0 ((t.pc c.val).disp.chan ch).w 0) 42 then t.chanIndex ((t.pc c.val).disp.chan ch) p else none

section
variable {s : State} {c : Fin 8} {p : Packet} {ch off : Nat} (hchannel : sendAperture c.val p.addr.toNat = some (ch, off)) (hmem : p ∈ s.arrivedAt (.pc c))
include hchannel hmem

theorem exec_sendChannelWrite_of_read (htype : p.ptype = ptReadReq) : exec (.sendChannelWrite c p) s = .next (s.apertureRead c p) := by
  refine congrArg Host.Outcome.next ?_
  dsimp only
  rw [hchannel, List.contains_iff_mem.mpr hmem, Option.elim_some, Bool.not_true]
  exact (if_neg Bool.false_ne_true).trans (if_pos htype)

/-- A WRITE is refused where its channel gives it no place, and else becomes a WWRITE. -/
theorem exec_sendChannelWrite_of_write (htype : p.ptype = ptWrite) : exec (.sendChannelWrite c p) s = .next (
    let t := s.takeAt (.pc c) p
    let x := (t.pc c.val).disp.chan ch
    (t.channelPlace c ch p).elim
      (t.sendNode (.pc c) (p.answer ptWriteAck stOutOfWindow [] false))
      (fun i => t.fabRequest c.val { ty := ftWwrite, dpc := BitVec.ofNat 3 c.val, spc := 0, dst := (vget 0 x.w 0).setWidth 32, src := 0, poison := p.poison
                                     specific := wwSpecific (x.field 0 32 10) (x.field 1 0 32) (x.field 2 0 48 + i * x.field 3 0 32 + off)
                                     body := p.payload } ch (some p))) := by
  refine congrArg Host.Outcome.next ?_
  dsimp only
  rw [hchannel, List.contains_iff_mem.mpr hmem, Option.elim_some, Bool.not_true]
  refine (if_neg Bool.false_ne_true).trans ((if_neg (by rw [htype]; decide)).trans ((if_neg (not_not_intro htype)).trans ?_))
  dsimp only
  cases hplace : (s.takeAt (.pc c) p).channelPlace c ch p <;> (rw [State.channelPlace] at hplace; rw [hplace]; rfl)

end

/-- Settles O44: each answer, control packet and line of a send channel where its guard holds. -/
theorem windowsAndAnswers : Obligations.WindowsAndAnswers := by
  unfold Obligations.WindowsAndAnswers
  refine ⟨fun c p s t u st h hwrite => ?wwrite, fun c p s t i h => ⟨fun r hreq => ?answers, fun hreq => ?late⟩,
    fun c p s t h => ⟨fun hroom => ?ctrl, fun hfull => ?busy⟩, fun c tag s r hfind => ?timeout,
    fun c p s t ch off hchannel hmem ht => ⟨fun htype henable => ?poison, fun htype henable => ?refusedRead, fun htype henable => ?refused,
      fun i x htype hx henable hvalid hindex => ?sends⟩⟩
  case wwrite =>
    refine congrArg Host.Outcome.next ((if_pos h.1).trans ?_)
    rw [h.2]
    dsimp only
    rw [hwrite]
  case answers => rw [exec_of_answer h, hreq, Option.elim_some]
  case late => rw [exec_of_answer h, hreq, Option.elim_none]
  case ctrl => exact (exec_ctrlPacketArrive_of_ctrl h).trans (congrArg Host.Outcome.next (if_pos hroom))
  case busy => exact (exec_ctrlPacketArrive_of_ctrl h).trans (congrArg Host.Outcome.next (if_neg (Nat.not_lt.mpr hfull)))
  case timeout =>
    refine congrArg Host.Outcome.next ?_
    rw [hfind]
  case poison =>
    subst ht
    rw [exec_sendChannelWrite_of_read hchannel hmem htype, State.apertureRead, henable]
    rfl
  case refusedRead =>
    subst ht
    rw [exec_sendChannelWrite_of_read hchannel hmem htype, State.apertureRead, henable]
    rfl
  case refused =>
    subst ht
    have hplace : (s.takeAt (.pc c) p).channelPlace c ch p = none := by
      rw [State.channelPlace, henable]
      rfl
    rw [exec_sendChannelWrite_of_write hchannel hmem htype]
    dsimp only
    rw [hplace, Option.elim_none]
  case sends =>
    subst ht hx
    have hplace : (s.takeAt (.pc c) p).channelPlace c ch p = some i :=
      (if_pos (by rw [henable, bit, hvalid]; rfl)).trans hindex
    rw [exec_sendChannelWrite_of_write hchannel hmem htype]
    dsimp only
    rw [hplace, Option.elim_some]

/-! ## Windows and route lines (R294, R298, R301–R307) -/

theorem State.updDisp_congr {s : State} {q : Nat} {f g : Disp → Disp} (h : f (s.pc q).disp = g (s.pc q).disp) : s.updDisp q f = s.updDisp q g :=
  State.updPc_congr (congrArg (fun d => { s.pc q with disp := d }) h)

section
variable {d : Disp} {n : Nat} (hfree : d.winBusy = false)
include hfree

theorem Disp.winCmd_open : d.winCmd n 1 = if (d.win n).st = .closed then d.updWin n (fun x => { x with st := .opened }) else { d with winRefused := true } :=
  if_neg (by rw [hfree]; exact Bool.false_ne_true)

theorem Disp.winCmd_close : d.winCmd n 2 = if (d.win n).st = .opened then d.updWin n (fun x => { x with st := .closing }) else { d with winRefused := true } :=
  if_neg (by rw [hfree]; exact Bool.false_ne_true)

end

theorem State.pc_sendNode_pc (s : State) (c : Fin 8) (p : Packet) (k : Nat) : (s.sendNode (.pc c) p).pc k = s.pc k := rfl

/-- Of a packet that the route aperture lets go no line counts as handled. -/
theorem handled_of_let_go (s : State) (c : Fin 8) (p answer : Packet) :
    ((((s.updDisp c.val (fun d => { d with routing := d.routing.filter (fun r => r.1 != p) })).takeAt (.pc c) p).sendNode (.pc c) answer).pc c.val).disp.handled p
      = 0 := by
  have hnone : ((s.pc c.val).disp.routing.filter (fun r => r.1 != p)).find? (fun r => r.1 == p) = none := by
    rw [List.find?_eq_none]
    intro r hr
    have hne := (List.mem_filter.mp hr).2
    simpa using hne
  rw [State.pc_sendNode_pc, State.takeAt, State.pc_upd_self, State.updDisp, State.pc_upd_self, Disp.handled]
  dsimp only
  rw [hnone]
  rfl

section
variable {s : State} {c : Fin 8} {p : Packet} {l kind : Nat} {f : Nat → List Byte → State → State} (h : Delivered s (.pc c) p ptWrite)
  (hlayer : routeAperture c.val p.addr.toNat = some l)
include h hlayer

theorem State.routeLine_of_disabled (henable : (s.pc c.val).disp.enable = false) : s.routeLine c p kind f =
    ((s.updDisp c.val (fun d => { d with routing := d.routing.filter (fun r => r.1 != p) })).takeAt (.pc c) p).sendNode (.pc c)
      (p.answer ptWriteAck stOutOfWindow [] false) := by
  unfold State.routeLine
  dsimp only
  rw [hlayer, contains_of_delivered h, Option.elim_some, Bool.not_true]
  refine (if_neg Bool.false_ne_true).trans ((if_neg (by rw [h.2]; decide)).trans ((if_neg (not_not_intro h.2)).trans (if_pos ?_)))
  rw [henable]
  rfl

/-- The next line of a packet at an enabled engine, by its kind. -/
theorem State.routeLine_of_enabled (henable : (s.pc c.val).disp.enable = true) : s.routeLine c p kind f = (
    let bs := (p.payload.drop (64 * (s.pc c.val).disp.handled p)).take 64
    if rlKind bs = 0 ∨ 3 < rlKind bs then (s.countBad c.val).lineDone c.val p
    else if rlKind bs ≠ kind then s
    else
      let r := s.dispLayer c.val l
      if r.2.valid then (f l bs r.1).lineDone c.val p else (r.1.countBad c.val).lineDone c.val p) := by
  unfold State.routeLine
  dsimp only
  rw [hlayer, contains_of_delivered h, Option.elim_some, Bool.not_true]
  refine (if_neg Bool.false_ne_true).trans ((if_neg (by rw [h.2]; decide)).trans ((if_neg (not_not_intro h.2)).trans (if_neg ?_)))
  rw [henable]
  exact Bool.false_ne_true

variable (henable : (s.pc c.val).disp.enable = true) {bs : List Byte} (hbs : bs = (p.payload.drop (64 * (s.pc c.val).disp.handled p)).take 64)
include henable hbs

theorem State.routeLine_of_kind (hkind : rlKind bs = kind) (hlow : kind ≠ 0) (hhigh : kind ≤ 3) : s.routeLine c p kind f =
    if (s.dispLayer c.val l).2.valid then (f l bs (s.dispLayer c.val l).1).lineDone c.val p
    else ((s.dispLayer c.val l).1.countBad c.val).lineDone c.val p := by
  subst hbs
  rw [State.routeLine_of_enabled h hlayer henable]
  exact (if_neg (by rw [hkind]; omega)).trans (if_neg (not_not_intro hkind))

theorem State.routeLine_of_reserved (hkind : rlKind bs = 0 ∨ 3 < rlKind bs) : s.routeLine c p kind f = (s.countBad c.val).lineDone c.val p := by
  subst hbs
  rw [State.routeLine_of_enabled h hlayer henable]
  exact if_pos hkind

end

/-- Settles O45: windows by their state, packets of tokens and results, and route lines by their kind. -/
theorem dispatchEngines : Obligations.DispatchEngines := by
  unfold Obligations.DispatchEngines
  refine ⟨fun c w s d hd hfree => ?windows, fun c w s hst hcommitted => ?closed, fun c p s t => ⟨fun h => ?token, fun h => ?result⟩,
    fun c p s l bs r h hlayer => ⟨fun henable => ?disabled, fun henable hbs hr => ?enabled⟩⟩
  case windows =>
    subst hd
    have opens := Disp.winCmd_open (n := w.val) hfree
    have closes := Disp.winCmd_close (n := w.val) hfree
    exact ⟨fun hst => congrArg Host.Outcome.next (State.updDisp_congr (opens.trans (if_pos hst))),
      fun hst => congrArg Host.Outcome.next (State.updDisp_congr (opens.trans (if_neg hst))),
      fun hst => congrArg Host.Outcome.next (State.updDisp_congr (closes.trans (if_pos hst))),
      fun hst => congrArg Host.Outcome.next (State.updDisp_congr (closes.trans (if_neg hst)))⟩
  case closed => exact congrArg Host.Outcome.next (State.updDisp_congr (if_pos ⟨hst, hcommitted⟩))
  case token =>
    have htaken : exec (.tokenArrive c p) s = .next (if (t.pc c.val).disp.enable then t.tokenPacket c.val p else t) := by
      refine congrArg Host.Outcome.next ((if_pos h.1).trans ?_)
      rw [h.2]
    exact ⟨fun henable => htaken.trans (congrArg Host.Outcome.next (if_pos henable)),
      fun henable => htaken.trans (congrArg Host.Outcome.next (if_neg (by rw [henable]; exact Bool.false_ne_true)))⟩
  case result =>
    have htaken : exec (.resultArrive c p) s = .next (if (t.pc c.val).disp.enable then t.resultPacket c.val p else t) := by
      refine congrArg Host.Outcome.next ((if_pos h.1).trans ?_)
      rw [h.2]
    exact ⟨fun henable => htaken.trans (congrArg Host.Outcome.next (if_pos henable)),
      fun henable => htaken.trans (congrArg Host.Outcome.next (if_neg (by rw [henable]; exact Bool.false_ne_true)))⟩
  case disabled =>
    exact ⟨_, congrArg Host.Outcome.next (State.routeLine_of_disabled h hlayer henable),
      congrArg Host.Outcome.next (State.routeLine_of_disabled h hlayer henable),
      congrArg Host.Outcome.next (State.routeLine_of_disabled h hlayer henable), rfl, handled_of_let_go s c p _⟩
  case enabled =>
    subst hr
    refine ⟨fun hvalid => ⟨fun hkind => ?_, fun hkind => ?_, fun hkind => ?_⟩, fun hvalid hkind => ?_,
      fun hkind => congrArg Host.Outcome.next (State.routeLine_of_reserved h hlayer henable hbs hkind)⟩
    · exact congrArg Host.Outcome.next ((State.routeLine_of_kind h hlayer henable hbs hkind (by decide) (by decide)).trans (if_pos hvalid))
    · exact congrArg Host.Outcome.next ((State.routeLine_of_kind h hlayer henable hbs hkind (by decide) (by decide)).trans (if_pos hvalid))
    · exact congrArg Host.Outcome.next ((State.routeLine_of_kind h hlayer henable hbs hkind (by decide) (by decide)).trans (if_pos hvalid))
    · exact congrArg Host.Outcome.next ((State.routeLine_of_kind h hlayer henable hbs hkind (by decide) (by decide)).trans
        (if_neg (by rw [hvalid]; exact Bool.false_ne_true)))

end Sys2Proof.Machine
end

section
/-! PROOFS. Lines and commands of the context store (R318–R339). -/

namespace Sys2Proof.Machine

open Sys2Proof.Claims

/-! ## Lines (R320–R324) -/

/-- What the first packet of lines that has arrived is. -/
theorem Bay.isFirst_spec {b : Bay} {n : Nat} {p : Packet} (h : b.isFirst n p = true) :
    p ∈ b.arrived ∧ p.ptype = ptWrite ∧ storeAperture n p.addr.toNat = true ∧ 64 * (b.pktOf p).lines < p.payload.length := by
  have hfind := eq_of_beq h
  have hcond := List.find?_some hfind
  simp only [Bool.and_eq_true, beq_iff_eq, decide_eq_true_eq] at hcond
  exact ⟨List.mem_of_find?_eq_some hfind, hcond.1.1, hcond.1.2, hcond.2⟩

section
variable {bay : Fin 16} {p : Packet} {s : State} (hfirst : (s.bay bay.val).isFirst bay.val p = true) (hroom : (s.bay bay.val).lines.length < 1024)
include hfirst hroom

/-- The next line of the oldest packet, which the command names rightly. -/
theorem State.storeLine_of_first {write : Bool}
    (hop : ¬((slField ((p.payload.drop (64 * ((s.bay bay.val).pktOf p).lines)).take 64) 0 1 = 1 ∧ write = true)
      ∨ (slField ((p.payload.drop (64 * ((s.bay bay.val).pktOf p).lines)).take 64) 0 1 = 2 ∧ write = false))) :
    s.storeLine bay p write = (
      let k := ((s.bay bay.val).pktOf p).lines
      let bs := (p.payload.drop (64 * k)).take 64
      let t := s.updBay bay.val (fun b => b.setPkt { (s.bay bay.val).pktOf p with lines := k + 1 })
      ((s.bay bay.val).refusal bs).elim (t.updBay bay.val (fun b => { b with lines := b.lines ++ [b.mkLine p bs], nextOrder := b.nextOrder + 1 }))
        (fun r => (t.updBay bay.val (fun c => { c with stat := r.1.stat, statFirst := r.1.statFirst })).finishLine bay.val p k r.2)) := by
  obtain ⟨-, htype, haperture, hmore⟩ := Bay.isFirst_spec hfirst
  refine (if_neg ?_).trans ((if_neg hop).trans ((if_neg (Nat.not_le.mpr hroom)).trans ?_))
  · rw [hfirst, htype, haperture, beq_self_eq_true, decide_eq_true hmore]
    exact Bool.false_ne_true
  · dsimp only
    cases (s.bay bay.val).refusal _ <;> rfl

/-- STORE_READ takes a line that is no WRITE, STORE_WRITE one that is no READ. -/
theorem exec_storeLine {bs : List Byte} (hbs : bs = (p.payload.drop (64 * ((s.bay bay.val).pktOf p).lines)).take 64) {i : Instr}
    (h : (i = .storeRead bay p ∧ slField bs 0 1 ≠ 2) ∨ (i = .storeWrite bay p ∧ slField bs 0 1 ≠ 1)) : exec i s = .next (
      let k := ((s.bay bay.val).pktOf p).lines
      let t := s.updBay bay.val (fun b => b.setPkt { (s.bay bay.val).pktOf p with lines := k + 1 })
      ((s.bay bay.val).refusal bs).elim (t.updBay bay.val (fun b => { b with lines := b.lines ++ [b.mkLine p bs], nextOrder := b.nextOrder + 1 }))
        (fun r => (t.updBay bay.val (fun c => { c with stat := r.1.stat, statFirst := r.1.statFirst })).finishLine bay.val p k r.2)) := by
  subst hbs
  rcases h with ⟨rfl, hop⟩ | ⟨rfl, hop⟩
  · exact congrArg Host.Outcome.next (State.storeLine_of_first hfirst hroom (by simp [hop]))
  · exact congrArg Host.Outcome.next (State.storeLine_of_first hfirst hroom (by simp [hop]))

end

/-- A page of a waiting line moved, and what of the line is left. -/
theorem exec_storePageDone_of_turn {bay : Fin 16} {o : Nat} {levels : List (Nat × Nat)} {soft bad : Bool} {s : State} {c : Cart} {l : StoreLine}
    {r : State × BitVec 4} (hcart : (s.bay bay.val).cart = some c) (hfind : (s.bay bay.val).lines.find? (fun l => l.order == o) = some l)
    (hmay : (s.bay bay.val).lineMay l = true)
    (hr : (if l.write then s.writePage bay.val l (l.pageAt l.done)
      else (s.mediumRead bay.val (l.pageAt l.done) levels soft bad).readPage bay.val l (l.pageAt l.done) bad) = r) :
    exec (.storePageDone bay o levels soft bad) s = .next (
      if (l.advance r.2).done < l.count then
        r.1.updBay bay.val (fun b => { b with lines := b.lines.map (fun m => if m.order = o then l.advance r.2 else m) })
      else (r.1.updBay bay.val (fun b => { b with lines := b.lines.filter (fun m => m.order != o) })).finishLine bay.val l.pkt
        ((s.bay bay.val).lineIndex l) (l.advance r.2).status) := by
  subst hr
  refine congrArg Host.Outcome.next ?_
  dsimp only
  rw [hcart, hfind]
  dsimp only
  rw [hmay, Bool.not_true]
  exact if_neg Bool.false_ne_true

/-- Settles O46: lines by their checks, and their pages one by one. -/
theorem storeLines : Obligations.StoreLines := by
  unfold Obligations.StoreLines
  refine ⟨fun bay p s t n k bs i hn hk hfirst hroom hbs hi ht => ?line,
    fun bay o levels soft bad s n no c l l' r hn hcart hfind hmay hno hwrites hreads hl' => ?page⟩
  case line =>
    subst hn hk ht
    have hexec := exec_storeLine hfirst hroom hbs hi
    refine ⟨fun b' st hrefusal => ?_, Bay.isFirst_spec hfirst, fun hrefusal => ?_⟩
    · rw [hexec, hrefusal, Option.elim_some]
    · rw [hexec, hrefusal, Option.elim_none]
  case page =>
    subst hn hno hl'
    have hr : (if l.write then s.writePage bay.val l (l.pageAt l.done)
        else (s.mediumRead bay.val (l.pageAt l.done) levels soft bad).readPage bay.val l (l.pageAt l.done) bad) = r := by
      split
      next h => exact (hwrites h).symm
      next h => exact (hreads (Bool.eq_false_iff.mpr h)).symm
    have hexec := exec_storePageDone_of_turn hcart hfind hmay hr
    exact ⟨fun hmore => hexec.trans (congrArg Host.Outcome.next (if_pos hmore)),
      fun hlast => hexec.trans (congrArg Host.Outcome.next (if_neg (Nat.not_lt.mpr hlast)))⟩

/-! ## Commands (R331–R339) -/

section
variable {s : State} {n : Nat} {unmount : Bool} {f : State → State}

theorem State.storeCmd_of_ignored (h : (s.bay n).cmd ≠ 0 ∨ (s.bay n).off = true ∨ (s.bay n).fenced = true) : s.storeCmd n unmount f = s := if_pos h

variable (hcmd : (s.bay n).cmd = 0) (hoff : (s.bay n).off = false) (hfenced : (s.bay n).fenced = false)
include hcmd hoff hfenced

theorem State.storeCmd_guard : ¬((s.bay n).cmd ≠ 0 ∨ (s.bay n).off = true ∨ (s.bay n).fenced = true) := by
  rw [hcmd, hoff, hfenced]
  decide

theorem State.storeCmd_of_sanitizing (h : (s.bay n).cart.map (fun c => c.sanitizing) = some true) :
    s.storeCmd n false f = s.updBay n (fun b => { b with result := srSanitize }) :=
  (if_neg (State.storeCmd_guard hcmd hoff hfenced)).trans (if_pos (by rw [h]; rfl))

theorem State.storeCmd_of_free (h : (s.bay n).cart.map (fun c => c.sanitizing) ≠ some true) : s.storeCmd n false f = f s := by
  refine (if_neg (State.storeCmd_guard hcmd hoff hfenced)).trans (if_neg ?_)
  rw [Bool.not_false, Bool.true_and]
  intro hget
  cases hc : (s.bay n).cart.map (fun c => c.sanitizing) with
  | none => rw [hc] at hget; exact Bool.false_ne_true hget
  | some b => rw [hc] at h hget; exact h (congrArg some hget)

theorem State.storeCmd_unmount : s.storeCmd n true f = f s :=
  (if_neg (State.storeCmd_guard hcmd hoff hfenced)).trans (if_neg (by rw [Bool.not_true, Bool.false_and]; exact Bool.false_ne_true))

end

/-- Settles O47: each command by the state of its bay and its arguments. -/
theorem storeCommands : Obligations.StoreCommands := by
  unfold Obligations.StoreCommands
  refine ⟨fun bay s n b hn hb hcmd hoff hfenced => ?powered, fun bay s hignored i hi => ?ignored⟩
  case ignored =>
    simp only [List.mem_cons, List.not_mem_nil, or_false] at hi
    rcases hi with rfl | rfl | rfl | rfl | rfl | rfl | rfl | rfl
    all_goals exact congrArg Host.Outcome.next (State.storeCmd_of_ignored hignored)
  case powered =>
    subst hn hb
    have hsanitizing {f : State → State} (h : (s.bay bay.val).cart.map (fun c => c.sanitizing) = some true) :=
      State.storeCmd_of_sanitizing (f := f) hcmd hoff hfenced h
    have hfree {f : State → State} (h : (s.bay bay.val).cart.map (fun c => c.sanitizing) ≠ some true) :=
      State.storeCmd_of_free (f := f) hcmd hoff hfenced h
    refine ⟨fun hsan i hi => ?sanitizing, fun hst => ?unmounts, fun h1 h2 h3 => ?unmountRefused, fun hcart i hi => ?empty, fun hnot => ?free⟩
    case sanitizing =>
      simp only [List.mem_cons, List.not_mem_nil, or_false] at hi
      rcases hi with rfl | rfl | rfl | rfl | rfl | rfl | rfl
      all_goals exact congrArg Host.Outcome.next (hsanitizing hsan)
    case unmounts =>
      exact congrArg Host.Outcome.next ((State.storeCmd_unmount hcmd hoff hfenced).trans (State.updBay_congr (if_pos hst)))
    case unmountRefused =>
      refine congrArg Host.Outcome.next ((State.storeCmd_unmount hcmd hoff hfenced).trans (State.updBay_congr (if_neg ?_)))
      rintro (h | h | h)
      · exact h1 h
      · exact h2 h
      · exact h3 h
    case empty =>
      have hnot : (s.bay bay.val).cart.map (fun c => c.sanitizing) ≠ some true := by rw [hcart]; exact nofun
      simp only [List.mem_cons, List.not_mem_nil, or_false] at hi
      rcases hi with rfl | rfl | rfl | rfl
      · exact congrArg Host.Outcome.next ((hfree hnot).trans (State.updBay_congr (by rw [hcart])))
      · exact congrArg Host.Outcome.next ((hfree hnot).trans (State.updBay_congr (by rw [hcart])))
      · exact congrArg Host.Outcome.next ((hfree hnot).trans (if_pos (by rw [hcart]; rfl)))
      · exact congrArg Host.Outcome.next ((hfree hnot).trans (State.updBay_congr (by rw [hcart])))
    case free =>
      refine ⟨fun hst hhot hspace => ?format, fun hst hhot hspace => ?formatSpace, fun hst => congrArg Host.Outcome.next ((hfree hnot).trans (if_pos hst)),
        fun hmount => congrArg Host.Outcome.next ((hfree hnot).trans (State.updBay_congr (if_pos hmount))),
        fun hmount => congrArg Host.Outcome.next ((hfree hnot).trans (State.updBay_congr (if_neg hmount))),
        fun hst i hi => ?offline, fun c hcart => ?sanitize, fun c hcart hst =>
          ⟨fun k hsource hgen hok hslot => ?harvestOpen, fun k hslot halign hgen => ?harvestCommit, fun k hslot => ?harvestDrop,
            fun hns hpages => ?trim, fun h0 h2 => ?trimField⟩⟩
      case format =>
        refine congrArg Host.Outcome.next ((hfree hnot).trans ((if_neg ?_).trans (if_neg (Nat.not_lt.mpr hspace))))
        simp [hst, hhot]
      case formatSpace =>
        refine congrArg Host.Outcome.next ((hfree hnot).trans ((if_neg ?_).trans (if_pos hspace)))
        simp [hst, hhot]
      case offline =>
        simp only [List.mem_cons, List.not_mem_nil, or_false] at hi
        rcases hi with rfl | rfl | rfl | rfl
        · refine congrArg Host.Outcome.next ((hfree hnot).trans (State.updBay_congr ?_))
          cases (s.bay bay.val).cart with
          | none => rfl
          | some c => exact if_pos (.inl hst)
        · exact congrArg Host.Outcome.next ((hfree hnot).trans (State.updBay_congr (if_pos (.inl hst))))
        · refine congrArg Host.Outcome.next ((hfree hnot).trans (State.updBay_congr ?_))
          cases (s.bay bay.val).cart with
          | none => rfl
          | some c => exact if_pos hst
        · refine congrArg Host.Outcome.next ((hfree hnot).trans (State.updBay_congr ?_))
          cases (s.bay bay.val).cart with
          | none => rfl
          | some c => exact if_pos hst
      case sanitize => exact congrArg Host.Outcome.next ((hfree hnot).trans (if_neg (by rw [hcart]; exact Bool.false_ne_true)))
      case harvestOpen =>
        refine congrArg Host.Outcome.next ((hfree hnot).trans (State.updBay_congr ?_))
        rw [hcart]
        refine (if_neg ?_).trans ((if_neg ?_).trans ?_)
        · rintro (h | ⟨hmirror, hnot⟩)
          · exact h hst
          · rw [hsource hmirror] at hnot
            exact Bool.false_ne_true hnot.symm
        · rintro (h | h)
          · omega
          · rw [hok] at h
            exact Bool.false_ne_true h.symm
        · rw [hslot]
      case harvestCommit =>
        refine congrArg Host.Outcome.next ((hfree hnot).trans (State.updBay_congr ((if_neg ?_).trans (if_neg ?_))))
        · rw [hcart, Option.bind_some, hslot]
          simp [hst]
        · omega
      case harvestDrop =>
        refine congrArg Host.Outcome.next ((hfree hnot).trans (State.updBay_congr ?_))
        rw [hcart]
        refine (if_neg (not_not_intro hst)).trans ?_
        rw [hslot]
      case trim =>
        refine congrArg Host.Outcome.next ((hfree hnot).trans (State.updBay_congr ?_))
        rw [hcart]
        refine (if_neg (not_not_intro hst)).trans (if_neg ?_)
        rintro (h | h)
        · exact h hns
        · omega
      case trimField =>
        refine congrArg Host.Outcome.next ((hfree hnot).trans (State.updBay_congr ?_))
        rw [hcart]
        exact (if_neg (not_not_intro hst)).trans (if_pos (.inl fun h => h.elim h0 h2))

end Sys2Proof.Machine
end

section
/-! PROOFS. The ends of a bay's commands, and the upkeep of its cartridge (R316–R338, R438, R444). -/

namespace Sys2Proof.Machine

open Sys2Proof.Claims

/-! ## The ends of commands (R316, R326, R332, R336–R338, R438) -/

theorem Reported.bay {s t : State} (h : Reported s t) (k : Nat) : t.bay k = s.bay k := by
  obtain ⟨_, _, _, _, _, rfl⟩ := h
  rfl

theorem Bay.updCart_of_some {b : Bay} {c : Cart} (h : b.cart = some c) (f : Cart → Cart) : b.updCart f = { b with cart := some (f c) } := by
  rw [Bay.updCart, h, Option.map_some]

section
variable {s : State} {n : Nat} {c : Cart} (hcart : (s.bay n).cart = some c)
include hcart

/-- A mount fails where the media key does not unwrap. -/
theorem State.bay_mountDone_of_foreign (h : c.wrappedBy = none ∨ c.wrappedBy ≠ s.sec.storeKey) :
    ((s.mountDone n).bay n).st = bayFailed ∧ ((s.mountDone n).bay n).result = srMedia := by
  have hguard : c.wrappedBy.isNone = true ∨ c.wrappedBy ≠ s.sec.storeKey := by simpa only [Option.isNone_iff_eq_none] using h
  unfold State.mountDone
  rw [hcart]
  dsimp only
  rw [if_pos hguard, State.postBay, (State.post_reported _ _ _ _ _ _ _).bay, State.bay_upd_self]
  exact ⟨rfl, rfl⟩

/-- A mount of a cartridge that is wrapped under the module's store key. -/
theorem State.bay_mountDone_of_own {k : StoreKey} (hwrapped : c.wrappedBy = some k) (hkey : s.sec.storeKey = some k) :
    ((s.mountDone n).bay n).st = (if c.sanitizing = true then baySanitizing else c.servingState) ∧ ((s.mountDone n).bay n).result = 0 := by
  have hguard : ¬(c.wrappedBy.isNone = true ∨ c.wrappedBy ≠ s.sec.storeKey) := by simp [hwrapped, hkey]
  unfold State.mountDone
  rw [hcart]
  dsimp only
  rw [if_neg hguard, State.bay_upd_self]
  exact ⟨rfl, rfl⟩

end

/-- Settles O48: what the end of each command leaves. -/
theorem storeCommandsEnd : Obligations.StoreCommandsEnd := by
  unfold Obligations.StoreCommandsEnd
  refine ⟨fun bay s n b hn hb => ?ends, fun s n c hcart => ⟨fun h => State.bay_mountDone_of_foreign hcart h, fun k hwrapped hkey =>
    State.bay_mountDone_of_own hcart hwrapped hkey⟩, fun bay s n b gen r hn hb hgen hcmd hlines hr => ?commit, fun bay k s c hcart hst hlines => ?reclaim⟩
  case ends =>
    subst hn hb
    refine ⟨fun t hcmd ht => ?format, fun hcmd => ?mount, fun hcmd hlines => ?unmount, fun hcmd hready => ?trim, fun hcmd hst herasing => ?sanitize⟩
    case format =>
      subst ht
      refine congrArg (fun t => Host.Outcome.next (State.goOn t)) ((if_pos hcmd).trans (if_congr ?_ rfl rfl))
      rw [Bool.and_eq_true, Bool.not_eq_true']
      exact Iff.rfl
    case mount =>
      refine congrArg (fun t => Host.Outcome.next (State.goOn t)) ((if_neg ?_).trans (if_pos hcmd))
      rw [hcmd]; decide
    case unmount =>
      refine congrArg (fun t => Host.Outcome.next (State.goOn t)) ((if_neg ?_).trans ((if_neg ?_).trans ((if_pos hcmd).trans (if_pos hlines))))
      all_goals rw [hcmd]; decide
    case trim =>
      refine congrArg (fun t => Host.Outcome.next (State.goOn t))
        ((if_neg ?_).trans ((if_neg ?_).trans ((if_neg ?_).trans ((if_pos hcmd).trans (if_pos hready)))))
      all_goals rw [hcmd]; decide
    case sanitize =>
      refine congrArg (fun t => Host.Outcome.next (State.goOn t))
        ((if_neg ?_).trans ((if_neg ?_).trans ((if_neg ?_).trans ((if_neg ?_).trans (if_pos ⟨hcmd, hst, herasing⟩)))))
      all_goals rw [hcmd]; decide
  case commit =>
    subst hn hb hgen
    have hguard : ¬((s.bay bay.val).cmd ≠ scCommit ∨ (s.bay bay.val).linesOpen bay.val ((s.bay bay.val).cmdArgs[0].setWidth 32) = true) := by
      rw [hcmd, hlines]
      simp
    obtain ⟨t, bs, bad⟩ := r
    have hexec : exec (.harvestCommitDone bay) s = .next (t.updBay bay.val (fun b =>
        if bad then { b with cmd := 0, result := srMedia }
        else { (b.updCart (fun c => match c.slotOf ((s.bay bay.val).cmdArgs[0].setWidth 32) true with
            | none => c
            | some i => { c with slots := vset c.slots i { vget {} c.slots i with st := 2, record := c.fillRecord i bs } })) with
          cmd := 0, result := 0 })) := by
      refine congrArg Host.Outcome.next ((if_neg hguard).trans ?_)
      rw [← hr] <;> rfl
    refine ⟨fun hbad => hexec.trans (congrArg Host.Outcome.next (State.updBay_congr (if_pos hbad))), fun c k hgood hcart hslot => hexec.trans ?_⟩
    refine congrArg Host.Outcome.next (State.updBay_congr ((if_neg (fun hbad => ?_)).trans ?_))
    · exact Bool.false_ne_true (hgood.symm.trans hbad)
    · rw [Bay.updCart_of_some hcart, hslot]
  case reclaim =>
    refine congrArg Host.Outcome.next (State.updBay_congr ((if_neg (by rw [hlines]; exact Bool.false_ne_true)).trans ?_))
    rw [Bay.updCart_of_some hcart]
    exact congrArg (fun c' => Bay.settle { s.bay bay.val with cart := some c' }) (if_pos hst)

/-! ## Insertion, temperature and upkeep (R325–R329) -/

theorem Cart.blk_updBlk_self (c : Cart) (x : Nat) (f : NandBlock → NandBlock) : (c.updBlk x f).blk x = f (c.blk x) :=
  (Tbl.get_set _ _ _ _ _).trans (if_pos rfl)

section
variable {bay : Fin 16} {celsius : BitVec 8} {s : State}

/-- The bay with a sample of its cartridge's temperature taken. -/
def State.bayWarmed (s : State) (n : Nat) (celsius : BitVec 8) : State :=
  s.draw.2.updBay n (fun b => { (b.eraseOn s.draw.1) with celsius := celsius, hot := if 80 < celsius.toNat then b.hot + 1 else 0 })

theorem Bay.eraseOn_kept (b : Bay) (v : W64) : (b.eraseOn v).st = b.st ∧ (b.eraseOn v).cmd = b.cmd ∧ (b.eraseOn v).erasing = b.erasing := by
  unfold Bay.eraseOn
  split <;> exact ⟨rfl, rfl, rfl⟩

theorem State.bayWarmed_kept (n : Nat) : ((s.bayWarmed n celsius).bay n).st = (s.bay n).st ∧ ((s.bayWarmed n celsius).bay n).cmd = (s.bay n).cmd
    ∧ ((s.bayWarmed n celsius).bay n).erasing = (s.bay n).erasing ∧ ((s.bayWarmed n celsius).bay n).celsius = celsius := by
  obtain ⟨hst, hcmd, herasing⟩ := Bay.eraseOn_kept (s.bay n) s.draw.1
  rw [State.bayWarmed, State.bay_upd_self]
  exact ⟨hst, hcmd, herasing, rfl⟩

theorem exec_cartridgeTempSample_of_cart (hcart : (s.bay bay.val).cart.isSome = true) :
    exec (.cartridgeTempSample bay celsius) s = .next (
      let t := s.bayWarmed bay.val celsius
      if (t.bay bay.val).overheated then
        (t.bay bay.val).heatShutdown.elim t (fun b => (t.updBay bay.val (fun _ => b)).postBay bay.val 2)
      else t) := by
  have hguard : ¬(s.bay bay.val).cart.isNone = true := by
    rw [← Option.not_isSome, hcart]
    exact Bool.false_ne_true
  refine congrArg Host.Outcome.next ((if_neg hguard).trans (ite_congr rfl (fun _ => ?_) (fun _ => rfl)))
  change (match ((s.bayWarmed bay.val celsius).bay bay.val).heatShutdown with | some _ => _ | none => _) = _
  cases ((s.bayWarmed bay.val celsius).bay bay.val).heatShutdown <;> rfl

theorem Bay.overheated_iff (b : Bay) : b.overheated = true ↔ 85 ≤ b.celsius.toNat ∨ 60 ≤ b.hot := by
  rw [Bay.overheated, Bool.or_eq_true, decide_eq_true_eq, decide_eq_true_eq]
  exact Or.comm

theorem Bay.heatShutdown_of_serving {b : Bay} (hmount : b.cmd ≠ scMount) (hformat : b.cmd ≠ scFormat) (hunmount : b.cmd ≠ scUnmount)
    (hst : b.st = bayOnline ∨ b.st = bayReadOnly ∨ (b.st = baySanitizing ∧ b.erasing = true)) :
    b.heatShutdown = some { b.beginUnmount with heatOff := true } :=
  (if_neg (fun h => h.elim hmount hformat)).trans ((if_neg hunmount).trans (if_pos hst))

end

section
variable {bay : Fin 16} {pct : BitVec 8} {f : ScrubFinding} {s : State} {c : Cart} {x : Nat}
  (hst : (s.bay bay.val).st = bayOnline ∨ (s.bay bay.val).st = bayReadOnly) (hcart : (s.bay bay.val).cart = some c)
include hst hcart

theorem exec_scrubBlock_of_due {aged : Bool} (hdue : (s.bay bay.val).scrubBlock c = some (x, aged)) : exec (.scrubBlock bay pct f) s = .next (
    if aged then s.updBay bay.val (fun b => b.relocate x)
    else if hours (s.bay bay.val).checkH.toNat ≤ (c.blk x).since then s.scrubbed bay.val x pct f
    else s) := by
  refine congrArg Host.Outcome.next ((if_neg (not_not_intro hst)).trans ?_)
  rw [hcart]
  dsimp only
  rw [hdue]

end

/-- The soft-decode count of a checked block. -/
theorem State.soft_checked {s : State} {n x : Nat} {c : Cart} (hcart : (s.bay n).cart = some c) (soft : Bool) :
    ((s.updBay n (fun b => b.updCart (fun c => c.updBlk x (fun y => y.checked soft)))).bay n).ofCart 0 (fun c => (c.blk x).soft)
      = if soft then (c.blk x).soft + 1 else 0 := by
  rw [State.bay_upd_self, Bay.updCart_of_some hcart, Bay.ofCart]
  exact congrArg NandBlock.soft (Cart.blk_updBlk_self c x _)

/-- The policy of the scrubber stands where a block's check is counted. -/
theorem State.refreshPct_updCart (s : State) (n : Nat) (f : Cart → Cart) :
    ((s.updBay n (fun b => b.updCart f)).bay n).refreshPct = (s.bay n).refreshPct := by
  rw [State.bay_upd_self]
  rfl

/-- Settles O49: insertion, removal, temperature and upkeep of a cartridge where each guard holds. -/
theorem cartridgesAndScrubbing : Obligations.CartridgesAndScrubbing := by
  unfold Obligations.CartridgesAndScrubbing
  refine ⟨fun bay serial s c hcart hc => ?insert, fun bay s t c ht hcart => ?remove, fun bay celsius s t n hn hcart ht => ?temperature,
    fun bay s c hcart hmounted => ?age, fun bay pct f aged s b c x hb hst hcart hdue => ?scrub,
    fun bay s c lo hcart hmounted hleast hspread => ?level, fun bay s c hcart hst => ?save⟩
  case insert =>
    subst hc
    refine congrArg Host.Outcome.next (if_neg ?_)
    rw [hcart]
    exact Bool.false_ne_true
  case remove =>
    subst ht
    refine congrArg (fun t => Host.Outcome.next (State.goOn t)) ?_
    unfold execCartridgeRemove nextOf
    dsimp only
    rw [hcart]
  case temperature =>
    subst hn
    obtain ⟨hst, hcmd, herasing, hcelsius⟩ := State.bayWarmed_kept (s := s) (celsius := celsius) bay.val
    have hexec := exec_cartridgeTempSample_of_cart (celsius := celsius) hcart
    have ht : t = s.bayWarmed bay.val celsius := ht
    subst ht
    refine ⟨fun hcool hfew => ?_, fun hhot hmount hformat hunmount hserves => ?_, fun hhot hcommand => ?_, hst, hcmd, hcelsius⟩
    · refine hexec.trans (congrArg Host.Outcome.next (if_neg ?_))
      rw [Bay.overheated_iff, hcelsius]
      omega
    · refine hexec.trans (congrArg Host.Outcome.next ((if_pos ?_).trans ?_))
      · rwa [Bay.overheated_iff, hcelsius]
      · rw [← hst, ← hcmd, ← herasing] at *
        rw [Bay.heatShutdown_of_serving hmount hformat hunmount hserves, Option.elim_some]
        exact congrArg (fun u => State.postBay u bay.val 2) (State.updBay_congr rfl)
    · refine hexec.trans (congrArg Host.Outcome.next ((if_pos ?_).trans ?_))
      · rwa [Bay.overheated_iff, hcelsius]
      · rw [← hcmd] at hcommand
        rw [Bay.heatShutdown, if_pos hcommand, Option.elim_some]
        exact congrArg (fun u => State.postBay u bay.val 2) (State.updBay_congr rfl)
  case age =>
    refine congrArg Host.Outcome.next (State.updBay_congr ((if_neg ?_).trans (Bay.updCart_of_some hcart _)))
    rw [hmounted]
    exact Bool.false_ne_true
  case scrub =>
    subst hb
    have hexec := exec_scrubBlock_of_due (pct := pct) (f := f) hst hcart hdue
    refine ⟨fun haged => hexec.trans (congrArg Host.Outcome.next (if_pos haged)), fun t haged hcheck ht => ?_⟩
    have hsoft := State.soft_checked (x := x) hcart f.soft
    have hpolicy := State.refreshPct_updCart s bay.val (fun c => c.updBlk x (fun y => y.checked f.soft))
    have ht : t = s.updBay bay.val (fun b => b.updCart (fun c => c.updBlk x (fun y => y.checked f.soft))) := ht
    have hscrub : exec (.scrubBlock bay pct f) s = .next (if f.uncorrectable then t.failBlock bay.val x
        else if 2 ≤ (t.bay bay.val).ofCart 0 (fun c => (c.blk x).soft) then t.retireBlock bay.val x
        else if (t.bay bay.val).refreshPct.toNat ≤ pct.toNat || f.level3 || f.soft then t.updBay bay.val (fun b => b.relocate x)
        else t.updBay bay.val (fun b => b.updCart (fun c => c.updBlk x (fun y => { y with since := 0 })))) := by
      rw [hexec, haged, ht]
      exact congrArg Host.Outcome.next ((if_neg Bool.false_ne_true).trans (if_pos hcheck))
    rw [← ht] at hsoft hpolicy
    rw [hsoft, hpolicy] at hscrub
    refine ⟨fun hbad => ?_, fun hgood hsoft hbefore => ?_, fun hgood hfirst hwhy => ?_, fun hgood hhard hlevel hpct => ?_⟩
    · exact hscrub.trans (congrArg Host.Outcome.next (if_pos hbad))
    · rw [hgood, hsoft] at hscrub
      exact hscrub.trans (congrArg Host.Outcome.next ((if_neg Bool.false_ne_true).trans (if_pos (Nat.succ_le_succ hbefore))))
    · rw [hgood] at hscrub
      refine hscrub.trans (congrArg Host.Outcome.next ((if_neg Bool.false_ne_true).trans ((if_neg ?_).trans (if_pos ?_))))
      · rcases hfirst with h | h
        · rw [h]; exact Nat.not_succ_le_zero 1
        · rw [h]; split <;> decide
      · simpa [or_assoc] using hwhy
    · rw [hgood, hhard, hlevel] at hscrub
      refine hscrub.trans (congrArg Host.Outcome.next ((if_neg Bool.false_ne_true).trans ((if_neg ?_).trans (if_neg ?_))))
      · exact Nat.not_succ_le_zero 1
      · simpa using hpct
  case level =>
    refine congrArg Host.Outcome.next ?_
    rw [hcart]
    dsimp only
    rw [hmounted, Bool.not_true, if_neg Bool.false_ne_true, hleast]
    exact if_pos hspread
  case save => exact congrArg Host.Outcome.next (State.updBay_congr ((if_pos hst).trans (Bay.updCart_of_some hcart _)))

end Sys2Proof.Machine
end

section
/-! PROOFS. The requests that a host port takes, and the commands that it runs (R340–R361). -/

namespace Sys2Proof.Machine

open Sys2Proof.Claims

/-! ## A request of the host at its port (R348, R349, R361) -/

section
variable {s u : State} {port : Fin 4} {a : HostAccess}

theorem State.updHq_updHp_id (k q : Nat) (f : HostQueue → HostQueue) : (s.updHp k (fun h => h)).updHq k q f = s.updHq k q f := by
  rw [State.updHq, State.updHp_updHp]
  rfl

theorem State.hostRequest_of_serving {read : Bool} {decode : HostPort → Option HostAccess} (hlive : (s.hp port.val).live = true)
    (hserves : (s.hp port.val).serves = true) :
    s.hostRequest port read decode = (decode (s.hp port.val)).elim (s.refuseAccess port true read) (s.hostAccept port) := by
  unfold State.hostRequest
  rw [if_neg (by rw [hlive]; decide), if_neg (by rw [hserves]; decide)]
  cases decode (s.hp port.val) <;> rfl

/-- A request that the port has room for waits behind those that it holds. -/
theorem State.hostAccept_of_room (hpage : pageWrite a = false) (hroom : a.answered = false ∨ (s.hp port.val).held.countP HostAccess.answered < 256) :
    s.hostAccept port a = (s.updHp port.val (fun h => { h with held := h.held ++ [a] })).hostPump port := by
  refine (if_neg (by rw [hpage]; exact Bool.false_ne_true)).trans (if_neg ?_)
  rw [Bool.and_eq_true, decide_eq_true_eq]
  rintro ⟨hanswered, hfull⟩
  rcases hroom with h | h
  · exact Bool.false_ne_true (h.symm.trans hanswered)
  · omega

/-- A request that waits for none takes effect as it comes. -/
theorem State.hostAccept_of_atOnce {posts : Bool} (h : AtOnce s u port.val posts) (hpage : pageWrite a = false) (hposts : posts = true → a.posts = true) :
    s.hostAccept port a = u.runAccess port a := by
  obtain ⟨hlive, -, hheld, hturn, rfl⟩ := h
  have hgoes : ((s.updHp port.val (fun h => { h with held := h.held ++ [a] })).hp port.val).goes = true := by
    rw [State.hp_upd_self, HostPort.goes, hheld, List.nil_append]
    refine Bool.and_eq_true_iff.mpr ⟨hlive, Bool.or_eq_true_iff.mpr ?_⟩
    exact hturn.imp hposts beq_iff_eq.mpr
  have hwaits : ((s.updHp port.val (fun h => { h with held := h.held ++ [a] })).hp port.val).held = [a] := by
    rw [State.hp_upd_self, hheld, List.nil_append]
  have hroom : a.answered = false ∨ (s.hp port.val).held.countP HostAccess.answered < 256 := by
    rw [hheld]
    exact .inr (by decide)
  rw [State.hostAccept_of_room hpage hroom, State.hostPump, hwaits]
  dsimp only
  rw [if_pos hgoes, State.updHp_updHp]
  refine congrArg (fun t => State.runAccess t port a) (State.updHp_congr ?_)
  show { s.hp port.val with held := [] } = s.hp port.val
  rw [← hheld]

end

theorem HostQueue.ring_of_fits {x : HostQueue} {v : BitVec 16} :
    (v.toNat < x.sqSize → x.ring false v = { x with sqTail := v }) ∧ (x.sqSize ≤ v.toNat → x.ring false v = { x with dbErr := true })
      ∧ (v.toNat < x.cqSize → x.ring true v = { x with cqHead := v }) ∧ (x.cqSize ≤ v.toNat → x.ring true v = { x with dbErr := true }) :=
  ⟨fun h => if_pos h, fun h => if_neg (Nat.not_lt.mpr h), fun h => if_pos h, fun h => if_neg (Nat.not_lt.mpr h)⟩

theorem State.updHq_congr {s : State} {k q : Nat} {f g : HostQueue → HostQueue} (h : f (s.hq k q) = g (s.hq k q)) : s.updHq k q f = s.updHq k q g :=
  State.updHp_congr (congrArg (fun x => { s.hp k with queues := Tbl.set (s.hp k).queues q x }) h)

/-- A doorbell that waits for no request before it. -/
theorem State.doorbell_of_atOnce {s u : State} {port : Fin 4} {q : Nat} {head : Bool} {v : BitVec 16} (h : AtOnce s u port.val false) :
    s.hostRequest port false (fun _ => some (.doorbell q head v)) = s.updHq port.val q (fun x => x.ring head v) := by
  obtain ⟨hlive, hserves, -, -, hu⟩ := id h
  rw [State.hostRequest_of_serving hlive hserves, Option.elim_some, State.hostAccept_of_atOnce h rfl (fun h => absurd h Bool.false_ne_true), hu]
  exact State.updHq_updHp_id port.val q (fun x => x.ring head v)

/-- A doorbell at a port that serves the host. -/
theorem State.doorbell_of_serving {s : State} {port : Fin 4} {q : Nat} {head : Bool} {v : BitVec 16} (hlive : (s.hp port.val).live = true)
    (hserves : (s.hp port.val).serves = true) : s.hostRequest port false (fun _ => some (.doorbell q head v))
      = (s.updHp port.val (fun h => { h with held := h.held ++ [.doorbell q head v] })).hostPump port := by
  rw [State.hostRequest_of_serving hlive hserves, Option.elim_some, State.hostAccept_of_room rfl (.inl rfl)]

/-! ## Commands (R351–R353) -/

section
variable {s t : State} {k q : Nat} {c : HostCmd} {op : BitVec 8}

theorem State.startCmd_of_starts (h : Starts s t k q c op) (f : HostCmd → State → State) : s.startCmd k q op f = f c t := by
  obtain ⟨hfront, hop, hphase, hon, hmay, hroom, rfl⟩ := h
  have hready : s.cmdReady k q c = true := by rw [State.cmdReady, hphase, hon, hmay, hroom]; rfl
  unfold State.startCmd
  rw [hfront]
  exact if_pos ⟨hop, hready⟩

theorem State.copy_of_starts (h : Starts s t k q c op) (inward : Bool) (next : State → State) :
    s.copy k q op inward next = if (t.hp k).copyOk c inward then next t else t.finishCmd k q scInvalidField 0 := by
  obtain ⟨hfront, -, hphase, -, -, -, -⟩ := id h
  unfold State.copy
  rw [hfront]
  refine (if_neg ?_).trans (State.startCmd_of_starts h _)
  rintro ⟨-, hruns, -⟩
  rw [hphase] at hruns
  exact CmdPhase.noConfusion hruns

theorem State.copy_of_runs (h : Runs s k q c op) (inward : Bool) (next : State → State) : s.copy k q op inward next = next s := by
  obtain ⟨hfront, hop, hphase, hon⟩ := h
  unfold State.copy
  rw [hfront]
  exact if_pos ⟨hop, hphase, hon⟩

end

/-- Settles O50: doorbells, the fetch of entries and the start of each command where its guard holds. -/
theorem hostCommandsRun : Obligations.HostCommandsRun := by
  unfold Obligations.HostCommandsRun
  refine ⟨fun port q v s u h => ?rings, fun port q v s hlive hserves => ⟨congrArg Host.Outcome.next (State.doorbell_of_serving hlive hserves),
    congrArg Host.Outcome.next (State.doorbell_of_serving hlive hserves)⟩, fun port s t k q n hk hon hen hnext hn hread => ?fetch,
    fun port queue s t k q c hk hq => ?commands⟩
  case rings =>
    obtain ⟨hsq, hsqErr, hcq, hcqErr⟩ := HostQueue.ring_of_fits (x := s.hq port.val q.val) (v := v)
    exact ⟨fun hv => congrArg Host.Outcome.next ((State.doorbell_of_atOnce h).trans (State.updHq_congr (hsq hv))),
      fun hv => congrArg Host.Outcome.next ((State.doorbell_of_atOnce h).trans (State.updHq_congr (hsqErr hv))),
      fun hv => congrArg Host.Outcome.next ((State.doorbell_of_atOnce h).trans (State.updHq_congr (hcq hv))),
      fun hv => congrArg Host.Outcome.next ((State.doorbell_of_atOnce h).trans (State.updHq_congr (hcqErr hv)))⟩
  case fetch =>
    subst hk hn
    refine congrArg Host.Outcome.next ((if_pos (by rw [hon, hen]; rfl)).trans ?_)
    rw [hnext]
    dsimp only
    rw [hread]
  case commands =>
    subst hk hq
    refine ⟨fun h => ?nop, fun h => ⟨fun hok => ?copyIn, fun hok => ?copyInBad⟩, fun h => congrArg Host.Outcome.next (State.copy_of_runs h _ _),
      fun h => ⟨fun hok => ?copyOut, fun hok => ?copyOutBad⟩, fun h => congrArg Host.Outcome.next (State.copy_of_runs h _ _),
      fun h => ⟨fun hok => ?csrWriteBad, fun hok => ⟨fun w hwrite => ?csrWrite, fun hwrite => ?csrWriteOff⟩⟩, fun h hok v w hread => ?csrRead,
      fun h => ⟨fun hpan => ?image, fun hpan => ?imageBad⟩, fun h hhbm haligned => ?wait, fun h => ?poll⟩
    case nop => exact congrArg Host.Outcome.next (State.startCmd_of_starts h _)
    case copyIn => exact congrArg Host.Outcome.next ((State.copy_of_starts h _ _).trans (if_pos hok))
    case copyInBad => exact congrArg Host.Outcome.next ((State.copy_of_starts h _ _).trans (if_neg (by rw [hok]; exact Bool.false_ne_true)))
    case copyOut => exact congrArg Host.Outcome.next ((State.copy_of_starts h _ _).trans (if_pos hok))
    case copyOutBad => exact congrArg Host.Outcome.next ((State.copy_of_starts h _ _).trans (if_neg (by rw [hok]; exact Bool.false_ne_true)))
    case csrWriteBad => exact congrArg Host.Outcome.next ((State.startCmd_of_starts h _).trans (if_neg (by rw [hok]; exact Bool.false_ne_true)))
    case csrWrite =>
      refine congrArg Host.Outcome.next ((State.startCmd_of_starts h _).trans ((if_pos hok).trans ?_))
      rw [hwrite]
    case csrWriteOff =>
      refine congrArg Host.Outcome.next ((State.startCmd_of_starts h _).trans ((if_pos hok).trans ?_))
      rw [hwrite]
    case csrRead =>
      refine congrArg Host.Outcome.next ((State.startCmd_of_starts h _).trans ((if_pos hok).trans ?_))
      rw [hread]
    case image => exact congrArg Host.Outcome.next ((State.startCmd_of_starts h _).trans (if_pos hpan))
    case imageBad => exact congrArg Host.Outcome.next ((State.startCmd_of_starts h _).trans (if_neg (Nat.not_lt.mpr hpan)))
    case wait => exact congrArg Host.Outcome.next ((State.startCmd_of_starts h _).trans (if_pos (by rw [hhbm, haligned]; rfl)))
    case poll =>
      obtain ⟨hfront, hop, hphase, hon⟩ := h
      refine congrArg Host.Outcome.next ?_
      rw [hfront]
      exact if_pos ⟨hop, hphase, hon⟩

end Sys2Proof.Machine
end

section
/-! PROOFS. Accesses of the host through the base address registers, and what else happens at a host port (R340–R361). -/

namespace Sys2Proof.Machine

open Sys2Proof.Claims

/-! ## Accesses through the BARs (R343–R348, R361) -/

section
variable {h : HostPort} {n : Fin 3} {addr : W64} {len size b : Nat} (hbar : h.bars[n].toNat = b)
include hbar

theorem HostPort.inBar_of_within (hlow : b ≤ addr.toNat) (hhigh : addr.toNat - b + len ≤ size) : h.inBar n addr len size = some (addr.toNat - b) := by
  subst hbar
  exact if_pos ⟨hlow, hhigh⟩

theorem HostPort.inBar_of_outside (hout : addr.toNat < b ∨ size < addr.toNat - b + len) : h.inBar n addr len size = none := by
  subst hbar
  exact if_neg (by omega)

end

/-- Where an ACU's aperture lies: a host port's behind its registers, a port complex's beyond the host ports' blocks. -/
theorem bounds_of_acuOffset {k x : Nat} (h : (acuOffset k x).isSome = true) :
    (k < 4 ∧ hpBase + k * 2 ^ 30 + 0x10000000 ≤ x ∧ x < hpBase + k * 2 ^ 30 + 0x20000000) ∨ hpBase + 2 ^ 32 ≤ x := by
  rw [acuOffset, Option.isSome_ite] at h
  rw [acuAperture] at h
  rw [hpBase]
  split at h <;> omega

/-- The apertures but an ACU's lie beyond the host ports' blocks. -/
theorem le_of_aperture {q x : Nat} (h : (reduceAperture x).isSome = true ∨ (sendAperture q x).isSome = true ∨ (routeAperture q x).isSome = true
    ∨ storeAperture q x = true) : hpBase + 2 ^ 32 ≤ x := by
  rw [hpBase]
  rcases h with h | h | h | h
  · rw [reduceAperture] at h
    split at h
    · omega
    · exact absurd h Bool.false_ne_true
  · rw [sendAperture, Option.isSome_ite] at h
    omega
  · rw [routeAperture, Option.isSome_ite] at h
    omega
  · rw [storeAperture, Bool.and_eq_true, decide_eq_true_eq, decide_eq_true_eq] at h
    omega

/-- No address of an aperture is that of a page register of a host port. -/
theorem pageWrite_of_aperture {x : Nat} {bs : List Byte} (h : isAperture x = true) : pageWrite (.register (some x) (.write bs)) = false := by
  have hout : (∃ k, k < 4 ∧ hpBase + k * 2 ^ 30 + 0x10000000 ≤ x ∧ x < hpBase + k * 2 ^ 30 + 0x20000000) ∨ hpBase + 2 ^ 32 ≤ x := by
    rw [isAperture, Bool.or_eq_true, Bool.or_eq_true, Bool.or_eq_true] at h
    rcases h with ((h | h) | h) | h
    · obtain ⟨k, -, hsome⟩ := List.any_eq_true.mp h
      exact (bounds_of_acuOffset hsome).imp_left fun hk => ⟨k, hk⟩
    · exact .inr (le_of_aperture (q := 0) (.inl h))
    · obtain ⟨q, -, hsome⟩ := List.any_eq_true.mp h
      exact .inr (le_of_aperture (.inr ((Bool.or_eq_true_iff.mp hsome).imp_right .inl)))
    · obtain ⟨b, -, hin⟩ := List.any_eq_true.mp h
      exact .inr (le_of_aperture (.inr (.inr (.inr hin))))
  rw [pageWrite, ← Bool.not_eq_true]
  simp only [Bool.and_eq_true, decide_eq_true_eq]
  rintro ⟨⟨⟨-, -⟩, hhigh⟩, hend⟩
  rw [hpBase] at *
  rcases hout with ⟨k, hk, hlow, hup⟩ | hlow <;> omega

section
variable {s u : State} {port : Fin 4}

/-- A register read through BAR0, of whole aligned words. -/
theorem State.bar0Read_of_register {x len : Nat} {v : W64} {t : State} (haperture : isAperture x = false) (hlen : len = 4 ∨ len = 8) (halign : x % len = 0)
    (hread : u.regRead x (halfOf x (len == 4)) = some (v, t)) : u.bar0Read port x len = t.emit (.hostAnswer port (some (leBytes len v.toNat))) := by
  refine (if_neg ?_).trans ?_
  · rw [haperture, halign]
    rcases hlen with rfl | rfl <;> decide
  · rw [hread]

/-- A register write through BAR0, of whole aligned words. -/
theorem State.bar0Write_of_register {x : Nat} {bs : List Byte} {t : State} (haperture : isAperture x = false) (hlen : bs.length = 4 ∨ bs.length = 8)
    (halign : x % bs.length = 0) (hwrite : u.regWrite x (halfOf x (bs.length == 4)) (BitVec.ofNat 64 (leNat bs)) = some t) : u.bar0Write port x bs = t := by
  refine (if_neg (by rw [haperture]; exact Bool.false_ne_true)).trans ((if_pos ⟨hlen, halign⟩).trans ?_)
  rw [hwrite]

/-- What an access within BAR0 or BAR2 asks for. -/
def State.barDecode (s : State) (port : Fin 4) (addr : W64) (a : BarAccess) (h : HostPort) : Option HostAccess :=
  match h.inBar 0 addr 1 (2 ^ 26), h.inBar 1 addr 1 (2 ^ 20) with
  | some o, _ => some (.register (s.bar0Address port.val o) a)
  | none, some o => some (bar2Access o a)
  | none, none => none

theorem exec_bar0Access (addr : W64) (a : BarAccess) : exec (.bar0Access port addr a) s
    = .next (s.hostRequest port (match a with | .read _ => true | .write _ => false) (s.barDecode port addr a)) := rfl

variable {addr : W64} {a : BarAccess} {h : HostPort}

theorem State.barDecode_of_bar0 (hlow : h.bars[0].toNat ≤ addr.toNat) (hhigh : addr.toNat - h.bars[0].toNat < 2 ^ 26) :
    s.barDecode port addr a h = some (.register (s.bar0Address port.val (addr.toNat - h.bars[0].toNat)) a) := by
  rw [State.barDecode, HostPort.inBar_of_within rfl hlow hhigh]
  cases h.inBar 1 addr 1 (2 ^ 20) <;> rfl

theorem State.barDecode_of_bar2 (hout : addr.toNat < h.bars[0].toNat) (hlow : h.bars[1].toNat ≤ addr.toNat) (hhigh : addr.toNat - h.bars[1].toNat < 2 ^ 20) :
    s.barDecode port addr a h = some (bar2Access (addr.toNat - h.bars[1].toNat) a) := by
  rw [State.barDecode, HostPort.inBar_of_outside rfl (.inl hout), HostPort.inBar_of_within (b := h.bars[1].toNat) rfl hlow hhigh]

theorem State.barDecode_of_outside (h0 : addr.toNat < h.bars[0].toNat ∨ 2 ^ 26 ≤ addr.toNat - h.bars[0].toNat)
    (h1 : addr.toNat < h.bars[1].toNat ∨ 2 ^ 20 ≤ addr.toNat - h.bars[1].toNat) : s.barDecode port addr a h = none := by
  rw [State.barDecode, HostPort.inBar_of_outside rfl (h0.imp_right Nat.lt_succ_of_le), HostPort.inBar_of_outside rfl (h1.imp_right Nat.lt_succ_of_le)]

/-- The port's entry stands in the state in which a request takes effect. -/
theorem hp_of_atOnce {posts : Bool} (h : AtOnce s u port.val posts) : u.hp port.val = s.hp port.val := by
  obtain ⟨-, -, -, -, rfl⟩ := h
  rw [State.hp_upd_self]

/-- A decoded request that waits for none takes effect as it comes. -/
theorem State.hostRequest_of_atOnce {posts read : Bool} {decode : HostPort → Option HostAccess} {x : HostAccess} (h : AtOnce s u port.val posts)
    (hdecode : decode (s.hp port.val) = some x) (hpage : pageWrite x = false) (hposts : posts = true → x.posts = true) :
    s.hostRequest port read decode = u.runAccess port x := by
  rw [State.hostRequest_of_serving h.1 h.2.1, hdecode, Option.elim_some, State.hostAccept_of_atOnce h hpage hposts]

/-- A read through BAR4 at its turn. -/
theorem State.runHbmRead_eq (o len : Nat) : u.runHbmRead port o len =
    if (u.readBlocks ((u.hp port.val).bar4Address o) len).2.2 = stOk then
      (u.readBlocks ((u.hp port.val).bar4Address o) len).1.emit (.hostAnswer port (some (u.readBlocks ((u.hp port.val).bar4Address o) len).2.1))
    else ((u.readBlocks ((u.hp port.val).bar4Address o) len).1.updHp port.val (fun h => h.recordErr ((u.hp port.val).bar4Address o)
      (u.readBlocks ((u.hp port.val).bar4Address o) len).2.2 false)).emit (.hostAnswer port (some (allOnes len))) := by
  unfold State.runHbmRead
  dsimp only

/-- What an access within BAR4 asks for. -/
theorem bar4_decode {n : Nat} (f : Nat → HostAccess) (hlow : h.bars[2].toNat ≤ addr.toNat) (hhigh : addr.toNat - h.bars[2].toNat + n ≤ 2 ^ h.bar4Log2) :
    (h.inBar 2 addr n (2 ^ h.bar4Log2)).map f = some (f (addr.toNat - h.bars[2].toNat)) := by
  rw [HostPort.inBar_of_within (b := h.bars[2].toNat) rfl hlow hhigh, Option.map_some]

end

/-- Settles O52: accesses through BAR0 and BAR2, and through BAR4, as they are decoded and take effect. -/
theorem barAccesses : Obligations.BarAccesses := by
  unfold Obligations.BarAccesses
  refine ⟨fun port addr a s u k o h hk hh ho hlive => ?bar0, fun port addr s u k o h hk hh ho hlow => ?bar4⟩
  case bar0 =>
    subst hk hh ho
    refine ⟨fun hserves => ?notServed, fun hserves h0 h1 => ?outside, fun len ha honce hout hlow hhigh => ?doorbells,
      fun x hserves hlow hhigh hx => ⟨fun len v t ha honce haperture hlen halign hread => ?read, fun len ha hroom => ?held,
        fun bs t ha honce haperture hlen halign hpage hwrite => ?write, fun bs ha honce haperture halign hwhole hmin hmax => ?aperture, fun bs ha hpage => ?page⟩⟩
    case notServed =>
      rw [exec_bar0Access]
      exact congrArg Host.Outcome.next ((if_neg (by rw [hlive]; decide)).trans (if_pos hserves))
    case outside =>
      rw [exec_bar0Access, State.hostRequest_of_serving hlive hserves, State.barDecode_of_outside h0 h1, Option.elim_none] <;> rfl
    case doorbells =>
      subst ha
      rw [exec_bar0Access, State.hostRequest_of_atOnce honce (State.barDecode_of_bar2 hout hlow hhigh) rfl (fun h => absurd h Bool.false_ne_true)]
      rfl
    all_goals
      subst ha
      have hdecode (a : BarAccess) := State.barDecode_of_bar0 (s := s) (port := port) (a := a) hlow hhigh
      rw [hx] at hdecode
      rw [exec_bar0Access]
    case read =>
      rw [State.hostRequest_of_atOnce honce (hdecode _) rfl (fun h => absurd h Bool.false_ne_true)]
      exact congrArg Host.Outcome.next (State.bar0Read_of_register haperture hlen halign hread)
    case held => rw [State.hostRequest_of_serving hlive hserves, hdecode, Option.elim_some, State.hostAccept_of_room rfl (.inr hroom)]
    case write =>
      rw [State.hostRequest_of_atOnce honce (hdecode _) hpage (fun h => absurd h Bool.false_ne_true)]
      exact congrArg Host.Outcome.next (State.bar0Write_of_register haperture hlen halign hwrite)
    case aperture =>
      rw [State.hostRequest_of_atOnce honce (hdecode _) (pageWrite_of_aperture haperture) (fun _ => haperture)]
      exact congrArg Host.Outcome.next ((if_pos haperture).trans (if_pos ⟨halign, hwhole, hmin, hmax⟩))
    case page =>
      rw [State.hostRequest_of_serving hlive hserves, hdecode, Option.elim_some]
      exact congrArg Host.Outcome.next (if_pos hpage)
  case bar4 =>
    subst hk hh ho
    refine ⟨fun len honce hhigh hmin hmax => ?read, fun data honce hne hhigh hen => ?write, fun data honce hne hhigh hen => ?readOnly,
      fun data hlive hserves hne hout => ?outside⟩
    case read =>
      have hexec : exec (.bar4Read port addr len) s = .next (u.runHbmRead port (addr.toNat - (s.hp port.val).bars[2].toNat) len) :=
        congrArg Host.Outcome.next (State.hostRequest_of_atOnce (x := .hbmRead _ len) honce ((if_neg (by omega)).trans (bar4_decode _ hlow hhigh)) rfl
          (fun h => absurd h Bool.false_ne_true))
      rw [hexec, State.runHbmRead_eq, hp_of_atOnce honce]
      exact ⟨fun hok => congrArg Host.Outcome.next (if_pos hok), fun hbad => congrArg Host.Outcome.next (if_neg hbad)⟩
    case write =>
      refine congrArg Host.Outcome.next ((if_neg hne).trans ((State.hostRequest_of_atOnce honce (bar4_decode _ hlow hhigh) rfl (fun _ => rfl)).trans ?_))
      rw [State.runAccess, State.runHbmWrite, hp_of_atOnce honce]
      exact if_pos hen
    case readOnly =>
      refine congrArg Host.Outcome.next ((if_neg hne).trans ((State.hostRequest_of_atOnce honce (bar4_decode _ hlow hhigh) rfl (fun _ => rfl)).trans ?_))
      rw [State.runAccess, State.runHbmWrite, hp_of_atOnce honce]
      exact if_neg (by rw [hen]; exact Bool.false_ne_true)
    case outside =>
      refine congrArg Host.Outcome.next ((if_neg hne).trans ?_)
      rw [State.hostRequest_of_serving hlive hserves, HostPort.inBar_of_outside rfl (.inr hout), Option.map_none, Option.elim_none]

/-! ## What happens at a host port (R340–R343, R349, R354–R359) -/

section
variable {s : State} {port : Fin 4} {queue : Fin 256} {c : HostCmd} (hfront : s.front port.val queue.val = some c) (hon : (s.hp port.val).engineOn = true)
include hfront hon

theorem exec_commandComplete_of_finished {st : BitVec 8} {r : W64} (hphase : c.phase = .finished st r) :
    exec (.commandComplete port queue) s = .next (s.completeCmd port.val queue.val c st r) := by
  refine congrArg Host.Outcome.next ?_
  rw [hfront]
  refine (if_neg (by rw [hon]; decide)).trans ?_
  rw [hphase]

theorem exec_commandComplete_of_invalid (hphase : c.phase = .waiting) (hop : 6 < c.opcode.toNat) (hmay : (s.hp port.val).mayStart c = true)
    (hroom : (s.hq port.val queue.val).cqFull = false) : exec (.commandComplete port queue) s =
      .next ((s.updCmd port.val queue.val (fun c => { c with phase := .running })).finishFree port.val queue.val scInvalidOpcode) := by
  have hready : s.cmdReady port.val queue.val c = true := by rw [State.cmdReady, hphase, hon, hmay, hroom]; rfl
  refine congrArg Host.Outcome.next ?_
  rw [hfront]
  refine (if_neg (by rw [hon]; decide)).trans ?_
  rw [hphase]
  exact if_pos ⟨hop, hready⟩

end

section
variable {s : State} {port : Fin 4} {tag : Nat} {data : List Byte} {r : HostReq} (hfind : (s.hp port.val).reqs.find? (fun r => r.tag == tag) = some r)
include hfind

theorem exec_hostReadCompletion_of_live (hlive : (s.hp port.val).live = true) : exec (.hostReadCompletion port tag data) s = .next (match r.owner with
    | .fetch q n => if data.length = 64 * n then ((s.dropReq port.val tag).fetched port.val q n data).loadRetry else s
    | .copy q off len => if data.length = len then ((s.dropReq port.val tag).copyPiece port.val q off (some data)).loadRetry else s
    | .image n off len => if data.length = len then ((s.dropReq port.val tag).imagePiece n off data).loadRetry else s
    | .discard => (s.dropReq port.val tag).loadRetry
    | .acu _ => s) := by
  refine congrArg Host.Outcome.next ((if_neg (by rw [hlive]; decide)).trans ?_)
  rw [hfind] <;> rfl

/-- A read that timed out, and the count of it. -/
def State.readTimedOut (s : State) (k tag : Nat) : State :=
  (s.dropReq k tag).updHp k (fun h => { h with ctoCount := satAdd h.ctoCount 1, aerStatus := h.aerStatus ||| aerTimeout })

theorem exec_hostCompletionTimeout_of_copy {q off len : Nat} (howner : r.owner = .copy q off len) :
    exec (.hostCompletionTimeout port tag) s = .next ((s.readTimedOut port.val tag).copyPiece port.val q off none).loadRetry := by
  refine congrArg Host.Outcome.next ?_
  dsimp only
  rw [hfind]
  dsimp only
  rw [howner]
  rfl

theorem exec_hostCompletionTimeout_of_fetch {q n : Nat} (howner : r.owner = .fetch q n) :
    exec (.hostCompletionTimeout port tag) s = .next (s.readTimedOut port.val tag).loadRetry := by
  refine congrArg Host.Outcome.next ?_
  dsimp only
  rw [hfind]
  dsimp only
  rw [howner]
  rfl

theorem exec_hostCompletionTimeout_of_image {n off len : Nat} (howner : r.owner = .image n off len)
    (hload : (s.readTimedOut port.val tag).images.loads.head?.map (fun l => l.number) = some n) :
    exec (.hostCompletionTimeout port tag) s = .next ((s.readTimedOut port.val tag).failLoad 2 scHostReadFailed) := by
  refine congrArg Host.Outcome.next ?_
  dsimp only
  rw [hfind]
  dsimp only
  rw [howner]
  exact if_pos hload

end

theorem exec_configurationWrite_of_live {s : State} {port : Fin 4} (hlive : (s.hp port.val).live = true) (hready : s.power.ready = true) (w : ConfigWrite) :
    exec (.configurationWrite port w) s = .next (s.configure port w) :=
  congrArg Host.Outcome.next (if_pos (by rw [hlive, hready]; rfl))

/-- Settles O51: each event of a host port where its guard holds. -/
theorem hostPortEvents : Obligations.HostPortEvents := by
  unfold Obligations.HostPortEvents
  refine ⟨fun port queue s k q c hk hq hfront hon => ?complete, fun port queue s hlive hunacked hcoal => congrArg Host.Outcome.next (if_pos ⟨hlive, hunacked, hcoal⟩),
    fun port tag data s k r hk hfind => ⟨fun hlive => ?answered, fun t ht => ?timeout⟩, fun port width speed flit s hwidth hmin hmax hoff hfenced => ?linkUp,
    fun port s hlive hready => ?configure, fun port speed flit s => ?oneCable, fun port w s hoff hfenced hnot => ?retry, fun k s => ⟨rfl, rfl, rfl⟩,
    fun k s => ⟨fun c hc => ?present, fun c hc => ?absent⟩, fun port s hsecure => congrArg Host.Outcome.next (if_pos hsecure), fun port s => ⟨_, rfl, ?reset⟩⟩
  case complete =>
    subst hk hq
    refine ⟨fun st r hphase => ?_, fun hphase hop hmay hroom => exec_commandComplete_of_invalid hfront hon hphase hop hmay hroom⟩
    rw [exec_commandComplete_of_finished hfront hon hphase]
    exact ⟨fun hquiet => congrArg Host.Outcome.next (if_pos hquiet), fun hloud hfull => congrArg Host.Outcome.next ((if_neg hloud).trans (if_pos hfull)),
      fun hloud hroom => congrArg Host.Outcome.next ((if_neg hloud).trans (if_neg (by rw [hroom]; exact Bool.false_ne_true)))⟩
  case answered =>
    subst hk
    rw [exec_hostReadCompletion_of_live hfind hlive]
    refine ⟨fun q n howner hlen => ?_, fun q off len howner hlen => ?_, fun n off len howner hlen => ?_, fun howner => ?_⟩
    · rw [howner]; exact congrArg Host.Outcome.next (if_pos hlen)
    · rw [howner]; exact congrArg Host.Outcome.next (if_pos hlen)
    · rw [howner]; exact congrArg Host.Outcome.next (if_pos hlen)
    · rw [howner]
  case timeout =>
    subst hk ht
    exact ⟨fun q off len howner => exec_hostCompletionTimeout_of_copy hfind howner, fun q n howner => exec_hostCompletionTimeout_of_fetch hfind howner,
      fun n off len howner hload => exec_hostCompletionTimeout_of_image hfind howner hload⟩
  case linkUp =>
    refine congrArg Host.Outcome.next (if_pos ⟨?_, hmin, hmax, hoff, hfenced⟩)
    simpa [widthOk, or_assoc] using hwidth
  case configure =>
    have hexec := exec_configurationWrite_of_live hlive hready
    exact ⟨fun n a => hexec _, fun l hmin hmax => (hexec _).trans (congrArg Host.Outcome.next (State.updHp_congr (if_pos ⟨hmin, hmax⟩))), fun d => hexec _,
      fun e m => hexec _, fun f => hexec _, hexec _⟩
  case oneCable => exact congrArg Host.Outcome.next (if_neg (by simp [widthOk]))
  case retry =>
    refine congrArg Host.Outcome.next ((if_neg ?_).trans (if_neg (by rw [hoff, hfenced]; decide)))
    rcases hnot with h | h <;> simp [HostPort.live, h]
  case present =>
    simp only [List.mem_cons, List.not_mem_nil, or_false] at hc
    rcases hc with rfl | rfl | rfl | rfl | rfl | rfl <;> rfl
  case absent =>
    simp only [List.mem_cons, List.not_mem_nil, or_false] at hc
    rcases hc with rfl | rfl | rfl | rfl | rfl <;> rfl
  case reset =>
    rw [State.hostPortReset, State.hp_upd_self]
    exact ⟨rfl, rfl, rfl, rfl, rfl⟩

end Sys2Proof.Machine
end

section
/-! PROOFS. Image loads (R369–R375). -/

namespace Sys2Proof.Machine

open Sys2Proof.Claims

section
variable {s : State} {l : ImgLoad} {rest : List ImgLoad} (hload : s.images.loads = l :: rest)
include hload

/-- A load whose bytes have come: copied, and checked in the order of R371. -/
theorem exec_imageStaged_of_copied {t : State} {ok : Bool} (hstep : l.step = 2) (hcopied : l.fromHbm = true ∨ l.bytes ≤ l.copied)
    (hcopy : s.stageCopy l = (t, ok)) : exec .imageStaged s = .next (
      if ok = false then t.failLoad 2 scPoison
      else if l.bytes ≠ imgSigned (t.peek l.stage 512) + 1024 then t.failLoad 1 scInvalidField
      else (t.verifyCopy l).loadStep5) := by
  refine congrArg Host.Outcome.next ?_
  rw [hload]
  dsimp only
  rw [if_pos ⟨hstep, hcopied⟩, hcopy]
  exact if_congr (iff_of_eq (Bool.not_eq_true' ok)) rfl rfl

/-- Step 5 of R371. -/
theorem State.loadStep5_of_head (hstep : l.step = 5) : s.loadStep5 =
    if s.promotes = true then s
    else if s.loadReady (s.peek l.stage l.bytes) l.isPartial l.pan = false then s.failLoad 5 scBusy
    else { s.updLoad (fun l => { l with step := 6 }) with images := { (s.updLoad (fun l => { l with step := 6 })).images with audit := 3 } } := by
  unfold State.loadStep5
  rw [hload]
  dsimp only
  refine if_congr ?_ rfl (if_congr ?_ rfl rfl)
  · exact ⟨fun h => h.resolve_left (not_not_intro hstep), .inr⟩
  · cases s.loadReady (s.peek l.stage l.bytes) l.isPartial l.pan <;> decide

theorem exec_imageStaged_of_held (hstep : l.step = 5) : exec .imageStaged s = .next s.loadStep5 := by
  refine congrArg Host.Outcome.next ?_
  rw [hload]
  refine if_neg fun h => ?_
  rw [hstep] at h
  exact absurd h.1 (by decide)

theorem exec_routeAuditDone_of_head (hstep : l.step = 6) (haudited : l.audited = false) : exec .routeAuditDone s = .next (
    (routeAudit (s.tablesAfter (s.peek l.stage l.bytes) l.isPartial l.pan)).elim s.auditPass s.auditFail) := by
  refine congrArg Host.Outcome.next ?_
  rw [hload]
  refine if_neg fun h => h.elim (fun h => h hstep) fun h => ?_
  rw [haudited] at h
  exact Bool.false_ne_true h

/-- An audited load at step 7. -/
theorem exec_imageApply_of_head (hstep : l.step = 6) (haudited : l.audited = true) (hfree : s.promotes = false) : exec .imageApply s = .next (
    if !s.loadReady (s.peek l.stage l.bytes) l.isPartial l.pan then s.failLoad 5 scBusy
    else (if l.isPartial then s.applyPartial (s.peek l.stage l.bytes) l.pan else s.applyWhole (s.peek l.stage l.bytes)).updLoad
      (fun l => { l with step := 7 })) := by
  refine congrArg Host.Outcome.next ?_
  rw [hload]
  refine if_neg ?_
  rintro (h | h | h)
  · exact h hstep
  · rw [haudited] at h
    exact Bool.false_ne_true h.symm
  · rw [hfree] at h
    exact Bool.false_ne_true h

/-- The clears that a load began are done. -/
theorem exec_imageLoadComplete_of_head (hstep : l.step = 7) (hclears : s.clearsDone = true) : exec .imageLoadComplete s = .next (
    if s.loadingPans = [] ∧ imgPans (s.peek l.stage l.bytes) ≠ [] then s.closeLoad scAborted
    else
      let id := imgId (s.peek l.stage 512)
      let t := { s with images := s.images.complete l id, rmc := if l.isPartial then s.rmc else { s.rmc with pdrImage := id } }
      (t.loadingPans.foldl (fun s n => s.panLoaded id n) t).closeLoad scOk) := by
  refine congrArg Host.Outcome.next ?_
  rw [hload]
  refine if_neg fun h => h.elim (fun h => h hstep) fun h => ?_
  rw [hclears] at h
  exact Bool.false_ne_true h.symm

end

/-- Checks 3 and 4 of R371, and what follows them. -/
theorem State.loadStep5_verifyCopy (t : State) (l : ImgLoad) : (t.verifyCopy l).loadStep5 =
    if imgSignatureOk t.sec.imageKeys (t.peek l.stage l.bytes) = false then (t.failLoad 3 scSignatureFail).loadStep5
    else if (imageOk (t.peek l.stage l.bytes) l.isPartial l.pan && (!l.isPartial || t.partialOk (t.peek l.stage l.bytes) l.pan)) = false then
      (t.failLoad 4 scInvalidField).loadStep5
    else (t.updLoad (fun l' => { l' with step := 5, hash := sha512 ((t.peek l.stage l.bytes).take (imgSigned (t.peek l.stage l.bytes))) })).loadStep5 := by
  rw [State.verifyCopy, apply_ite State.loadStep5, apply_ite State.loadStep5]
  exact if_congr (iff_of_eq (Bool.not_eq_true' _)) rfl (if_congr (iff_of_eq (Bool.not_eq_true' _)) rfl rfl)

/-- Settles O53: each step of a load where its guard holds. -/
theorem imageLoads : Obligations.ImageLoads := by
  unfold Obligations.ImageLoads
  refine ⟨fun s t l rest ok b hload hstep hcopied hcopy hb => ?staged, fun s l rest b hload hstep hb => ?held,
    fun s l rest hload => ⟨fun hstep haudited => ?audit, fun hstep haudited hfree => ?apply, fun hstep hclears => ?complete⟩⟩
  case staged =>
    subst hb
    rw [exec_imageStaged_of_copied hload hstep hcopied hcopy, State.loadStep5_verifyCopy]
  case held =>
    subst hb
    rw [exec_imageStaged_of_held hload hstep, State.loadStep5_of_head hload hstep]
  case audit =>
    rw [exec_routeAuditDone_of_head hload hstep haudited]
    refine ⟨fun x hx => ?_, fun hnone => ?_⟩
    · rw [hx, Option.elim_some]
    · rw [hnone, Option.elim_none]
  case apply =>
    rw [exec_imageApply_of_head hload hstep haudited hfree]
    refine ⟨fun hnot => ?_, fun hready => ⟨fun hpartial => ?_, fun hwhole => ?_⟩⟩
    · rw [hnot, Bool.not_false, if_pos rfl]
    · rw [hready, hpartial, Bool.not_true, if_neg Bool.false_ne_true, if_pos rfl]
    · rw [hready, hwhole, Bool.not_true, if_neg Bool.false_ne_true, if_neg Bool.false_ne_true]
  case complete =>
    rw [exec_imageLoadComplete_of_head hload hstep hclears]
    refine ⟨fun hnone hpans => ?_, fun t id hsome hid ht => ?_⟩
    · rw [if_pos ⟨hnone, hpans⟩]
    · subst hid ht
      rw [if_neg fun h => hsome.elim (fun hne => hne h.1) h.2]

end Sys2Proof.Machine
end

section
/-! PROOFS. Power and cooling, and the parking of blocks (R382–R400, R402, R433). -/

namespace Sys2Proof.Machine

open Sys2Proof.Claims

/-! ## Power and cooling (R382–R396, R402, R433) -/

section
variable {s : State}

theorem State.feedCheckAll_of_quiet (h : s.power.short = false ∨ s.power.feedLimit = true) :
    s.feedCheckAll = { s with power := { s.power with feedLimit := s.power.short } } := by
  refine if_neg ?_
  rcases h with h | h <;> simp [h]

theorem State.feedCheckAll_of_short (hshort : s.power.short = true) (hlimit : s.power.feedLimit = false) :
    s.feedCheckAll = { s with power := { s.power with feedLimit := s.power.short } }.postUnsampled ukFeed
      { s with power := { s.power with feedLimit := s.power.short } }.power.shortFeed :=
  if_pos (by rw [hshort, hlimit]; rfl)

theorem State.reachesReference_cons (n k : Nat) (ks seen : List Nat) : s.reachesReference (n + 1) (k :: ks) seen =
    if injects k then true
    else s.reachesReference n (ks ++ (s.coupledTo k).filter (fun j => !seen.contains j)) ((s.coupledTo k).filter (fun j => !seen.contains j) ++ seen) := rfl

theorem State.reachesReference_nil (n : Nat) (seen : List Nat) : s.reachesReference n [] seen = false := by
  cases n <;> rfl

theorem State.clocked_of_injects {k : Nat} (h : injects k = true) : s.clocked k = true :=
  (State.reachesReference_cons 38400 k [] [k]).trans (if_pos h)

theorem State.clocked_of_uncoupled {k : Nat} (h : injects k = false) (halone : s.coupledTo k = []) : s.clocked k = false := by
  refine (State.reachesReference_cons 38400 k [] [k]).trans ((if_neg (by rw [h]; exact Bool.false_ne_true)).trans ?_)
  rw [halone]
  exact State.reachesReference_nil _ _

end

theorem State.ready_allOff (s : State) : s.allOff.power.ready = false := by
  unfold State.allOff
  rfl

/-- Settles O54: each sample, limit and stage where its guard holds. -/
theorem powerAndCooling : Obligations.PowerAndCooling := by
  unfold Obligations.PowerAndCooling
  refine ⟨fun feed volts amps s => rfl, fun s => rfl, fun s t ht => ⟨fun h => ?quiet, fun hshort hlimit => ?short⟩,
    fun st s t ht => ⟨fun h => ?offline, fun h => ?keeps⟩, fun st s => rfl, fun st s => rfl, fun st v a s => rfl, fun stages cages s t ht => ?hot,
    fun f i o s => ⟨fun hbad => ?bad, fun hgood hlimit hbetter hcount => ?good, fun hgood hlimit => ?neutral⟩,
    fun s hlimit => ⟨_, congrArg Host.Outcome.next (if_pos hlimit), State.ready_allOff s⟩, fun v s hv => ?lost, fun s => ⟨_, rfl, rfl, rfl⟩, fun p v s t ht => ?cap,
    fun site mhz voff s => rfl, fun site s t on ht => ?oscillator, fun site c s t ht => ?site⟩
  case quiet => rw [State.feedCheckAll_of_quiet h, ht]
  case short =>
    subst ht
    rw [State.feedCheckAll_of_short hshort hlimit]
    rfl
  case offline => subst ht; exact congrArg Host.Outcome.next (if_pos h)
  case keeps => subst ht; exact congrArg Host.Outcome.next (if_neg (Nat.not_le.mpr h))
  case hot => subst ht; rfl
  case bad => exact congrArg (fun p => Host.Outcome.next { s with power := p }) (if_pos hbad)
  case good =>
    have hnot : ¬coolantBad f i o = true := by rw [hgood]; exact Bool.false_ne_true
    refine congrArg (fun p => Host.Outcome.next { s with power := p }) ((if_neg hnot).trans ((if_pos ?_).trans (if_pos (Nat.succ_le_succ hcount))))
    rw [hlimit, hbetter]
    rfl
  case neutral =>
    have hnot : ¬coolantBad f i o = true := by rw [hgood]; exact Bool.false_ne_true
    refine congrArg (fun p => Host.Outcome.next { s with power := p }) ((if_neg hnot).trans (if_neg ?_))
    rw [hlimit, Bool.false_and]
    exact Bool.false_ne_true
  case lost =>
    refine ⟨_, congrArg Host.Outcome.next (if_pos ?_), rfl, rfl⟩
    exact List.all_eq_true.mpr fun x hx => decide_eq_true (hv x hx)
  case cap => subst ht; rfl
  case oscillator =>
    subst ht
    refine ⟨fun hlocked hon => ?_, fun hlocked hon => ?_, fun hon ⟨hforwards, hclocked⟩ => ?_, fun hon hnot => ?_, State.clocked_of_injects, State.clocked_of_uncoupled⟩
    · subst hon
      exact congrArg Host.Outcome.next (if_pos (by rw [hlocked]; rfl))
    · subst hon
      exact congrArg Host.Outcome.next ((if_neg (by rw [hlocked]; exact Bool.false_ne_true)).trans (if_neg Bool.false_ne_true))
    · subst hon
      refine congrArg Host.Outcome.next ((if_neg (by simp)).trans (if_pos ?_))
      rw [hforwards, hclocked]
      rfl
    · subst hon
      refine congrArg Host.Outcome.next ((if_neg (by simp)).trans (if_neg ?_))
      rcases hnot with h | h <;> simp [h]
  case site =>
    subst ht
    refine ⟨fun hhot hfence => congrArg Host.Outcome.next (if_pos ⟨hhot, hfence⟩), fun hcool hfew => ?_, fun hwarm hbelow hparks hbusy => ?_⟩
    · refine congrArg Host.Outcome.next ((if_neg fun h => ?_).trans (if_neg fun h => ?_))
      · omega
      · omega
    · exact congrArg Host.Outcome.next ((if_neg fun h => absurd h.1 (Nat.not_le.mpr hbelow)).trans (if_pos ⟨hwarm, hparks, hbusy⟩))

/-! ## Parking (R397–R400) -/

section
variable {w : Fin 4} {j : BitVec 8} {s u : State} {now : W64}

theorem exec_unpark_of_idle (hidle : s.power.busy = false) (hnow : (s.parkLast w j).rmcNow = (now, u)) : exec (.unpark w j) s = .next (
    (u.power.parked.find? (fun e => e.1 == 240 * w.val + j.toNat)).elim u.parkRefuse (fun e =>
      if j.toNat < 240 ∧ 1000000 ≤ (now - e.2).toNat ∧ bit u.fault.waferFenced w.val = false
          ∧ (u.around (240 * w.val + j.toNat)).all (fun j => decide ((u.site j).isl.celsius.toNat ≤ 85)) = true then u.unpark (240 * w.val + j.toNat)
      else u.parkRefuse)) := by
  refine congrArg Host.Outcome.next ((if_neg (by rw [hidle]; exact Bool.false_ne_true)).trans ?_)
  dsimp only
  rw [hnow]
  dsimp only
  cases u.power.parked.find? (fun e => e.1 == 240 * w.val + j.toNat) <;> rfl

end

/-- A park at its first step. -/
theorem exec_parkBlockIdle_of_first {s : State} {x : ParkOp} {overdue : Bool} (hpark : s.power.park = some x) (hstep : x.step = 1) :
    exec (.parkBlockIdle overdue) s = .next (
      let t := s.stopPans (s.blockPans x.block)
      if (s.blockPans x.block).any (fun n => t.holdsPark n) then t
      else
        let u := if overdue then t.updSites (t.parkSites x.block) (fun _ a => a.dropForced) else t
        if (u.parkSites x.block).all (fun k => (u.site k).enginesIdle) then
          let v := u.applyPatches (Tbl.get (fun _ => []) u.power.parkPlans x.block) true
          { v with power := { v.power with park := some { x with step := 4 } } }
        else u) := by
  refine congrArg Host.Outcome.next ?_
  rw [hpark]
  exact if_neg (not_not_intro hstep)

/-- Settles O55: each command of a park by the block that it names or that parks. -/
theorem parkingBlocks : Obligations.ParkingBlocks := by
  unfold Obligations.ParkingBlocks
  refine ⟨fun w j s t b hidle hb ht => ⟨fun hj hfree => ?parks, fun hno => ?refused, fun now u hnow => ⟨fun hnone => ?notParked, fun e hfind hj hlong hfence hcool => ?unparks,
    fun e hfind hshort => ?tooSoon⟩⟩, fun s t u x overdue hpark hstep ht => ⟨fun hholds => ?holds, fun hfree hu => ⟨fun hbusy => ?busy, fun v hquiet hv => ?plan⟩⟩,
    fun s t x hpark hstep => ⟨fun hempty => ?empty, fun hsome ht => ?timeout⟩⟩
  case parks =>
    subst hb ht
    refine congrArg Host.Outcome.next ((if_neg (Nat.not_le.mpr hj)).trans ((if_neg fun h => ?_).trans (if_neg (by rw [hidle]; exact Bool.false_ne_true))))
    exact Bool.false_ne_true (hfree.symm.trans h)
  case refused =>
    subst hb ht
    by_cases hj : 240 ≤ j.toNat
    · exact congrArg Host.Outcome.next ((if_pos hj).trans (if_neg (by rw [hidle]; exact Bool.false_ne_true)))
    · exact congrArg Host.Outcome.next ((if_neg hj).trans (if_pos (hno.resolve_left hj)))
  case notParked =>
    subst hb ht
    rw [exec_unpark_of_idle hidle hnow, hnone, Option.elim_none]
  case unparks =>
    subst hb ht
    rw [exec_unpark_of_idle hidle hnow, hfind, Option.elim_some]
    exact congrArg Host.Outcome.next (if_pos ⟨hj, hlong, hfence, hcool⟩)
  case tooSoon =>
    subst hb ht
    rw [exec_unpark_of_idle hidle hnow, hfind, Option.elim_some]
    exact congrArg Host.Outcome.next (if_neg fun h => absurd h.2.1 (Nat.not_le.mpr hshort))
  case holds =>
    subst ht
    exact (exec_parkBlockIdle_of_first hpark hstep).trans (congrArg Host.Outcome.next (if_pos hholds))
  case busy =>
    subst ht hu
    exact (exec_parkBlockIdle_of_first hpark hstep).trans (congrArg Host.Outcome.next
      ((if_neg (by rw [hfree]; exact Bool.false_ne_true)).trans (if_neg (by rw [hbusy]; exact Bool.false_ne_true))))
  case plan =>
    subst ht hu hv
    exact (exec_parkBlockIdle_of_first hpark hstep).trans (congrArg Host.Outcome.next
      ((if_neg (by rw [hfree]; exact Bool.false_ne_true)).trans (if_pos hquiet)))
  case empty =>
    refine congrArg (fun t => Host.Outcome.next (State.panResetGoOn t)) ?_
    rw [State.parkEmpty, hpark]
    exact if_pos ⟨hstep, hempty⟩
  case timeout =>
    subst ht
    refine congrArg (fun t => Host.Outcome.next (State.panResetGoOn t)) ?_
    rw [State.parkTimeout, hpark]
    exact if_pos ⟨hstep, hsome⟩

end Sys2Proof.Machine
end

section
/-! PROOFS. Resets of the module and of its parts (R388, R403–R412). -/

namespace Sys2Proof.Machine

open Sys2Proof.Claims

/-! ## What leaves the RMC's firmware as it was -/

/-- The RMC's firmware runs, and the boot ROM answers alone. -/
@[irreducible] def State.rmcBoot (s : State) : Bool × Bool := (s.rmc.runs, s.rmc.recovery)

theorem State.rmcBoot_congr {s t : State} (h : t.rmc = s.rmc) : t.rmcBoot = s.rmcBoot := by
  rw [State.rmcBoot, State.rmcBoot, h]

theorem State.rmcBoot_eq_iff {s : State} {runs recovery : Bool} : s.rmcBoot = (runs, recovery) ↔ s.rmc.runs = runs ∧ s.rmc.recovery = recovery := by
  rw [State.rmcBoot, Prod.mk.injEq]

theorem State.rmcBoot_foldl {α : Type} {f : State → α → State} (h : ∀ s a, (f s a).rmcBoot = s.rmcBoot) (l : List α) (s : State) :
    (l.foldl f s).rmcBoot = s.rmcBoot := by
  induction l generalizing s with
  | nil => rfl
  | cons a l ih => exact (ih _).trans (h s a)

theorem State.rmcBoot_ite {c : Prop} [Decidable c] {s t u : State} (ht : t.rmcBoot = s.rmcBoot) (hu : u.rmcBoot = s.rmcBoot) :
    (if c then t else u).rmcBoot = s.rmcBoot := by
  split <;> assumption

section
variable (s : State)

@[simp] theorem State.rmcBoot_setSite (k : Nat) (a : Site) : (s.setSite k a).rmcBoot = s.rmcBoot := State.rmcBoot_congr rfl
@[simp] theorem State.rmcBoot_updSite (k : Nat) (f : Site → Site) : (s.updSite k f).rmcBoot = s.rmcBoot := State.rmcBoot_congr rfl
@[simp] theorem State.rmcBoot_updPc (q : Nat) (f : Pc → Pc) : (s.updPc q f).rmcBoot = s.rmcBoot := State.rmcBoot_congr rfl
@[simp] theorem State.rmcBoot_updBay (b : Nat) (f : Bay → Bay) : (s.updBay b f).rmcBoot = s.rmcBoot := State.rmcBoot_congr rfl
@[simp] theorem State.rmcBoot_updHp (k : Nat) (f : HostPort → HostPort) : (s.updHp k f).rmcBoot = s.rmcBoot := State.rmcBoot_congr rfl
@[simp] theorem State.rmcBoot_updPort (n : Nat) (f : Port → Port) : (s.updPort n f).rmcBoot = s.rmcBoot := State.rmcBoot_congr rfl
@[simp] theorem State.rmcBoot_emit (o : Output) : (s.emit o).rmcBoot = s.rmcBoot := State.rmcBoot_congr rfl

@[simp] theorem State.rmcBoot_sendMsix (p : Fin 4) (v : BitVec 11) : (s.sendMsix p v).rmcBoot = s.rmcBoot := by
  unfold State.sendMsix
  split <;> simp

theorem State.rmcBoot_ringPost (ev : Event) (p : Fin 4) : (s.ringPost ev p).rmcBoot = s.rmcBoot := by
  unfold State.ringPost
  exact State.rmcBoot_ite (State.rmcBoot_ite (by simp) (by simp)) rfl

@[simp] theorem State.rmcBoot_post (code sev path kind index : Nat) (detail : List Nat) : (s.post code sev path kind index detail).rmcBoot = s.rmcBoot := by
  unfold State.post State.rmcNow State.draw
  dsimp only
  refine (State.rmcBoot_foldl (fun s p => s.rmcBoot_ringPost _ p) allPorts _).trans ?_
  rw [State.rmcBoot, State.rmcBoot]

@[simp] theorem State.rmcBoot_linkDown (n : Nat) (st : PortState) : (s.linkDown n st).rmcBoot = s.rmcBoot := by
  unfold State.linkDown
  exact State.rmcBoot_ite (by simp) (by simp)

@[simp] theorem State.rmcBoot_idleOut (n : Nat) : (s.idleOut n).rmcBoot = s.rmcBoot := by
  unfold State.idleOut
  exact State.rmcBoot_ite (by simp [State.flitOut]) rfl

theorem State.rmcBoot_release (q : Nat) (h : FabHold) (k : Nat) : (s.release q h k).rmcBoot = s.rmcBoot := by
  unfold State.release
  split
  · rfl
  · unfold State.freeFlits
    exact State.rmcBoot_ite (by simp) rfl
  · simp

theorem State.rmcBoot_pcOff (q : Nat) : (s.pcOff q).rmcBoot = s.rmcBoot := by
  unfold State.pcOff
  dsimp only
  rw [State.rmcBoot_foldl (fun s (t : TxPkt) => s.rmcBoot_release q t.hold t.pkt.flits), State.rmcBoot_foldl (fun _ _ => by simp),
    State.rmcBoot_foldl (fun _ _ => by simp), State.rmcBoot_updPc]

theorem State.rmcBoot_updSites (ks : List Nat) (f : Nat → Site → Site) : (s.updSites ks f).rmcBoot = s.rmcBoot := by
  unfold State.updSites
  rw [State.rmcBoot_foldl (fun _ _ => by simp)]

theorem State.rmcBoot_unconfigure (which : Nat → Pan → Bool) : (s.unconfigure which).rmcBoot = s.rmcBoot := by
  unfold State.unconfigure
  refine Eq.trans ?_ (State.rmcBoot_foldl (fun s (e : Nat × Pan) => s.rmcBoot_updSites (s.panSites e.1) fun _ a => a.haltAll false)
    (s.pans.filter (fun e => which e.1 e.2)) s)
  exact State.rmcBoot_congr rfl

@[simp] theorem State.rmcBoot_updLoad (f : ImgLoad → ImgLoad) : (s.updLoad f).rmcBoot = s.rmcBoot := by
  unfold State.updLoad
  split <;> exact State.rmcBoot_congr rfl

@[simp] theorem State.rmcBoot_endLoad (code : BitVec 8) : (s.endLoad code).rmcBoot = s.rmcBoot := by
  unfold State.endLoad
  split <;> exact State.rmcBoot_congr rfl

@[simp] theorem State.rmcBoot_loadRead (l : ImgLoad) : (s.loadRead l).rmcBoot = s.rmcBoot := by
  unfold State.loadRead State.hostRead
  dsimp only
  cases (s.hp l.port).freeTag false <;> simp

theorem State.rmcBoot_startLoad : s.startLoad.rmcBoot = s.rmcBoot := by
  unfold State.startLoad
  split
  case h_1 => rfl
  case h_2 l _ _ =>
    refine State.rmcBoot_ite rfl (State.rmcBoot_ite (by simp) (State.rmcBoot_ite rfl ?_))
    extract_lets fits
    cases s.images.place l.bytes with
    | none => simp
    | some a => exact State.rmcBoot_ite (by simp) (State.rmcBoot_ite (by simp) (by simp))

theorem State.rmcBoot_closeLoad (code : BitVec 8) : (s.closeLoad code).rmcBoot = s.rmcBoot := by
  unfold State.closeLoad State.startLoads
  rw [State.rmcBoot_foldl (fun s _ => s.rmcBoot_startLoad), State.rmcBoot_endLoad]

theorem State.rmcBoot_abortLoad : s.abortLoad.rmcBoot = s.rmcBoot := by
  unfold State.abortLoad
  split
  · dsimp only
    rw [State.rmcBoot_closeLoad]
    exact State.rmcBoot_ite (s.rmcBoot_unconfigure _) rfl
  · rfl

theorem State.rmcBoot_dropLoads (k : Nat) : (s.dropLoads k).rmcBoot = s.rmcBoot := by
  unfold State.dropLoads
  dsimp only
  refine State.rmcBoot_ite ?_ (State.rmcBoot_congr rfl)
  rw [State.rmcBoot_abortLoad]
  exact State.rmcBoot_congr rfl

theorem State.rmcBoot_hostOff (k : Nat) : (s.hostOff k).rmcBoot = s.rmcBoot := by
  unfold State.hostOff
  dsimp only
  rw [State.rmcBoot_updHp, State.rmcBoot_dropLoads]

theorem State.rmcBoot_abortLoads : s.abortLoads.rmcBoot = s.rmcBoot := by
  unfold State.abortLoads
  dsimp only
  rw [State.rmcBoot_abortLoad]
  exact State.rmcBoot_congr rfl

theorem State.rmcBoot_allOff : s.allOff.rmcBoot = s.rmcBoot := by
  unfold State.allOff
  extract_lets aborted pcs hosts sites hbms power
  have hhosts : hosts.rmcBoot = pcs.rmcBoot := State.rmcBoot_foldl (fun s k => s.rmcBoot_hostOff k) _ _
  have hpcs : pcs.rmcBoot = aborted.rmcBoot := State.rmcBoot_foldl (fun s q => s.rmcBoot_pcOff q) _ _
  refine Eq.trans ?_ (hhosts.trans (hpcs.trans s.rmcBoot_abortLoads))
  clear_value hosts sites hbms power
  exact State.rmcBoot_congr rfl

theorem State.rmcBoot_baysOff : s.baysOff.rmcBoot = s.rmcBoot := by
  unfold State.baysOff State.bayCut
  rw [State.rmcBoot_foldl (fun _ _ => by simp)]

/-- The bays' domains are no part of the module's power state. -/
theorem State.power_baysOff : s.baysOff.power = s.power := by
  have hcuts : ∀ (l : List Nat) (s : State), (l.foldl (fun s b => s.bayCut b) s).power = s.power := fun l => by
    induction l with
    | nil => exact fun _ => rfl
    | cons b l ih => exact fun s => ih _
  exact hcuts _ _

theorem State.bootRmc_of_unverified : s.bootRmc false = { s with rmc := { s.rmc with runs := false, recovery := true } } := by
  unfold State.bootRmc
  cases s.sec.bootCopy 0 (s.fwUnit 0) <;> rfl

theorem State.sec_bootRmc (verified : Bool) : (s.bootRmc verified).sec = s.sec := by
  unfold State.bootRmc
  split <;> rfl

/-- An erase that is pending stays so through a power-on. -/
theorem State.erasePending_powerOn (feeds : BitVec 8) (stages : BitVec 40) :
    (((s.alwaysOnReset.recordReset s.power.offCause).bootRmc true).startPower feeds stages).sec.erasePending = s.sec.erasePending :=
  Eq.trans (b := (s.alwaysOnReset.recordReset s.power.offCause).sec.erasePending)
    (congrArg Sec.erasePending (State.sec_bootRmc (s.alwaysOnReset.recordReset s.power.offCause) true)) rfl

theorem State.runs_bootRmc : (s.bootRmc true).rmc.runs = (s.sec.bootCopy 0 (s.fwUnit 0)).isSome := by
  unfold State.bootRmc
  cases s.sec.bootCopy 0 (s.fwUnit 0) <;> rfl

end

/-! ## Resets through RESET_CMD -/

section
variable {s : State} {f : State → State}

theorem State.resetTake_of_ready (hbusy : s.resets.busy = false) (hwaiting : s.resets.waiting = false) (hready : s.power.ready = true) :
    s.resetTake f = f s := by
  unfold State.resetTake
  rw [hbusy, hwaiting, hready]
  rfl

theorem State.resetTake_of_running (h : s.resets.busy = true ∨ s.resets.waiting = true) : s.resetTake f = s :=
  if_pos (by rw [Bool.or_eq_true]; exact h)

theorem State.resetTake_of_unready (hbusy : s.resets.busy = false) (hwaiting : s.resets.waiting = false) (hready : s.power.ready = false) :
    s.resetTake f = s.resetRefuse := by
  unfold State.resetTake
  rw [hbusy, hwaiting, hready]
  rfl

end

/-- A reset of a part goes through resetTake. -/
theorem exec_partReset {pan : Fin 1024} {site : SiteId} {bay : Fin 16} {port : Fin 96} {i : Instr}
    (hi : i ∈ [Instr.panReset pan, .arrayReset site, .bayReset bay, .fabricPortReset port]) : ∃ f, ∀ s, exec i s = .next (State.resetTake s f) := by
  simp only [List.mem_cons, List.not_mem_nil, or_false] at hi
  rcases hi with rfl | rfl | rfl | rfl <;> exact ⟨_, fun _ => rfl⟩

section
variable {pan : Fin 1024} {s : State} (hbusy : s.resets.busy = false) (hwaiting : s.resets.waiting = false) (hready : s.power.ready = true)
include hbusy hwaiting hready

theorem exec_panReset_of_ready : exec (.panReset pan) s = .next (
    if (s.pan pan.val).st = .unconfigured ∨ (s.pan pan.val).st = .loading then s.resetRefuse
    else if s.parksPan pan.val then s.resetStart 2 (BitVec.ofNat 16 pan.val) true
    else (s.resetStart 2 (BitVec.ofNat 16 pan.val) false).panResetNow pan.val) := by
  refine congrArg Host.Outcome.next ((State.resetTake_of_ready hbusy hwaiting hready).trans (if_congr ?_ rfl rfl))
  rw [State.panUnresettable, Bool.or_eq_true, beq_iff_eq, beq_iff_eq]

end

/-- Settles O56: the start of the module and each reset where its guard holds. -/
theorem resetsOfParts : Obligations.ResetsOfParts := by
  unfold Obligations.ResetsOfParts
  refine ⟨fun feeds stages s t hfeeds ht => ⟨fun hruns herase => ?powers, fun hruns herase => ?erases, fun hruns => ?recovers, ?copy, ?unverified⟩,
    fun s hinit hdark => ?ready, fun confirm byRmc s hbusy hruns => ⟨fun hconfirm hwaiting => ?module, fun hconfirm hwaiting => ?absorbed, fun hconfirm => ?unconfirmed⟩,
    fun confirm byRmc s hruns => ⟨congrArg Host.Outcome.next (if_pos (.inr hruns)), congrArg Host.Outcome.next (if_pos (.inr (.inr hruns)))⟩,
    fun s => ⟨fun hlc hwaiting hruns => ?pin, fun h => congrArg Host.Outcome.next (if_pos (h.imp_right .inl))⟩,
    fun pan s hbusy hwaiting hready => ⟨fun h => ?panRefused, fun hconf hload => ⟨fun hparks => ?panWaits, fun hfree => ?panNow⟩⟩,
    fun site s k hk hbusy hwaiting hready => ⟨fun h => ?arrayRefused, fun hparked hfenced hholds t ht => ?array⟩,
    fun site s k hk hmem => ⟨fun hdone => ?quiesced, fun hopen => ?overdue⟩,
    fun bay s t hbusy hwaiting hready ht => ⟨fun hnone => ?bayEmpty, fun c hcart => ?bay⟩,
    fun port s hbusy hwaiting hready => congrArg Host.Outcome.next (State.resetTake_of_ready hbusy hwaiting hready),
    fun pan site bay port s i hi => ?parts⟩
  case powers =>
    rw [← State.erasePending_powerOn s feeds stages, ← ht] at herase
    subst ht
    refine congrArg Host.Outcome.next ((if_neg (Nat.not_lt.mpr hfeeds)).trans ((if_neg ?_).trans (if_neg ?_)))
    · rw [hruns]
      exact Bool.noConfusion
    · rw [herase]
      exact Bool.false_ne_true
  case erases =>
    rw [← State.erasePending_powerOn s feeds stages, ← ht] at herase
    subst ht
    refine congrArg Host.Outcome.next ((if_neg (Nat.not_lt.mpr hfeeds)).trans ((if_neg ?_).trans (if_pos herase)))
    rw [hruns]
    exact Bool.noConfusion
  case recovers =>
    subst ht
    exact congrArg Host.Outcome.next ((if_neg (Nat.not_lt.mpr hfeeds)).trans (if_pos hruns))
  case copy =>
    subst ht
    exact iff_of_eq (congrArg (· = true) (State.runs_bootRmc (s.alwaysOnReset.recordReset s.power.offCause)))
  case unverified =>
    have hboot := State.bootRmc_of_unverified (s.alwaysOnReset.recordReset s.power.offCause)
    have hstart : (((s.alwaysOnReset.recordReset s.power.offCause).bootRmc false).startPower feeds stages).rmcBoot = (false, true) := by
      rw [hboot, State.rmcBoot_eq_iff]
      exact ⟨rfl, rfl⟩
    obtain ⟨hruns, hrecovery⟩ := State.rmcBoot_eq_iff.mp (((State.rmcBoot_baysOff _).trans (State.rmcBoot_allOff _)).trans hstart)
    refine ⟨_, congrArg Host.Outcome.next ((if_neg (Nat.not_lt.mpr hfeeds)).trans (if_pos (State.rmcBoot_eq_iff.mp hstart).1)), hruns, hrecovery, ?_⟩
    rw [State.power_baysOff]
    exact State.ready_allOff _
  case ready => exact congrArg Host.Outcome.next (if_pos (by rw [hinit, hdark]; rfl))
  case module =>
    refine congrArg Host.Outcome.next ((if_neg ?_).trans ((if_neg (not_not_intro hconfirm)).trans (if_neg (by rw [hwaiting]; exact Bool.false_ne_true))))
    rw [hbusy, hruns]
    decide
  case absorbed =>
    refine congrArg Host.Outcome.next ((if_neg ?_).trans ((if_neg (not_not_intro hconfirm)).trans (if_pos hwaiting)))
    rw [hbusy, hruns]
    decide
  case unconfirmed =>
    refine congrArg Host.Outcome.next ((if_neg ?_).trans (if_pos hconfirm))
    rw [hbusy, hruns]
    decide
  case pin =>
    refine congrArg Host.Outcome.next (if_neg ?_)
    rw [hwaiting, hruns]
    rintro (h | h | h)
    · exact hlc h
    · exact Bool.false_ne_true h
    · exact Bool.false_ne_true h.symm
  case panRefused => exact (exec_panReset_of_ready hbusy hwaiting hready).trans (congrArg Host.Outcome.next (if_pos h))
  case panWaits =>
    exact (exec_panReset_of_ready hbusy hwaiting hready).trans (congrArg Host.Outcome.next ((if_neg fun h => h.elim hconf hload).trans (if_pos hparks)))
  case panNow =>
    have hnot : ¬s.parksPan pan.val = true := by rw [hfree]; exact Bool.false_ne_true
    exact (exec_panReset_of_ready hbusy hwaiting hready).trans (congrArg Host.Outcome.next ((if_neg fun h => h.elim hconf hload).trans (if_neg hnot)))
  case arrayRefused =>
    subst hk
    exact congrArg Host.Outcome.next ((State.resetTake_of_ready hbusy hwaiting hready).trans (if_pos h))
  case array =>
    subst hk ht
    refine congrArg Host.Outcome.next ((State.resetTake_of_ready hbusy hwaiting hready).trans ((if_neg ?_).trans ?_))
    · rw [hparked, hfenced, hholds]
      decide
    · cases s.panOf site.key <;> rfl
  case quiesced =>
    subst hk
    refine congrArg Host.Outcome.next (if_pos ?_)
    rw [List.contains_iff_mem.mpr hmem, hdone]
    rfl
  case overdue =>
    subst hk
    refine congrArg Host.Outcome.next (if_pos ?_)
    rw [List.contains_iff_mem.mpr hmem, List.isEmpty_eq_false_iff.mpr hopen]
    rfl
  case bayEmpty =>
    subst ht
    refine congrArg Host.Outcome.next ((State.resetTake_of_ready hbusy hwaiting hready).trans (if_pos ?_))
    rw [hnone]
    rfl
  case bay =>
    subst ht
    refine congrArg Host.Outcome.next ((State.resetTake_of_ready hbusy hwaiting hready).trans (if_neg ?_))
    rw [hcart]
    exact Bool.false_ne_true
  case parts =>
    obtain ⟨f, hexec⟩ := exec_partReset hi
    rw [hexec]
    exact ⟨fun h => congrArg Host.Outcome.next (State.resetTake_of_running h),
      fun hbusy hwaiting hready => congrArg Host.Outcome.next (State.resetTake_of_unready hbusy hwaiting hready)⟩

end Sys2Proof.Machine
end

section
/-! PROOFS. Heartbeats, fences, retests, promotions, firmware switches and cages (R416–R432). -/

namespace Sys2Proof.Machine

open Sys2Proof.Claims

/-! ## Heartbeats and the two paths (R416, R419) -/

section
variable {u : UnitId} {v : PollView} {s : State}

theorem exec_controllerHeartbeat_of_unit (hindex : u.fwIndex.isSome = true) (hfence : s.unitFenced u = false) : exec (.controllerHeartbeat u) s = .next (
    if s.unitTalks u = false then s.disagree u true { power := Fin.ofNat 3 (s.powerView u), hot := false }
    else { s with rmc := { s.rmc with beats := if s.rmc.beats.contains u.no then s.rmc.beats else u.no :: s.rmc.beats } }) := by
  refine congrArg Host.Outcome.next (if_neg ?_)
  rw [hfence, Option.isNone_eq_false_iff.mpr hindex]
  decide

theorem exec_controllerHang_of_unit (hindex : u.fwIndex.isSome = true) (htalks : s.unitTalks u = true) : exec (.controllerHang u) s = .next (
    if s.rmc.beats.contains u.no then { s with rmc := { s.rmc with beats := s.rmc.beats.filter (fun n => n != u.no) } }
    else (s.markDead u.no).disagree u false { power := 1, hot := false }) := by
  refine congrArg Host.Outcome.next (if_neg ?_)
  rw [htalks, Option.isNone_eq_false_iff.mpr hindex]
  decide

theorem PollView.eq_of_fields {p : Fin 3} {h : Bool} (hpower : v.power = p) (hhot : v.hot = h) : v = { power := p, hot := h } := by
  subst hpower hhot
  rfl

theorem exec_domainPowerPoll_of_running (hfence : s.unitFenced u = false) : exec (.domainPowerPoll u v) s = .next (
    if s.pathsDisagree u (s.fault.dead.contains u.no) v = true then s.disagree u (!s.fault.dead.contains u.no) v else s) := by
  refine congrArg Host.Outcome.next (if_congr ?_ rfl rfl)
  rw [hfence, Bool.not_false, Bool.true_and]

/-- A unit that the data path has dead is in disagreement where the RMC reads it on and normal. -/
theorem State.pathsDisagree_dead : s.pathsDisagree u true v = true ↔ v.power = 1 ∧ v.hot = false := by
  show (v.power == 1 && !v.hot) = true ↔ _
  rw [Bool.and_eq_true, beq_iff_eq, Bool.not_eq_true']

/-- A unit that the data path has alive is in disagreement where its domain should be on and is not, or is hot before its own action. -/
theorem State.pathsDisagree_alive : s.pathsDisagree u false v = true ↔ s.powerView u = 1 ∧ (v.power ≠ 1 ∨ v.hot = true ∧ s.limitBegun u = false) := by
  show (s.powerView u == 1 && (v.power != 1 || (v.hot && !s.limitBegun u))) = true ↔ _
  rw [Bool.and_eq_true, Bool.or_eq_true, Bool.and_eq_true, beq_iff_eq, bne_iff_ne, Bool.not_eq_true']

end

/-! ## Firmware and cages (R430–R432) -/

/-- A unit rolled back runs the other copy, and the one that it leaves is no longer usable. -/
theorem FwUnit.rollBack_copies (x : FwUnit) : x.rollBack.inactive.usable = false ∧ x.rollBack.active = x.inactive := by
  unfold FwUnit.rollBack FwUnit.inactive FwUnit.active
  cases x.activeB <;> simp

section
variable {n : Nat} {s : State}

theorem State.fwSwitch_of_exclusive (h : s.exclusive = true) : s.fwSwitch n = { s with fault := { s.fault with fwWaiting := s.fault.fwWaiting ++ [n] } } :=
  if_pos h

theorem State.fwSwitch_of_free (h : s.exclusive = false) : s.fwSwitch n =
    if s.fwReady n = true ∧ (s.fwUnit n).inactiveOk = true then (s.updFw n (fun u => { u with activeB := !u.activeB, st := 2 })).fwRestart n
    else s.faultRefuse.postFw n 2 :=
  (if_neg (by rw [h]; exact Bool.false_ne_true)).trans (if_congr (by rw [Bool.and_eq_true]) rfl rfl)

/-- A unit's switch and its reversion are one. -/
theorem exec_fw {u : Fin 217} {i : Instr} (hi : i ∈ [Instr.fwSwitch u, .fwRevert u]) (s : State) : exec i s = .next (s.fwSwitch u.val) := by
  simp only [List.mem_cons, List.not_mem_nil, or_false] at hi
  rcases hi with rfl | rfl <;> rfl

/-- A port of a module that a cage powers or refuses, as its link is left. -/
theorem State.port_idled {t : State} (o : Optics) {p : Port} (hp : t.port n = p) :
    (if (t.port n).enable = true ∨ o = .refused then t.linkDown n (t.port n).idleState else t).port n =
      if p.enable = true ∨ o = .refused then { p.dropLink with st := p.idleState } else p := by
  rw [apply_ite (fun u : State => u.port n), State.port_linkDown, hp]

/-- The port of a cage whose optical module changes: its link follows where it is enabled, or where the module stays unpowered. -/
theorem State.port_setOptics (o : Optics) {p : Port} (hp : p = { s.port n with optics := o }) : (s.setOptics n o).port n =
    if p.enable = true ∨ o = .refused then { p.dropLink with st := p.idleState } else p := by
  have hport : (s.updPort n fun p => { p with optics := o }).port n = p := (State.port_upd_self s n _).trans hp.symm
  unfold State.setOptics
  exact State.port_idled o hport

end

/-- Settles O57: each report and command where its guard holds. -/
theorem faultsAndService : Obligations.FaultsAndService := by
  unfold Obligations.FaultsAndService
  refine ⟨fun u s hindex => ⟨fun v hfence htalks hpower hhot => ?stray, fun hfence htalks => ?beat, fun htalks hbeat => ?beaten, fun v htalks hbeat hpower hhot => ?missed⟩,
    fun u v s hfence => ?polls, fun u alive v s => rfl, fun s hpromoting => ?fences, fun u s t hretest ht => ⟨?fails, ?passes⟩,
    fun s p rest hpromos => ?promotion, fun u s hfree i hi => ⟨fun hready hok => ?switches, fun h => ?switchRefused⟩,
    fun u s hbusy i hi => (exec_fw hi s).trans (congrArg Host.Outcome.next (State.fwSwitch_of_exclusive hbusy)),
    fun u s t hst ht => ⟨?healthy, congrArg Host.Outcome.next (if_pos hst), fun x => ⟨rfl, rfl, rfl, x.rollBack_copies⟩⟩,
    fun c cmis supported fits s h => ?unsupported, fun c cmis s => ⟨rfl, rfl⟩, fun n o s t ht => ?optics⟩
  case stray =>
    rw [exec_controllerHeartbeat_of_unit hindex hfence, PollView.eq_of_fields hpower hhot, if_pos htalks]
  case beat =>
    have hnot : ¬s.unitTalks u = false := by rw [htalks]; exact Bool.noConfusion
    rw [exec_controllerHeartbeat_of_unit hindex hfence, if_neg hnot]
  case beaten => rw [exec_controllerHang_of_unit hindex htalks, if_pos hbeat]
  case missed =>
    have hnot : ¬s.rmc.beats.contains u.no = true := by rw [hbeat]; exact Bool.false_ne_true
    rw [exec_controllerHang_of_unit hindex htalks, PollView.eq_of_fields hpower hhot, if_neg hnot]
  case polls =>
    rw [exec_domainPowerPoll_of_running hfence]
    refine ⟨fun hdead => ?_, fun halive hon => ?_, fun halive hoff => ?_⟩
    · rw [hdead]
      refine ⟨fun hpower hhot => congrArg Host.Outcome.next (if_pos (State.pathsDisagree_dead.mpr ⟨hpower, hhot⟩)), fun h => congrArg Host.Outcome.next (if_neg fun hd => ?_)⟩
      obtain ⟨hpower, hhot⟩ := State.pathsDisagree_dead.mp hd
      exact h.elim (fun h => h hpower) fun h => Bool.false_ne_true (hhot.symm.trans h)
    · rw [halive]
      refine ⟨fun h => congrArg Host.Outcome.next (if_pos (State.pathsDisagree_alive.mpr ⟨hon, h⟩)), fun hpower hcool => congrArg Host.Outcome.next (if_neg fun hd => ?_)⟩
      obtain ⟨-, h | ⟨hhot, hlimit⟩⟩ := State.pathsDisagree_alive.mp hd
      · exact h hpower
      · exact hcool.elim (fun h => Bool.false_ne_true (h.symm.trans hhot)) fun h => Bool.false_ne_true (hlimit.symm.trans h)
    · rw [halive]
      exact congrArg Host.Outcome.next (if_neg fun hd => hoff (State.pathsDisagree_alive.mp hd).1)
  case fences =>
    have hnot : ¬s.fault.promoting = true := by rw [hpromoting]; exact Bool.false_ne_true
    refine ⟨fun x hfence => ?_, fun u h => ?_, fun u hfence hretired => ?_, fun w hwafer => ⟨fun hnone hfencing t ht => ?_, fun hsome hfencing => ?_⟩, fun x => ⟨fun h => ?_, fun h => ?_⟩⟩
    · refine congrArg Host.Outcome.next (if_neg ?_)
      rw [hpromoting, hfence]
      decide
    · exact congrArg Host.Outcome.next ((if_neg hnot).trans (if_pos h))
    · refine congrArg Host.Outcome.next ((if_neg hnot).trans (if_neg ?_))
      rw [hfence, hretired]
      decide
    · subst ht
      refine congrArg Host.Outcome.next ((if_neg ?_).trans (if_neg ?_))
      · rw [hpromoting, hwafer, hfencing]
        simp
      · rw [hnone, hfencing]
        decide
    · refine ⟨_, congrArg Host.Outcome.next ((if_neg ?_).trans (if_pos (.inl hsome))), rfl, State.ready_allOff s⟩
      rw [hpromoting, hwafer, hfencing]
      simp
    · exact congrArg Host.Outcome.next ((if_neg hnot).trans (if_pos h))
    · exact congrArg Host.Outcome.next ((if_neg hnot).trans (if_neg (by rw [h]; exact Bool.false_ne_true)))
  case fails =>
    subst ht
    exact congrArg Host.Outcome.next ((if_pos hretest).trans (if_neg Bool.false_ne_true))
  case passes =>
    subst ht
    exact congrArg Host.Outcome.next ((if_pos hretest).trans (if_pos rfl))
  case promotion =>
    have hexec : exec .promotion s = .next (
        if p.released = true ∧ (((s.pan p.pan).st = .unconfigured ∨ (s.pan p.pan).st = .stopped) ∨ s.panQuiet p.pan = true) then s.promote p else s) := by
      refine congrArg Host.Outcome.next ?_
      rw [hpromos]
      exact if_congr (by rw [Bool.and_eq_true, Bool.or_eq_true, Bool.or_eq_true, beq_iff_eq, beq_iff_eq]) rfl rfl
    rw [hexec]
    refine ⟨fun hreleased h => congrArg Host.Outcome.next (if_pos ⟨hreleased, or_assoc.mpr h⟩), fun hreleased hconf hstop hquiet => congrArg Host.Outcome.next (if_neg fun h => ?_),
      fun hheld => congrArg Host.Outcome.next (if_neg fun h => Bool.false_ne_true (hheld.symm.trans h.1))⟩
    obtain ⟨-, (h | h) | h⟩ := h
    · exact hconf h
    · exact hstop h
    · exact Bool.false_ne_true (hquiet.symm.trans h)
  case switches => rw [exec_fw hi, State.fwSwitch_of_free hfree, if_pos ⟨hready, hok⟩]
  case switchRefused =>
    have hnot : ¬(s.fwReady u.val = true ∧ (s.fwUnit u.val).inactiveOk = true) := fun ⟨hready, hok⟩ =>
      h.elim (fun h => Bool.false_ne_true (h.symm.trans hready)) fun h => Bool.false_ne_true (h.symm.trans hok)
    rw [exec_fw hi, State.fwSwitch_of_free hfree, if_neg hnot]
  case healthy =>
    subst ht
    exact congrArg Host.Outcome.next (if_pos hst)
  case unsupported =>
    refine congrArg Host.Outcome.next (if_neg fun hboth => ?_)
    rw [Bool.and_eq_true] at hboth
    exact h.elim (fun h => Bool.false_ne_true (h.symm.trans hboth.1)) fun h => Bool.false_ne_true (h.symm.trans hboth.2)
  case optics =>
    subst ht
    rw [State.port_setOptics o rfl]
    by_cases h : (s.port n).enable = true ∨ o = .refused
    · rw [if_pos h]
      refine ⟨rfl, rfl, fun _ => ⟨?_, rfl⟩⟩
      cases o <;> rfl
    · rw [if_neg h]
      exact ⟨rfl, rfl, fun hor => absurd hor h⟩

end Sys2Proof.Machine
end

section
/-! PROOFS. Life-cycle requests (R445–R452). -/

namespace Sys2Proof.Machine

open Sys2Proof.Claims

/-- A life-cycle command at once runs its request. -/
theorem exec_of_mem_secTable {e : Nat × Instr × (State → State)} (he : e ∈ secTable) (s : State) : exec e.2.1 s = .next (s.secRun e.1 e.2.2) := by
  simp only [secTable, List.mem_cons, List.not_mem_nil, or_false] at he
  rcases he with rfl | rfl | rfl | rfl <;> rfl

/-- A life-cycle command that erases runs its request, and goes on as far as the bays let it. -/
theorem exec_of_mem_eraseTable {e : Nat × Instr × BitVec 3} (he : e ∈ eraseTable) (s : State) :
    exec e.2.1 s = .next (s.secRun e.1 (fun s => s.eraseBegin e.2.2)).goOn := by
  simp only [eraseTable, List.mem_cons, List.not_mem_nil, or_false] at he
  rcases he with rfl | rfl | rfl <;> rfl

section
variable {s : State} {op : Nat} {f : State → State}

theorem State.not_busy_of_not_exclusive (h : s.exclusive = false) : s.sec.busy = false := by
  unfold State.exclusive at h
  rw [Bool.or_assoc, Bool.or_assoc, Bool.or_eq_false_iff] at h
  exact h.1

theorem State.secRun_guard (hbusy : s.sec.busy = false) (hop : s.sec.objOp = op) : ¬(s.sec.busy = true ∨ s.sec.objOp ≠ op) := fun h =>
  h.elim (fun h => Bool.false_ne_true (hbusy.symm.trans h)) fun h => h hop

/-- A request that waits for nothing: its checks, then its effect. -/
theorem State.secRun_of_free (hfree : s.exclusive = false) (hop : s.sec.objOp = op) : s.secRun op f =
    if s.secResult = 0 then { f s with sec := (f s).sec.endRequest 0 } else { s with sec := s.sec.endRequest s.secResult } := by
  unfold State.secRun
  rw [if_neg (State.secRun_guard (State.not_busy_of_not_exclusive hfree) hop), if_neg fun h => Bool.false_ne_true (hfree.symm.trans h.1)]
  dsimp only
  split
  case isTrue h => rw [h]
  case isFalse => rfl

theorem State.secRun_of_exclusive (hbusy : s.sec.busy = false) (hexcl : s.exclusive = true) (herase : s.sec.erasePending = false) (hop : s.sec.objOp = op) :
    s.secRun op f = { s with sec := { s.sec with busy := true, waiting := true } } :=
  (if_neg (State.secRun_guard hbusy hop)).trans (if_pos ⟨hexcl, herase⟩)

/-- While an erase is pending no request passes its checks. -/
theorem State.secResult_of_pending (herase : s.sec.erasePending = true) : s.secResult ≠ 0 := by
  have hstate : s.sec.stateOk = false := by rw [Sec.stateOk, herase, Bool.not_true, Bool.false_and]
  unfold State.secResult
  dsimp only
  rw [if_pos hstate]
  repeat' split
  all_goals decide

theorem State.secRun_of_pending (hbusy : s.sec.busy = false) (herase : s.sec.erasePending = true) (hop : s.sec.objOp = op) :
    s.secRun op f = { s with sec := s.sec.endRequest s.secResult } := by
  have hnot : ¬(s.exclusive = true ∧ s.sec.erasePending = false) := fun h => Bool.noConfusion (herase.symm.trans h.2)
  unfold State.secRun
  rw [if_neg (State.secRun_guard hbusy hop), if_neg hnot]
  dsimp only
  rw [if_neg (State.secResult_of_pending herase)]

/-- A request that passes the nonce's check spends the nonce. -/
theorem Sec.nonceValid_endRequest (c : Sec) (r : BitVec 3) : (c.endRequest r).nonceValid = (c.nonceValid && decide (r = 1 ∨ r = 2)) := by
  rw [Bool.decide_or]
  rfl

end

/-! ## The end of an erase (R449) -/

/-- State t has the security state of s, and no free value that s has drawn is drawn again. -/
structure Drawn (s t : State) : Prop where
  sec : t.sec = s.sec
  freeNext : s.freeNext ≤ t.freeNext

theorem Drawn.refl (s : State) : Drawn s s := ⟨rfl, Nat.le_refl _⟩

theorem Drawn.trans {s t u : State} (h : Drawn s t) (h' : Drawn t u) : Drawn s u := ⟨h'.sec.trans h.sec, h.freeNext.trans h'.freeNext⟩

theorem Drawn.foldl {α : Type} {f : State → α → State} (h : ∀ s a, Drawn s (f s a)) (l : List α) (s : State) : Drawn s (l.foldl f s) := by
  induction l generalizing s with
  | nil => exact Drawn.refl s
  | cons a l ih => exact (h s a).trans (ih _)

theorem State.cryptoErase_drawn (s : State) (b : Nat) : Drawn s (s.cryptoErase b) := ⟨rfl, Nat.le_succ _⟩

theorem State.stackCut_drawn (s : State) (st : Nat) : Drawn s (s.stackCut st) := ⟨rfl, Nat.le_refl _⟩

theorem State.testPower_drawn (s : State) (no : Nat) : Drawn s (s.testPower no) := by
  unfold State.testPower
  split
  · exact ⟨rfl, Nat.le_refl _⟩
  · exact Drawn.refl s

theorem State.sec_scanTo (s : State) (unit : Option Nat) : (s.scanTo unit).sec = s.sec := by
  unfold State.scanTo
  exact (Drawn.foldl (fun s no => s.testPower_drawn no) _ _).sec

theorem State.sec_closeTap (s : State) : s.closeTap.sec = s.sec := by
  unfold State.closeTap
  split
  · rfl
  · exact State.sec_scanTo s none

/-- An erase ends with the fuses of its new state, and a transient secret drawn for it. -/
theorem State.sec_eraseSteps (s : State) : ∃ n, s.freeNext < n ∧ s.eraseSteps.sec = s.sec.erased n := by
  unfold State.eraseSteps
  extract_lets bays cut n
  have hbays : Drawn s bays := Drawn.foldl (fun s b => by
    split
    · exact s.cryptoErase_drawn b
    · exact Drawn.refl s) _ _
  have hcut : Drawn bays cut := Drawn.foldl (fun s st => s.stackCut_drawn st) (List.range 192) bays
  have hdrawn := hbays.trans hcut
  clear_value bays cut
  refine ⟨n, Nat.lt_succ_of_le hdrawn.freeNext, ?_⟩
  rw [State.sec_closeTap]
  show cut.sec.erased n = _
  rw [hdrawn.sec]

/-- Settles O58: each request by what its checks and what runs beside it let it do. -/
theorem lifeCycleRequests : Obligations.LifeCycleRequests := by
  unfold Obligations.LifeCycleRequests
  refine ⟨fun e he s hfree hop => ?runs, fun e he s hfree hop => ?erases, fun e he s hbusy hexcl herase hop => ?waits,
    fun e he s hbusy hexcl herase hop => ?eraseWaits, fun s hbusy herase => ⟨State.secResult_of_pending herase, fun e he hop => ?fails, fun e he hop => ?eraseFails⟩,
    fun c r => ⟨rfl, rfl, fun h => if_neg (by rw [h]; exact Bool.false_ne_true), fun h => if_pos h, fun h => ?kept, fun h1 h2 => ?spent⟩,
    fun s => ?erased, fun s => rfl, fun s => ⟨_, _, rfl, rfl⟩⟩
  case runs => rw [exec_of_mem_secTable he, State.secRun_of_free hfree hop]
  case erases => rw [exec_of_mem_eraseTable he, State.secRun_of_free hfree hop]
  case waits => rw [exec_of_mem_secTable he, State.secRun_of_exclusive hbusy hexcl herase hop]
  case eraseWaits => rw [exec_of_mem_eraseTable he, State.secRun_of_exclusive hbusy hexcl herase hop]
  case fails => rw [exec_of_mem_secTable he, State.secRun_of_pending hbusy herase hop]
  case eraseFails => rw [exec_of_mem_eraseTable he, State.secRun_of_pending hbusy herase hop]
  case kept => rw [Sec.nonceValid_endRequest, decide_eq_true h, Bool.and_true]
  case spent => rw [Sec.nonceValid_endRequest, decide_eq_false fun h => h.elim h1 h2, Bool.and_false]
  case erased =>
    obtain ⟨n, hn, hsec⟩ := s.sec_eraseSteps
    rw [hsec]
    exact ⟨rfl, rfl, rfl, rfl, rfl, hn⟩

end Sys2Proof.Machine
end

section
/-! PROOFS. SPDM requests (R442, R443). -/

namespace Sys2Proof.Machine

open Sys2Proof.Claims

section
variable {s : State} {p : MgmtPath} {n : Nat} {f : State → State × SpdmAnswer}

/-- An answer goes out on a path that carries SPDM. -/
theorem State.spdm_of_path (h : s.spdmPath p = true) {t : State} {a : SpdmAnswer} (hf : f s = (t, a)) : s.spdm p f = t.emit (.spdm p a) := by
  unfold State.spdm
  rw [if_pos h, hf]

theorem State.spdmAt_of_at (h : SpdmAt s p n) {t : State} {a : SpdmAnswer} (hf : f s = (t, a)) : s.spdmAt p n f = t.emit (.spdm p a) :=
  State.spdm_of_path h.1 ((if_pos h.2).trans hf)

/-- A request before its place in the order. -/
theorem State.spdmAt_of_before (h : s.spdmPath p = true) (hstage : s.rmc.stage p < n) : s.spdmAt p n f = s.emit (.spdm p .unexpectedRequest) :=
  State.spdm_of_path h (if_neg (Nat.not_le.mpr hstage))

theorem State.inSession_of_established (h : InSession s p n) {t : State} {a : SpdmAnswer} (hf : f s = (t, a)) : s.inSession p n f = t.emit (.spdm p a) :=
  State.spdm_of_path h.1 ((if_pos (by rw [h.2]; rfl)).trans hf)

theorem State.inSession_of_none (h : s.spdmPath p = true) (hnone : s.rmc.session p n = none) : s.inSession p n f = s.emit (.spdm p .sessionRequired) :=
  State.spdm_of_path h (if_neg (by rw [hnone]; exact Bool.false_ne_true))

end

section
variable {s : State} {p : MgmtPath}

/-- The requests that need a connection whose algorithms are agreed. -/
theorem exec_of_agreed {slot : Fin 8} {chain : List Byte} {index : BitVec 8} {session : Nat} (hfits : mailboxFits p chain.length = true) {i : Instr}
    (hi : i ∈ [Instr.getDigests p, .getCertificate p slot, .challenge p slot, .getCsr p, .setCertificate p slot chain, .getMeasurements p index, .keyExchange p, .finish p session]) :
    ∃ f, ∀ s, exec i s = .next (State.spdmAt s p 3 f) := by
  simp only [List.mem_cons, List.not_mem_nil, or_false] at hi
  rcases hi with rfl | rfl | rfl | rfl | rfl | rfl | rfl | rfl
  case inr.inr.inr.inr.inl =>
    exact ⟨_, fun s => congrArg Host.Outcome.next (if_neg (by rw [hfits]; exact Bool.noConfusion))⟩
  all_goals exact ⟨_, fun _ => rfl⟩

/-- The requests within a session. -/
theorem exec_of_inSession {n : Nat} {i : Instr} (hi : i ∈ [Instr.endSession p n, .spdmHeartbeat p n, .keyUpdate p n]) : ∃ f, ∀ s, exec i s = .next (State.inSession s p n f) := by
  simp only [List.mem_cons, List.not_mem_nil, or_false] at hi
  rcases hi with rfl | rfl | rfl <;> exact ⟨_, fun _ => rfl⟩

theorem exec_setCertificate_of_fits {slot : Fin 8} {chain : List Byte} (hfits : mailboxFits p chain.length = true) : exec (.setCertificate p slot chain) s = .next (
    s.spdmAt p 3 (fun s => if s.sec.lc = 1 ∧ slot.val = 1 then ({ s with sec := { s.sec with slot1 := chain } }, .setCertificate) else (s, .unexpectedRequest))) :=
  congrArg Host.Outcome.next (if_neg (by rw [hfits]; exact Bool.noConfusion))

end

/-- Settles O59: each request by its place in the order, or in its session. -/
theorem spdmRequests : Obligations.SpdmRequests := by
  unfold Obligations.SpdmRequests
  refine ⟨fun p s h => congrArg Host.Outcome.next (State.spdm_of_path h rfl),
    fun p v s h => ⟨fun hv => congrArg Host.Outcome.next (State.spdmAt_of_at h (if_neg (not_not_intro hv))), fun hv => congrArg Host.Outcome.next (State.spdmAt_of_at h (if_pos hv))⟩,
    fun p s h => ⟨congrArg Host.Outcome.next (State.spdmAt_of_at h (if_pos rfl)), congrArg Host.Outcome.next (State.spdmAt_of_at h (if_neg Bool.false_ne_true))⟩,
    fun p s h hstage slot chain index session hfits i hi => ?before, fun p s h => ?agreed,
    fun p n s h => ⟨congrArg Host.Outcome.next (State.inSession_of_established h rfl), congrArg Host.Outcome.next (State.inSession_of_established h rfl),
      congrArg Host.Outcome.next (State.inSession_of_established h rfl)⟩, fun p n s h hnone i hi => ?sessionless⟩
  case before =>
    obtain ⟨f, hexec⟩ := exec_of_agreed hfits hi
    rw [hexec, State.spdmAt_of_before h hstage]
  case sessionless =>
    obtain ⟨f, hexec⟩ := exec_of_inSession hi
    rw [hexec, State.inSession_of_none h hnone]
  case agreed =>
    refine ⟨congrArg Host.Outcome.next (State.spdmAt_of_at h rfl), fun slot c hchain => ⟨?certificate, ?challenge⟩, fun slot hnone i hi => ?chainless,
      fun howned => ⟨?csr, fun chain hfits => ?certified⟩, fun hnot slot chain hfits i hi => ?unowned, fun index ms hms => ?measurements, fun sig u hsig => ?exchange,
      fun n hnone => ?stranger, fun n x hsession hopen => ?finish⟩
    case certificate =>
      refine congrArg Host.Outcome.next (State.spdmAt_of_at h ?_)
      rw [hchain]
    case challenge =>
      refine congrArg Host.Outcome.next (State.spdmAt_of_at h ?_)
      dsimp only
      rw [hchain]
      rfl
    case chainless =>
      simp only [List.mem_cons, List.not_mem_nil, or_false] at hi
      rcases hi with rfl | rfl
      · refine congrArg Host.Outcome.next (State.spdmAt_of_at h ?_)
        rw [hnone]
      · refine congrArg Host.Outcome.next (State.spdmAt_of_at h (if_neg ?_))
        rw [hnone]
        exact Bool.false_ne_true
    case csr => exact congrArg Host.Outcome.next (State.spdmAt_of_at h (if_pos howned))
    case certified => rw [exec_setCertificate_of_fits hfits, State.spdmAt_of_at h (if_pos ⟨howned, rfl⟩)]
    case unowned =>
      simp only [List.mem_cons, List.not_mem_nil, or_false] at hi
      rcases hi with rfl | rfl
      · exact congrArg Host.Outcome.next (State.spdmAt_of_at h (if_neg hnot))
      · rw [exec_setCertificate_of_fits hfits, State.spdmAt_of_at h (if_neg fun hboth => hnot hboth.1)]
    case measurements =>
      subst hms
      refine ⟨fun hnone => congrArg Host.Outcome.next (State.spdmAt_of_at h (if_pos hnone)), fun hsome => congrArg Host.Outcome.next (State.spdmAt_of_at h ?_)⟩
      refine (if_neg hsome).trans ?_
      generalize s.freeBytes 512 = r
      rfl
    case exchange =>
      refine congrArg Host.Outcome.next (State.spdmAt_of_at h ?_)
      dsimp only
      rw [hsig]
    case stranger =>
      refine congrArg Host.Outcome.next (State.spdmAt_of_at h ?_)
      rw [hnone]
    case finish =>
      refine congrArg Host.Outcome.next (State.spdmAt_of_at h ?_)
      rw [hsession]
      exact if_neg (by rw [hopen]; exact Bool.false_ne_true)

end Sys2Proof.Machine
end

section
/-! PROOFS. Registers by the codes of their fields (R2, R3, R479). -/

namespace Sys2Proof.Machine

open Sys2Proof.Claims

/-! ## Bits of sums and differences -/

theorem testBit_add_of_disjoint {x y : Nat} (h : ∀ i, (x.testBit i && y.testBit i) = false) (i : Nat) : (x + y).testBit i = (x.testBit i || y.testBit i) := by
  induction i generalizing x y with
  | zero =>
    have h0 := h 0
    simp only [Nat.testBit_zero] at h0 ⊢
    rcases Nat.mod_two_eq_zero_or_one x with hx | hx <;> rcases Nat.mod_two_eq_zero_or_one y with hy | hy <;> simp [hx, hy, Nat.add_mod] at h0 ⊢
  | succ i ih =>
    have hcarry : (x + y) / 2 = x / 2 + y / 2 := by
      have h0 := h 0
      simp only [Nat.testBit_zero, Bool.and_eq_false_iff, decide_eq_false_iff_not] at h0
      omega
    simp only [Nat.testBit_succ] at h ⊢
    rw [hcarry]
    exact ih fun j => by simpa only [Nat.testBit_succ] using h (j + 1)

theorem testBit_sub_and (x m i : Nat) : (x - (x &&& m)).testBit i = (x.testBit i && !m.testBit i) := by
  have hsum : (x &&& m) + Nat.ldiff x m = x := by
    refine Nat.eq_of_testBit_eq fun j => ?_
    rw [testBit_add_of_disjoint, Nat.testBit_and, Nat.testBit_ldiff]
    · cases x.testBit j <;> cases m.testBit j <;> rfl
    · intro j
      rw [Nat.testBit_and, Nat.testBit_ldiff]
      cases x.testBit j <;> cases m.testBit j <;> rfl
  rw [← Nat.testBit_ldiff, show x - (x &&& m) = Nat.ldiff x m by omega]

/-- The powers of two of the chosen places, summed. -/
theorem testBit_sum_two_pow (p : Nat → Prop) [DecidablePred p] (n i : Nat) :
    ((List.range n).foldl (fun m j => if p j then m + 2 ^ j else m) 0).testBit i = (decide (i < n) && decide (p i)) := by
  induction n generalizing i with
  | zero => simp
  | succ n ih =>
    have hbelow (hi : i ≠ n) : i ≤ n ↔ i < n := Nat.le_iff_lt_or_eq.trans (or_iff_left hi)
    rw [List.range_succ, List.foldl_concat]
    split
    case isTrue hn =>
      rw [testBit_add_of_disjoint, ih, Nat.testBit_two_pow]
      · by_cases hi : i = n
        · simp [hi, hn]
        · simp [Ne.symm hi, hbelow hi]
      · intro j
        rw [ih, Nat.testBit_two_pow]
        by_cases hj : n = j <;> simp [hj]
    case isFalse hn =>
      rw [ih]
      by_cases hi : i = n
      · simp [hi, hn]
      · simp [hbelow hi]

/-! ## A field (R2, R479) -/

section
variable (f : RegField) (h : Half) (v : W64)

theorem RegField.testBit_cover (i : Nat) : (f.cover h).testBit i = (decide (i < f.len) && Covered f h i) := by
  unfold RegField.cover Covered
  rw [testBit_sum_two_pow, Bool.decide_and]

theorem RegField.testBit_bitsIn (i : Nat) : (f.bitsIn h v).testBit i = (decide (i < f.len) && Covered f h i && v.toNat.testBit (f.lo + i - h.lo)) := by
  unfold RegField.bitsIn bitsOf
  rw [Nat.testBit_and, RegField.testBit_cover, Nat.testBit_mod_two_pow, Nat.testBit_div_two_pow, Nat.testBit_mul_two_pow]
  unfold Covered
  by_cases hlo : h.lo ≤ f.lo + i
  · rw [Nat.add_comm i f.lo]
    simp only [hlo, decide_true, Bool.true_and]
    cases decide (i < f.len) <;> cases decide (f.lo + i < h.lo + h.len) <;> simp
  · simp [hlo]

theorem RegField.cover_eq_zero_iff : f.cover h = 0 ↔ ∀ i, i < f.len → Covered f h i = false := by
  have hzero : f.cover h = 0 ↔ ∀ i, (f.cover h).testBit i = false :=
    ⟨fun hz i => by rw [hz, Nat.zero_testBit], fun hbits => Nat.eq_of_testBit_eq fun i => by rw [hbits, Nat.zero_testBit]⟩
  simp only [hzero, RegField.testBit_cover, Bool.and_eq_false_imp, decide_eq_true_eq]

theorem RegField.cover_whole_iff : f.cover h + 1 = 2 ^ f.len ↔ ∀ i, i < f.len → Covered f h i = true := by
  constructor
  · intro hwhole i hi
    have hbit := f.testBit_cover h i
    rw [Nat.eq_sub_of_add_eq hwhole, Nat.testBit_two_pow_sub_one, decide_eq_true hi, Bool.true_and] at hbit
    exact hbit.symm
  · intro hall
    have hmask : f.cover h = 2 ^ f.len - 1 := Nat.eq_of_testBit_eq fun i => by
      rw [RegField.testBit_cover, Nat.testBit_two_pow_sub_one]
      by_cases hi : i < f.len
      · rw [hall i hi, Bool.and_true]
      · simp [hi]
    rw [hmask, Nat.sub_add_cancel Nat.one_le_two_pow]

/-- The value that a write of an RW field leaves: the covered bits from the write, the others as they were. -/
theorem RegField.testBit_written (g i : Nat) : (f.bitsIn h v + (g % 2 ^ f.len - (g % 2 ^ f.len &&& f.cover h))).testBit i =
    (decide (i < f.len) && (if Covered f h i = true then v.toNat.testBit (f.lo + i - h.lo) else g.testBit i)) := by
  have hdisjoint (j : Nat) : ((f.bitsIn h v).testBit j && (g % 2 ^ f.len - (g % 2 ^ f.len &&& f.cover h)).testBit j) = false := by
    rw [RegField.testBit_bitsIn, testBit_sub_and, RegField.testBit_cover]
    cases decide (j < f.len) <;> cases Covered f h j <;> simp
  rw [testBit_add_of_disjoint hdisjoint, RegField.testBit_bitsIn, testBit_sub_and, RegField.testBit_cover, Nat.testBit_mod_two_pow]
  cases decide (i < f.len) <;> cases Covered f h i <;> simp

end

section
variable {f : RegField} {h : Half} {v : W64} {s : State}

theorem RegField.write_of_readOnly (hacc : f.acc = .ro ∨ f.acc = .rc) : f.write h v s = s := by
  unfold RegField.write
  rcases hacc with hacc | hacc <;> rw [hacc]

theorem RegField.write_of_rw (hacc : f.acc = .rw) : f.write h v s =
    if f.cover h = 0 then s else f.put (f.bitsIn h v + (f.get s % 2 ^ f.len - (f.get s % 2 ^ f.len &&& f.cover h))) s := by
  unfold RegField.write
  rw [hacc]

theorem RegField.write_of_wo (hacc : f.acc = .wo) : f.write h v s = if f.cover h + 1 = 2 ^ f.len then f.put (f.bitsIn h v) s else s := by
  unfold RegField.write
  rw [hacc]

theorem RegField.write_of_w1c (hacc : f.acc = .w1c) : f.write h v s = if f.bitsIn h v = 0 then s else f.put (f.bitsIn h v) s := by
  unfold RegField.write
  rw [hacc]

end

/-! ## A register -/

section
variable {r : Reg} {f : RegField} {h : Half} {s : State}

theorem Reg.value_of_single (hfields : r.fields = [f]) : r.value s = if f.acc = .wo then 0 else f.get s % 2 ^ f.len * 2 ^ f.lo := by
  unfold Reg.value
  rw [hfields, List.map_singleton, List.sum_singleton]

/-- A read clears nothing where no field is RC. -/
theorem Reg.read_of_no_rc (hfields : ∀ f ∈ r.fields, f.acc ≠ .rc) : (r.read h s).2 = r.before s := by
  have hfold : ∀ (fs : List RegField), (∀ f ∈ fs, f.acc ≠ .rc) → ∀ t : State,
      fs.foldl (fun s f => if f.acc = .rc ∧ f.cover h ≠ 0 then f.put (f.cover h) s else s) t = t := fun fs => by
    induction fs with
    | nil => exact fun _ _ => rfl
    | cons f fs ih =>
      intro hfs t
      rw [List.foldl_cons, if_neg fun hrc => hfs f List.mem_cons_self hrc.1]
      exact ih (fun g hg => hfs g (List.mem_cons_of_mem _ hg)) t
  exact hfold r.fields hfields (r.before s)

theorem Reg.read_of_single_rc (hfields : r.fields = [f]) (hacc : f.acc = .rc) (hcover : f.cover h ≠ 0) : (r.read h s).2 = f.put (f.cover h) (r.before s) := by
  unfold Reg.read
  dsimp only
  rw [hfields, List.foldl_cons, List.foldl_nil, if_pos ⟨hacc, hcover⟩]

end

end Sys2Proof.Machine
end

section
/-! PROOFS. IDE keys, PLDM, telemetry, JTAG, trace, debug data and register accesses (R358, R439, R453–R464, R479). -/

namespace Sys2Proof.Machine

open Sys2Proof.Claims

/-! ## Telemetry totals (R455) -/

/-- A sample taken twice counts once. -/
theorem Total.sample_sample (x : Total) (sat v : Nat) : (x.sample sat v).sample sat v = x.sample sat v := by
  have hlast : (x.sample sat v).last = v := rfl
  generalize x.sample sat v = y at hlast
  unfold Total.sample
  simp only [hlast]
  have hnot : ¬(v = sat ∧ v ≠ sat) := fun h => h.2 h.1
  rw [if_neg hnot, if_neg (Nat.lt_irrefl v), Nat.sub_self, decide_eq_false hnot]
  cases y
  simp_all

/-- Samples taken into the totals: each with the number of its total and the value at which its counter saturates. -/
def takeSamples (t : Tbl Total) (l : List (Nat × Nat × Nat)) : Tbl Total :=
  l.foldl (fun t e => Tbl.set t e.1 ((Tbl.get (fun _ => {}) t e.1).sample e.2.1 e.2.2)) t

/-- A total that no sample names stays as it is. -/
theorem get_takeSamples_of_none {n : Nat} (l : List (Nat × Nat × Nat)) (hl : ∀ e ∈ l, e.1 ≠ n) (t : Tbl Total) :
    Tbl.get (fun _ => {}) (takeSamples t l) n = Tbl.get (fun _ => {}) t n := by
  induction l generalizing t with
  | nil => rfl
  | cons e l ih =>
    refine (ih (fun g hg => hl g (List.mem_cons_of_mem _ hg)) _).trans ?_
    rw [Tbl.get_set, if_neg (Ne.symm (hl e List.mem_cons_self))]

/-- A total that samples of one value name takes that value once. -/
theorem get_takeSamples_of_mem {n sat v : Nat} (l : List (Nat × Nat × Nat)) (hl : ∀ e ∈ l, e.1 = n → e.2.1 = sat ∧ e.2.2 = v) (hmem : ∃ e ∈ l, e.1 = n)
    (t : Tbl Total) : Tbl.get (fun _ => {}) (takeSamples t l) n = (Tbl.get (fun _ => {}) t n).sample sat v := by
  induction l generalizing t with
  | nil => exact absurd hmem (by simp)
  | cons e l ih =>
    have hrest : ∀ g ∈ l, g.1 = n → g.2.1 = sat ∧ g.2.2 = v := fun g hg => hl g (List.mem_cons_of_mem _ hg)
    have hhead : Tbl.get (fun _ => {}) (Tbl.set t e.1 ((Tbl.get (fun _ => {}) t e.1).sample e.2.1 e.2.2)) n =
        if e.1 = n then (Tbl.get (fun _ => {}) t n).sample sat v else Tbl.get (fun _ => {}) t n := by
      rw [Tbl.get_set]
      by_cases he : e.1 = n
      · obtain ⟨hsat, hv⟩ := hl e List.mem_cons_self he
        rw [if_pos he.symm, if_pos he, he, hsat, hv]
      · rw [if_neg (Ne.symm he), if_neg he]
    by_cases hlater : ∃ g ∈ l, g.1 = n
    · refine (ih hrest hlater _).trans ?_
      rw [hhead]
      split
      · exact Total.sample_sample _ _ _
      · rfl
    · have hnone : ∀ g ∈ l, g.1 ≠ n := fun g hg hn => hlater ⟨g, hg, hn⟩
      obtain ⟨g, hg, hgn⟩ := hmem
      have he : e.1 = n := (List.mem_cons.mp hg).elim (fun h => h ▸ hgn) fun h => absurd hgn (hnone g h)
      refine (get_takeSamples_of_none l hnone _).trans ?_
      rw [hhead, if_pos he]

/-- Every counter's reading in every unit. -/
def State.samples (s : State) : List (Nat × Nat × Nat) := s.counters.flatMap (fun c => c.2.2.map (fun u => (totalNo c.1 u.1, c.2.1, u.2)))

theorem exec_telemetrySample (s : State) : exec .telemetrySample s = .next { s with rmc := { s.rmc with totals := takeSamples s.rmc.totals s.samples } } := by
  refine congrArg (fun t => Host.Outcome.next { s with rmc := { s.rmc with totals := t } }) ?_
  unfold takeSamples State.samples
  rw [List.foldl_flatMap]
  simp only [List.foldl_map]

theorem State.mem_samples {s : State} {e : Nat × Nat × Nat} : e ∈ s.samples ↔ ∃ c ∈ s.counters, ∃ u ∈ c.2.2, (totalNo c.1 u.1, c.2.1, u.2) = e := by
  simp only [State.samples, List.mem_flatMap, List.mem_map]

theorem Total.sample_total (x : Total) (sat v : Nat) : (x.sample sat v).total = x.total + BitVec.ofNat 64 (if v = sat ∧ x.last ≠ sat then sat else if v < x.last then v else v - x.last) := rfl

theorem Total.sample_saturated (x : Total) (sat v : Nat) : (x.sample sat v).saturated = (x.saturated || decide (v = sat ∧ x.last ≠ sat)) := rfl

/-- A reading that did not saturate now leaves the flag. -/
theorem Total.sample_of_not_hit {x : Total} {sat v : Nat} (h : ¬(v = sat ∧ x.last ≠ sat)) :
    (x.sample sat v).total = x.total + BitVec.ofNat 64 (if v < x.last then v else v - x.last) ∧ (x.sample sat v).saturated = x.saturated := by
  rw [Total.sample_total, Total.sample_saturated, if_neg h, decide_eq_false h, Bool.or_false]
  exact ⟨rfl, rfl⟩

/-- The change since the last sample, the reading itself where the counter was cleared, and the saturation value where it saturated. -/
theorem Total.sample_spec (x : Total) (sat v : Nat) : (x.sample sat v).last = v
    ∧ (v ≠ sat ∨ x.last = sat → x.last ≤ v → (x.sample sat v).total = x.total + BitVec.ofNat 64 (v - x.last) ∧ (x.sample sat v).saturated = x.saturated)
    ∧ (v ≠ sat → v < x.last → (x.sample sat v).total = x.total + BitVec.ofNat 64 v ∧ (x.sample sat v).saturated = x.saturated)
    ∧ (v = sat → x.last ≠ sat → (x.sample sat v).total = x.total + BitVec.ofNat 64 sat ∧ (x.sample sat v).saturated = true) := by
  refine ⟨rfl, fun hkept hle => ?_, fun hne hlt => ?_, fun heq hne => ?_⟩
  · have hnot : ¬(v = sat ∧ x.last ≠ sat) := fun hhit => hkept.elim (fun hne => hne hhit.1) hhit.2
    have hkeeps := Total.sample_of_not_hit hnot
    rwa [if_neg (Nat.not_lt.mpr hle)] at hkeeps
  · have hkeeps := Total.sample_of_not_hit (x := x) fun hhit => hne hhit.1
    rwa [if_pos hlt] at hkeeps
  · rw [Total.sample_total, Total.sample_saturated, if_pos ⟨heq, hne⟩, decide_eq_true ⟨heq, hne⟩, Bool.or_true]
    exact ⟨rfl, rfl⟩

/-! ## Scan chains (R464) -/

section
variable (s : State)

theorem State.rmc_testPower (no : Nat) : (s.testPower no).rmc = s.rmc := by
  unfold State.testPower
  split <;> rfl

theorem State.unitFenced_testPower (no : Nat) (u : UnitId) : (s.testPower no).unitFenced u = s.unitFenced u := by
  unfold State.testPower
  split
  case isTrue =>
    cases u with
    | site k =>
      show ((s.updSite no _).site k.key).fenced = (s.site k.key).fenced
      rw [State.site_upd]
      split
      case isTrue h => rw [h]
      case isFalse => rfl
    | stack _ => rfl
    | pc _ => rfl
    | host _ => rfl
    | bay _ => rfl
  case isFalse => rfl

theorem State.scanTo_keeps (unit : Option Nat) (u : UnitId) : (s.scanTo unit).rmc = { s.rmc with scan := unit } ∧ (s.scanTo unit).unitFenced u = s.unitFenced u := by
  have hfold : ∀ (l : List Nat) (t : State), (l.foldl (fun t no => t.testPower no) t).rmc = t.rmc ∧ (l.foldl (fun t no => t.testPower no) t).unitFenced u = t.unitFenced u := fun l => by
    induction l with
    | nil => exact fun _ => ⟨rfl, rfl⟩
    | cons no l ih => exact fun t => ⟨(ih _).1.trans (t.rmc_testPower no), (ih _).2.trans (t.unitFenced_testPower no u)⟩
  obtain ⟨hrmc, hfenced⟩ := hfold (s.rmc.scan.toList ++ unit.toList) { s with rmc := { s.rmc with scan := unit } }
  refine ⟨hrmc, hfenced.trans ?_⟩
  cases u <;> rfl

end

/-- A fenced unit that the TAP holds shows that it is tested. -/
theorem State.domainState_scanTo {s : State} {u : UnitId} (hfenced : s.unitFenced u = true) : (s.scanTo (some u.no)).domainState u = 5 := by
  obtain ⟨hrmc, hkept⟩ := s.scanTo_keeps (some u.no) u
  unfold State.domainState
  rw [hkept, if_pos hfenced, hrmc]
  exact if_pos (by simp [Rmc.tests])

/-! ## Platform and firmware requests (R439, R453, R454) -/

/-- A copy that is not usable may not run. -/
theorem Sec.fwAllowed_of_unusable {c : Sec} {n : Nat} {x : FwCopy} (h : x.usable = false) : c.fwAllowed n x = false := by
  rw [Sec.fwAllowed, h, Bool.false_and, Bool.false_and]

section
variable {s : State} {p : MgmtPath} {u : Fin 217} {obj : List Byte} {c : FwCopy}

theorem exec_pldmFwUpdate_of_path (hpath : s.pldmPath p = true)
    (hc : c = { fwCopyOf obj u.val ((s.sec.fwSlot obj).getD 0) s.draw.1 with usable := fwHeaderOk obj u.val && (s.sec.fwSlot obj).isSome }) :
    exec (.pldmFwUpdate p u obj) s = .next ((s.draw.2.updFw u.val (fun x => if x.activeB = true then { x with a := c, inactiveOk := s.sec.fwAllowed u.val c }
      else { x with b := c, inactiveOk := s.sec.fwAllowed u.val c })).emit (.pldm p (.firmware u.val (s.sec.fwAllowed u.val c)))) := by
  subst hc
  exact congrArg Host.Outcome.next (if_pos hpath)

end

/-! ## Trace lines and debug data (R460, R462) -/

section
variable {s : State} {k : Nat}

/-- A line of two records leaves whole. -/
theorem State.traceLine_of_ready (hready : (s.site k).trc.lineReady 2 = true) (htag : (s.freeTag k).isSome = true) : s.traceLine k =
    (s.updSite k (fun a => { a with trc := a.trc.lineOut })).sendRequest k
      { owner := .trace 2, ptype := ptWrite, addr := (s.site k).trc.next.toNat, len := 64, payload := ((s.site k).trc.fifo.take 2).flatMap (fun r => r.bytes k) } := by
  have htwo : ((s.site k).trc.fifo.take 2).length = 2 := by
    unfold Trc.lineReady at hready
    rw [Bool.and_eq_true, Bool.and_eq_true, decide_eq_true_eq] at hready
    rw [List.length_take, Nat.min_eq_left hready.1.1]
  have hpad : List.replicate (64 - 32 * ((s.site k).trc.fifo.take 2).length) (0 : Byte) = [] := by
    rw [htwo]
    rfl
  refine (if_pos (by rw [hready, htag]; rfl)).trans ?_
  rw [hpad, htwo, List.append_nil]

theorem State.traceLine_of_short (h : s.freeTag k = none ∨ (s.site k).trc.fifo.length < 2) : s.traceLine k = s := by
  refine if_neg fun hready => ?_
  rw [Bool.and_eq_true, Trc.lineReady, Bool.and_eq_true, Bool.and_eq_true, decide_eq_true_eq] at hready
  rcases h with h | h
  · rw [h] at hready
    exact Bool.false_ne_true hready.2
  · exact absurd hready.1.1.1 (Nat.not_le.mpr h)

end

/-! ## Accesses by address (R2, R4, R152) -/

section
variable {s : State} {a : Nat} {h : Half} {v : W64}

theorem State.reg_of_on {r : Option Reg} (hon : s.regAt (wordAddr a) = .on r) : s.regRead a h = some (Reg.readAt r h s) ∧ s.regWrite a h v = some (Reg.writeAt r h v s) := by
  unfold State.regRead State.regWrite
  rw [hon]
  exact ⟨rfl, rfl⟩

theorem State.reg_of_off (hoff : s.regAt (wordAddr a) = .off) : s.regRead a h = none ∧ s.regWrite a h v = none := by
  unfold State.regRead State.regWrite
  rw [hoff]
  exact ⟨rfl, rfl⟩

end

section
variable {s : State} {a v : W64} {four : Bool} (haligned : alignedTo a.toNat four = true)
include haligned

theorem exec_rcRead_of_aligned : exec (.rcRead a four) s = .next ((s.regRead a.toNat (halfOf a.toNat four)).elim s (fun r => r.2.emit (.regRead a.toNat r.1))) := by
  refine congrArg Host.Outcome.next ((if_pos haligned).trans ?_)
  cases s.regRead a.toNat (halfOf a.toNat four) <;> rfl

theorem exec_regWrite_of_aligned : exec (.regWrite a four v) s = .next ((s.regWrite a.toNat (halfOf a.toNat four) v).getD s) :=
  congrArg Host.Outcome.next (if_pos haligned)

end

/-- Settles O60: each request, sample, record and access by what it is and where it goes. -/
theorem managementTraceAndRegisters : Obligations.ManagementTraceAndRegisters := by
  unfold Obligations.ManagementTraceAndRegisters
  refine ⟨fun port n op s hserves hrecovery => ⟨fun hclosed => ?ideClosed, fun hopen => ?ide⟩, fun port m s hserves => congrArg Host.Outcome.next (if_pos hserves),
    fun p r s hpath => ?pldm, fun s => ?telemetry, fun a s => rfl, fun u s => ?scan, fun x slot v s => rfl, fun x en mode src s => rfl,
    fun x s t ht hready htag => ?traceLine, fun s u now hnow => ?syncMarker, fun x v s => ⟨fun hok => ?debug, fun hdenied => ?denied, rfl⟩,
    fun x s h => congrArg Host.Outcome.next (State.traceLine_of_short h), fun f h v s hlen => ?field, fun r h v s => ?register,
    fun a h v s => ⟨fun r hon => State.reg_of_on hon, fun hoff => State.reg_of_off hoff⟩, fun a v four s haligned => ?access⟩
  case ideClosed =>
    refine congrArg Host.Outcome.next ((if_neg ?_).trans (if_pos hclosed))
    rw [hserves, hrecovery]
    decide
  case ide =>
    refine congrArg Host.Outcome.next ((if_neg ?_).trans (if_neg (by rw [hopen]; exact Bool.noConfusion)))
    rw [hserves, hrecovery]
    decide
  case pldm =>
    have hno : ¬s.pldmPath p = false := by rw [hpath]; exact Bool.noConfusion
    refine ⟨fun hrecovery => ⟨congrArg Host.Outcome.next ((if_neg hno).trans (if_pos hrecovery)), ?_⟩, fun hruns => ?_, fun seq hruns => ?_,
      fun u obj c t ht hc => ⟨?_, fun h => Sec.fwAllowed_of_unusable ?_⟩⟩
    · refine congrArg Host.Outcome.next ((if_pos hpath).trans ?_)
      rw [hrecovery, if_pos rfl]
    · have hrun : ¬s.rmc.recovery = true := by rw [hruns]; exact Bool.false_ne_true
      refine ⟨?_, fun c u hr => ?_, fun hr => ?_, fun u hr => ?_, fun hr => ?_, fun hr => ?_⟩
      · refine congrArg Host.Outcome.next ((if_pos hpath).trans ?_)
        rw [if_neg hrun]
      all_goals subst hr; exact congrArg Host.Outcome.next ((if_neg hno).trans (if_neg hrun))
    · exact congrArg Host.Outcome.next ((if_neg hno).trans (if_neg (by rw [hruns]; exact Bool.false_ne_true)))
    · subst ht
      exact exec_pldmFwUpdate_of_path hpath hc
    · subst hc
      rcases h with h | h
      · rw [h, Bool.false_and]
      · rw [h, Option.isSome_none, Bool.and_false]
  case telemetry =>
    refine ⟨_, exec_telemetrySample s, rfl, fun c u sat v x hsampled hx => ?_, fun n hn => ?_⟩
    · obtain ⟨⟨e, he, rfl, rfl, hmem⟩, hall⟩ := hsampled
      refine ⟨_, get_takeSamples_of_mem (n := totalNo e.1 u) (sat := e.2.1) (v := v) s.samples (fun g hg hgn => ?_) ⟨_, State.mem_samples.mpr ⟨e, he, (u, v), hmem, rfl⟩, rfl⟩ _, ?_⟩
      · obtain ⟨c', hc', u', hu', rfl⟩ := State.mem_samples.mp hg
        exact hall c' hc' u' hu' hgn
      · rw [← hx]
        exact x.sample_spec e.2.1 v
    · refine get_takeSamples_of_none s.samples (fun g hg => ?_) _
      obtain ⟨c, hc, u, hu, rfl⟩ := State.mem_samples.mp hg
      exact hn c hc u hu
  case scan =>
    refine ⟨fun hopen hfenced hscan => ⟨?_, ?_, State.domainState_scanTo hfenced⟩, fun h => ?_, fun hheld => ⟨congrArg Host.Outcome.next ((if_neg Bool.false_ne_true).trans (if_pos hheld)), ?_⟩,
      fun hother => congrArg Host.Outcome.next ((if_neg Bool.false_ne_true).trans (if_neg hother))⟩
    · refine congrArg Host.Outcome.next ((if_pos rfl).trans (if_pos ?_))
      rw [hopen, hfenced, hscan]
      rfl
    · rw [(s.scanTo_keeps (some u.no) u).1]
    · refine congrArg Host.Outcome.next ((if_pos rfl).trans (if_neg fun hall => ?_))
      rw [Bool.and_eq_true, Bool.and_eq_true] at hall
      obtain ⟨⟨hopen, hfenced⟩, hscan⟩ := hall
      rcases h with h | h | h
      · exact Bool.false_ne_true (h.symm.trans hopen)
      · exact Bool.false_ne_true (h.symm.trans hfenced)
      · exact Bool.false_ne_true (h.symm.trans hscan)
    · rw [(s.scanTo_keeps none u).1]
  case traceLine =>
    subst ht
    exact congrArg Host.Outcome.next (State.traceLine_of_ready hready htag)
  case syncMarker =>
    change execSyncMarker s = _
    unfold execSyncMarker
    rw [hnow]
  case debug =>
    change execDbgDataRead x s = _
    rw [execDbgDataRead, State.debugRead, if_pos hok]
  case denied =>
    change execDbgDataRead x s = _
    rw [execDbgDataRead, State.debugRead, if_neg (by rw [hdenied]; exact Bool.false_ne_true)]
  case field =>
    refine ⟨f.testBit_bitsIn h v, fun hacc => RegField.write_of_readOnly hacc, fun hacc hnone => ?_, fun hacc hsome => ?_, fun hacc hall => ?_, fun hacc hpart => ?_,
      fun hacc hzero => ?_, fun hacc hset => ?_⟩
    · rw [RegField.write_of_rw hacc, if_pos ((f.cover_eq_zero_iff h).mpr hnone)]
    · refine ⟨_, (RegField.write_of_rw hacc).trans (if_neg fun hzero => ?_), f.testBit_written h v (f.get s)⟩
      obtain ⟨i, hi, hcovered⟩ := hsome
      exact Bool.false_ne_true (((f.cover_eq_zero_iff h).mp hzero i hi).symm.trans hcovered)
    · rw [RegField.write_of_wo hacc, if_pos ((f.cover_whole_iff h).mpr hall)]
    · refine (RegField.write_of_wo hacc).trans (if_neg fun hwhole => ?_)
      obtain ⟨i, hi, hcovered⟩ := hpart
      exact Bool.false_ne_true (hcovered.symm.trans ((f.cover_whole_iff h).mp hwhole i hi))
    · rw [RegField.write_of_w1c hacc, if_pos hzero]
    · rw [RegField.write_of_w1c hacc, if_neg hset]
  case register =>
    refine ⟨fun hmay => if_pos hmay, fun hnot => if_neg (by rw [hnot]; exact Bool.false_ne_true), rfl, fun hfields => Reg.read_of_no_rc hfields,
      fun f hfields hacc hcover => Reg.read_of_single_rc hfields hacc hcover, fun f hfields hacc => ?_, fun f hfields hacc => ?_, rfl, rfl⟩
    · refine congrArg (BitVec.ofNat 64) (a₂ := 0) ?_
      rw [Reg.value_of_single hfields, if_pos hacc, bitsOf, Nat.zero_div, Nat.zero_mod]
    · rw [Reg.value_of_single hfields, if_neg hacc]
  case access =>
    rw [exec_rcRead_of_aligned haligned, exec_regWrite_of_aligned haligned]
    refine ⟨fun r t hread => ?_, fun t hwrite => ?_, fun hnone => ?_, fun hnone => ?_⟩
    · rw [hread, Option.elim_some]
    · rw [hwrite, Option.getD_some]
    · rw [hnone, Option.elim_none]
    · rw [hnone, Option.getD_none]

end Sys2Proof.Machine
end
